-- ==== Sys2Proof/Word.lean ====
section
/-! DEFINITION. The words of the LC-8 manual as plain types: text, the numbered parts of the rack, millisecond time. -/

namespace Sys2Proof

/-- Characters as a serial line carries them; the part judges a character by its 8-bit code (R178). -/
abbrev Text := List Char

/-- Arms 1 to 8 (R156); arm n is the value n - 1. Meter channel n and probe input n serve arm n. -/
abbrev ArmId := Fin 8

/-- Bays 1 to 4 (R156); bay n is the value n - 1. -/
abbrev BayId := Fin 4

/-- Headers 1 to 6 (R125); header n is the value n - 1. -/
abbrev HeaderId := Fin 6

/-- Injector slots 1 to 4 of an arm (R101); slot n is the value n - 1. -/
abbrev SlotId := Fin 4

/-- Additives 1 to 8 (R139); additive n is the value n - 1. -/
abbrev AdditiveId := Fin 8

/-- Products 1 to 16 (section 2.1); product n is the value n - 1. -/
abbrev ProductId := Fin 16

/-- Curve pages 0 to 15 (section 2.1). -/
abbrev PageId := Fin 16

/-- Product groups 0 to 7 (section 3.5). -/
abbrev Group := Fin 8

/-- The millisecond count of the timebase, 0 to 4,294,967,295 and then 0 again (R2). -/
abbrev Millis := BitVec 32

/-- The text of a string literal. -/
def txt (s : String) : Text := s.toList

/-- The number the manual prints for a part whose value counts from 0. -/
def numberOf {n : Nat} (i : Fin n) : Nat := i.val + 1

/-- The part a printed number 1 to n + 1 names; a reader checks the range first. -/
def numbered (n k : Nat) : Fin (n + 1) := Fin.ofNat (n + 1) (k - 1)

end Sys2Proof
end

