-- ==== Sys2Proof/Machine/Frames.lean ====
section
/-! DEFINITION. The characters of a frame: what is printable, how a body is put together and taken apart, the frame check. -/

namespace Sys2Proof.Machine

/-- A character is printable when its 8-bit code lies from 32 to 126 (R178). -/
def printable (c : Char) : Bool := decide (32 ≤ c.toNat) && decide (c.toNat ≤ 126)

/-- The characters BODY adds to a request's body: printable, neither `*` nor `>` (R178). -/
def bodyChar (c : Char) : Bool := printable c && c != '*' && c != '>'

/-- The characters of one name or field inside a body: those of the body that do not separate fields (R181). -/
def fieldChar (c : Char) : Bool := bodyChar c && c != ';'

/-- A body of this many characters ends the frame as a bad one (R178). -/
def bodyLimit : Nat := 2041

/-- A panel body has at most this many characters (R187). -/
def panelBodyMax : Nat := 60

/-- The body of a request: its name, then each field behind a `;` (R181). -/
def bodyText (name : Text) (fields : List Text) : Text :=
  name ++ fields.flatMap (fun f => ';' :: f)

/-- A frame can carry this name and these fields whole: characters a body takes, no `;` inside a field, not empty, not
too long (R178, R181). -/
def fitsFrame (name : Text) (fields : List Text) : Bool :=
  name.all fieldChar && fields.all (fun f => f.all fieldChar) && !(bodyText name fields).isEmpty
    && decide ((bodyText name fields).length < bodyLimit)

/-- The pieces of a text between the occurrences of a separator; a text without it is one piece. -/
def splitAtChar (sep : Char) : Text → List Text
  | [] => [[]]
  | c :: cs =>
    if c = sep then [] :: splitAtChar sep cs
    else
      match splitAtChar sep cs with
      | [] => [[c]]
      | p :: ps => (c :: p) :: ps

/-- The name and the fields of a body: the name runs to the first `;`, the fields are separated by `;` (R181). -/
def splitBody (body : Text) : Text × List Text :=
  match splitAtChar ';' body with
  | [] => ([], [])
  | name :: fields => (name, fields)

/-- The generator x^16 + x^12 + x^5 + 1 without its leading term (R179). -/
def crcPolynomial : BitVec 16 := 0x1021#16

/-- One bit of the check: the register shifts left, and its leaving bit feeds the generator back (R179). -/
def crcShift (crc : BitVec 16) : BitVec 16 :=
  if crc.msb then (crc <<< 1) ^^^ crcPolynomial else crc <<< 1

/-- A character enters as its 8-bit code, most significant bit first (R179). -/
def crcChar (crc : BitVec 16) (c : Char) : BitVec 16 :=
  crcShift (crcShift (crcShift (crcShift (crcShift (crcShift (crcShift (crcShift
    (crc ^^^ ((BitVec.ofNat 16 c.toNat) <<< 8)))))))))

/-- The frame check over a body: the register starts at all ones and is not inverted at the end (R179). -/
def frameCheck (body : Text) : BitVec 16 := body.foldl crcChar 0xFFFF#16

/-- The digits of a check in order of value, as the part writes them (R179). -/
def checkCapitals : Text := txt "0123456789ABCDEF"

/-- The same digits in the small letters a terminal may send (R178). -/
def checkSmall : Text := txt "0123456789abcdef"

/-- The value of a check digit in either case: its place among the sixteen (R178, R179). -/
def hexValue (c : Char) : Option Nat := (checkCapitals.idxOf? c).or (checkSmall.idxOf? c)

/-- The value of received check digits, most significant first; a character that is no digit counts as none. -/
def hexNumber (digits : Text) : Nat :=
  digits.foldl (fun n c => n * 16 + (hexValue c).getD 0) 0

/-- The capital digit of a value below 16 (R179). -/
def hexDigit (n : Nat) : Char := checkCapitals.getD n '0'

/-- The four digits of a check, most significant first, in capital letters (R179, R182). -/
def checkDigits (crc : BitVec 16) : Text :=
  [hexDigit (crc.toNat / 4096), hexDigit (crc.toNat / 256 % 16), hexDigit (crc.toNat / 16 % 16), hexDigit (crc.toNat % 16)]

/-- Carriage return. -/
def charCR : Char := Char.ofNat 13

/-- Line feed. -/
def charLF : Char := Char.ofNat 10

/-- A frame between its start character and CR LF: request frames open with `>`, response frames with `<` (section 11.8). -/
def frameText (opening : Char) (body : Text) : Text :=
  opening :: body ++ '*' :: checkDigits (frameCheck body) ++ [charCR, charLF]

end Sys2Proof.Machine
end

