-- ==== Sys2Proof/Syntax.lean ====
section
/-! DEFINITION. The commands of the LC-8: one constructor for each row of spec/opcode_table.json. -/

namespace Sys2Proof

/-- The two permissive inputs of a bay (section 9.1). -/
inductive PermissiveInput where
  | ground
  | overfill
  deriving DecidableEq, Repr

/-- What a probe delivers (section 1.6): a value in 0.01 °C, or a fault. -/
inductive Reading where
  | value (t : Int)
  | fault
  deriving DecidableEq, Repr

/-- The levels of the field inputs at the moment supply is applied (R26, R148, R156, R160). -/
structure InputLevels where
  ground : Vector Bool 4
  overfill : Vector Bool 4
  emergencyStop : Bool
  calClosed : Bool
  feedback : Vector (Vector Bool 4) 8
  deriving DecidableEq, Repr

/-- One row of the table each. A request carries the texts of its frame's fields, in frame order, as R181 separates them;
the request's name is the constructor's own. -/
inductive Instr where
  | powerOn (inputs : InputLevels)
  | timebaseTick
  | meterPulse (arm : ArmId)
  | rateWindowExpiry (arm : ArmId)
  | probeReading (arm : ArmId) (reading : Reading)
  | stalenessExpiry (arm : ArmId)
  | noFlowTimerExpiry (arm : ArmId)
  | settleTimerExpiry (arm : ArmId)
  | feedbackRise (arm : ArmId) (slot : SlotId)
  | feedbackFall (arm : ArmId) (slot : SlotId)
  | riseTimerExpiry (arm : ArmId) (slot : SlotId)
  | activeTimerExpiry (arm : ArmId) (slot : SlotId)
  | permissiveInputChange (bay : BayId) (input : PermissiveInput) (level : Bool)
  | emergencyStopInputChange (active : Bool)
  | calSwitchChange (closed : Bool)
  | badFrame (chars : Text)
  | responseSent
  | unknownRequest (name : Text) (fields : List Text)
  | calWrite (fields : List Text)
  | calRead (fields : List Text)
  | calCommit (fields : List Text)
  | permitPut (fields : List Text)
  | permitGet (fields : List Text)
  | permitSuspend (fields : List Text)
  | permitReinstate (fields : List Text)
  | permitRetire (fields : List Text)
  | unitPut (fields : List Text)
  | unitGet (fields : List Text)
  | unitClean (fields : List Text)
  | unitRetire (fields : List Text)
  | accountPut (fields : List Text)
  | accountGet (fields : List Text)
  | accountCredit (fields : List Text)
  | accountHold (fields : List Text)
  | accountRelease (fields : List Text)
  | accountClose (fields : List Text)
  | orderBook (fields : List Text)
  | orderGet (fields : List Text)
  | orderAmend (fields : List Text)
  | orderCancel (fields : List Text)
  | orderRetire (fields : List Text)
  | armPut (fields : List Text)
  | armService (fields : List Text)
  | armClear (fields : List Text)
  | armGet (fields : List Text)
  | rackHeader (fields : List Text)
  | recipePut (fields : List Text)
  | recipeGet (fields : List Text)
  | recipeRetire (fields : List Text)
  | additivePut (fields : List Text)
  | additiveRefill (fields : List Text)
  | additiveGet (fields : List Text)
  | rackResume (fields : List Text)
  | noteNext (fields : List Text)
  | noteRead (fields : List Text)
  | rackStatus (fields : List Text)
  | rackSetDay (fields : List Text)
  | rackSwitchTable (fields : List Text)
  | rackNoteFormat (fields : List Text)
  | rackRestart (fields : List Text)
  | card (bay : BayId) (permit : Nat)
  | start (bay : BayId) (arm : ArmId)
  | stop (bay : BayId) (arm : ArmId)
  | panelMessageDiscarded (bay : BayId) (chars : Text)
  | showSent (bay : BayId)
  | showRepeatTimerExpiry (arm : ArmId)
  deriving DecidableEq, Repr

/-- The name a request frame opens with (R181), for the commands that are requests the part knows. -/
def Instr.requestName : Instr → Option Text
  | .calWrite _ => some (txt "CAL.WRITE")
  | .calRead _ => some (txt "CAL.READ")
  | .calCommit _ => some (txt "CAL.COMMIT")
  | .permitPut _ => some (txt "PERMIT.PUT")
  | .permitGet _ => some (txt "PERMIT.GET")
  | .permitSuspend _ => some (txt "PERMIT.SUSPEND")
  | .permitReinstate _ => some (txt "PERMIT.REINSTATE")
  | .permitRetire _ => some (txt "PERMIT.RETIRE")
  | .unitPut _ => some (txt "UNIT.PUT")
  | .unitGet _ => some (txt "UNIT.GET")
  | .unitClean _ => some (txt "UNIT.CLEAN")
  | .unitRetire _ => some (txt "UNIT.RETIRE")
  | .accountPut _ => some (txt "ACCOUNT.PUT")
  | .accountGet _ => some (txt "ACCOUNT.GET")
  | .accountCredit _ => some (txt "ACCOUNT.CREDIT")
  | .accountHold _ => some (txt "ACCOUNT.HOLD")
  | .accountRelease _ => some (txt "ACCOUNT.RELEASE")
  | .accountClose _ => some (txt "ACCOUNT.CLOSE")
  | .orderBook _ => some (txt "ORDER.BOOK")
  | .orderGet _ => some (txt "ORDER.GET")
  | .orderAmend _ => some (txt "ORDER.AMEND")
  | .orderCancel _ => some (txt "ORDER.CANCEL")
  | .orderRetire _ => some (txt "ORDER.RETIRE")
  | .armPut _ => some (txt "ARM.PUT")
  | .armService _ => some (txt "ARM.SERVICE")
  | .armClear _ => some (txt "ARM.CLEAR")
  | .armGet _ => some (txt "ARM.GET")
  | .rackHeader _ => some (txt "RACK.HEADER")
  | .recipePut _ => some (txt "RECIPE.PUT")
  | .recipeGet _ => some (txt "RECIPE.GET")
  | .recipeRetire _ => some (txt "RECIPE.RETIRE")
  | .additivePut _ => some (txt "ADDITIVE.PUT")
  | .additiveRefill _ => some (txt "ADDITIVE.REFILL")
  | .additiveGet _ => some (txt "ADDITIVE.GET")
  | .rackResume _ => some (txt "RACK.RESUME")
  | .noteNext _ => some (txt "NOTE.NEXT")
  | .noteRead _ => some (txt "NOTE.READ")
  | .rackStatus _ => some (txt "RACK.STATUS")
  | .rackSetDay _ => some (txt "RACK.SETDAY")
  | .rackSwitchTable _ => some (txt "RACK.SWITCHTABLE")
  | .rackNoteFormat _ => some (txt "RACK.NOTEFORMAT")
  | .rackRestart _ => some (txt "RACK.RESTART")
  | .unknownRequest _ _ => none
  | .powerOn _ => none
  | .timebaseTick => none
  | .meterPulse _ => none
  | .rateWindowExpiry _ => none
  | .probeReading _ _ => none
  | .stalenessExpiry _ => none
  | .noFlowTimerExpiry _ => none
  | .settleTimerExpiry _ => none
  | .feedbackRise _ _ => none
  | .feedbackFall _ _ => none
  | .riseTimerExpiry _ _ => none
  | .activeTimerExpiry _ _ => none
  | .permissiveInputChange _ _ _ => none
  | .emergencyStopInputChange _ => none
  | .calSwitchChange _ => none
  | .badFrame _ => none
  | .responseSent => none
  | .card _ _ => none
  | .start _ _ => none
  | .stop _ _ => none
  | .panelMessageDiscarded _ _ => none
  | .showSent _ => none
  | .showRepeatTimerExpiry _ => none

/-- The requests the part knows, each by the name its frame opens with and the command it is (R181). -/
def knownRequests : List (Text × (List Text → Instr)) :=
  [(txt "CAL.WRITE", .calWrite), (txt "CAL.READ", .calRead), (txt "CAL.COMMIT", .calCommit),
   (txt "PERMIT.PUT", .permitPut), (txt "PERMIT.GET", .permitGet), (txt "PERMIT.SUSPEND", .permitSuspend),
   (txt "PERMIT.REINSTATE", .permitReinstate), (txt "PERMIT.RETIRE", .permitRetire),
   (txt "UNIT.PUT", .unitPut), (txt "UNIT.GET", .unitGet), (txt "UNIT.CLEAN", .unitClean), (txt "UNIT.RETIRE", .unitRetire)] ++
  [(txt "ACCOUNT.PUT", .accountPut), (txt "ACCOUNT.GET", .accountGet), (txt "ACCOUNT.CREDIT", .accountCredit),
   (txt "ACCOUNT.HOLD", .accountHold), (txt "ACCOUNT.RELEASE", .accountRelease), (txt "ACCOUNT.CLOSE", .accountClose),
   (txt "ORDER.BOOK", .orderBook), (txt "ORDER.GET", .orderGet), (txt "ORDER.AMEND", .orderAmend),
   (txt "ORDER.CANCEL", .orderCancel), (txt "ORDER.RETIRE", .orderRetire)] ++
  [(txt "ARM.PUT", .armPut), (txt "ARM.SERVICE", .armService), (txt "ARM.CLEAR", .armClear), (txt "ARM.GET", .armGet),
   (txt "RACK.HEADER", .rackHeader), (txt "RECIPE.PUT", .recipePut), (txt "RECIPE.GET", .recipeGet),
   (txt "RECIPE.RETIRE", .recipeRetire), (txt "ADDITIVE.PUT", .additivePut), (txt "ADDITIVE.REFILL", .additiveRefill),
   (txt "ADDITIVE.GET", .additiveGet), (txt "RACK.RESUME", .rackResume)] ++
  [(txt "NOTE.NEXT", .noteNext), (txt "NOTE.READ", .noteRead), (txt "RACK.STATUS", .rackStatus), (txt "RACK.SETDAY", .rackSetDay),
   (txt "RACK.SWITCHTABLE", .rackSwitchTable), (txt "RACK.NOTEFORMAT", .rackNoteFormat), (txt "RACK.RESTART", .rackRestart)]

/-- The texts of the fields a request command carries. -/
def Instr.requestFields : Instr → List Text
  | .unknownRequest _ f => f
  | .calWrite f => f
  | .calRead f => f
  | .calCommit f => f
  | .permitPut f => f
  | .permitGet f => f
  | .permitSuspend f => f
  | .permitReinstate f => f
  | .permitRetire f => f
  | .unitPut f => f
  | .unitGet f => f
  | .unitClean f => f
  | .unitRetire f => f
  | .accountPut f => f
  | .accountGet f => f
  | .accountCredit f => f
  | .accountHold f => f
  | .accountRelease f => f
  | .accountClose f => f
  | .orderBook f => f
  | .orderGet f => f
  | .orderAmend f => f
  | .orderCancel f => f
  | .orderRetire f => f
  | .armPut f => f
  | .armService f => f
  | .armClear f => f
  | .armGet f => f
  | .rackHeader f => f
  | .recipePut f => f
  | .recipeGet f => f
  | .recipeRetire f => f
  | .additivePut f => f
  | .additiveRefill f => f
  | .additiveGet f => f
  | .rackResume f => f
  | .noteNext f => f
  | .noteRead f => f
  | .rackStatus f => f
  | .rackSetDay f => f
  | .rackSwitchTable f => f
  | .rackNoteFormat f => f
  | .rackRestart f => f
  | .powerOn _ => []
  | .timebaseTick => []
  | .meterPulse _ => []
  | .rateWindowExpiry _ => []
  | .probeReading _ _ => []
  | .stalenessExpiry _ => []
  | .noFlowTimerExpiry _ => []
  | .settleTimerExpiry _ => []
  | .feedbackRise _ _ => []
  | .feedbackFall _ _ => []
  | .riseTimerExpiry _ _ => []
  | .activeTimerExpiry _ _ => []
  | .permissiveInputChange _ _ _ => []
  | .emergencyStopInputChange _ => []
  | .calSwitchChange _ => []
  | .badFrame _ => []
  | .responseSent => []
  | .card _ _ => []
  | .start _ _ => []
  | .stop _ _ => []
  | .panelMessageDiscarded _ _ => []
  | .showSent _ => []
  | .showRepeatTimerExpiry _ => []

end Sys2Proof
end

