-- ==== Sys2Proof/Decode.lean ====
section
/-! DEFINITION. From the body of a request frame to the command, and back. The table gives no row bits, so no word spells one. -/

namespace Sys2Proof

/-- No row of spec/opcode_table.json gives bits: commands are frames, messages and pin events, not words. -/
def decodeTableWord (nbits w : Nat) : Option Instr :=
  match nbits, w with
  | _, _ => none

/-- The command a request of this name is; a name the part does not know is an unknown request (R181). -/
def commandNamed (name : Text) (fields : List Text) : Instr :=
  match knownRequests.find? (fun r => decide (r.1 = name)) with
  | some r => r.2 fields
  | none => .unknownRequest name fields

/-- The command a received body is; an empty body is no request (R181). -/
def commandOfBody (body : Text) : Option Instr :=
  if body.isEmpty then none
  else some (commandNamed (Machine.splitBody body).1 (Machine.splitBody body).2)

/-- The body a request command is carried by. -/
def bodyOfCommand (i : Instr) : Option Text :=
  match i with
  | .unknownRequest name fields => some (Machine.bodyText name fields)
  | i => i.requestName.map (fun name => Machine.bodyText name i.requestFields)

end Sys2Proof
end

