-- ==== Sys2Proof/Config.lean ====
section
/-! DEFINITION. What the manual leaves free. Nothing here has a body: no proof can learn a value of it. -/

namespace Sys2Proof

/-- The order in which one event that reaches several arms is taken by them is left open ("in whichever order", R132;
"taken in either order", R161). Draw k gives each arm a key and the arms are reached by rising key; every order can come.
FREE VALUE (assumption 3). -/
opaque Config.orderKey : Nat → Nat → Nat

/-- The temperature a step would use on a channel that holds none. No run reaches such a step, since START needs a held
temperature (R105); the value stays free for the states no run reaches. FREE VALUE (assumption 4). -/
opaque Config.noTemperature : Int

/-- Whether the retained store holds, after a loss of supply between an accepted CAL.WRITE or CAL.COMMIT and the end of its response,
the calibration as it stood before that request ("either everything as it stood before the request or everything as the accepted
request left it", R37). One value for each draw. FREE VALUE (assumption 18). -/
opaque Config.losesWrite : Nat → Bool

end Sys2Proof
end

