-- ==== Sys2Proof/Machine/State.lean ====
section
/-! DEFINITION. The state of the LC-8 as plain data: every record, table, channel, list and line the manual gives the part. -/

namespace Sys2Proof.Machine

/-- No command of the LC-8 ends in a fault: every event the manual gives leaves a next state. The type has no constructor. -/
inductive Fault : Type where
  deriving DecidableEq, Repr

/-- Why a step has no meaning. -/
inductive Refusal where
  /-- raised by exec's arm of a command that has no meaning yet; safe: the model stops. -/
  | notModelled (mnemonic : String)
  deriving DecidableEq, Repr

/-! ### Names the manual writes in capitals -/

/-- The states of an arm controller (section 6.4). -/
inductive ArmState where
  | outOfService
  | idle
  | ready
  | lowStart
  | waitGrant
  | high
  | lowRun
  | closing
  | suspended
  | alarm
  deriving DecidableEq, Repr

/-- Where ARM.CLEAR returns an arm in ALARM (section 6.1). -/
inductive ReturnState where
  | idle
  | outOfService
  deriving DecidableEq, Repr

/-- The outcome an arm in CLOSING carries out at the settle (section 6.9). -/
inductive Intent where
  | finish
  | suspend
  | stop
  | interrupt
  deriving DecidableEq, Repr

/-- What ended a line (R76). -/
inductive StopCause where
  | panel
  | cancel
  | permit
  | restart
  deriving DecidableEq, Repr

/-- The suspension causes (section 6.8); ADDITIVE_STOCK is recorded with its additive and slot (R111). -/
inductive Cause where
  | permissive
  | halt
  | noFlow
  | probe
  | additive
  | additiveStock (additive : AdditiveId) (slot : SlotId)
  deriving DecidableEq, Repr

/-- The panel reasons of a bay and of an arm (R85, R86, R105 to R107, R187, R189). -/
inductive PanelReason where
  | bayBusy
  | noOrder
  | permitSuspended
  | permitExpired
  | dailyLimit
  | level
  | endorsement
  | unitExpired
  | noArm
  | queueFull
  | permissive
  | halted
  | noTemperature
  | probe
  | additiveStock
  | running
  | notReady
  deriving DecidableEq, Repr

/-- The states of a line (R76). -/
inductive LineState where
  | pending
  | queued
  | active
  | suspended
  | full
  | stopped
  | cancelled
  | interrupted
  deriving DecidableEq, Repr

/-- The states of an order (section 5.3). -/
inductive OrderState where
  | booked
  | admitted
  | complete
  | void
  deriving DecidableEq, Repr

/-- The entries of the switch-load table (R56). -/
inductive Verdict where
  | allow
  | lowOnly
  | forbid
  deriving DecidableEq, Repr

/-- The two calibration banks (R25). -/
inductive BankId where
  | a
  | b
  deriving DecidableEq, Repr

/-- How an arm chooses the head of its queue (R103). -/
inductive QueueMode where
  | fifo
  | sequence
  deriving DecidableEq, Repr

/-- The stroke phase of an injector channel (section 8.3). -/
inductive StrokePhase where
  | none
  | waitRise
  | feedbackActive
  deriving DecidableEq, Repr

/-- The rack mode (R160). -/
inductive RackMode where
  | normal
  | halted
  deriving DecidableEq, Repr

/-- A valve command (R104). -/
inductive ValveCommand where
  | closed
  | low
  | high
  deriving DecidableEq, Repr

/-! ### Time -/

/-- A time recorded from the timebase, and whether its age has reached 4,294,967,295 ms, where it stays (R2). A running
timer is the time it started. -/
structure Stamp where
  time : Millis
  full : Bool
  deriving DecidableEq, Repr

/-! ### Calibration (section 2.1) -/

/-- A meter's entry in a bank: its K-factor in pulses per litre, 0 when not calibrated, and its curve page. -/
structure MeterEntry where
  k : Nat
  page : PageId
  deriving DecidableEq, Repr

/-- A point of a curve page: a rate in L/min and a meter factor in 0.00001. -/
structure CurvePoint where
  rate : Nat
  factor : Nat
  deriving DecidableEq, Repr

/-- A calibration bank: meter entries, curve pages, and β in ppm/°C for each product. -/
structure Bank where
  meters : Vector MeterEntry 8
  pages : Vector (List CurvePoint) 16
  beta : Vector Nat 16
  deriving DecidableEq, Repr

/-- The calibration store, held whole in the retained store (R25). -/
structure CalStore where
  bankA : Bank
  bankB : Bank
  active : BankId
  count : Nat
  deriving DecidableEq, Repr

/-! ### Tables -/

/-- A permit record (section 3.1); endorsements hold TRUE at each group the driver may load. -/
structure Permit where
  number : Nat
  level : Nat
  endorsements : Vector Bool 8
  expiry : Nat
  dailyLimit : Nat
  loadsToday : Nat
  suspended : Bool
  admittedBay : Option BayId
  deriving DecidableEq, Repr

/-- A compartment: its safe-fill capacity in litres and its last group, none for CLEAN (section 3.3). -/
structure Compartment where
  capacity : Nat
  lastGroup : Option Group
  deriving DecidableEq, Repr

/-- A vehicle-unit record (section 3.3). -/
structure VehicleUnit where
  number : Nat
  expiry : Nat
  compartments : List Compartment
  committed : Option Nat
  deriving DecidableEq, Repr

/-- The switch-load table (R56): rows for last group 0 to 7 and then CLEAN, columns for the new group. -/
structure SwitchTable where
  rows : Vector (Vector Verdict 8) 9
  deriving DecidableEq, Repr

/-- An account record (section 4.1), in standard litres. -/
structure Account where
  number : Nat
  group : Group
  balance : Int
  overdraft : Nat
  reserved : Nat
  held : Bool
  deriving DecidableEq, Repr

/-- A dose entry of a recipe: an additive and a dose in mL per 1,000 L (section 8.1). -/
structure Dose where
  additive : AdditiveId
  dose : Nat
  deriving DecidableEq, Repr

/-- A recipe record (section 8.1). -/
structure Recipe where
  number : Nat
  product : ProductId
  header : HeaderId
  group : Group
  hazard : Nat
  doses : List Dose
  deriving DecidableEq, Repr

/-- An additive's record in 0.01 mL (section 8.2). -/
structure Additive where
  stock : Nat
  reserved : Nat
  inFlight : Nat
  lowMark : Nat
  deriving DecidableEq, Repr

/-! ### Orders (sections 5.1 and 5.2) -/

/-- A line's copy of one dose entry with its additive result and its remaining additive reservation (R75). -/
structure DoseRecord where
  additive : AdditiveId
  dose : Nat
  slot : Option SlotId
  dispensed : Nat
  target : Option Nat
  misses : Nat
  remaining : Nat
  deriving DecidableEq, Repr

/-- The result flags of a line (section 5.2). -/
structure LineFlags where
  tempClamped : Bool
  probeHeld : Bool
  lowOnly : Bool
  overPreset : Bool
  underDose : Bool
  doseLimited : Bool
  permissiveLost : Bool
  deriving DecidableEq, Repr

/-- A line record (section 5.2). Volumes gross and standard are in µL, the residue in parts of a µL, the weight in
0.01 °C × µL; gross litres, standard litres and the average temperature (0.1 °C) are absent until final. -/
structure Line where
  number : Nat
  addr : Nat
  recipe : Nat
  product : ProductId
  header : HeaderId
  group : Group
  hazard : Nat
  doses : List DoseRecord
  account : Nat
  preset : Nat
  lowOnly : Bool
  state : LineState
  arm : Option ArmId
  bank : Option BankId
  calCount : Option Nat
  gross : Nat
  standard : Nat
  residue : Nat
  weight : Int
  grossLitres : Option Nat
  standardLitres : Option Nat
  average : Option Int
  flags : LineFlags
  stopCause : Option StopCause
  deriving DecidableEq, Repr

/-- An order record (section 5.1); bay none is ANY. The order table lists its orders by booking position, earliest first. -/
structure Order where
  number : Nat
  state : OrderState
  permit : Nat
  unit1 : Nat
  unit2 : Option Nat
  bay : Option BayId
  lastBay : Option BayId
  priority : Nat
  remark : Text
  counted : Bool
  note : Option Nat
  day : Option Nat
  lines : List Line
  deriving DecidableEq, Repr

/-! ### Meter channels, arms, headers, injectors -/

/-- The latest valid probe reading in 0.01 °C with its arrival time, and whether its staleness expiry has occurred (R10, R12). -/
structure HeldTemperature where
  value : Int
  arrived : Stamp
  stale : Bool
  deriving DecidableEq, Repr

/-- A meter channel (section 1.1): counts of pulses, the rate window and its start, held rate, factor and temperature, the
probe fault condition, both totalisers in µL, the unassigned-flow count in steps. -/
structure Channel where
  pulses : Nat
  window : Nat
  windowStart : Stamp
  rate : Nat
  factor : Nat
  temperature : Option HeldTemperature
  probeFault : Bool
  grossTotal : Nat
  standardTotal : Nat
  unassigned : Nat
  deriving DecidableEq, Repr

/-- An injector slot that carries an additive (section 6.2): stroke volume in 0.01 mL, feedback times in ms, miss limit. -/
structure SlotConfig where
  additive : AdditiveId
  stroke : Nat
  fbMin : Nat
  fbMax : Nat
  missLimit : Nat
  deriving DecidableEq, Repr

/-- An arm's configuration (section 6.2); volumes in 0.1 L, times in s; a slot that carries NONE is none. -/
structure ArmConfig where
  header : HeaderId
  lowStart : Nat
  taper : Nat
  allow : Nat
  noFlow : Nat
  settle : Nat
  mode : QueueMode
  slots : Vector (Option SlotConfig) 4
  deriving DecidableEq, Repr

/-- An arm queue entry: an order, a line, the line's compartment address and the position at which it joined (R102). -/
structure QueueEntry where
  order : Nat
  line : Nat
  addr : Nat
  position : Nat
  deriving DecidableEq, Repr

/-- An arm controller (section 6.1). The suspension causes stand in the order they joined, the primary cause first. The
no-flow, settle and SHOW repeat timers are the time they started, none while stopped (R110, R113, R188). -/
structure Arm where
  state : ArmState
  returnState : Option ReturnState
  config : Option ArmConfig
  allowance : Option Nat
  queue : List QueueEntry
  current : Option QueueEntry
  startMark : Option Nat
  intent : Option Intent
  pendingStop : Option StopCause
  restartPending : Bool
  causes : List Cause
  probeRefreshed : Bool
  noFlowTimer : Option Stamp
  settleTimer : Option Stamp
  quiet : Bool
  repeatTimer : Option Stamp
  reason : Option PanelReason
  deriving DecidableEq, Repr

/-- A waiting-list entry: an arm, its order's priority and its joining position (section 7.1). -/
structure Waiter where
  arm : ArmId
  priority : Nat
  position : Nat
  deriving DecidableEq, Repr

/-- A header (section 7.1); the held-grant set is written in rising order of arm. -/
structure Header where
  capacity : Nat
  held : List ArmId
  waiting : List Waiter
  deriving DecidableEq, Repr

/-- An injector channel (section 8.3). The served entry is its place in the line's list of dose entries. The owed count is
in 0.0001 mL. The solenoid is OPEN exactly while the phase is not NONE; the opening time runs the rise timer, the rise time
runs the active timer (R148). -/
structure Injector where
  served : Option Nat
  owed : Nat
  phase : StrokePhase
  opened : Option Stamp
  riseTime : Option Stamp
  misses : Nat
  feedback : Bool
  deriving DecidableEq, Repr

/-! ### Bays and panels -/

/-- The permit and the order a bay has admitted (section 5.6). -/
structure Admission where
  permit : Nat
  order : Nat
  deriving DecidableEq, Repr

/-- A bay admission unit (section 5.6): FREE when it holds no admission; its panel reason (R189). -/
structure Bay where
  admitted : Option Admission
  reason : Option PanelReason
  deriving DecidableEq, Repr

/-- The subjects of a panel line's SHOW messages (section 11.6). -/
inductive Subject where
  | bay
  | lower
  | upper
  deriving DecidableEq, Repr

/-- The content of a SHOW (R189). -/
inductive ShowMessage where
  | ofBay (bay : BayId) (admitted : Bool) (permit : Option Nat) (reason : Option PanelReason)
  | ofArm (arm : ArmId) (state : ArmState) (addr : Option Nat) (preset : Option Nat) (standard : Option Nat)
      (cause : Option Cause) (reason : Option PanelReason)
  deriving DecidableEq, Repr

/-- The outgoing side of a panel line: its send list, and the SHOW being sent, if one is (R188). -/
structure Panel where
  sendList : List Subject
  sending : Option ShowMessage
  deriving DecidableEq, Repr

/-- The receiver states of the link controller (R178). -/
inductive RxState where
  | hunt
  | body
  | check
  deriving DecidableEq, Repr

/-- The incoming side of a panel line (R187): hunting, in a body, or behind the CR that ended one. -/
inductive PanelRxState where
  | hunt
  | body
  | lineEnd
  deriving DecidableEq, Repr

/-- The panel message being received. -/
structure PanelRx where
  state : PanelRxState
  body : Text
  deriving DecidableEq, Repr

/-! ### Responses -/

/-- What a refusal names beside its status word. -/
inductive Named where
  | nothing
  | field (name : Text)
  | unit (number : Nat)
  | unitOrder (unit order : Nat)
  | line (number : Nat)
  | lineAccount (line account : Nat)
  | account (number : Nat)
  | additive (additive : AdditiveId)
  | armK (arm : ArmId)
  | armCurve (arm : ArmId)
  | orderState (state : OrderState)
  | text (t : Text)
  deriving DecidableEq, Repr

/-- The status words of refusals (R182). -/
inductive Status where
  | unknownRequest
  | badField
  | notFound
  | duplicate
  | tableFull
  | suspended
  | expired
  | unitBusy
  | capacity
  | switchForbidden
  | noCover
  | noStock
  | held
  | wrongState
  | referenced
  | sealed
  | bankInUse
  | badBank
  | notCalibrated
  | notConfigured
  | esdActive
  deriving DecidableEq, Repr

/-- A refusal: its status word and what it names. -/
structure Refuse where
  status : Status
  named : Named
  deriving DecidableEq, Repr

/-- The part of a bank CAL.READ returns (R31). -/
inductive CalPart where
  | meters (entries : Vector MeterEntry 8)
  | page (points : List CurvePoint)
  | products (beta : Vector Nat 16)
  deriving DecidableEq, Repr

/-- The response fields of CAL.READ (R31). -/
structure CalReadView where
  part : CalPart
  active : BankId
  count : Nat
  switchClosed : Bool
  inUse : Nat
  usable : Vector Bool 8
  deriving DecidableEq, Repr

/-- A line as ORDER.GET returns it (R83): every field of section 5.2 but the residue and the temperature-weight sum; gross
and standard in whole litres. -/
structure LineView where
  number : Nat
  addr : Nat
  recipe : Nat
  product : ProductId
  header : HeaderId
  group : Group
  hazard : Nat
  doses : List DoseRecord
  account : Nat
  preset : Nat
  lowOnly : Bool
  state : LineState
  arm : Option ArmId
  bank : Option BankId
  calCount : Option Nat
  grossLitres : Nat
  standardLitres : Nat
  average : Option Int
  flags : LineFlags
  stopCause : Option StopCause
  deriving DecidableEq, Repr

/-- An order as ORDER.GET returns it (R83). -/
structure OrderView where
  number : Nat
  position : Nat
  state : OrderState
  permit : Nat
  unit1 : Nat
  unit2 : Option Nat
  bay : Option BayId
  admittedBay : Option BayId
  lastBay : Option BayId
  priority : Nat
  remark : Text
  counted : Bool
  note : Option Nat
  day : Option Nat
  lines : List LineView
  deriving DecidableEq, Repr

/-- A queue entry as ARM.GET returns it (R124). -/
structure QueueView where
  order : Nat
  line : Nat
  addr : Nat
  lineState : Option LineState
  isHead : Bool
  deriving DecidableEq, Repr

/-- What ARM.GET adds for a current line that is ACTIVE or SUSPENDED (R124); volumes in 0.1 L truncated. -/
structure RunView where
  startMark : Option Nat
  taperPoint : Int
  closePoint : Int
  standard : Nat
  intent : Option Intent
  pendingStop : Option StopCause
  restartPending : Bool
  causes : List Cause
  holdsGrant : Bool
  waiting : Bool
  deriving DecidableEq, Repr

/-- An injector channel as ARM.GET returns it (R155). -/
structure InjectorView where
  owed : Nat
  phase : StrokePhase
  solenoidOpen : Bool
  feedback : Bool
  misses : Nat
  deriving DecidableEq, Repr

/-- An arm as ARM.GET returns it (R24, R124, R155); temperature with its age in whole seconds, totalisers in whole litres. -/
structure ArmView where
  arm : ArmId
  state : ArmState
  returnState : Option ReturnState
  valve : ValveCommand
  config : Option ArmConfig
  allowance : Option Nat
  queue : List QueueView
  fill : Nat
  free : Nat
  run : Option RunView
  rate : Nat
  factor : Nat
  temperature : Option (Int × Nat)
  probeFault : Bool
  grossTotal : Nat
  standardTotal : Nat
  unassigned : Nat
  injectors : Vector InjectorView 4
  deriving DecidableEq, Repr

/-- One line of a delivery note (R174). -/
structure NoteLine where
  number : Nat
  addr : Nat
  unit : Nat
  compartment : Nat
  recipe : Nat
  product : ProductId
  preset : Nat
  gross : Nat
  standard : Nat
  average : Option Int
  state : LineState
  flags : LineFlags
  stopCause : Option StopCause
  bank : Option BankId
  calCount : Option Nat
  additives : List (AdditiveId × Nat × Nat)
  deriving DecidableEq, Repr

/-- A delivery note (R172 to R176): header, lines, totals. -/
structure Note where
  note : Nat
  order : Nat
  permit : Nat
  unit1 : Nat
  unit2 : Option Nat
  bay : Option BayId
  day : Nat
  remark : Text
  lines : List NoteLine
  grossTotal : Nat
  standardTotal : Nat
  additiveTotals : List (AdditiveId × Nat)
  deriving DecidableEq, Repr

/-- One bay in RACK.STATUS (R184). -/
structure BayStatus where
  admitted : Option Admission
  ground : Bool
  overfill : Bool
  permitted : Bool
  deriving DecidableEq, Repr

/-- The response fields of RACK.STATUS (R184). -/
structure StatusView where
  day : Nat
  mode : RackMode
  emergencyStop : Bool
  calCount : Nat
  activeBank : BankId
  calClosed : Bool
  noteWidth : Nat
  notesWaiting : Nat
  bays : Vector BayStatus 4
  alarms : List ArmId
  lowAdditives : List AdditiveId
  attention : Bool
  deriving DecidableEq, Repr

/-- The fields of an OK response, one form for each kind of answer. -/
inductive OkFields where
  | plain
  | action (created : Bool)
  | changed (yes : Bool)
  | permitSuspended (changed : Bool) (bay : Option BayId)
  | dayCleared (yes : Bool)
  | calWritten (bank : BankId)
  | calRead (v : CalReadView)
  | calCommitted (active : BankId) (count : Nat)
  | permit (p : Permit) (orders : Nat)
  | unit (u : VehicleUnit) (orders : Nat)
  | account (a : Account) (available : Int) (lines : Nat)
  | credited (balance : Int) (saturated : Bool)
  | closed (balance : Int)
  | booked (order lines : Nat) (lowOnly : List Nat) (truncated : Bool)
  | order (v : OrderView)
  | amended (old new : Nat)
  | cancelled (atOnce inClose already : Nat)
  | retired (state : OrderState)
  | inService (state : ArmState)
  | cleared (count : Nat) (state : ArmState)
  | arm (v : ArmView)
  | header (capacity : Nat) (held : List ArmId) (waiting : List (ArmId × Nat)) (granted : Option (List ArmId))
  | recipe (r : Recipe) (lines : Nat)
  | additivePut (stock reserved : Nat) (low : Bool)
  | refilled (stock : Nat) (saturated low : Bool)
  | additive (a : Additive) (free : Int) (low : Bool) (lines : Nat)
  | note (n : Note) (place count : Nat) (counter : Option Nat)
  | status (v : StatusView)
  | switchTable (t : SwitchTable)
  | width (w : Nat)
  | widthSet (old new : Nat)
  | restarted (interrupted returned closing : Nat)
  deriving DecidableEq, Repr

/-- What the owner of a request answers (R180, R182). -/
inductive Reply where
  | ok (fields : OkFields)
  | refused (why : Refuse)
  deriving DecidableEq, Repr

/-- The response being sent: the request name as taken, the answer, and the characters of its frame (R182). -/
structure Response where
  name : Text
  reply : Reply
  frame : Text
  deriving DecidableEq, Repr

/-- The link controller (section 11.1): receiver state, the body and check digits held, whether the frame is unwanted,
response owed, the response being sent. -/
structure Link where
  rx : RxState
  body : Text
  digits : Text
  unwanted : Bool
  responseOwed : Bool
  response : Option Response
  deriving DecidableEq, Repr

/-! ### The state -/

/-- What loading reads and never writes: time, day, rack mode, field inputs, calibration, the switch-load and recipe tables,
the note remark width. -/
structure Conditions where
  time : Millis
  day : Nat
  mode : RackMode
  emergencyStop : Bool
  calClosed : Bool
  cal : CalStore
  ground : Vector Bool 4
  overfill : Vector Bool 4
  switchTable : SwitchTable
  recipes : List Recipe
  noteWidth : Nat
  deriving DecidableEq, Repr

/-- What loading moves: the permit, unit, account, additive and order tables, arms with their channels and injectors, headers,
bays, panel lines, and the note unit's counter and waiting-notes list. -/
structure Rack where
  permits : List Permit
  units : List VehicleUnit
  accounts : List Account
  additives : Vector Additive 8
  orders : List Order
  channels : Vector Channel 8
  arms : Vector Arm 8
  injectors : Vector (Vector Injector 4) 8
  headers : Vector Header 6
  bays : Vector Bay 4
  panels : Vector Panel 4
  noteCounter : Nat
  notes : List Nat
  deriving DecidableEq, Repr

/-- The LC-8 with the queue of commands that wait for it. The field calBefore is the calibration store as it stood before a CAL.WRITE
or CAL.COMMIT whose response is still being sent, which a loss of supply may bring back (R37). The field choice is the MODEL's own: how
many draws of a free value (Config.orderKey, Config.losesWrite) have been made. -/
structure State where
  pending : List Instr
  choice : Nat
  calBefore : Option CalStore
  link : Link
  panelRx : Vector PanelRx 4
  cond : Conditions
  rack : Rack
  deriving DecidableEq, Repr

/-! ### Values at power-on and at reset -/

/-- A bank of all zeros (R25). -/
def Bank.zero : Bank :=
  { meters := Vector.replicate 8 { k := 0, page := 0 }
    pages := Vector.replicate 16 []
    beta := Vector.replicate 16 0 }

/-- The store of a part that has never accepted a write or a commit (R25). -/
def CalStore.factory : CalStore :=
  { bankA := .zero, bankB := .zero, active := .a, count := 0 }

/-- A time recorded when the timebase stands at 0. -/
def Stamp.zero : Stamp := { time := 0#32, full := false }

/-- A meter channel at power-on over the totalisers the retained store keeps, with the factor looked up at 0 L/min (R23). -/
def Channel.fresh (factor grossTotal standardTotal : Nat) : Channel :=
  { pulses := 0, window := 0, windowStart := .zero, rate := 0, factor := factor, temperature := none, probeFault := false
    grossTotal := grossTotal, standardTotal := standardTotal, unassigned := 0 }

/-- An arm controller at power-on (R100). -/
def Arm.fresh : Arm :=
  { state := .outOfService, returnState := none, config := none, allowance := none, queue := [], current := none
    startMark := none, intent := none, pendingStop := none, restartPending := false, causes := [], probeRefreshed := false
    noFlowTimer := none, settleTimer := none, quiet := false, repeatTimer := none, reason := none }

/-- An injector channel at power-on (R144), its feedback input at the level it then stands at. -/
def Injector.fresh (feedback : Bool) : Injector :=
  { served := none, owed := 0, phase := .none, opened := none, riseTime := none, misses := 0, feedback := feedback }

/-- A header at power-on (R125). -/
def Header.fresh : Header := { capacity := 1, held := [], waiting := [] }

/-- A bay admission unit at power-on (R84, R189). -/
def Bay.fresh : Bay := { admitted := none, reason := none }

/-- A panel line at power-on: of the three subjects of R188 the bay's SHOW has begun, the two arms stand in the list. -/
def Panel.fresh (b : BayId) : Panel :=
  { sendList := [.lower, .upper], sending := some (.ofBay b false none none) }

/-- The link controller at power-on (R178). -/
def Link.fresh : Link :=
  { rx := .hunt, body := [], digits := [], unwanted := false, responseOwed := false, response := none }

/-- A panel line's receiver at power-on (R187). -/
def PanelRx.fresh : PanelRx := { state := .hunt, body := [] }

/-- An additive's record at power-on (R139). -/
def Additive.zero : Additive := { stock := 0, reserved := 0, inFlight := 0, lowMark := 0 }

/-- The switch-load table at power-on (R56): ALLOW in the CLEAN row and where row and column agree, FORBID elsewhere. -/
def SwitchTable.fresh : SwitchTable :=
  { rows := Vector.ofFn (fun r : Fin 9 => Vector.ofFn (fun c : Fin 8 =>
      if r.val = 8 ∨ r.val = c.val then Verdict.allow else Verdict.forbid)) }

/-- The machine right after reset: power-on of a part whose retained store has never been written, the calibration switch
OPEN, the emergency-stop input INACTIVE, every permissive FALSE and every feedback inactive (assumption 1). -/
def State.reset : State :=
  { pending := []
    choice := 0
    calBefore := none
    link := .fresh
    panelRx := Vector.replicate 4 .fresh
    cond :=
      { time := 0#32, day := 0, mode := .normal, emergencyStop := false, calClosed := false, cal := .factory
        ground := Vector.replicate 4 false, overfill := Vector.replicate 4 false
        switchTable := .fresh, recipes := [], noteWidth := 32 }
    rack :=
      { permits := [], units := [], accounts := [], additives := Vector.replicate 8 .zero, orders := []
        channels := Vector.replicate 8 (.fresh 100000 0 0)
        arms := Vector.replicate 8 .fresh
        injectors := Vector.replicate 8 (Vector.replicate 4 (.fresh false))
        headers := Vector.replicate 6 .fresh
        bays := Vector.replicate 4 .fresh
        panels := Vector.ofFn Panel.fresh
        noteCounter := 0, notes := [] } }

end Sys2Proof.Machine
end

