-- ==== Sys2Proof/Machine/Arith.lean ====
section
/-! DEFINITION. The integer arithmetic of chapter 1 and the timebase: rounding, truncation, saturation, ages. -/

namespace Sys2Proof.Machine

/-- Division rounded to the nearest whole number, halves away from zero (R13, R17). -/
def roundDiv (n : Int) (d : Nat) : Int :=
  n.sign * ((2 * n.natAbs + d) / (2 * d) : Nat)

/-- µL rounded to the nearest whole litre, 500,000 µL rounding up (R18). -/
def roundLitres (v : Nat) : Nat := (v + 500000) / 1000000

/-- Addition that stops at a limit. -/
def satAdd (limit a b : Nat) : Nat := min limit (a + b)

/-- A value brought between two limits. -/
def clampInt (lo hi v : Int) : Int := max lo (min hi v)

/-- A value with which a totaliser has advanced, less 10^14 µL when it has reached it (R20). -/
def wrapTotal (v : Nat) : Nat := if 100000000000000 ≤ v then v - 100000000000000 else v

/-- The correction factor in ppm for a temperature in 0.01 °C and a β in ppm/°C (R13). -/
def ctl (beta : Nat) (t : Int) : Int := 1000000 - roundDiv ((beta : Int) * (t - 1500)) 100

/-- What 10 times e/4, truncated toward zero, adds to the closing allowance, brought into 0 to 500 (R119). -/
def learnedAllowance (old : Nat) (e : Int) : Nat :=
  (clampInt 0 500 ((old : Int) + 10 * (e.tdiv 4))).toNat

/-- An additive need in 0.01 mL: dose × litres / 10 rounded up (R81). -/
def doseNeed (dose litres : Nat) : Nat := (dose * litres + 9) / 10

/-- A dose entry's target in 0.01 mL: dose × gross litres / 10 truncated (R153). -/
def doseTarget (dose litres : Nat) : Nat := dose * litres / 10

/-! ### Recorded times (R2) -/

/-- The longest age the count can measure (R2). -/
def ageMax : Nat := 4294967295

/-- A time recorded now. -/
def Conditions.stamp (c : Conditions) : Stamp := { time := c.time, full := false }

/-- The age of a recorded time: the present count less the recorded one, or 4,294,967,295 ms once it has reached it (R2). -/
def Conditions.age (c : Conditions) (s : Stamp) : Nat :=
  if s.full then ageMax else (c.time - s.time).toNat

/-- A recorded time when the count has just become now: an age that reaches 4,294,967,295 ms stays there (R2). -/
def Stamp.tick (now : Millis) (s : Stamp) : Stamp :=
  { s with full := s.full || decide ((now - s.time).toNat = ageMax) }

/-- A running timer has run for the time given, in ms; a stopped one never has. -/
def Conditions.timerRunOut (c : Conditions) (timer : Option Stamp) (ms : Nat) : Bool :=
  match timer with
  | some s => decide (ms ≤ c.age s)
  | none => false

end Sys2Proof.Machine
end

