-- ==== Sys2Proof/Machine/Flags.lean ====
section
/-! DEFINITION. Conditions worked out from the state: kinds of arm and line state, valve command, permissive condition, low
additives, attention pin, result flags. -/

namespace Sys2Proof.Machine

/-- A flow state: the valve is open (section 6.4). -/
def ArmState.isFlow : ArmState → Bool
  | .lowStart => true
  | .waitGrant => true
  | .high => true
  | .lowRun => true
  | .outOfService => false
  | .idle => false
  | .ready => false
  | .closing => false
  | .suspended => false
  | .alarm => false

/-- A flow state or CLOSING: steps belong to the line (R4), and the SHOW repeat timer runs (R188). -/
def ArmState.isRunning (s : ArmState) : Bool := s.isFlow || decide (s = .closing)

/-- The line-bearing states (section 6.1). -/
def ArmState.isLineBearing (s : ArmState) : Bool := s.isRunning || decide (s = .suspended)

/-- The valve command of each arm state (R104). -/
def ArmState.valve : ArmState → ValveCommand
  | .lowStart => .low
  | .waitGrant => .low
  | .lowRun => .low
  | .high => .high
  | .outOfService => .closed
  | .idle => .closed
  | .ready => .closed
  | .closing => .closed
  | .suspended => .closed
  | .alarm => .closed

/-- In service for the calibration rules: any state but OUT_OF_SERVICE and ALARM with that return state (section 2.5). -/
def Arm.inService (a : Arm) : Bool :=
  match a.state with
  | .outOfService => false
  | .alarm => decide (a.returnState ≠ some .outOfService)
  | .idle => true
  | .ready => true
  | .lowStart => true
  | .waitGrant => true
  | .high => true
  | .lowRun => true
  | .closing => true
  | .suspended => true

/-- The primary cause of a suspension: the first that joined (R112). -/
def Arm.primaryCause (a : Arm) : Option Cause := a.causes.head?

/-- A final state (R76). -/
def LineState.isFinal : LineState → Bool
  | .full => true
  | .stopped => true
  | .cancelled => true
  | .interrupted => true
  | .pending => false
  | .queued => false
  | .active => false
  | .suspended => false

/-- A line that is ACTIVE or SUSPENDED holds its bank in use (R30). -/
def LineState.holdsBank : LineState → Bool
  | .active => true
  | .suspended => true
  | .pending => false
  | .queued => false
  | .full => false
  | .stopped => false
  | .cancelled => false
  | .interrupted => false

/-- The bank that is not the one named (R25). -/
def BankId.other : BankId → BankId
  | .a => .b
  | .b => .a

/-- The contents of a bank. -/
def CalStore.bank (s : CalStore) : BankId → Bank
  | .a => s.bankA
  | .b => s.bankB

/-- The bay an arm belongs to (R156). -/
def bayOf (a : ArmId) : BayId := ⟨a.val / 2, by omega⟩

/-- The subject an arm is on its bay's panel line: lower for the odd-numbered arm (R156, R188). -/
def subjectOf (a : ArmId) : Subject := if a.val % 2 = 0 then .lower else .upper

/-- The lower-numbered arm of a bay (R156). -/
def lowerArm (b : BayId) : ArmId := ⟨b.val * 2, by omega⟩

/-- The higher-numbered arm of a bay (R156). -/
def upperArm (b : BayId) : ArmId := ⟨b.val * 2 + 1, by omega⟩

/-- The permissive condition of a bay: PERMITTED while both levels are TRUE (R156). -/
def Conditions.permitted (c : Conditions) (b : BayId) : Bool := c.ground[b] && c.overfill[b]

/-- Stock less reserved, signed (R140). -/
def Additive.freeStock (a : Additive) : Int := (a.stock : Int) - a.reserved

/-- An additive is low while its stock less its reserved is below its low mark (R140). -/
def Additive.low (a : Additive) : Bool := decide (a.freeStock < a.lowMark)

/-- The solenoid is OPEN exactly while a stroke is in flight (section 8.3). -/
def Injector.solenoidOpen (i : Injector) : Bool := decide (i.phase ≠ .none)

/-- The available amount of an account: balance plus overdraft limit less reserved (section 4.1). -/
def Account.available (a : Account) : Int := a.balance + a.overdraft - a.reserved

/-- An account covers a need when its available amount is at least the need (R61). -/
def Account.covers (a : Account) (need : Nat) : Bool := decide ((need : Int) ≤ a.available)

/-- The attention pin: notes waiting, an arm in ALARM, the rack HALTED, or an additive low (R183). -/
def attention (c : Conditions) (r : Rack) : Bool :=
  !r.notes.isEmpty || r.arms.any (fun a => decide (a.state = .alarm)) || decide (c.mode = .halted) ||
    r.additives.any Additive.low

/-- No result flag set. -/
def LineFlags.none : LineFlags :=
  { tempClamped := false, probeHeld := false, lowOnly := false, overPreset := false, underDose := false
    doseLimited := false, permissiveLost := false }

end Sys2Proof.Machine
end

