-- ==== Sys2Proof/Machine/Ops.lean ====
section
/-! DEFINITION. The named operations on the tables and on the panel lines: reads and writes of one record each. -/

namespace Sys2Proof.Machine

/-! ### One record of each table -/

/-- An arm controller. -/
def Rack.arm (r : Rack) (a : ArmId) : Arm := r.arms[a]

/-- An arm controller replaced. -/
def Rack.setArm (r : Rack) (a : ArmId) (x : Arm) : Rack := { r with arms := r.arms.set a x }

/-- An arm controller changed. -/
def Rack.modArm (r : Rack) (a : ArmId) (f : Arm → Arm) : Rack := r.setArm a (f (r.arm a))

/-- A meter channel. -/
def Rack.channel (r : Rack) (a : ArmId) : Channel := r.channels[a]

/-- A meter channel changed. -/
def Rack.modChannel (r : Rack) (a : ArmId) (f : Channel → Channel) : Rack :=
  { r with channels := r.channels.set a (f (r.channel a)) }

/-- An injector channel. -/
def Rack.injector (r : Rack) (a : ArmId) (s : SlotId) : Injector := r.injectors[a][s]

/-- An injector channel changed. -/
def Rack.modInjector (r : Rack) (a : ArmId) (s : SlotId) (f : Injector → Injector) : Rack :=
  { r with injectors := r.injectors.set a (r.injectors[a].set s (f (r.injector a s))) }

/-- All four injector channels of an arm changed. -/
def Rack.modInjectors (r : Rack) (a : ArmId) (f : Injector → Injector) : Rack :=
  { r with injectors := r.injectors.set a (r.injectors[a].map f) }

/-- A header. -/
def Rack.header (r : Rack) (h : HeaderId) : Header := r.headers[h]

/-- A header changed. -/
def Rack.modHeader (r : Rack) (h : HeaderId) (f : Header → Header) : Rack :=
  { r with headers := r.headers.set h (f (r.header h)) }

/-- An additive's record. -/
def Rack.additive (r : Rack) (x : AdditiveId) : Additive := r.additives[x]

/-- An additive's record changed. -/
def Rack.modAdditive (r : Rack) (x : AdditiveId) (f : Additive → Additive) : Rack :=
  { r with additives := r.additives.set x (f (r.additive x)) }

/-- A bay admission unit. -/
def Rack.bay (r : Rack) (b : BayId) : Bay := r.bays[b]

/-- A bay admission unit changed. -/
def Rack.modBay (r : Rack) (b : BayId) (f : Bay → Bay) : Rack := { r with bays := r.bays.set b (f (r.bay b)) }

/-- A permit by its number. -/
def Rack.permit? (r : Rack) (n : Nat) : Option Permit := r.permits.find? (fun p => decide (p.number = n))

/-- The permit of a number changed. -/
def Rack.modPermit (r : Rack) (n : Nat) (f : Permit → Permit) : Rack :=
  { r with permits := r.permits.map (fun p => if p.number = n then f p else p) }

/-- A vehicle unit by its identifier. -/
def Rack.unit? (r : Rack) (n : Nat) : Option VehicleUnit := r.units.find? (fun u => decide (u.number = n))

/-- The vehicle unit of an identifier changed. -/
def Rack.modUnit (r : Rack) (n : Nat) (f : VehicleUnit → VehicleUnit) : Rack :=
  { r with units := r.units.map (fun u => if u.number = n then f u else u) }

/-- An account by its number. -/
def Rack.account? (r : Rack) (n : Nat) : Option Account := r.accounts.find? (fun x => decide (x.number = n))

/-- The account of a number changed. -/
def Rack.modAccount (r : Rack) (n : Nat) (f : Account → Account) : Rack :=
  { r with accounts := r.accounts.map (fun x => if x.number = n then f x else x) }

/-- An order by its number. -/
def Rack.order? (r : Rack) (n : Nat) : Option Order := r.orders.find? (fun o => decide (o.number = n))

/-- The order of a number changed. -/
def Rack.modOrder (r : Rack) (n : Nat) (f : Order → Order) : Rack :=
  { r with orders := r.orders.map (fun o => if o.number = n then f o else o) }

/-- A line of an order by its number. -/
def Order.line? (o : Order) (n : Nat) : Option Line := o.lines.find? (fun l => decide (l.number = n))

/-- The line of a number changed in an order. -/
def Order.modLine (o : Order) (n : Nat) (f : Line → Line) : Order :=
  { o with lines := o.lines.map (fun l => if l.number = n then f l else l) }

/-- A line of the order table. -/
def Rack.line? (r : Rack) (order line : Nat) : Option Line := (r.order? order).bind (fun o => o.line? line)

/-- A line of the order table changed. -/
def Rack.modLine (r : Rack) (order line : Nat) (f : Line → Line) : Rack :=
  r.modOrder order (fun o => o.modLine line f)

/-- The line an arm is serving: that of its current entry (section 6.1). -/
def Rack.currentLine (r : Rack) (a : ArmId) : Option Line :=
  (r.arm a).current.bind (fun e => r.line? e.order e.line)

/-- The line an arm is serving, changed. -/
def Rack.modCurrentLine (r : Rack) (a : ArmId) (f : Line → Line) : Rack :=
  match (r.arm a).current with
  | some e => r.modLine e.order e.line f
  | none => r

/-- All lines of the order table. -/
def Rack.allLines (r : Rack) : List Line := r.orders.flatMap (fun o => o.lines)

/-- A recipe by its number. -/
def Conditions.recipe? (c : Conditions) (n : Nat) : Option Recipe := c.recipes.find? (fun x => decide (x.number = n))

/-- The header an arm draws from: that of its configuration (R125). -/
def Rack.headerOf (r : Rack) (a : ArmId) : Option HeaderId := (r.arm a).config.map (fun k => k.header)

/-- The configuration of an injector slot, if it carries an additive. -/
def Rack.slotConfig (r : Rack) (a : ArmId) (s : SlotId) : Option SlotConfig :=
  (r.arm a).config.bind (fun k => k.slots[s])

/-! ### Compartment addresses (R55) -/

/-- The unit and the compartment number 1 to 6 an address names through an order's unit references. -/
def resolveAddr (unit1 : Nat) (unit2 : Option Nat) (addr : Nat) : Option (Nat × Nat) :=
  if 1 ≤ addr ∧ addr ≤ 6 then some (unit1, addr)
  else if 7 ≤ addr ∧ addr ≤ 12 then unit2.map (fun u => (u, addr - 6))
  else none

/-- The compartment an address names, when it is in range for the order. -/
def Rack.compartment? (r : Rack) (unit1 : Nat) (unit2 : Option Nat) (addr : Nat) : Option Compartment :=
  match resolveAddr unit1 unit2 addr with
  | some (u, k) => (r.unit? u).bind (fun v => v.compartments[k - 1]?)
  | none => none

/-- An order names a unit, as its first or its second. -/
def Order.namesUnit (o : Order) (u : Nat) : Bool := decide (o.unit1 = u) || decide (o.unit2 = some u)

/-! ### Panel lines (R188, R189) -/

/-- A panel line. -/
def Rack.panel (r : Rack) (b : BayId) : Panel := r.panels[b]

/-- A panel line changed. -/
def Rack.modPanel (r : Rack) (b : BayId) (f : Panel → Panel) : Rack :=
  { r with panels := r.panels.set b (f (r.panel b)) }

/-- A subject joins the tail of a send list; one already in it keeps its place (R188). -/
def Panel.call (p : Panel) (s : Subject) : Panel :=
  if s ∈ p.sendList then p else { p with sendList := p.sendList ++ [s] }

/-- A bay admission unit calls for a SHOW of its bay. -/
def Rack.callBay (r : Rack) (b : BayId) : Rack := r.modPanel b (fun p => p.call .bay)

/-- An arm controller calls for a SHOW of its arm. -/
def Rack.callArm (r : Rack) (a : ArmId) : Rack := r.modPanel (bayOf a) (fun p => p.call (subjectOf a))

/-- The SHOW of a bay as it stands (R189). -/
def Rack.showBay (r : Rack) (b : BayId) : ShowMessage :=
  .ofBay b (r.bay b).admitted.isSome ((r.bay b).admitted.map (fun x => x.permit)) (r.bay b).reason

/-- The cause an arm's SHOW carries: the primary cause in SUSPENDED and in CLOSING with intent SUSPEND (R189). -/
def Arm.shownCause (x : Arm) : Option Cause :=
  if x.state = .suspended ∨ (x.state = .closing ∧ x.intent = some .suspend) then x.primaryCause else none

/-- The standard volume a SHOW carries in whole litres truncated; a QUEUED line shows 0 L (R189). -/
def Line.shownLitres (l : Line) : Nat := if l.state = .queued then 0 else l.standard / 1000000

/-- The SHOW of an arm as it stands, with the fields R189 and section 11.8 list. R104 has the SHOW report the valve command as well; here it
is reported through the state, which fixes it (the model's choice, assumption 12). -/
def Rack.showArm (r : Rack) (a : ArmId) : ShowMessage :=
  .ofArm a (r.arm a).state ((r.arm a).current.map (fun e => e.addr)) ((r.currentLine a).map (fun l => l.preset))
    ((r.currentLine a).map Line.shownLitres) (r.arm a).shownCause (r.arm a).reason

/-- The SHOW of a subject of a panel line. -/
def Rack.showOf (r : Rack) (b : BayId) : Subject → ShowMessage
  | .bay => r.showBay b
  | .lower => r.showArm (lowerArm b)
  | .upper => r.showArm (upperArm b)

/-- A panel line that sends nothing takes the head subject off its list and begins its SHOW, formed at that moment (R188). -/
def Rack.pumpLine (r : Rack) (b : BayId) : Rack :=
  match (r.panel b).sending, (r.panel b).sendList with
  | none, s :: rest => r.modPanel b (fun _ => { sendList := rest, sending := some (r.showOf b s) })
  | _, _ => r

/-- Every panel line that sends nothing and has a subject waiting begins its SHOW. A step is whole (file 95), so the SHOWs it
calls for are formed from the state it leaves (assumption 6). -/
def Rack.pump (r : Rack) : Rack := (((r.pumpLine 0).pumpLine 1).pumpLine 2).pumpLine 3

/-! ### The free order in which several arms take one event (assumption 3) -/

/-- An arm placed among arms already in order of their keys. -/
def insertByKey (draw : Nat) (a : ArmId) : List ArmId → List ArmId
  | [] => [a]
  | b :: rest =>
    if Config.orderKey draw a.val ≤ Config.orderKey draw b.val then a :: b :: rest
    else b :: insertByKey draw a rest

/-- Arms in the order of the keys of one draw. -/
def inFreeOrder (draw : Nat) : List ArmId → List ArmId
  | [] => []
  | a :: rest => insertByKey draw a (inFreeOrder draw rest)

/-- The eight arms. -/
def allArms : List ArmId := [0, 1, 2, 3, 4, 5, 6, 7]

/-- The two arms of a bay (R156). -/
def armsOfBay (b : BayId) : List ArmId := [lowerArm b, upperArm b]

end Sys2Proof.Machine
end

