-- ==== Sys2Proof/Machine/Calibration.lean ====
section
/-! DEFINITION. Reading a calibration bank: the bank in effect, the usable page, the meter factor, the held rate (chapters 1, 2). -/

namespace Sys2Proof.Machine

/-- The bank in effect at an arm: that its ACTIVE or SUSPENDED line took, else the active bank (R1). -/
def bankInEffect (c : Conditions) (r : Rack) (a : ArmId) : BankId :=
  match r.currentLine a with
  | some l => if l.state.holdsBank then l.bank.getD c.cal.active else c.cal.active
  | none => c.cal.active

/-- The contents of the bank in effect at an arm. -/
def effectiveBank (c : Conditions) (r : Rack) (a : ArmId) : Bank := c.cal.bank (bankInEffect c r a)

/-- The K-factor of an arm's meter in a bank. -/
def Bank.kFactor (k : Bank) (a : ArmId) : Nat := k.meters[a].k

/-- A page with 2 or more points is usable (section 2.1). -/
def Bank.pageUsable (k : Bank) (p : PageId) : Bool := decide (2 ≤ (k.pages[p]).length)

/-- A meter has a usable curve when its own page or page 0 is usable (section 2.1). -/
def Bank.curveUsable (k : Bank) (a : ArmId) : Bool := k.pageUsable k.meters[a].page || k.pageUsable 0

/-- The points a meter's lookup uses: its own page's, else page 0's, else none (R7). -/
def Bank.curve (k : Bank) (a : ArmId) : Option (List CurvePoint) :=
  if k.pageUsable k.meters[a].page then some k.pages[k.meters[a].page]
  else if k.pageUsable 0 then some k.pages[(0 : PageId)]
  else none

/-- Between two points: the product exact, the division truncated toward zero (R8). -/
def interpolate (p q : CurvePoint) (rate : Nat) : Nat :=
  ((p.factor : Int) +
    (((q.factor : Int) - p.factor) * ((rate : Int) - p.rate)).tdiv ((q.rate : Int) - p.rate)).toNat

/-- The factor from the last point at or below the rate on: the last point's beyond it, else between neighbours (R8). -/
def factorFrom (p : CurvePoint) : List CurvePoint → Nat → Nat
  | [], _ => p.factor
  | q :: rest, rate => if rate < q.rate then interpolate p q rate else factorFrom q rest rate

/-- The meter factor on a page at a rate in L/min (R8). -/
def pageFactor (points : List CurvePoint) (rate : Nat) : Nat :=
  match points with
  | [] => 100000
  | p :: rest => if rate ≤ p.rate then p.factor else factorFrom p rest rate

/-- The meter factor of an arm's meter in a bank at a rate: 100,000 where no curve is usable (R7). -/
def Bank.factorAt (k : Bank) (a : ArmId) (rate : Nat) : Nat :=
  match k.curve a with
  | some points => pageFactor points rate
  | none => 100000

/-- The flow rate of a window count in L/min, truncated and saturated at 6,000; 0 where the K-factor is 0 (R6). -/
def windowRate (window k : Nat) : Nat := if k = 0 then 0 else min 6000 (window * 60 / k)

/-- How many lines that are ACTIVE or SUSPENDED hold a bank (R30, R31). -/
def Rack.bankUsers (r : Rack) (k : BankId) : Nat :=
  (r.allLines.filter (fun l => l.state.holdsBank && decide (l.bank = some k))).length

end Sys2Proof.Machine
end

