-- ==== Sys2Proof/Machine/Arms.lean ====
section
/-! DEFINITION. What an arm controller and the header grant arbiter do: changes of state, grants, entry to CLOSING, suspension
causes (chapters 6 and 7). -/

namespace Sys2Proof.Machine

/-- The SHOW repeat timer at a change of arm state (R188): it starts at an entry to a flow state or CLOSING from any other
state, runs on between these, and stops at any other state. -/
def repeatAfter (c : Conditions) (old new : ArmState) (timer : Option Stamp) : Option Stamp :=
  if new.isRunning then (if old.isRunning then timer else some c.stamp) else none

/-- An arm changes state: its panel reason empties (R189) and it calls for a SHOW (R100). The valve command is that of the new
state (R104). A change to the state it is in is none. -/
def Rack.setState (c : Conditions) (a : ArmId) (new : ArmState) (r : Rack) : Rack :=
  if (r.arm a).state = new then r
  else
    (r.modArm a (fun x =>
      { x with state := new, reason := none, repeatTimer := repeatAfter c x.state new x.repeatTimer })).callArm a

/-! ### The header grant arbiter (chapter 7) -/

/-- An arm placed in a held-grant set. R131 answers the set and gives no order; it is held and listed in rising arm number (the model's
choice, assumption 26). -/
def insertArm (a : ArmId) : List ArmId → List ArmId
  | [] => [a]
  | b :: rest => if a < b then a :: b :: rest else if a = b then b :: rest else b :: insertArm a rest

/-- A grant takes an arm from the list to the set and from WAIT_GRANT to HIGH, together (R127, R109). -/
def Rack.grantTo (c : Conditions) (h : HeaderId) (a : ArmId) (r : Rack) : Rack :=
  let r1 := r.modHeader h (fun x =>
    { x with waiting := x.waiting.filter (fun w => decide (w.arm ≠ a)), held := insertArm a x.held })
  if (r1.arm a).state = .waitGrant then r1.setState c a .high else r1

/-- The arbiter grants head after head until the list is empty or the set has reached the capacity, and tells which (R127). The
first argument bounds the grants by the length of the list. -/
def grantHeads (c : Conditions) (h : HeaderId) : Nat → Rack → Rack × List ArmId
  | 0, r => (r, [])
  | n + 1, r =>
    match (r.header h).waiting with
    | [] => (r, [])
    | w :: _ =>
      if (r.header h).held.length < (r.header h).capacity then
        let next := grantHeads c h n (r.grantTo c h w.arm)
        (next.1, w.arm :: next.2)
      else (r, [])

/-- The grant test of a header (R127), with the arms it granted in order. -/
def grantTest (c : Conditions) (h : HeaderId) (r : Rack) : Rack × List ArmId :=
  grantHeads c h (r.header h).waiting.length r

/-- An arm that has left HIGH gives its grant back, and the arbiter makes its grant test (R128). -/
def Rack.releaseGrant (c : Conditions) (a : ArmId) (r : Rack) : Rack :=
  match r.headerOf a with
  | some h =>
    (grantTest c h (r.modHeader h (fun x => { x with held := x.held.filter (fun b => decide (b ≠ a)) }))).1
  | none => r

/-- An arm that has left WAIT_GRANT without a grant is withdrawn from its header's list, with no grant test (R129). -/
def Rack.withdraw (a : ArmId) (r : Rack) : Rack :=
  match r.headerOf a with
  | some h => r.modHeader h (fun x => { x with waiting := x.waiting.filter (fun w => decide (w.arm ≠ a)) })
  | none => r

/-- A joiner stands behind every entry of equal or higher priority and before every entry of lower (R126). -/
def insertWaiter (w : Waiter) : List Waiter → List Waiter
  | [] => [w]
  | v :: rest => if w.priority ≤ v.priority then v :: insertWaiter w rest else w :: v :: rest

/-- A joining position later than that of every entry standing; a list that empties carries none forward (R125). -/
def joinPosition (ws : List Waiter) : Nat := 1 + ws.foldl (fun n w => max n w.position) 0

/-- The priority of the order whose line an arm is running, as booked (R126). -/
def Rack.priorityOf (r : Rack) (a : ArmId) : Nat :=
  (((r.arm a).current.bind (fun e => r.order? e.order)).map (fun o => o.priority)).getD 0

/-- An arm enters WAIT_GRANT and joins its header's waiting list, and the arbiter tests for a grant (R126, R127). -/
def Rack.joinWaiting (c : Conditions) (a : ArmId) (r : Rack) : Rack :=
  match r.headerOf a with
  | some h =>
    (grantTest c h ((r.setState c a .waitGrant).modHeader h (fun x =>
      { x with waiting := insertWaiter { arm := a, priority := r.priorityOf a, position := joinPosition x.waiting }
                x.waiting }))).1
  | none => r

/-- What the arbiter does when an arm has left a state: a release from HIGH, a withdrawal from WAIT_GRANT (R109). -/
def Rack.afterLeaving (c : Conditions) (a : ArmId) (old : ArmState) (r : Rack) : Rack :=
  if old = .high then r.releaseGrant c a
  else if old = .waitGrant then r.withdraw a
  else r

/-! ### Volume thresholds (section 6.6), in µL -/

/-- The taper point: preset less taper; it may be negative. -/
def taperPoint (k : ArmConfig) (l : Line) : Int := (l.preset : Int) * 1000000 - (k.taper : Int) * 100000

/-- The close point: preset less closing allowance. -/
def closePoint (x : Arm) (l : Line) : Int := (l.preset : Int) * 1000000 - ((x.allowance.getD 0 : Nat) : Int) * 100000

/-- V is at or above the close point of the arm's line. -/
def atClosePoint (x : Arm) (l : Line) : Bool := decide (closePoint x l ≤ l.standard)

/-- V is at or above the taper point of the arm's line. -/
def atTaperPoint (k : ArmConfig) (l : Line) : Bool := decide (taperPoint k l ≤ l.standard)

/-! ### Entry to CLOSING (R113) -/

/-- An arm enters CLOSING with an intent: no-flow timer stopped, settle timer started, quiet cleared; its grant is released or
it is withdrawn (R113). -/
def Rack.enterClosing (c : Conditions) (a : ArmId) (intent : Intent) (r : Rack) : Rack :=
  ((r.setState c a .closing).modArm a (fun x =>
    { x with intent := some intent, noFlowTimer := none, settleTimer := some c.stamp, quiet := false })).afterLeaving
      c a (r.arm a).state

/-! ### Suspension causes (section 6.8) -/

/-- A cause stands in the set once; ADDITIVE_STOCK once for each additive (R112). -/
def sameCause : Cause → Cause → Bool
  | .additiveStock x _, .additiveStock y _ => decide (x = y)
  | x, y => decide (x = y)

/-- A cause joins a set behind the primary cause, once (R112). -/
def joinCause (cause : Cause) (cs : List Cause) : List Cause :=
  if cs.any (sameCause cause) then cs else cs ++ [cause]

/-- When PROBE is raised, probe refreshed is cleared (R111). -/
def refreshedAfter (cause : Cause) (flag : Bool) : Bool := if cause = .probe then false else flag

/-- A cause reaches an arm controller: it begins a suspension in a flow state, joins the set of a suspending close, gives
PERMISSIVE_LOST in any other close when it is PERMISSIVE, leaves no mark on the line there when it is another, PROBE clearing probe
refreshed all the same, and is not recorded elsewhere (R12, R111, R112, R157, R159, R161). -/
def Rack.raiseCause (c : Conditions) (a : ArmId) (cause : Cause) (r : Rack) : Rack :=
  if (r.arm a).state.isFlow then
    (r.modArm a (fun x => { x with causes := [cause], probeRefreshed := refreshedAfter cause x.probeRefreshed })).enterClosing
      c a .suspend
  else if (r.arm a).state = .closing then
    if (r.arm a).intent = some .suspend then
      r.modArm a (fun x =>
        { x with causes := joinCause cause x.causes, probeRefreshed := refreshedAfter cause x.probeRefreshed })
    else if cause = .permissive then
      r.modCurrentLine a (fun l => { l with flags := { l.flags with permissiveLost := true } })
    else r.modArm a (fun x => { x with probeRefreshed := refreshedAfter cause x.probeRefreshed })
  else r

/-! ### The queue (section 6.3) -/

/-- The entry with the lowest compartment address. -/
def lowestAddr : List QueueEntry → Option QueueEntry
  | [] => none
  | e :: rest =>
    match lowestAddr rest with
    | some f => if f.addr < e.addr then some f else some e
    | none => some e

/-- The entry of the earliest joining. -/
def earliestJoined : List QueueEntry → Option QueueEntry
  | [] => none
  | e :: rest =>
    match earliestJoined rest with
    | some f => if f.position < e.position then some f else some e
    | none => some e

/-- The head of a queue (R103). -/
def Arm.head (x : Arm) : Option QueueEntry :=
  match x.config with
  | some k =>
    match k.mode with
    | .sequence => lowestAddr x.queue
    | .fifo => earliestJoined x.queue
  | none => earliestJoined x.queue

/-- An arm enters IDLE, and ALARM at once when its unassigned-flow count stands at 20 steps or more (R22). -/
def Rack.enterIdle (c : Conditions) (a : ArmId) (r : Rack) : Rack :=
  let r1 := (r.modArm a (fun x => { x with current := none })).setState c a .idle
  if 20 ≤ (r1.channel a).unassigned then
    (r1.modArm a (fun x => { x with returnState := some .idle })).setState c a .alarm
  else r1

/-- An arm takes the head of its queue and is READY, or has none and becomes IDLE (R103). -/
def Rack.takeHead (c : Conditions) (a : ArmId) (r : Rack) : Rack :=
  match (r.arm a).head with
  | some e => ((r.modArm a (fun x => { x with current := some e })).setState c a .ready).callArm a
  | none => r.enterIdle c a

/-- An entry leaves an arm's queue. -/
def Arm.dropEntry (x : Arm) (order line : Nat) : Arm :=
  { x with queue := x.queue.filter (fun e => !(decide (e.order = order) && decide (e.line = line))) }

/-- An entry of a QUEUED line leaves its arm's queue; a READY arm that loses its current line takes the next head (R103, R117). -/
def Rack.dropQueued (c : Conditions) (a : ArmId) (order line : Nat) (r : Rack) : Rack :=
  let r1 := r.modArm a (fun x => x.dropEntry order line)
  match (r.arm a).current with
  | some e =>
    if (r.arm a).state = .ready ∧ e.order = order ∧ e.line = line then r1.takeHead c a else r1
  | none => r1

end Sys2Proof.Machine
end

