-- ==== Sys2Proof/Machine/LineEnd.lean ====
section
/-! DEFINITION. The ending of a line and of an order: rounded figures, settlement, additive release, last group, completion, note
number, bay release, return to BOOKED, and the stops that bring endings about (R76, R95 to R98, R116, R117). -/

namespace Sys2Proof.Machine

/-! ### The line record at its end -/

/-- A line's average temperature in 0.1 °C; none when no step reached it (R17). -/
def Line.averageTemperature (l : Line) : Option Int :=
  if l.gross = 0 then none else some (roundDiv l.weight (l.gross * 10))

/-- A dose entry falls short at the line's end (R153): a dose above 0, at least ten strokes' worth of product, and less than
95 % of target dispensed. -/
def DoseRecord.short (strokeOf : SlotId → Option Nat) (litres : Nat) (d : DoseRecord) : Bool :=
  match d.slot.bind strokeOf with
  | some s =>
    decide (0 < d.dose) && decide (100 * s ≤ litres * d.dose) &&
      decide (d.dispensed * 100 < doseTarget d.dose litres * 95)
  | none => false

/-- A line becomes final: residue discarded (R15), litres and average fixed (R17, R18), targets taken and UNDER_DOSE tested
(R153), stop cause recorded (R76), remaining additive reservations 0 (R154). -/
def Line.finish (l : Line) (final : LineState) (cause : Option StopCause) (strokeOf : SlotId → Option Nat) : Line :=
  let litres := roundLitres l.gross
  { l with
    state := final
    stopCause := cause
    residue := 0
    grossLitres := some litres
    standardLitres := some (roundLitres l.standard)
    average := l.averageTemperature
    doses := l.doses.map (fun d => { d with target := some (doseTarget d.dose litres), remaining := 0 })
    flags := { l.flags with
      underDose := l.flags.underDose || (decide (final ≠ .cancelled) && l.doses.any (DoseRecord.short strokeOf litres)) } }

/-! ### The owners that act on an ending (R76) -/

/-- Settlement: reserved falls by the preset, balance by the standard litres, saturating (R65). -/
def Account.settle (preset litres : Nat) (x : Account) : Account :=
  { x with reserved := x.reserved - preset, balance := max (-999999999) (x.balance - litres) }

/-- The additive's reserved falls by the line's remaining reservation of each dose entry (R154). -/
def releaseAdditives : List DoseRecord → Rack → Rack
  | [], r => r
  | d :: rest, r =>
    releaseAdditives rest (r.modAdditive d.additive (fun x => { x with reserved := x.reserved - d.remaining }))

/-- A compartment of a unit takes a last group. -/
def VehicleUnit.setLast (k : Nat) (g : Option Group) (u : VehicleUnit) : VehicleUnit :=
  { u with compartments := u.compartments.modify (k - 1) (fun x => { x with lastGroup := g }) }

/-- The compartment a line's address resolves to takes the line's product group when the line passed at least 1 L gross (R58). -/
def Rack.updateLastGroup (o : Order) (l : Line) (r : Rack) : Rack :=
  if 1 ≤ roundLitres l.gross then
    match resolveAddr o.unit1 o.unit2 l.addr with
    | some (u, k) => r.modUnit u (fun v => v.setLast k (some l.group))
    | none => r
  else r

/-- A line becomes final in the order table and its ending is handed to the account, the additives and the unit (R76). -/
def Rack.endLineRecord (order line : Nat) (final : LineState) (cause : Option StopCause) (r : Rack) : Rack :=
  match r.order? order, r.line? order line with
  | some o, some l =>
    let strokeOf := fun s => (l.arm.bind (fun a => r.slotConfig a s)).map (fun k => k.stroke)
    ((releaseAdditives l.doses (r.modLine order line (fun l => l.finish final cause strokeOf))).modAccount l.account
      (Account.settle l.preset (roundLitres l.standard))).updateLastGroup o l
  | _, _ => r

/-! ### Completion and bay release -/

/-- The number behind another: 999,999 advances to 1 (R167). -/
def advanceNote (n : Nat) : Nat := if 999999 ≤ n then 1 else n + 1

/-- The first number behind the counter that no order in the table holds; the first argument bounds the advances (R167). -/
def freeNote (taken : List Nat) : Nat → Nat → Nat
  | 0, n => advanceNote n
  | fuel + 1, n => if advanceNote n ∈ taken then freeNote taken fuel (advanceNote n) else advanceNote n

/-- The note numbers held by orders in the table. -/
def Rack.heldNotes (r : Rack) : List Nat := r.orders.filterMap (fun o => o.note)

/-- A bay becomes FREE: it holds no permit and no order, its reason empties, it calls for a SHOW, and the permit's admitted bay
is cleared (R97, R189). -/
def Rack.releaseBay (b : BayId) (permit : Nat) (r : Rack) : Rack :=
  ((r.modBay b (fun _ => { admitted := none, reason := none })).callBay b).modPermit permit
    (fun p => { p with admittedBay := none })

/-- The committed order of a unit is cleared (R54). -/
def Rack.uncommit (u : Nat) (r : Rack) : Rack := r.modUnit u (fun v => { v with committed := none })

/-- The committed order of each unit an order names is cleared (R54, R96). -/
def Rack.uncommitUnits (o : Order) (r : Rack) : Rack :=
  match o.unit2 with
  | some u => (r.uncommit o.unit1).uncommit u
  | none => r.uncommit o.unit1

/-- The bay of an ADMITTED order is released: the bay of its last admission (R88, R97). -/
def Rack.releaseBayOf (o : Order) (r : Rack) : Rack :=
  if o.state = .admitted then
    match o.lastBay with
    | some b => r.releaseBay b o.permit
    | none => r
  else r

/-- An order becomes COMPLETE rather than VOID when a line delivered 1 L or more standard (R95). -/
def Order.delivered (o : Order) : Bool := o.lines.any (fun l => decide (1 ≤ l.standardLitres.getD 0))

/-- Completion (R96): completion day, committed orders cleared, bay released, and for COMPLETE a note number and the tail of the
waiting-notes list (R167, R168). -/
def Rack.completeOrder (c : Conditions) (o : Order) (r : Rack) : Rack :=
  let r1 := (r.uncommitUnits o).releaseBayOf o
  if o.delivered then
    let n := freeNote r1.heldNotes r1.orders.length r1.noteCounter
    { r1.modOrder o.number (fun x => { x with state := .complete, day := some c.day, note := some n }) with
      noteCounter := n, notes := r1.notes ++ [o.number] }
  else r1.modOrder o.number (fun x => { x with state := .void, day := some c.day })

/-- After a restart an ADMITTED order with no ACTIVE line and some PENDING line returns to BOOKED, and its bay is released (R98). It is
reached behind the arm whose line ended, so the bay joins the send list behind that arm (the model's choice, assumption 27). -/
def Rack.returnToBooked (o : Order) (r : Rack) : Rack :=
  (r.releaseBayOf o).modOrder o.number (fun x => { x with state := .booked })

/-- The tests an order meets when one of its lines has become final: completion when every line is final (R95), the return to
BOOKED of an ADMITTED order that holds a PENDING line and no ACTIVE one (R98). -/
def Rack.testOrder (c : Conditions) (order : Nat) (r : Rack) : Rack :=
  match r.order? order with
  | some o =>
    if o.state = .booked ∨ o.state = .admitted then
      if o.lines.all (fun l => l.state.isFinal) then r.completeOrder c o
      else if o.state = .admitted ∧ o.lines.any (fun l => decide (l.state = .pending)) ∧
          o.lines.all (fun l => decide (l.state ≠ .active)) then r.returnToBooked o
      else r
    else r
  | none => r

/-! ### The end of a line at its arm (R117) -/

/-- What an injector channel gives up when its line is final (R144, R154). -/
def Injector.clear (i : Injector) : Injector := { i with served := none, owed := 0, misses := 0 }

/-- The current line becomes final and its entry leaves the queue; the arm takes its next head or becomes IDLE (R117). The
order's own test is left to the caller. -/
def Rack.endCurrent (c : Conditions) (a : ArmId) (final : LineState) (cause : Option StopCause) (r : Rack) : Rack :=
  match (r.arm a).current with
  | some e =>
    (((r.endLineRecord e.order e.line final cause).modArm a (fun x =>
        { x.dropEntry e.order e.line with
          startMark := none, pendingStop := none, causes := [], restartPending := false, probeRefreshed := false
          intent := none, settleTimer := none, quiet := false })).modInjectors a Injector.clear).takeHead c a
  | none => r

/-- The current line becomes final and its order is tested (R117, R95, R98), in this order: a bay that the test releases joins the send
list behind the arm (the model's choice, assumption 27). -/
def Rack.endLine (c : Conditions) (a : ArmId) (final : LineState) (cause : Option StopCause) (r : Rack) : Rack :=
  match (r.arm a).current with
  | some e => (r.endCurrent c a final cause).testOrder c e.order
  | none => r

/-! ### Stops (R116) -/

/-- A stop reaches an arm controller (R116): a flow state enters a close with intent STOP, a suspending close turns to STOP and
discards its causes and restart pending, a SUSPENDED line is STOPPED at once, every other close and state is left. -/
def Rack.stopArm (c : Conditions) (a : ArmId) (cause : StopCause) (r : Rack) : Rack :=
  if (r.arm a).state.isFlow then
    (r.modArm a (fun x => { x with pendingStop := some cause })).enterClosing c a .stop
  else if (r.arm a).state = .closing ∧ (r.arm a).intent = some .suspend then
    (r.modArm a (fun x =>
      { x with intent := some .stop, pendingStop := some cause, causes := [], restartPending := false })).callArm a
  else if (r.arm a).state = .suspended then r.endLine c a .stopped (some cause)
  else r

/-- What a cancel or a permit suspension does to one line that has not ended (R46, R93): PENDING (where the cause reaches it) and
QUEUED are CANCELLED at once, ACTIVE and SUSPENDED go to the line's arm as a stop. -/
def Rack.stopLine (c : Conditions) (order line : Nat) (cause : StopCause) (pendingToo : Bool) (r : Rack) : Rack :=
  match r.line? order line with
  | some l =>
    match l.state with
    | .pending =>
      if pendingToo then (r.endLineRecord order line .cancelled (some cause)).testOrder c order else r
    | .queued =>
      match l.arm with
      | some a =>
        ((r.endLineRecord order line .cancelled (some cause)).dropQueued c a order line).testOrder c order
      | none => r
    | .active =>
      match l.arm with
      | some a => r.stopArm c a cause
      | none => r
    | .suspended =>
      match l.arm with
      | some a => r.stopArm c a cause
      | none => r
    | .full => r
    | .stopped => r
    | .cancelled => r
    | .interrupted => r
  | none => r

/-- The lines of an order taken one by one, in the order of their numbers (the model's choice, assumption 21). -/
def stopLines (c : Conditions) (order : Nat) (cause : StopCause) (pendingToo : Bool) : List Nat → Rack → Rack
  | [], r => r
  | n :: rest, r => stopLines c order cause pendingToo rest (r.stopLine c order n cause pendingToo)

/-! ### The settle (R114, R115) -/

/-- Closing-allowance learning at a FULL line (R119): the allowance moves by the overrun, and OVER_PRESET is flagged. -/
def Rack.learn (a : ArmId) (r : Rack) : Rack :=
  match r.currentLine a with
  | some l =>
    let e : Int := (roundLitres l.standard : Nat) - (l.preset : Int)
    (r.modArm a (fun x => { x with allowance := x.allowance.map (fun v => learnedAllowance v e) })).modCurrentLine a
      (fun l => { l with flags := { l.flags with
        overPreset := l.flags.overPreset || (decide (1 ≤ e) && decide (((l.preset * 5 / 1000 : Nat) : Int) < e)) } })
  | none => r

/-- The close settles and the arm carries out its intent (R115). -/
def Rack.settle (c : Conditions) (a : ArmId) (r : Rack) : Rack :=
  match (r.arm a).intent with
  | some .finish => (r.learn a).endLine c a .full none
  | some .stop => r.endLine c a .stopped (r.arm a).pendingStop
  | some .interrupt => r.endLine c a .interrupted (some .restart)
  | some .suspend =>
    if (r.arm a).restartPending then r.endLine c a .interrupted (some .restart)
    else
      ((r.modCurrentLine a (fun l => { l with state := .suspended })).modArm a (fun x =>
        { x with intent := none, settleTimer := none, quiet := false })).setState c a .suspended
  | none => r

/-- No stroke of the arm's injector channels is in flight. -/
def Rack.noStroke (r : Rack) (a : ArmId) : Bool := (r.injectors[a]).all (fun i => decide (i.phase = .none))

/-- The close settles at the first moment at which the arm is quiet and no stroke is in flight (R114). -/
def Rack.settleIfStill (c : Conditions) (a : ArmId) (r : Rack) : Rack :=
  if (r.arm a).state = .closing ∧ (r.arm a).quiet = true ∧ r.noStroke a = true then r.settle c a else r

end Sys2Proof.Machine
end

