-- ==== Sys2Proof/Machine/Dosing.lean ====
section
/-! DEFINITION. Additive dosing: accrual of owed counts, the start of a stroke, its outcomes (sections 8.3 to 8.5). -/

namespace Sys2Proof.Machine

/-- The upper end of an owed count and of dispensed (section 8.3, R149). -/
def owedMax : Nat := 999999999

/-- A dose entry of an arm's current line, by its place in the list, changed. -/
def Rack.modDose (r : Rack) (a : ArmId) (k : Nat) (f : DoseRecord → DoseRecord) : Rack :=
  r.modCurrentLine a (fun l => { l with doses := l.doses.modify k f })

/-- The dose entry an injector channel serves (R144). -/
def Rack.servedDose (r : Rack) (a : ArmId) (s : SlotId) : Option DoseRecord :=
  (r.injector a s).served.bind (fun k => (r.currentLine a).bind (fun l => l.doses[k]?))

/-- The line gains DOSE_LIMITED. -/
def Line.flagDoseLimited (l : Line) : Line := { l with flags := { l.flags with doseLimited := true } }

/-- The line gains UNDER_DOSE. -/
def Line.flagUnderDose (l : Line) : Line := { l with flags := { l.flags with underDose := true } }

/-- A channel's owed count rises, saturating; where it then stands at four strokes or more the line gains DOSE_LIMITED (R145). -/
def Rack.addOwed (a : ArmId) (s : SlotId) (stroke amount : Nat) (r : Rack) : Rack :=
  let owed := satAdd owedMax (r.injector a s).owed amount
  let r1 := r.modInjector a s (fun i => { i with owed := owed })
  if (r.injector a s).owed < owed ∧ 400 * stroke ≤ owed then r1.modCurrentLine a Line.flagDoseLimited else r1

/-- Stock is short for a stroke that is due: the cause ADDITIVE_STOCK in a flow state or a suspending close, UNDER_DOSE in any
other close (R146). -/
def Rack.shortStock (c : Conditions) (a : ArmId) (s : SlotId) (x : AdditiveId) (r : Rack) : Rack :=
  if (r.arm a).state.isFlow then r.raiseCause c a (.additiveStock x s)
  else if (r.arm a).state = .closing then
    if (r.arm a).intent = some .suspend then r.raiseCause c a (.additiveStock x s)
    else r.modCurrentLine a Line.flagUnderDose
  else r

/-- A stroke starts: the table holds its volume, the owed count falls, the solenoid opens and the rise timer starts (R146, R148). -/
def Rack.startStroke (c : Conditions) (a : ArmId) (s : SlotId) (k : SlotConfig) (r : Rack) : Rack :=
  (r.modAdditive k.additive (fun x => { x with inFlight := x.inFlight + k.stroke })).modInjector a s (fun i =>
    { i with owed := i.owed - 100 * k.stroke, phase := .waitRise, opened := some c.stamp, riseTime := none })

/-- A stroke is to start on the channel but for stock: it serves an entry, a stroke is due, none is in flight, and the arm is in a
flow state or in CLOSING and not quiet (R146). -/
def Rack.strokeDue (r : Rack) (a : ArmId) (s : SlotId) (k : SlotConfig) : Bool :=
  (r.servedDose a s).isSome && decide (100 * k.stroke ≤ (r.injector a s).owed) && decide ((r.injector a s).phase = .none) &&
    (r.arm a).state.isRunning && !(r.arm a).quiet

/-- The stroke test of a channel (R146). -/
def Rack.strokeTest (c : Conditions) (a : ArmId) (s : SlotId) (r : Rack) : Rack :=
  match r.slotConfig a s with
  | some k =>
    if r.strokeDue a s k then
      if (r.additive k.additive).inFlight + k.stroke ≤ (r.additive k.additive).stock then r.startStroke c a s k
      else r.shortStock c a s k.additive
    else r
  | none => r

/-- An assigned step reaches one injector channel: the entry's dose is owed, then the stroke test (R145, R146). -/
def Rack.doseStep (c : Conditions) (a : ArmId) (s : SlotId) (r : Rack) : Rack :=
  match r.slotConfig a s, r.servedDose a s with
  | some k, some d => (r.addOwed a s k.stroke d.dose).strokeTest c a s
  | _, _ => r

/-- The four channels of an arm in slot order (R145). -/
def overSlots (f : SlotId → Rack → Rack) (r : Rack) : Rack := f 3 (f 2 (f 1 (f 0 r)))

/-- The stroke is no longer in flight: the channel returns to NONE and its solenoid closes (R148). -/
def Rack.endStroke (a : ArmId) (s : SlotId) (r : Rack) : Rack :=
  r.modInjector a s (fun i => { i with phase := .none, opened := none, riseTime := none })

/-- How far a good stroke lowers a remaining reservation, and reserved with it (R149). -/
def DoseRecord.drawn (d : DoseRecord) (stroke : Nat) : Nat := min d.remaining stroke

/-- The effects of a GOOD outcome (R149): dispensed, stock, in flight, remaining reservation and reserved, consecutive misses. -/
def Rack.goodStroke (a : ArmId) (s : SlotId) (k : SlotConfig) (r : Rack) : Rack :=
  match (r.injector a s).served, r.servedDose a s with
  | some n, some d =>
    (((r.endStroke a s).modDose a n (fun d =>
        { d with dispensed := satAdd owedMax d.dispensed k.stroke, remaining := d.remaining - k.stroke })).modAdditive k.additive
        (fun x => { x with stock := x.stock - k.stroke, inFlight := x.inFlight - k.stroke
                           reserved := x.reserved - d.drawn k.stroke })).modInjector a s (fun i => { i with misses := 0 })
  | _, _ => r.endStroke a s

/-- The effects of a miss (R150): in flight, the owed count, the line's misses, the consecutive misses, and ADDITIVE at the miss
limit. -/
def Rack.missStroke (c : Conditions) (a : ArmId) (s : SlotId) (k : SlotConfig) (r : Rack) : Rack :=
  match (r.injector a s).served with
  | some n =>
    let r1 := ((((r.endStroke a s).modAdditive k.additive (fun x => { x with inFlight := x.inFlight - k.stroke })).addOwed
      a s k.stroke (100 * k.stroke)).modDose a n (fun d => { d with misses := satAdd 65535 d.misses 1 })).modInjector a s
        (fun i => { i with misses := satAdd 255 i.misses 1 })
    if k.missLimit ≤ (r1.injector a s).misses then r1.raiseCause c a .additive else r1
  | none => r.endStroke a s

/-- A stroke ends with its outcome; then comes the stroke test, and the close settles if the arm is still (R114, R146). The test is a part
of the same step, so the retry of a miss is in flight at its end: a rise taken after a rise timer's expiry counts for the retry where one
started, and is a change with no stroke in flight where none did (R148; the model's choice, assumption 29). -/
def Rack.strokeOutcome (c : Conditions) (a : ArmId) (s : SlotId) (good : Bool) (r : Rack) : Rack :=
  match r.slotConfig a s with
  | some k => ((if good then r.goodStroke a s k else r.missStroke c a s k).strokeTest c a s).settleIfStill c a
  | none => r

end Sys2Proof.Machine
end

