-- ==== Sys2Proof/Machine/Measure.lean ====
section
/-! DEFINITION. A step of 0.1 L, from the meter channel to the line, the totalisers, the arm and the injectors (R4, R9 to R21,
R108), and an arm's entry to LOW_START (R5, R12). -/

namespace Sys2Proof.Machine

/-- The temperature a channel holds, in 0.01 °C; free where it holds none (assumption 4). -/
def Channel.heldValue (x : Channel) : Int :=
  match x.temperature with
  | some t => t.value
  | none => Config.noTemperature

/-- The temperature used for a step: the held one clamped to −40.00 to +70.00 °C (R11). -/
def Channel.stepTemperature (x : Channel) : Int := clampInt (-4000) 7000 x.heldValue

/-- The held value lies outside the range a step uses (R11). -/
def Channel.clamped (x : Channel) : Bool := decide (x.heldValue < -4000) || decide (7000 < x.heldValue)

/-- What an assigned step forms: meter factor × CTL + residue (R14). -/
def stepProduct (factor : Nat) (ctlPpm : Int) (residue : Nat) : Nat := ((factor : Int) * ctlPpm + residue).toNat

/-- The CTL of a step: from the step's temperature and the β of the line's product in the bank in effect (R13). -/
def stepCtl (c : Conditions) (r : Rack) (a : ArmId) (l : Line) : Int :=
  ctl (effectiveBank c r a).beta[l.product] (r.channel a).stepTemperature

/-- A line gains an assigned step: gross (R9), standard and residue (R14), weight (R16), flags (R11). -/
def Line.addStep (l : Line) (x : Channel) (ctlPpm : Int) : Line :=
  { l with
    gross := l.gross + x.factor
    standard := l.standard + stepProduct x.factor ctlPpm l.residue / 1000000
    residue := stepProduct x.factor ctlPpm l.residue % 1000000
    weight := l.weight + x.stepTemperature * x.factor
    flags := { l.flags with
      tempClamped := l.flags.tempClamped || x.clamped
      probeHeld := l.flags.probeHeld || x.probeFault } }

/-- Both totalisers advance (R19, R20). -/
def Channel.advance (gross standard : Nat) (x : Channel) : Channel :=
  { x with grossTotal := wrapTotal (x.grossTotal + gross), standardTotal := wrapTotal (x.standardTotal + standard) }

/-- A line asks for no grant: low-only, V already at the taper point, or its header's capacity 0 at this step (R108, R130). -/
def Rack.staysLow (r : Rack) (k : ArmConfig) (l : Line) : Bool :=
  l.lowOnly || atTaperPoint k l || decide ((r.header k.header).capacity = 0)

/-- The tests of an assigned step in a flow state: close point first, then the test of the arm's state (R108). -/
def Rack.testThresholds (c : Conditions) (a : ArmId) (r : Rack) : Rack :=
  match (r.arm a).config, r.currentLine a with
  | some k, some l =>
    if atClosePoint (r.arm a) l then r.enterClosing c a .finish
    else
      match (r.arm a).state with
      | .lowStart =>
        if (r.arm a).startMark.getD 0 ≤ l.standard then
          if r.staysLow k l then r.setState c a .lowRun else r.joinWaiting c a
        else r
      | .waitGrant => if atTaperPoint k l then (r.setState c a .lowRun).afterLeaving c a .waitGrant else r
      | .high => if atTaperPoint k l then (r.setState c a .lowRun).afterLeaving c a .high else r
      | .lowRun => r
      | .outOfService => r
      | .idle => r
      | .ready => r
      | .closing => r
      | .suspended => r
      | .alarm => r
  | _, _ => r

/-- The arm controller receives an assigned step: in a flow state the no-flow timer restarts and the thresholds are tested (R108,
R110); in CLOSING the settle timer restarts and quiet is cleared (R113, R114). -/
def Rack.armStep (c : Conditions) (a : ArmId) (r : Rack) : Rack :=
  if (r.arm a).state.isFlow then (r.modArm a (fun x => { x with noFlowTimer := some c.stamp })).testThresholds c a
  else r.modArm a (fun x => { x with settleTimer := some c.stamp, quiet := false })

/-- An assigned step, handed to the line, the totalisers, the arm controller and the injector channels, in that order (R4). -/
def Rack.assignedStep (c : Conditions) (a : ArmId) (r : Rack) : Rack :=
  match r.currentLine a with
  | some l =>
    let ppm := stepCtl c r a l
    let gain := stepProduct (r.channel a).factor ppm l.residue / 1000000
    overSlots (fun s r => r.doseStep c a s)
      (((r.modCurrentLine a (fun l => l.addStep (r.channel a) ppm)).modChannel a
        (Channel.advance (r.channel a).factor gain)).armStep c a)
  | none => r

/-- An unassigned step: both totalisers advance by the held factor and the unassigned-flow count by 1; an arm that is IDLE or
OUT_OF_SERVICE enters ALARM at 20 steps (R19, R21, R22). -/
def Rack.unassignedStep (c : Conditions) (a : ArmId) (r : Rack) : Rack :=
  let r1 := r.modChannel a (fun x =>
    { x.advance x.factor x.factor with unassigned := satAdd 65535 x.unassigned 1 })
  if 20 ≤ (r1.channel a).unassigned then
    match (r.arm a).state with
    | .idle => (r1.modArm a (fun x => { x with returnState := some .idle })).setState c a .alarm
    | .outOfService => (r1.modArm a (fun x => { x with returnState := some .outOfService })).setState c a .alarm
    | .ready => r1
    | .lowStart => r1
    | .waitGrant => r1
    | .high => r1
    | .lowRun => r1
    | .closing => r1
    | .suspended => r1
    | .alarm => r1
  else r1

/-- A step belongs to the line in a flow state and in CLOSING, and to no line elsewhere (R4). -/
def Rack.step (c : Conditions) (a : ArmId) (r : Rack) : Rack :=
  if (r.arm a).state.isRunning then r.assignedStep c a else r.unassignedStep c a

/-- A pulse (R3): the window count rises; at a calibrated meter the pulse count rises, and at K/10 a step is taken and the count
returns to 0. -/
def Rack.pulse (c : Conditions) (a : ArmId) (r : Rack) : Rack :=
  let k := (effectiveBank c r a).kFactor a
  let r1 := r.modChannel a (fun x => { x with window := satAdd 9999999 x.window 1 })
  if k = 0 then r1
  else if k / 10 ≤ (r1.channel a).pulses + 1 then (r1.modChannel a (fun x => { x with pulses := 0 })).step c a
  else r1.modChannel a (fun x => { x with pulses := x.pulses + 1 })

/-- The held temperature is more than 30,000 ms old (R12). -/
def staleNow (c : Conditions) (x : Channel) : Bool :=
  match x.temperature with
  | some t => decide (30000 < c.age t.arrived)
  | none => false

/-- The channel restarts its measurement at an entry to LOW_START (R5). -/
def Channel.restart (c : Conditions) (factor : Nat) (x : Channel) : Channel :=
  { x with pulses := 0, window := 0, windowStart := c.stamp, rate := 0, factor := factor }

/-- An arm enters LOW_START (R5, R105, R106): the channel restarts, the start mark is V plus the low-flow start volume, the no-flow
timer starts; a held temperature more than 30,000 ms old raises PROBE at once (R12). -/
def Rack.enterLowStart (c : Conditions) (a : ArmId) (k : ArmConfig) (v : Nat) (r : Rack) : Rack :=
  let r1 := ((r.modChannel a (Channel.restart c ((effectiveBank c r a).factorAt a 0))).setState c a .lowStart).modArm a
    (fun x => { x with startMark := some (v + k.lowStart * 100000), noFlowTimer := some c.stamp })
  if staleNow c (r1.channel a) then r1.raiseCause c a .probe else r1

end Sys2Proof.Machine
end

