-- ==== Sys2Proof/Machine/Loading.lean ====
section
/-! DEFINITION. The driver's side of an arm: START, resumption, STOP (section 6.5); the passages of a permissive, of the rack mode and
of a restart to the arms (R120, R157, R161); card admission (R85 to R88). -/

namespace Sys2Proof.Machine

/-- A step of the part that moves the rack: the rack changes under the conditions as they stand, and every idle panel line begins
its next SHOW (R188). -/
def State.moveRack (s : State) (f : Conditions → Rack → Rack) : State := { s with rack := (f s.cond s.rack).pump }

/-! ### Answers to START and STOP (R189) -/

/-- An arm's answer on the panel: its reason is set and it calls for a SHOW (R188, R189). -/
def Rack.answerArm (a : ArmId) (reason : Option PanelReason) (r : Rack) : Rack :=
  (r.modArm a (fun x => { x with reason := reason })).callArm a

/-- A bay's answer on the panel: its reason is set and it calls for a SHOW (R188, R189). -/
def Rack.answerBay (b : BayId) (reason : Option PanelReason) (r : Rack) : Rack :=
  (r.modBay b (fun x => { x with reason := reason })).callBay b

/-! ### START (R105 to R107) -/

/-- The place of the dose entry a slot serves in a line: the entry whose additive result names the slot (R144). -/
def servedPlace (l : Line) (s : SlotId) : Option Nat := l.doses.findIdx? (fun d => decide (d.slot = some s))

/-- An injector channel at a line's first start (R105, R144). -/
def Injector.begin (i : Injector) (served : Option Nat) : Injector := { i with served := served, owed := 0, misses := 0 }

/-- The channels of an arm begin a line. -/
def Rack.beginInjectors (a : ArmId) (l : Line) (r : Rack) : Rack :=
  overSlots (fun s r => r.modInjector a s (fun i => i.begin (servedPlace l s))) r

/-- A line first starts: it takes the active bank and the calibration count, its accumulators become 0, it becomes ACTIVE (R5,
R34, R105). -/
def Line.firstStart (c : Conditions) (l : Line) : Line :=
  { l with state := .active, bank := some c.cal.active, calCount := some c.cal.count, gross := 0, standard := 0, residue := 0
           weight := 0 }

/-- Why a START at a READY arm is refused (R105). -/
def startRefusal (c : Conditions) (r : Rack) (a : ArmId) : Option PanelReason :=
  if c.permitted (bayOf a) = false then some .permissive
  else if c.mode = .halted then some .halted
  else if (r.channel a).temperature = none then some .noTemperature
  else none

/-- The first start of the head of a READY arm (R105). -/
def Rack.firstStart (c : Conditions) (a : ArmId) (r : Rack) : Rack :=
  match (r.arm a).config, r.currentLine a with
  | some k, some l =>
    (((r.modCurrentLine a (Line.firstStart c)).modArm a (fun x => { x with causes := [], probeRefreshed := false })).beginInjectors
      a l).enterLowStart c a k 0
  | _, _ => r

/-- A suspension cause that R106 tests by the additive's stock still holds the resumption back. -/
def Rack.stockShort (r : Rack) (a : ArmId) (cause : Cause) : Bool :=
  match cause with
  | .additiveStock x s => decide ((r.additive x).stock < ((r.slotConfig a s).map (fun k => k.stroke)).getD 0)
  | .permissive => false
  | .halt => false
  | .noFlow => false
  | .probe => false
  | .additive => false

/-- Why a START at a SUSPENDED arm is refused (R106). -/
def resumeRefusal (c : Conditions) (r : Rack) (a : ArmId) : Option PanelReason :=
  if c.permitted (bayOf a) = false then some .permissive
  else if c.mode = .halted then some .halted
  else if Cause.probe ∈ (r.arm a).causes ∧ (r.arm a).probeRefreshed = false then some .probe
  else if (r.arm a).causes.any (r.stockShort a) then some .additiveStock
  else none

/-- The resumption of a SUSPENDED line (R106): to LOW_START below the close point, to CLOSING with intent FINISH at or above it, and
then the stroke tests of R146. A PROBE that a stale temperature raises at the entry comes before the stroke tests, and the channels
are tested in slot order (the model's choice, assumption 25). -/
def Rack.resume (c : Conditions) (a : ArmId) (r : Rack) : Rack :=
  match (r.arm a).config, r.currentLine a with
  | some k, some l =>
    let r1 := ((r.modCurrentLine a (fun l => { l with state := .active })).modArm a (fun x =>
      { x with causes := [], probeRefreshed := false })).modInjectors a (fun i => { i with misses := 0 })
    overSlots (fun s r => r.strokeTest c a s)
      (if atClosePoint (r.arm a) l then r1.enterClosing c a .finish else r1.enterLowStart c a k l.standard)
  | _, _ => r

/-- A START reaches an arm of the panel's own bay (R105 to R107). -/
def Rack.startArm (c : Conditions) (a : ArmId) (r : Rack) : Rack :=
  match (r.arm a).state with
  | .ready =>
    match startRefusal c r a with
    | some reason => r.answerArm a (some reason)
    | none => (r.firstStart c a).callArm a
  | .suspended =>
    match resumeRefusal c r a with
    | some reason => r.answerArm a (some reason)
    | none => (r.resume c a).callArm a
  | .lowStart => r.answerArm a (some .running)
  | .waitGrant => r.answerArm a (some .running)
  | .high => r.answerArm a (some .running)
  | .lowRun => r.answerArm a (some .running)
  | .closing => r.answerArm a (some .running)
  | .outOfService => r.answerArm a (some .notReady)
  | .idle => r.answerArm a (some .notReady)
  | .alarm => r.answerArm a (some .notReady)

/-- A STOP reaches an arm of the panel's own bay: a stop with cause PANEL, answered with no reason (R107, R116, R189). -/
def Rack.stopFromPanel (c : Conditions) (a : ArmId) (r : Rack) : Rack :=
  (r.stopArm c a .panel).answerArm a none

/-! ### Causes and restarts that reach several arms -/

/-- A cause reaches arms one after the other, in the order given. -/
def raiseCauses (c : Conditions) (cause : Cause) : List ArmId → Rack → Rack
  | [], r => r
  | a :: rest, r => raiseCauses c cause rest (r.raiseCause c a cause)

/-- A QUEUED line returns to PENDING: its assigned arm and slots are cleared (R98). -/
def Line.backToPending (l : Line) : Line :=
  { l with state := .pending, arm := none, doses := l.doses.map (fun d => { d with slot := none }) }

/-- The lines of queue entries return to PENDING. -/
def returnLines : List QueueEntry → Rack → Rack
  | [], r => r
  | e :: rest, r => returnLines rest (r.modLine e.order e.line Line.backToPending)

/-- An entry is not the one an arm is running. -/
def Arm.isBehind (x : Arm) (e : QueueEntry) : Bool := decide (some e ≠ x.current)

/-- The QUEUED entries behind an arm's running line leave its queue and their lines return to PENDING (R120). -/
def Rack.returnBehind (a : ArmId) (r : Rack) : Rack :=
  (returnLines ((r.arm a).queue.filter (r.arm a).isBehind) r).modArm a (fun x =>
    { x with queue := x.queue.filter (fun e => !(x.isBehind e)) })

/-- Every entry of a READY arm leaves its queue, and the arm becomes IDLE (R120). -/
def Rack.returnAll (c : Conditions) (a : ArmId) (r : Rack) : Rack :=
  ((returnLines (r.arm a).queue r).modArm a (fun x => { x with queue := [] })).enterIdle c a

/-- What a rack restart does at one arm (R120). -/
def Rack.restartArm (c : Conditions) (a : ArmId) (r : Rack) : Rack :=
  match (r.arm a).state with
  | .outOfService => r
  | .alarm => r
  | .idle => r
  | .ready => r.returnAll c a
  | .lowStart => (r.returnBehind a).enterClosing c a .interrupt
  | .waitGrant => (r.returnBehind a).enterClosing c a .interrupt
  | .high => (r.returnBehind a).enterClosing c a .interrupt
  | .lowRun => (r.returnBehind a).enterClosing c a .interrupt
  | .closing =>
    (r.returnBehind a).modArm a (fun x =>
      { x with restartPending := x.restartPending || decide (x.intent = some .suspend) })
  | .suspended => (r.returnBehind a).endCurrent c a .interrupted (some .restart)

/-- A restart reaches arms one after the other. -/
def restartArms (c : Conditions) : List ArmId → Rack → Rack
  | [], r => r
  | a :: rest, r => restartArms c rest (r.restartArm c a)

/-- The order admitted at an arm's bay meets its tests (R95, R98). -/
def Rack.testOrderAt (c : Conditions) (a : ArmId) (r : Rack) : Rack :=
  match (r.bay (bayOf a)).admitted with
  | some x => r.testOrder c x.order
  | none => r

/-- The orders admitted at the bays of arms meet their tests. -/
def testOrdersAt (c : Conditions) : List ArmId → Rack → Rack
  | [], r => r
  | a :: rest, r => testOrdersAt c rest (r.testOrderAt c a)

/-- The arbiter takes a restart's departures together: every set and list is emptied, and no grant is made (R132). -/
def Rack.emptyHeaders (r : Rack) : Rack :=
  { r with headers := r.headers.map (fun h => { h with held := [], waiting := [] }) }

/-- A rack restart (R120, R98, R132), the arms and the orders taken in the order given. Every arm is acted on before any order is tested,
so a bay that an order's return to BOOKED or its completion releases joins its send list behind its arms (the model's choice,
assumption 27). -/
def Rack.restart (c : Conditions) (order : List ArmId) (r : Rack) : Rack :=
  testOrdersAt c order (restartArms c order r.emptyHeaders)

/-! ### Card admission (R85 to R88) -/

/-- The order a card looks for: the earliest BOOKED order of the permit for this bay or ANY (R85). -/
def Rack.orderForCard (r : Rack) (b : BayId) (permit : Nat) : Option Order :=
  r.orders.find? (fun o => decide (o.state = .booked) && decide (o.permit = permit) &&
    (decide (o.bay = none) || decide (o.bay = some b)))

/-- The PENDING lines of an order. -/
def Order.pendingLines (o : Order) : List Line := o.lines.filter (fun l => decide (l.state = .pending))

/-- The slot of an arm that carries an additive, if one does. -/
def ArmConfig.slotFor (k : ArmConfig) (x : AdditiveId) : Option SlotId :=
  ([0, 1, 2, 3] : List SlotId).find? (fun s => decide ((k.slots[s]).map (fun y => y.additive) = some x))

/-- An arm qualifies for a line: IDLE, on the line's header, a slot for every dose entry's additive (R87). -/
def Arm.qualifies (x : Arm) (l : Line) : Bool :=
  match x.config with
  | some k =>
    decide (x.state = .idle) && decide (k.header = l.header) && l.doses.all (fun d => (k.slotFor d.additive).isSome)
  | none => false

/-- The arm of a bay a line goes to: the one with fewer entries, the lower-numbered on equal counts (R87). -/
def chooseArm (r : Rack) (b : BayId) (l : Line) (lowerCount upperCount : Nat) : Option ArmId :=
  match (r.arm (lowerArm b)).qualifies l, (r.arm (upperArm b)).qualifies l with
  | true, true => if upperCount < lowerCount then some (upperArm b) else some (lowerArm b)
  | true, false => some (lowerArm b)
  | false, true => some (upperArm b)
  | false, false => none

/-- Check 8: the arm of each PENDING line in line-number order, or NO_ARM or QUEUE_FULL (R87). -/
def assignLines (r : Rack) (b : BayId) : List Line → Nat → Nat → Except PanelReason (List (Nat × ArmId))
  | [], _, _ => .ok []
  | l :: rest, m, n =>
    match chooseArm r b l m n with
    | none => .error .noArm
    | some a =>
      if 8 ≤ (if a = lowerArm b then m else n) then .error .queueFull
      else
        match assignLines r b rest (if a = lowerArm b then m + 1 else m) (if a = lowerArm b then n else n + 1) with
        | .error e => .error e
        | .ok xs => .ok ((l.number, a) :: xs)

/-- The assignment of an order's PENDING lines at a bay. -/
def assignment (r : Rack) (b : BayId) (o : Order) : Except PanelReason (List (Nat × ArmId)) :=
  assignLines r b o.pendingLines (r.arm (lowerArm b)).queue.length (r.arm (upperArm b)).queue.length

/-- A unit's certificate is out of date (R86, check 7). -/
def Rack.unitExpired (c : Conditions) (r : Rack) (u : Nat) : Bool :=
  match r.unit? u with
  | some v => decide (v.expiry < c.day)
  | none => true

/-- Checks 1 to 7 of card admission for the order a card found (R86). -/
def cardRefusal (c : Conditions) (r : Rack) (p : Permit) (o : Order) : Option PanelReason :=
  if p.suspended then some .permitSuspended
  else if p.expiry < c.day then some .permitExpired
  else if p.admittedBay ≠ none then some .bayBusy
  else if o.counted = false ∧ p.dailyLimit ≤ p.loadsToday then some .dailyLimit
  else if o.pendingLines.any (fun l => decide (p.level < l.hazard)) then some .level
  else if o.pendingLines.any (fun l => !(p.endorsements[l.group])) then some .endorsement
  else if r.unitExpired c o.unit1 ∨ (o.unit2.map (r.unitExpired c)).getD false then some .unitExpired
  else none

/-- The additive results of a line take the slots of the arm it is given (R88). -/
def DoseRecord.takeSlot (k : Option ArmConfig) (d : DoseRecord) : DoseRecord :=
  { d with slot := k.bind (fun k => k.slotFor d.additive) }

/-- A PENDING line becomes QUEUED at its arm (R88). -/
def Line.queueAt (a : ArmId) (k : Option ArmConfig) (l : Line) : Line :=
  { l with state := .queued, arm := some a, doses := l.doses.map (DoseRecord.takeSlot k) }

/-- An entry joins the tail of an arm's queue (R102). -/
def Arm.joinQueue (x : Arm) (order line addr : Nat) : Arm :=
  { x with queue := x.queue ++
      [{ order := order, line := line, addr := addr, position := 1 + x.queue.foldl (fun n e => max n e.position) 0 }] }

/-- The assigned lines of an order become QUEUED and join their arms' queues in line-number order (R88). -/
def queueLines (order : Nat) : List (Nat × ArmId) → Rack → Rack
  | [], r => r
  | (n, a) :: rest, r =>
    let addr := ((r.line? order n).map (fun l => l.addr)).getD 0
    queueLines order rest
      ((r.modLine order n (Line.queueAt a (r.arm a).config)).modArm a (fun x => x.joinQueue order n addr))

/-- An arm that received lines takes the head of its queue and is READY (R88, R103). -/
def Rack.readyIfGiven (c : Conditions) (xs : List (Nat × ArmId)) (a : ArmId) (r : Rack) : Rack :=
  if xs.any (fun x => decide (x.2 = a)) then r.takeHead c a else r

/-- Admission (R88): lines queued, order and bay ADMITTED, the permit's admitted bay set and its load counted once, the arms that
received lines READY. Of the subjects whose SHOWs it calls for, the bay joins the panel's send list first, then the lower-numbered arm,
then the higher (the model's choice, assumption 27). -/
def Rack.admitOrder (c : Conditions) (b : BayId) (p : Permit) (o : Order) (xs : List (Nat × ArmId)) (r : Rack) : Rack :=
  let r1 := queueLines o.number xs r
  let r2 := r1.modOrder o.number (fun x => { x with state := .admitted, lastBay := some b, counted := true })
  let r3 := (r2.modBay b (fun _ => { admitted := some { permit := p.number, order := o.number }, reason := none })).callBay b
  let r4 := r3.modPermit p.number (fun x =>
    { x with admittedBay := some b, loadsToday := if o.counted then x.loadsToday else satAdd 255 x.loadsToday 1 })
  (r4.readyIfGiven c xs (lowerArm b)).readyIfGiven c xs (upperArm b)

/-- A card at a bay (R85 to R88): BAY_BUSY at an ADMITTED bay, NO_ORDER, the first check that fails, or admission. -/
def Rack.cardAt (c : Conditions) (b : BayId) (permit : Nat) (r : Rack) : Rack :=
  if (r.bay b).admitted.isSome then r.answerBay b (some .bayBusy)
  else
    match r.orderForCard b permit with
    | none => r.answerBay b (some .noOrder)
    | some o =>
      match r.permit? permit with
      | none => r.answerBay b (some .permitSuspended)
      | some p =>
        match cardRefusal c r p o with
        | some reason => r.answerBay b (some reason)
        | none =>
          match assignment r b o with
          | .error reason => r.answerBay b (some reason)
          | .ok xs => r.admitOrder c b p o xs

end Sys2Proof.Machine
end

