-- ==== Sys2Proof/Machine/Operands.lean ====
section
/-! DEFINITION. The fields of a request: names, indexes, value forms and ranges, and the finding of the first field at fault. -/

namespace Sys2Proof.Machine

/-! ### Values (section 11.8) -/

/-- The value of a decimal digit. -/
def digitValue (c : Char) : Option Nat :=
  if '0' ≤ c ∧ c ≤ '9' then some (c.toNat - '0'.toNat) else none

/-- Decimal digits read on from a value. -/
def readDigits (acc : Nat) : Text → Option Nat
  | [] => some acc
  | c :: cs =>
    match digitValue c with
    | some d => readDigits (acc * 10 + d) cs
    | none => none

/-- A whole number: decimal digits, leading zeros accepted (section 11.8). -/
def readNat (t : Text) : Option Nat := if t.isEmpty then none else readDigits 0 t

/-- A signed number: a leading `-` when negative (section 11.8). A `-` before zeros reads as 0 (the model's choice, assumption 22). -/
def readInt (t : Text) : Option Int :=
  match t with
  | '-' :: rest => (readNat rest).map (fun n => -(n : Int))
  | t => (readNat t).map (fun n => (n : Int))

/-- A whole number in a range. -/
def readRange (lo hi : Nat) (t : Text) : Option Nat :=
  match readNat t with
  | some n => if lo ≤ n ∧ n ≤ hi then some n else none
  | none => none

/-- All of a list, or nothing. -/
def allSome {α β : Type} (f : α → Option β) : List α → Option (List β)
  | [] => some []
  | a :: as =>
    match f a, allSome f as with
    | some b, some bs => some (b :: bs)
    | _, _ => none

/-- A list of items separated by commas; an empty text is the list of none (section 11.8). -/
def readList {α : Type} (item : Text → Option α) (t : Text) : Option (List α) :=
  if t.isEmpty then some [] else allSome item (splitAtChar ',' t)

/-- A curve point: a rate and a meter factor joined by `/`, each in range (R28, section 11.8). -/
def readPoint (t : Text) : Option CurvePoint :=
  match splitAtChar '/' t with
  | [r, f] =>
    match readRange 0 6000 r, readRange 90000 110000 f with
    | some rate, some factor => some { rate := rate, factor := factor }
    | _, _ => none
  | _ => none

/-- Rates rise strictly (R28). -/
def risingRates : List CurvePoint → Bool
  | [] => true
  | [_] => true
  | p :: q :: rest => decide (p.rate < q.rate) && risingRates (q :: rest)

/-- A page's whole list of points: none, or 2 to 6 of strictly rising rate (R28). -/
def readPoints (t : Text) : Option (List CurvePoint) :=
  match readList readPoint t with
  | some ps => if (ps.length = 0 ∨ (2 ≤ ps.length ∧ ps.length ≤ 6)) ∧ risingRates ps then some ps else none
  | none => none

/-- A verdict word (R56). -/
def readVerdict (t : Text) : Option Verdict :=
  if t = txt "ALLOW" then some .allow
  else if t = txt "LOW_ONLY" then some .lowOnly
  else if t = txt "FORBID" then some .forbid
  else none

/-- A row of eight verdicts (R56). -/
def readVerdicts (t : Text) : Option (List Verdict) :=
  match readList readVerdict t with
  | some vs => if vs.length = 8 then some vs else none
  | none => none

/-! ### Forms -/

/-- The value forms the requests' fields take. -/
inductive ValueForm where
  | nat (lo hi : Nat)
  | signed (lo hi : Int)
  | kFactor
  | width
  | groups
  | lastGroup
  | bayOrAny
  | slotAdditive
  | word (words : List Text)
  | text
  | points
  | verdicts
  deriving DecidableEq, Repr

/-- A value read in its form; clean stands for CLEAN, ANY and NONE. -/
inductive FieldValue where
  | nat (n : Nat)
  | signed (i : Int)
  | groups (gs : List Nat)
  | clean
  | word (w : Text)
  | text (t : Text)
  | points (ps : List CurvePoint)
  | verdicts (vs : List Verdict)
  deriving DecidableEq, Repr

/-- A whole number in a range, or one word that stands for none. -/
def readNatOr (lo hi : Nat) (w : String) (t : Text) : Option FieldValue :=
  if t = txt w then some .clean else (readRange lo hi t).map .nat

/-- A value in its form and range, or nothing (R181). -/
def ValueForm.read (f : ValueForm) (t : Text) : Option FieldValue :=
  match f with
  | .nat lo hi => (readRange lo hi t).map .nat
  | .signed lo hi =>
    match readInt t with
    | some i => if lo ≤ i ∧ i ≤ hi then some (.signed i) else none
    | none => none
  | .kFactor =>
    match readNat t with
    | some k => if k = 0 ∨ (20 ≤ k ∧ k ≤ 9990 ∧ k % 10 = 0) then some (.nat k) else none
    | none => none
  | .width =>
    match readNat t with
    | some w => if w ∈ [0, 16, 32, 48, 64] then some (.nat w) else none
    | none => none
  | .groups => (readList (readRange 0 7) t).map .groups
  | .lastGroup => readNatOr 0 7 "CLEAN" t
  | .bayOrAny => readNatOr 1 4 "ANY" t
  | .slotAdditive => readNatOr 1 8 "NONE" t
  | .word ws => if t ∈ ws then some (.word t) else none
  | .text => some (.text t)
  | .points => (readPoints t).map .points
  | .verdicts => (readVerdicts t).map .verdicts

/-- The index a field name takes: none, a number in a range, or a last group 0 to 7 or CLEAN, read as 8. -/
inductive IndexForm where
  | none
  | range (lo hi : Nat)
  | lastGroup
  deriving DecidableEq, Repr

/-- An index in its form; a field without one counts as index 0. Leading zeros are accepted as in a value, so addr.01 is addr.1 (the
model's choice, assumption 22). -/
def IndexForm.read (f : IndexForm) (t : Option Text) : Option Nat :=
  match f, t with
  | .none, Option.none => some 0
  | .none, some _ => Option.none
  | .range _ _, Option.none => Option.none
  | .range lo hi, some t => readRange lo hi t
  | .lastGroup, Option.none => Option.none
  | .lastGroup, some t => if t = txt "CLEAN" then some 8 else readRange 0 7 t

/-- A field a request knows. -/
structure FieldForm where
  name : Text
  index : IndexForm
  value : ValueForm
  deriving DecidableEq, Repr

/-- A field as it stands in a frame (R181): its key is all before the first `=`, its name all before the key's first full
stop, its value all behind the first `=`. -/
structure RawField where
  key : Text
  name : Text
  index : Option Text
  value : Option Text
  deriving DecidableEq, Repr

/-- What stands behind the first occurrence of a separator, if there is one. -/
def behind (sep : Char) : Text → Option Text
  | [] => none
  | c :: cs => if c = sep then some cs else behind sep cs

/-- What stands before the first occurrence of a separator, or the whole text. -/
def before (sep : Char) (t : Text) : Text := t.takeWhile (fun c => c != sep)

/-- A field's text taken apart (R181). -/
def RawField.ofText (t : Text) : RawField :=
  let key := before '=' t
  { key := key, name := before '.' key, index := behind '.' key, value := behind '=' t }

/-- A field of a request with its name known and its index in range; its value is none when malformed, out of range, absent
or holding `<` (R181). -/
structure Item where
  key : Text
  name : Text
  index : Nat
  value : Option FieldValue
  deriving DecidableEq, Repr

/-- The value of a field in a form: a `<` in it makes it a bad field (R181). -/
def readValue (f : ValueForm) (v : Option Text) : Option FieldValue :=
  match v with
  | some t => if t.contains '<' then none else f.read t
  | none => none

/-- A field's text as one of a request's known fields; none when the request does not know it or its index is out of range. -/
def readItem (forms : List FieldForm) (t : Text) : Option Item :=
  let raw := RawField.ofText t
  match forms.find? (fun f => decide (f.name = raw.name)) with
  | some f =>
    match f.index.read raw.index with
    | some i => some { key := raw.key, name := f.name, index := i, value := readValue f.value raw.value }
    | none => none
  | none => none

/-- The key of a field's text, by which a refusal names it. -/
def keyOf (t : Text) : Text := (RawField.ofText t).key

/-! ### The first field at fault -/

/-- The items of a request's known fields, in frame order. -/
def knownItems (forms : List FieldForm) (fields : List Text) : List Item :=
  fields.filterMap (readItem forms)

/-- The later occurrence of a field with its value, if any stands in the frame (R181). -/
def lastItem (items : List Item) (name : Text) (index : Nat) : Option Item :=
  (items.filter (fun i => decide (i.name = name) && decide (i.index = index))).getLast?

/-- Whether a field of this name and index stands in the frame, well formed or not. -/
def hasItem (items : List Item) (name : Text) (index : Nat) : Bool := (lastItem items name index).isSome

/-- The value taken for a field: that of its later occurrence. -/
def itemValue (items : List Item) (name : String) (index : Nat) : Option FieldValue :=
  (lastItem items (txt name) index).bind (fun i => i.value)

/-- The first field in the frame that is at fault: unknown, index out of range, value bad, a repetition where the request's
entry allows none, or at fault by the request's own rule (R181). An ill-formed occurrence is at fault also where a later one of the
same field is well formed and would be taken (the model's choice, assumption 8). -/
def firstBad (forms : List FieldForm) (twice : Bool) (own : Item → Bool) :
    (seen : List (Text × Nat)) → List Text → Option Text
  | _, [] => none
  | seen, t :: rest =>
    match readItem forms t with
    | none => some (keyOf t)
    | some i =>
      if i.value.isNone || own i || (!twice && seen.contains (i.name, i.index)) then some (keyOf t)
      else firstBad forms twice own ((i.name, i.index) :: seen) rest

/-- The name of the first of the required fields that stands nowhere in the frame, as the frame would spell it. -/
def firstMissing (items : List Item) : List (Text × Nat × Text) → Option Text
  | [] => none
  | (name, index, key) :: rest => if hasItem items name index then firstMissing items rest else some key

/-- A required field without an index. -/
def required (name : String) : Text × Nat × Text := (txt name, 0, txt name)

/-- The decimal digits of a number as the part writes them. -/
def natText (n : Nat) : Text := Nat.toDigits 10 n

/-- The key of an indexed field. -/
def indexedKey (name : String) (index : Nat) : Text := txt name ++ '.' :: natText index

/-- A required indexed field. -/
def requiredAt (name : String) (index : Nat) : Text × Nat × Text := (txt name, index, indexedKey name index)

/-- A request's fields judged by form (R181): the items, or the key of the first field at fault, or of the first required
field that is missing. -/
def checkForm (forms : List FieldForm) (twice : Bool) (own : List Item → Item → Bool)
    (needs : List Item → List (Text × Nat × Text)) (fields : List Text) : Except Text (List Item) :=
  let items := knownItems forms fields
  match firstBad forms twice (own items) [] fields with
  | some key => .error key
  | none =>
    match firstMissing items (needs items) with
    | some key => .error key
    | none => .ok items

/-- The form check of a request with plain fields alone: each at most once, the required ones present. -/
def checkPlain (forms : List FieldForm) (needs : List String) (fields : List Text) : Except Text (List Item) :=
  checkForm forms false (fun _ _ => false) (fun _ => needs.map required) fields

/-- A plain field. -/
def plainField (name : String) (value : ValueForm) : FieldForm :=
  { name := txt name, index := .none, value := value }

/-- An indexed field. -/
def indexedField (name : String) (lo hi : Nat) (value : ValueForm) : FieldForm :=
  { name := txt name, index := .range lo hi, value := value }

/-! ### Values of checked items -/

/-- The number a field carries; the form check has made it present. -/
def natAt (items : List Item) (name : String) (index : Nat) : Nat :=
  match itemValue items name index with
  | some (.nat n) => n
  | _ => 0

/-- The number a field carries, if it stands in the frame. -/
def natAt? (items : List Item) (name : String) (index : Nat) : Option Nat :=
  match itemValue items name index with
  | some (.nat n) => some n
  | _ => none

/-- The signed number a field carries. -/
def signedAt (items : List Item) (name : String) : Int :=
  match itemValue items name 0 with
  | some (.signed i) => i
  | _ => 0

/-- The text a field carries, empty when it is absent. -/
def textAt (items : List Item) (name : String) : Text :=
  match itemValue items name 0 with
  | some (.text t) => t
  | _ => []

/-- The word a field carries. -/
def wordAt (items : List Item) (name : String) : Text :=
  match itemValue items name 0 with
  | some (.word w) => w
  | _ => []

/-- The groups a field lists. -/
def groupsAt (items : List Item) (name : String) : List Nat :=
  match itemValue items name 0 with
  | some (.groups gs) => gs
  | _ => []

/-- How many of the indexes from 1 on stand in the frame without a gap, up to a bound. -/
def gaplessRun (items : List Item) (names : List Text) : Nat → Nat → Nat
  | 0, _ => 0
  | fuel + 1, k => if names.any (fun n => hasItem items n k) then 1 + gaplessRun items names fuel (k + 1) else 0

/-! ### Ranges of the identifiers (chapter About, Identifiers) -/

/-- Order, permit and unit numbers. -/
def longNumber : ValueForm := .nat 1 99999999

/-- Account numbers. -/
def accountNumber : ValueForm := .nat 1 9999999

/-- Days. -/
def dayNumber : ValueForm := .nat 0 65535

end Sys2Proof.Machine
end

