-- ==== Sys2Proof/Machine/Responses.lean ====
section
/-! DEFINITION. The characters of a response: status words, names, the fields of every answer, the frame with its check (R179, R182,
section 11.8). -/

namespace Sys2Proof.Machine

/-! ### Pieces -/

/-- Texts joined by a separator. -/
def joinTexts (sep : Char) : List Text → Text
  | [] => []
  | [t] => t
  | t :: rest => t ++ sep :: joinTexts sep rest

/-- A field of a response: its name, `=` and its value. -/
def fieldText (key value : Text) : Text := key ++ '=' :: value

/-- A field with a plain name. -/
def named (name : String) (value : Text) : Text := fieldText (txt name) value

/-- A field with a number as its value. -/
def namedNat (name : String) (n : Nat) : Text := named name (natText n)

/-- A field whose name carries an index. -/
def namedAt (name : String) (index : Nat) (value : Text) : Text := fieldText (indexedKey name index) value

/-- An absent value is empty (section 11.8). -/
def optText {α : Type} (f : α → Text) (x : Option α) : Text := (x.map f).getD []

/-- An optional number: empty when there is none. -/
def optNat (n : Option Nat) : Text := optText natText n

/-- A signed number: a leading `-` when negative (section 11.8). -/
def intText (i : Int) : Text := if i < 0 then '-' :: natText i.natAbs else natText i.natAbs

/-- A numbered part by the number the manual prints. -/
def partText {n : Nat} (i : Fin n) : Text := natText (numberOf i)

/-- A list of items separated by `,` (section 11.8). -/
def listText {α : Type} (f : α → Text) (xs : List α) : Text := joinTexts ',' (xs.map f)

/-- YES or NO. -/
def yesNo (b : Bool) : Text := if b then txt "YES" else txt "NO"

/-- A number in eight digits at least, zeros before it: a totaliser's report (R20). -/
def eightDigits (n : Nat) : Text := List.replicate (8 - (natText n).length) '0' ++ natText n

/-- A temperature in 0.1 °C: sign, digits, a full stop and one digit, such as +24.6 (section 11.8). A temperature of 0 is written +0.0 (the
model's choice, assumption 28). -/
def temperatureText (t : Int) : Text :=
  (if t < 0 then '-' else '+') :: natText (t.natAbs / 10) ++ '.' :: natText (t.natAbs % 10)

/-! ### Names -/

/-- The status words of refusals (R182). -/
def Status.text : Status → Text
  | .unknownRequest => txt "UNKNOWN_REQUEST"
  | .badField => txt "BAD_FIELD"
  | .notFound => txt "NOT_FOUND"
  | .duplicate => txt "DUPLICATE"
  | .tableFull => txt "TABLE_FULL"
  | .suspended => txt "SUSPENDED"
  | .expired => txt "EXPIRED"
  | .unitBusy => txt "UNIT_BUSY"
  | .capacity => txt "CAPACITY"
  | .switchForbidden => txt "SWITCH_FORBIDDEN"
  | .noCover => txt "NO_COVER"
  | .noStock => txt "NO_STOCK"
  | .held => txt "HELD"
  | .wrongState => txt "WRONG_STATE"
  | .referenced => txt "REFERENCED"
  | .sealed => txt "SEALED"
  | .bankInUse => txt "BANK_IN_USE"
  | .badBank => txt "BAD_BANK"
  | .notCalibrated => txt "NOT_CALIBRATED"
  | .notConfigured => txt "NOT_CONFIGURED"
  | .esdActive => txt "ESD_ACTIVE"

/-- The name of an arm state (section 6.4). -/
def ArmState.text : ArmState → Text
  | .outOfService => txt "OUT_OF_SERVICE"
  | .idle => txt "IDLE"
  | .ready => txt "READY"
  | .lowStart => txt "LOW_START"
  | .waitGrant => txt "WAIT_GRANT"
  | .high => txt "HIGH"
  | .lowRun => txt "LOW_RUN"
  | .closing => txt "CLOSING"
  | .suspended => txt "SUSPENDED"
  | .alarm => txt "ALARM"

/-- The name of a return state (section 6.1). -/
def ReturnState.text : ReturnState → Text
  | .idle => txt "IDLE"
  | .outOfService => txt "OUT_OF_SERVICE"

/-- The name of a valve command (R104). -/
def ValveCommand.text : ValveCommand → Text
  | .closed => txt "CLOSED"
  | .low => txt "LOW"
  | .high => txt "HIGH"

/-- The name of an intent (section 6.9). -/
def Intent.text : Intent → Text
  | .finish => txt "FINISH"
  | .suspend => txt "SUSPEND"
  | .stop => txt "STOP"
  | .interrupt => txt "INTERRUPT"

/-- The name of a stop cause (R76). -/
def StopCause.text : StopCause → Text
  | .panel => txt "PANEL"
  | .cancel => txt "CANCEL"
  | .permit => txt "PERMIT"
  | .restart => txt "RESTART"

/-- The name of a suspension cause; ADDITIVE_STOCK with its additive and slot behind it, joined by `:` (R111). -/
def Cause.text : Cause → Text
  | .permissive => txt "PERMISSIVE"
  | .halt => txt "HALT"
  | .noFlow => txt "NO_FLOW"
  | .probe => txt "PROBE"
  | .additive => txt "ADDITIVE"
  | .additiveStock x s => joinTexts ':' [txt "ADDITIVE_STOCK", partText x, partText s]

/-- The name of a line state (R76). -/
def LineState.text : LineState → Text
  | .pending => txt "PENDING"
  | .queued => txt "QUEUED"
  | .active => txt "ACTIVE"
  | .suspended => txt "SUSPENDED"
  | .full => txt "FULL"
  | .stopped => txt "STOPPED"
  | .cancelled => txt "CANCELLED"
  | .interrupted => txt "INTERRUPTED"

/-- The name of an order state (section 5.3). -/
def OrderState.text : OrderState → Text
  | .booked => txt "BOOKED"
  | .admitted => txt "ADMITTED"
  | .complete => txt "COMPLETE"
  | .void => txt "VOID"

/-- The name of a verdict (R56). -/
def Verdict.text : Verdict → Text
  | .allow => txt "ALLOW"
  | .lowOnly => txt "LOW_ONLY"
  | .forbid => txt "FORBID"

/-- The name of a bank (R25). -/
def BankId.text : BankId → Text
  | .a => txt "A"
  | .b => txt "B"

/-- The name of a queue mode (R103). -/
def QueueMode.text : QueueMode → Text
  | .fifo => txt "FIFO"
  | .sequence => txt "SEQUENCE"

/-- The name of a stroke phase (section 8.3). -/
def StrokePhase.text : StrokePhase → Text
  | .none => txt "NONE"
  | .waitRise => txt "WAIT_RISE"
  | .feedbackActive => txt "FEEDBACK_ACTIVE"

/-- The name of the rack mode (R160). -/
def RackMode.text : RackMode → Text
  | .normal => txt "NORMAL"
  | .halted => txt "HALTED"

/-- The names of the flags set, in the order of R174. -/
def LineFlags.texts (f : LineFlags) : List Text :=
  ([(f.tempClamped, "TEMP_CLAMPED"), (f.probeHeld, "PROBE_HELD"), (f.lowOnly, "LOW_ONLY"), (f.overPreset, "OVER_PRESET"),
    (f.underDose, "UNDER_DOSE"), (f.doseLimited, "DOSE_LIMITED"), (f.permissiveLost, "PERMISSIVE_LOST")].filter
      (fun x => x.1)).map (fun x => txt x.2)

/-! ### The delivery note (section 11.8) -/

/-- An additive entry: additive, dispensed and target joined by `:`. -/
def additiveText (d : AdditiveId × Nat × Nat) : Text := joinTexts ':' [partText d.1, natText d.2.1, natText d.2.2]

/-- The fifteen subfields of line.n joined by `/`. -/
def noteLineText (l : NoteLine) : Text :=
  joinTexts '/' [natText l.addr, natText l.unit, natText l.compartment, natText l.recipe, partText l.product,
    natText l.preset, natText l.gross, natText l.standard, optText temperatureText l.average, l.state.text,
    joinTexts ',' l.flags.texts, optText StopCause.text l.stopCause, optText BankId.text l.bank, optNat l.calCount,
    listText additiveText l.additives]

/-- The fields of a note in a response, in the order of the layout. -/
def noteFields (n : Note) (place count : Nat) (counter : Option Nat) : List Text :=
  [namedNat "note" n.note, namedNat "order" n.order, namedNat "permit" n.permit, namedNat "unit1" n.unit1,
   named "unit2" (optNat n.unit2), named "bay" (optText partText n.bay), namedNat "day" n.day, named "remark" n.remark,
   namedNat "lines" n.lines.length] ++
  n.lines.map (fun l => namedAt "line" l.number (noteLineText l)) ++
  [namedNat "tgross" n.grossTotal, namedNat "tstd" n.standardTotal] ++
  n.additiveTotals.map (fun x => namedAt "tadd" (numberOf x.1) (natText x.2)) ++
  [namedNat "place" place, namedNat "count" count] ++ counter.toList.map (namedNat "counter")

/-! ### The fields of the other answers

The manual says what each answer carries and lays out the characters of the note alone. Names and layouts of the fields below are the
model's choice (assumption 26): a request's own field names where it has them, items of a list in the order the rule gives. So is a field
that a rule does not list: the number of the record, permit, unit, account or arm, with which the answer of its GET opens, and the number
of lines in the answer of ORDER.GET. -/

/-- A curve point: rate and factor joined by `/` (section 11.8). -/
def pointText (p : CurvePoint) : Text := joinTexts '/' [natText p.rate, natText p.factor]

/-- The part of a bank CAL.READ returns (R31), under the field names of CAL.WRITE. -/
def CalPart.texts : CalPart → List Text
  | .meters entries =>
    entries.toList.zipIdx.flatMap (fun x => [namedAt "k" (x.2 + 1) (natText x.1.k), namedAt "curve" (x.2 + 1) (natText x.1.page.val)])
  | .page points => [named "points" (listText pointText points)]
  | .products beta => beta.toList.zipIdx.map (fun x => namedAt "beta" (x.2 + 1) (natText x.1))

/-- CAL.READ: the part and its five further fields (R31). -/
def CalReadView.texts (v : CalReadView) : List Text :=
  v.part.texts ++
    [named "active" v.active.text, namedNat "count" v.count, named "switch" (if v.switchClosed then txt "CLOSED" else txt "OPEN"),
     namedNat "inuse" v.inUse, named "usable" (listText yesNo v.usable.toList)]

/-- The places of a vector that hold TRUE, counted from 0. -/
def placesOf {n : Nat} (v : Vector Bool n) : List Nat := (v.toList.zipIdx.filter (fun x => x.1)).map (fun x => x.2)

/-- PERMIT.GET: the record and the orders that name it (R42). The field permit, which R42 does not list, is the model's choice
(assumption 26). -/
def Permit.texts (p : Permit) (orders : Nat) : List Text :=
  [namedNat "permit" p.number, namedNat "level" p.level, named "endorse" (listText natText (placesOf p.endorsements)),
   namedNat "expiry" p.expiry, namedNat "limit" p.dailyLimit, namedNat "loads" p.loadsToday,
   named "state" (if p.suspended then txt "SUSPENDED" else txt "VALID"), named "bay" (optText partText p.admittedBay),
   namedNat "orders" orders]

/-- A last group: its number, or CLEAN (section 3.3). -/
def lastGroupText (g : Option Group) : Text :=
  match g with
  | some g => natText g.val
  | none => txt "CLEAN"

/-- UNIT.GET: the record and the orders that name it (R51). The field unit, which R51 does not list, is the model's choice
(assumption 26). -/
def VehicleUnit.texts (u : VehicleUnit) (orders : Nat) : List Text :=
  [namedNat "unit" u.number, namedNat "expiry" u.expiry, namedNat "compartments" u.compartments.length] ++
  u.compartments.zipIdx.flatMap (fun x =>
    [namedAt "cap" (x.2 + 1) (natText x.1.capacity), namedAt "last" (x.2 + 1) (lastGroupText x.1.lastGroup)]) ++
  [named "order" (optNat u.committed), namedNat "orders" orders]

/-- ACCOUNT.GET: the record, the available amount and the lines not final that name it (R70). The field account, which R70 does not list,
is the model's choice (assumption 26). -/
def Account.texts (x : Account) (available : Int) (lines : Nat) : List Text :=
  [namedNat "account" x.number, namedNat "group" x.group.val, named "balance" (intText x.balance), namedNat "overdraft" x.overdraft,
   namedNat "reserved" x.reserved, named "state" (if x.held then txt "HELD" else txt "OPEN"), named "available" (intText available),
   namedNat "lines" lines]

/-- A dose entry of a line in ORDER.GET: additive, dose, slot, dispensed, target, misses, remaining reservation (R83, R155). -/
def DoseRecord.text (d : DoseRecord) : Text :=
  joinTexts ':' [partText d.additive, natText d.dose, optText partText d.slot, natText d.dispensed, optNat d.target, natText d.misses,
    natText d.remaining]

/-- A line in ORDER.GET, every field in the order of section 5.2 (R83). -/
def LineView.text (l : LineView) : Text :=
  joinTexts '/' [natText l.addr, natText l.recipe, partText l.product, partText l.header, natText l.group.val, natText l.hazard,
    natText l.account, natText l.preset, yesNo l.lowOnly, l.state.text, optText partText l.arm, optText BankId.text l.bank,
    optNat l.calCount, natText l.grossLitres, natText l.standardLitres, optText temperatureText l.average,
    joinTexts ',' l.flags.texts, optText StopCause.text l.stopCause, listText DoseRecord.text l.doses]

/-- ORDER.GET (R83). The field lines, the number of lines, which section 5.1 does not list, is the model's choice (assumption 26). So is
the layout of the lines, in which twelve dosed lines make this answer, at under 4,000 characters, longer than the note that R182 calls the
longest response; no check enforces the 4,096 characters of R182. -/
def OrderView.texts (v : OrderView) : List Text :=
  [namedNat "order" v.number, namedNat "position" v.position, named "state" v.state.text, namedNat "permit" v.permit,
   namedNat "unit1" v.unit1, named "unit2" (optNat v.unit2),
   named "bay" (match v.bay with | some b => partText b | none => txt "ANY"),
   named "admitted" (optText partText v.admittedBay), named "lastbay" (optText partText v.lastBay), namedNat "prio" v.priority,
   named "remark" v.remark, named "counted" (yesNo v.counted), named "note" (optNat v.note), named "day" (optNat v.day),
   namedNat "lines" v.lines.length] ++
  v.lines.map (fun l => namedAt "line" l.number l.text)

/-- An injector slot's configuration (R101): NONE, or its additive and its four other values. -/
def slotTexts (k : Option SlotConfig) (n : Nat) : List Text :=
  match k with
  | some k =>
    [namedAt "add" n (partText k.additive), namedAt "stroke" n (natText k.stroke), namedAt "fbmin" n (natText k.fbMin),
     namedAt "fbmax" n (natText k.fbMax), namedAt "misses" n (natText k.missLimit)]
  | none => [namedAt "add" n (txt "NONE")]

/-- An arm's configuration, or empty fields (R124). -/
def configTexts (k : Option ArmConfig) : List Text :=
  [named "header" (optText (fun k => partText k.header) k), named "lowstart" (optNat (k.map ArmConfig.lowStart)),
   named "taper" (optNat (k.map ArmConfig.taper)), named "allow" (optNat (k.map ArmConfig.allow)),
   named "noflow" (optNat (k.map ArmConfig.noFlow)), named "settle" (optNat (k.map ArmConfig.settle)),
   named "mode" (optText (fun k => k.mode.text) k)] ++
  ((k.map (fun k => k.slots.toList)).getD []).zipIdx.flatMap (fun x => slotTexts x.1 (x.2 + 1))

/-- A queue entry in ARM.GET: order, line, compartment address, line state, whether it is the head (R124). -/
def QueueView.text (e : QueueView) : Text :=
  joinTexts '/' [natText e.order, natText e.line, natText e.addr, optText LineState.text e.lineState, yesNo e.isHead]

/-- What ARM.GET adds for a line that is ACTIVE or SUSPENDED; the causes stand with the primary cause first (R124). -/
def RunView.texts (v : RunView) : List Text :=
  [named "startmark" (optNat v.startMark), named "taperpoint" (intText v.taperPoint), named "closepoint" (intText v.closePoint),
   namedNat "std" v.standard, named "intent" (optText Intent.text v.intent), named "stop" (optText StopCause.text v.pendingStop),
   named "restart" (yesNo v.restartPending), named "cause" (optText Cause.text v.causes.head?),
   named "causes" (listText Cause.text v.causes), named "granted" (yesNo v.holdsGrant), named "waiting" (yesNo v.waiting)]

/-- An injector channel in ARM.GET: owed count, phase, solenoid, feedback level, consecutive misses (R155). -/
def InjectorView.text (i : InjectorView) : Text :=
  joinTexts '/' [natText i.owed, i.phase.text, (if i.solenoidOpen then txt "OPEN" else txt "CLOSED"),
    (if i.feedback then txt "ACTIVE" else txt "INACTIVE"), natText i.misses]

/-- ARM.GET (R24, R124, R155); the temperature in 0.01 °C with its age in seconds, totalisers in eight digits (R20). The field arm, which
R124 does not list, is the model's choice (assumption 26). -/
def ArmView.texts (v : ArmView) : List Text :=
  [named "arm" (partText v.arm), named "state" v.state.text, named "return" (optText ReturnState.text v.returnState),
   named "valve" v.valve.text] ++
  configTexts v.config ++
  [named "allowance" (optNat v.allowance), namedNat "fill" v.fill, namedNat "free" v.free] ++
  v.queue.zipIdx.map (fun x => namedAt "entry" (x.2 + 1) x.1.text) ++
  ((v.run.map RunView.texts).getD []) ++
  [namedNat "rate" v.rate, namedNat "factor" v.factor, named "temp" (optText (fun t => intText t.1) v.temperature),
   named "age" (optText (fun t => natText t.2) v.temperature), named "fault" (yesNo v.probeFault),
   named "gross" (eightDigits v.grossTotal), named "standard" (eightDigits v.standardTotal), namedNat "unassigned" v.unassigned] ++
  v.injectors.toList.zipIdx.map (fun x => namedAt "inj" (x.2 + 1) x.1.text)

/-- RECIPE.GET: the record with its dose entries in order, and the lines not final that name it (R137). -/
def Recipe.texts (x : Recipe) (lines : Nat) : List Text :=
  [namedNat "recipe" x.number, named "product" (partText x.product), named "header" (partText x.header),
   namedNat "group" x.group.val, namedNat "hazard" x.hazard] ++
  x.doses.zipIdx.flatMap (fun d =>
    [namedAt "add" (d.2 + 1) (partText d.1.additive), namedAt "dose" (d.2 + 1) (natText d.1.dose)]) ++
  [namedNat "lines" lines]

/-- One bay in RACK.STATUS: state, order, permit, ground, overfill, permissive condition (R184). -/
def BayStatus.text (b : BayStatus) : Text :=
  joinTexts '/' [(if b.admitted.isSome then txt "ADMITTED" else txt "FREE"), optText (fun x => natText x.order) b.admitted,
    optText (fun x => natText x.permit) b.admitted, (if b.ground then txt "TRUE" else txt "FALSE"),
    (if b.overfill then txt "TRUE" else txt "FALSE"), (if b.permitted then txt "PERMITTED" else txt "BLOCKED")]

/-- RACK.STATUS (R184). -/
def StatusView.texts (v : StatusView) : List Text :=
  [namedNat "day" v.day, named "mode" v.mode.text, named "estop" (if v.emergencyStop then txt "ACTIVE" else txt "INACTIVE"),
   namedNat "count" v.calCount, named "active" v.activeBank.text, named "switch" (if v.calClosed then txt "CLOSED" else txt "OPEN"),
   namedNat "width" v.noteWidth, namedNat "notes" v.notesWaiting] ++
  v.bays.toList.zipIdx.map (fun x => namedAt "bay" (x.2 + 1) x.1.text) ++
  [named "alarms" (listText partText v.alarms), named "low" (listText partText v.lowAdditives),
   named "attention" (yesNo v.attention)]

/-- The key of a row of the switch-load table: row.0 to row.7, then row.CLEAN (section 11.4). -/
def rowKey (n : Nat) : Text := if n = 8 then txt "row.CLEAN" else indexedKey "row" n

/-- RACK.SWITCHTABLE: the table in the nine fields of its own request (R56). -/
def SwitchTable.texts (t : SwitchTable) : List Text :=
  t.rows.toList.zipIdx.map (fun x => fieldText (rowKey x.2) (listText Verdict.text x.1.toList))

/-- The fields of an OK response. -/
def OkFields.texts : OkFields → List Text
  | .plain => []
  | .action created => [named "action" (if created then txt "CREATED" else txt "REPLACED")]
  | .changed yes => [named "changed" (yesNo yes)]
  | .permitSuspended yes bay => named "changed" (yesNo yes) :: (if yes then [named "bay" (optText partText bay)] else [])
  | .dayCleared yes => [named "cleared" (yesNo yes)]
  | .calWritten bank => [named "bank" bank.text]
  | .calRead v => v.texts
  | .calCommitted active count => [named "active" active.text, namedNat "count" count]
  | .permit p orders => p.texts orders
  | .unit u orders => u.texts orders
  | .account x available lines => x.texts available lines
  | .credited balance saturated => [named "balance" (intText balance), named "saturated" (yesNo saturated)]
  | .closed balance => [named "balance" (intText balance)]
  | .booked n lines lowOnly truncated =>
    [namedNat "order" n, namedNat "lines" lines, named "lowonly" (listText natText lowOnly), named "truncated" (yesNo truncated)]
  | .order v => v.texts
  | .amended old new => [namedNat "old" old, namedNat "new" new]
  | .cancelled atOnce inClose already => [namedNat "ended" atOnce, namedNat "closing" inClose, namedNat "final" already]
  | .retired state => [named "state" state.text]
  | .inService state => [named "state" state.text]
  | .cleared count state => [namedNat "count" count, named "state" state.text]
  | .arm v => v.texts
  | .header capacity held waiting granted =>
    [namedNat "cap" capacity, named "held" (listText partText held),
     named "waiting" (listText (fun w => joinTexts '/' [partText w.1, natText w.2]) waiting)] ++
    granted.toList.map (fun xs => named "granted" (listText partText xs))
  | .recipe x lines => x.texts lines
  | .additivePut stock reserved low => [namedNat "stock" stock, namedNat "reserved" reserved, named "low" (yesNo low)]
  | .refilled stock saturated low => [namedNat "stock" stock, named "saturated" (yesNo saturated), named "low" (yesNo low)]
  | .additive x free low lines =>
    [namedNat "stock" x.stock, namedNat "reserved" x.reserved, namedNat "inflight" x.inFlight, namedNat "lowmark" x.lowMark,
     named "free" (intText free), named "low" (yesNo low), namedNat "lines" lines]
  | .note n place count counter => noteFields n place count counter
  | .status v => v.texts
  | .switchTable t => t.texts
  | .width w => [namedNat "width" w]
  | .widthSet old new => [namedNat "old" old, namedNat "new" new]
  | .restarted interrupted returned closing =>
    [namedNat "interrupted" interrupted, namedNat "returned" returned, namedNat "closing" closing]

/-- The fields of a refusal: what it names. The name of UNKNOWN_REQUEST is echoed as the name the response opens with. -/
def Named.texts : Named → List Text
  | .nothing => []
  | .field name => [named "field" name]
  | .unit n => [namedNat "unit" n]
  | .unitOrder u o => [namedNat "unit" u, namedNat "order" o]
  | .line n => [namedNat "line" n]
  | .lineAccount n x => [namedNat "line" n, namedNat "account" x]
  | .account x => [namedNat "account" x]
  | .additive x => [named "additive" (partText x)]
  | .armK a => [named "arm" (partText a), named "reason" (txt "K")]
  | .armCurve a => [named "arm" (partText a), named "reason" (txt "CURVE")]
  | .orderState state => [named "state" state.text]
  | .text _ => []

/-! ### The frame (R179, R182) -/

/-- The status word of an answer and its fields (R182). -/
def Reply.texts : Reply → List Text
  | .ok fields => txt "OK" :: fields.texts
  | .refused why => why.status.text :: why.named.texts

/-- The body of a response: the request name as taken, the status word, the fields, separated by `;` (R182). -/
def responseBody (name : Text) (reply : Reply) : Text := bodyText name reply.texts

/-- The frame of a response: `<`, the body, `*`, the check worked out over the body in capital digits, CR and LF (R179, R182). -/
def responseFrame (name : Text) (reply : Reply) : Text := frameText '<' (responseBody name reply)

end Sys2Proof.Machine
end

