-- ==== Sys2Proof/Machine/Link.lean ====
section
/-! DEFINITION. The link controller: the receiver's character machine (R178, R179), the taking of a request and its response (R180 to
R182). -/

namespace Sys2Proof.Machine

/-- What a command answers. No command of the part stops it. -/
abbrev Result := Host.Outcome State Fault Refusal

/-- What the owner of a request does and answers. -/
abbrev Answer := State → State × Reply

/-! ### Receiving (R178) -/

/-- The receiver returns to HUNT with no frame held. -/
def Link.toHunt (k : Link) : Link := { k with rx := .hunt, body := [], digits := [], unwanted := false }

/-- A `>` clears the frame held, notes whether response owed is set, and enters BODY (R178). -/
def Link.beginFrame (k : Link) : Link := { k with rx := .body, body := [], digits := [], unwanted := k.responseOwed }

/-- A character in BODY (R178). -/
def Link.bodyCharacter (k : Link) (ch : Char) : Link :=
  if ch = '>' then k.beginFrame
  else if ch = '*' then { k with rx := .check, digits := [] }
  else if printable ch then
    if k.body.length + 1 < bodyLimit then { k with body := k.body ++ [ch] } else k.toHunt
  else k.toHunt

/-- At the LF of a frame: the body taken, if the frame is wanted, not empty and its check agrees (R178, R179, R181). -/
def Link.bodyTaken (k : Link) : Option Text :=
  if k.unwanted = false ∧ k.body ≠ [] ∧ hexNumber (k.digits.take 4) = (frameCheck k.body).toNat then some k.body else none

/-- A character in CHECK: four hexadecimal digits, then CR, then LF (R178). -/
def Link.checkCharacter (k : Link) (ch : Char) : Link × Option Text :=
  if ch = '>' then (k.beginFrame, none)
  else if k.digits.length < 4 then
    if (hexValue ch).isSome then ({ k with digits := k.digits ++ [ch] }, none) else (k.toHunt, none)
  else if k.digits.length = 4 then
    if ch = charCR then ({ k with digits := k.digits ++ [ch] }, none) else (k.toHunt, none)
  else if ch = charLF then (k.toHunt, k.bodyTaken)
  else (k.toHunt, none)

/-- One character received (R178), and the body of the request it completes, if it completes a good one. -/
def Link.receive (k : Link) (ch : Char) : Link × Option Text :=
  match k.rx with
  | .hunt => (if ch = '>' then k.beginFrame else k, none)
  | .body => (k.bodyCharacter ch, none)
  | .check => k.checkCharacter ch

/-- Characters received one after another. Once a request is taken response owed is set, and every later frame is unwanted (R180). -/
def Link.receiveAll (k : Link) : Text → Link × Option Text
  | [] => (k, none)
  | ch :: rest =>
    match k.receive ch with
    | (k1, some body) => (({ k1 with responseOwed := true }.receiveAll rest).1, some body)
    | (k1, none) => k1.receiveAll rest

/-! ### Taking a request (R180) -/

/-- The link once a request is taken: response owed, and the response formed from the owner's answer: its record and the
characters of its frame (R180, R182). -/
def Link.respond (k : Link) (name : Text) (reply : Reply) : Link :=
  { k with responseOwed := true, response := some { name := name, reply := reply, frame := responseFrame name reply } }

/-- A request's whole frame arrives. One that no frame can carry is bad, one that begins while a response is owed is unwanted, and
both are discarded; any other is taken: its owner makes checks and effects together and answers (R178, R180). -/
def takeRequest (name : Text) (fields : List Text) (answer : Answer) (s : State) : Result :=
  if fitsFrame name fields = true ∧ s.link.responseOwed = false then
    .next { (answer { s with link := s.link.toHunt }).1 with
            link := s.link.toHunt.respond name (answer { s with link := s.link.toHunt }).2 }
  else .next { s with link := s.link.toHunt }

/-! ### Common answers -/

/-- A refusal: a status word and what it names; nothing changes (R182). -/
def refuse (status : Status) (named : Named) : Answer := fun s => (s, .refused { status := status, named := named })

/-- A refusal that names nothing. -/
def refuseWith (status : Status) : Answer := refuse status .nothing

/-- BAD_FIELD, naming a field. -/
def badField (key : Text) : Answer := refuse .badField (.field key)

/-- An OK answer that changes nothing. -/
def answerOk (fields : OkFields) : Answer := fun s => (s, .ok fields)

/-- The owner goes on with the items of a well-formed request, or answers BAD_FIELD (R181). -/
def withItems (checked : Except Text (List Item)) (answer : List Item → Answer) : Answer :=
  match checked with
  | .error key => badField key
  | .ok items => answer items

/-- An OK answer after a change of the rack, with the SHOWs the change calls for. -/
def okRack (f : Conditions → Rack → Rack) (fields : OkFields) : Answer := fun s => (s.moveRack f, .ok fields)

/-- An OK answer after a change of tables that calls for no SHOW. -/
def okTables (f : Rack → Rack) (fields : OkFields) : Answer := fun s => ({ s with rack := f s.rack }, .ok fields)

/-- An OK answer after a change of the conditions. -/
def okConditions (f : Conditions → Conditions) (fields : OkFields) : Answer := fun s => ({ s with cond := f s.cond }, .ok fields)

/-- A request that carries no field besides its name (R164, R184, R186): any field is at fault, the first named. -/
def noFields (fields : List Text) (answer : Answer) : Answer :=
  match fields with
  | [] => answer
  | t :: _ => badField (keyOf t)

end Sys2Proof.Machine
end

