-- ==== Sys2Proof/Machine/ArmTimers.lean ====
section
/-! DEFINITION. An arm's own timers: NO_FLOW_TIMER_EXPIRY, SETTLE_TIMER_EXPIRY, SHOW_REPEAT_TIMER_EXPIRY (R110, R114, R188). -/

namespace Sys2Proof.Machine

/-- A time of an arm's configuration in ms; an arm without configuration runs no timer. -/
def Arm.milliseconds (x : Arm) (seconds : ArmConfig → Nat) : Nat := ((x.config.map seconds).getD 0) * 1000

/-- The no-flow timer expires: it stops, and NO_FLOW is raised (R110). -/
def Rack.noFlow (c : Conditions) (a : ArmId) (r : Rack) : Rack :=
  (r.modArm a (fun x => { x with noFlowTimer := none })).raiseCause c a .noFlow

/-- NO_FLOW_TIMER_EXPIRY (R110). A timer that is stopped or has time left does not expire (assumption 5). -/
def execNoFlowTimerExpiry (arm : ArmId) (s : State) : Result :=
  if s.cond.timerRunOut (s.rack.arm arm).noFlowTimer ((s.rack.arm arm).milliseconds (fun k => k.noFlow)) then
    .next (s.moveRack (fun c r => r.noFlow c arm))
  else .next s

/-- The settle timer expires: the arm is quiet, and the close settles if no stroke is in flight (R114, R115). -/
def Rack.becomeQuiet (c : Conditions) (a : ArmId) (r : Rack) : Rack :=
  (r.modArm a (fun x => { x with settleTimer := none, quiet := true })).settleIfStill c a

/-- SETTLE_TIMER_EXPIRY (R114, R115). A timer that is stopped or has time left does not expire (assumption 5). -/
def execSettleTimerExpiry (arm : ArmId) (s : State) : Result :=
  if s.cond.timerRunOut (s.rack.arm arm).settleTimer ((s.rack.arm arm).milliseconds (fun k => k.settle)) then
    .next (s.moveRack (fun c r => r.becomeQuiet c arm))
  else .next s

/-- The SHOW repeat time in ms (R188). -/
def repeatTime : Nat := 1000

/-- The SHOW repeat timer expires: it starts again, and the arm calls for a SHOW (R188). -/
def Rack.repeatShow (c : Conditions) (a : ArmId) (r : Rack) : Rack :=
  (r.modArm a (fun x => { x with repeatTimer := some c.stamp })).callArm a

/-- SHOW_REPEAT_TIMER_EXPIRY (R188). A timer that is stopped or has time left does not expire (assumption 5). -/
def execShowRepeatTimerExpiry (arm : ArmId) (s : State) : Result :=
  if s.cond.timerRunOut (s.rack.arm arm).repeatTimer repeatTime then .next (s.moveRack (fun c r => r.repeatShow c arm))
  else .next s

end Sys2Proof.Machine
end

