-- ==== Sys2Proof/Machine/Clock.lean ====
section
/-! DEFINITION. POWER_ON and TIMEBASE_TICK (R2, R23, R37, R100, R144, R156, R160, R166, R178, R187, R188). -/

namespace Sys2Proof.Machine

/-! ### POWER_ON -/

/-- The calibration the retained store holds at power-on: where supply was lost before the response of a CAL.WRITE or CAL.COMMIT had
been sent, either all as before that request or all as it left it (R37; assumption 18). -/
def State.retainedCal (s : State) : CalStore :=
  match s.calBefore with
  | some old => if Config.losesWrite s.choice then old else s.cond.cal
  | none => s.cond.cal

/-- The conditions at power-on: the calibration store is the retained one, the input levels are taken from the inputs (R2, R26, R37, R56, R59,
R134, R156, R160, R166). -/
def Conditions.powerOn (inputs : InputLevels) (cal : CalStore) : Conditions :=
  { time := 0#32, day := 0, mode := if inputs.emergencyStop then .halted else .normal, emergencyStop := inputs.emergencyStop
    calClosed := inputs.calClosed, cal := cal, ground := inputs.ground, overfill := inputs.overfill, switchTable := .fresh
    recipes := [], noteWidth := 32 }

/-- The rack at power-on: the totalisers and the note counter are kept, each held factor is looked up at 0 L/min in the active bank
(R23, R37, R166). -/
def Rack.powerOn (inputs : InputLevels) (cal : CalStore) (r : Rack) : Rack :=
  { permits := [], units := [], accounts := [], additives := Vector.replicate 8 .zero, orders := []
    channels := Vector.ofFn (fun a : Fin 8 =>
      .fresh ((cal.bank cal.active).factorAt a 0) (r.channels[a]).grossTotal (r.channels[a]).standardTotal)
    arms := Vector.replicate 8 .fresh
    injectors := Vector.ofFn (fun a : Fin 8 => Vector.ofFn (fun s : Fin 4 => .fresh (inputs.feedback[a])[s]))
    headers := Vector.replicate 6 .fresh
    bays := Vector.replicate 4 .fresh
    panels := Vector.ofFn Panel.fresh
    noteCounter := r.noteCounter, notes := [] }

/-- POWER_ON: the start of operation after supply is applied; the part holds only what the retained store keeps. The queue of waiting
commands stands outside the part. -/
def execPowerOn (inputs : InputLevels) (s : State) : Result :=
  .next { s with
    choice := s.choice + 1
    calBefore := none
    link := .fresh
    panelRx := Vector.replicate 4 .fresh
    cond := .powerOn inputs s.retainedCal
    rack := s.rack.powerOn inputs s.retainedCal }

/-! ### TIMEBASE_TICK (R2) -/

/-- A meter channel's recorded times when the count has just become now. -/
def Channel.tick (now : Millis) (x : Channel) : Channel :=
  { x with windowStart := x.windowStart.tick now
           temperature := x.temperature.map (fun t => { t with arrived := t.arrived.tick now }) }

/-- An arm's running timers when the count has just become now. -/
def Arm.tick (now : Millis) (x : Arm) : Arm :=
  { x with noFlowTimer := x.noFlowTimer.map (Stamp.tick now), settleTimer := x.settleTimer.map (Stamp.tick now)
           repeatTimer := x.repeatTimer.map (Stamp.tick now) }

/-- An injector channel's recorded times when the count has just become now. -/
def Injector.tick (now : Millis) (i : Injector) : Injector :=
  { i with opened := i.opened.map (Stamp.tick now), riseTime := i.riseTime.map (Stamp.tick now) }

/-- Every recorded time of the rack when the count has just become now. -/
def Rack.tick (now : Millis) (r : Rack) : Rack :=
  { r with channels := r.channels.map (Channel.tick now), arms := r.arms.map (Arm.tick now)
           injectors := r.injectors.map (fun v => v.map (Injector.tick now)) }

/-- The count of the timebase one millisecond on; it wraps to 0 (R2). -/
def Conditions.nextTime (c : Conditions) : Millis := c.time + 1#32

/-- TIMEBASE_TICK: one millisecond passes (R2). -/
def execTimebaseTick (s : State) : Result :=
  .next { s with cond := { s.cond with time := s.cond.nextTime }, rack := s.rack.tick s.cond.nextTime }

end Sys2Proof.Machine
end

