-- ==== Sys2Proof/Machine/Feedback.lean ====
section
/-! DEFINITION. The events of an injector channel: FEEDBACK_RISE, FEEDBACK_FALL, RISE_TIMER_EXPIRY, ACTIVE_TIMER_EXPIRY (R148 to
R150). -/

namespace Sys2Proof.Machine

/-- A rise in WAIT_RISE stops the rise timer, records the rise time and starts the active timer; a rise in another phase is only
recorded as a level (R148). -/
def Injector.rise (c : Conditions) (i : Injector) : Injector :=
  match i.phase with
  | .waitRise => { i with feedback := true, phase := .feedbackActive, opened := none, riseTime := some c.stamp }
  | .none => { i with feedback := true }
  | .feedbackActive => { i with feedback := true }

/-- FEEDBACK_RISE: a feedback input becomes active (R148). An input that is active already does not rise (assumption 15). -/
def execFeedbackRise (arm : ArmId) (slot : SlotId) (s : State) : Result :=
  if (s.rack.injector arm slot).feedback then .next s
  else .next (s.moveRack (fun c r => r.modInjector arm slot (Injector.rise c)))

/-- The active time of a stroke reaches the slot's minimum feedback time (R148). -/
def Rack.activeLongEnough (c : Conditions) (a : ArmId) (s : SlotId) (r : Rack) : Bool :=
  c.timerRunOut (r.injector a s).riseTime (((r.slotConfig a s).map (fun k => k.fbMin)).getD 0)

/-- A fall in FEEDBACK_ACTIVE ends the stroke, SHORT below the minimum feedback time and GOOD otherwise; a fall in another phase is
only recorded as a level (R148). -/
def Rack.feedbackFall (c : Conditions) (a : ArmId) (s : SlotId) (r : Rack) : Rack :=
  let r1 := r.modInjector a s (fun i => { i with feedback := false })
  if (r.injector a s).phase = .feedbackActive then r1.strokeOutcome c a s (r.activeLongEnough c a s) else r1

/-- FEEDBACK_FALL: a feedback input becomes inactive (R148 to R150). An input that is inactive already does not fall (assumption 15). -/
def execFeedbackFall (arm : ArmId) (slot : SlotId) (s : State) : Result :=
  if (s.rack.injector arm slot).feedback then .next (s.moveRack (fun c r => r.feedbackFall c arm slot)) else .next s

/-- The maximum feedback time of a slot in ms. -/
def Rack.feedbackMax (r : Rack) (a : ArmId) (s : SlotId) : Nat := ((r.slotConfig a s).map (fun k => k.fbMax)).getD 0

/-- The rise timer of a channel has run its time in WAIT_RISE (R148). -/
def riseTimedOut (c : Conditions) (r : Rack) (a : ArmId) (s : SlotId) : Bool :=
  decide ((r.injector a s).phase = .waitRise) && c.timerRunOut (r.injector a s).opened (r.feedbackMax a s)

/-- RISE_TIMER_EXPIRY: no rise came, outcome NO_FEEDBACK, a miss (R148, R150). A timer that has time left does not expire
(assumption 5). -/
def execRiseTimerExpiry (arm : ArmId) (slot : SlotId) (s : State) : Result :=
  if riseTimedOut s.cond s.rack arm slot then .next (s.moveRack (fun c r => r.strokeOutcome c arm slot false)) else .next s

/-- The active timer of a channel has run its time in FEEDBACK_ACTIVE (R148). -/
def activeTimedOut (c : Conditions) (r : Rack) (a : ArmId) (s : SlotId) : Bool :=
  decide ((r.injector a s).phase = .feedbackActive) && c.timerRunOut (r.injector a s).riseTime (r.feedbackMax a s)

/-- ACTIVE_TIMER_EXPIRY: no fall came, outcome STUCK, a miss (R148, R150). A timer that has time left does not expire
(assumption 5). -/
def execActiveTimerExpiry (arm : ArmId) (slot : SlotId) (s : State) : Result :=
  if activeTimedOut s.cond s.rack arm slot then .next (s.moveRack (fun c r => r.strokeOutcome c arm slot false)) else .next s

end Sys2Proof.Machine
end

