-- ==== Sys2Proof/Machine/Inputs.lean ====
section
/-! DEFINITION. The field inputs: PERMISSIVE_INPUT_CHANGE, EMERGENCY_STOP_INPUT_CHANGE, CAL_SWITCH_CHANGE (R26, R156 to R162). -/

namespace Sys2Proof.Machine

/-- The level of a bay's input as it is held. -/
def Conditions.inputLevel (c : Conditions) (b : BayId) : PermissiveInput → Bool
  | .ground => c.ground[b]
  | .overfill => c.overfill[b]

/-- A level recorded (R156). -/
def Conditions.setInput (c : Conditions) (b : BayId) (input : PermissiveInput) (level : Bool) : Conditions :=
  match input with
  | .ground => { c with ground := c.ground.set b level }
  | .overfill => { c with overfill := c.overfill.set b level }

/-- A cause reaches arms in the order of one draw (assumption 3), and the panel lines go on. -/
def State.raiseToArms (s : State) (cause : Cause) (arms : List ArmId) : State :=
  { s.moveRack (fun c r => raiseCauses c cause (inFreeOrder s.choice arms) r) with choice := s.choice + 1 }

/-- PERMISSIVE_INPUT_CHANGE: a permissive input takes another level; a passage from PERMITTED to BLOCKED raises PERMISSIVE to each arm
of the bay (R156, R157, R158). A level that stands already is no change (assumption 15). -/
def execPermissiveInputChange (bay : BayId) (input : PermissiveInput) (level : Bool) (s : State) : Result :=
  if s.cond.inputLevel bay input = level then .next s
  else
    let s1 := { s with cond := s.cond.setInput bay input level }
    if s.cond.permitted bay && !(s1.cond.permitted bay) then .next (s1.raiseToArms .permissive (armsOfBay bay))
    else .next s1

/-- The emergency-stop level recorded (R160). -/
def Conditions.setEmergencyStop (c : Conditions) (active : Bool) : Conditions := { c with emergencyStop := active }

/-- The rack mode becomes HALTED (R161). -/
def Conditions.halt (c : Conditions) : Conditions := { c with mode := .halted }

/-- EMERGENCY_STOP_INPUT_CHANGE: becoming ACTIVE in NORMAL sets HALTED and raises HALT to every arm; any other change is only recorded
(R160 to R162). A level that stands already is no change (assumption 15). -/
def execEmergencyStopInputChange (active : Bool) (s : State) : Result :=
  if s.cond.emergencyStop = active then .next s
  else if active = true ∧ s.cond.mode = .normal then
    .next ({ s with cond := (s.cond.setEmergencyStop active).halt }.raiseToArms .halt allArms)
  else .next { s with cond := s.cond.setEmergencyStop active }

/-- CAL_SWITCH_CHANGE: the calibration switch takes a position (R26). -/
def execCalSwitchChange (closed : Bool) (s : State) : Result := .next { s with cond := { s.cond with calClosed := closed } }

end Sys2Proof.Machine
end

