-- ==== Sys2Proof/Machine/AccountRequests.lean ====
section
/-! DEFINITION. The account requests (section 4.5). -/

namespace Sys2Proof.Machine

/-- The account table has 128 slots (R60). -/
def accountSlots : Nat := 128

/-- The limit a balance saturates at, either way (section 4.1). -/
def balanceLimit : Int := 999999999

/-- The fields of ACCOUNT.PUT (section 4.5). -/
def accountPutForms : List FieldForm :=
  [plainField "account" accountNumber, plainField "group" (.nat 0 7), plainField "overdraft" (.nat 0 99999999)]

/-- The form check of ACCOUNT.PUT (R69, check 1). -/
def accountPutItems (fields : List Text) : Except Text (List Item) :=
  checkPlain accountPutForms ["account", "group", "overdraft"] fields

/-- The group an ACCOUNT.PUT names. -/
def groupOf (items : List Item) : Group := Fin.ofNat 8 (natAt items "group" 0)

/-- ACCOUNT.PUT on well-formed fields (R69, checks 2 and 3). -/
def accountPut (items : List Item) : Answer := fun s =>
  match s.rack.account? (natAt items "account" 0) with
  | some x =>
    if x.group ≠ groupOf items ∧ 0 < x.reserved then refuseWith .referenced s
    else
      okTables (fun r => r.modAccount x.number (fun y =>
        { y with group := groupOf items, overdraft := natAt items "overdraft" 0 })) (.action false) s
  | none =>
    if accountSlots ≤ s.rack.accounts.length then refuseWith .tableFull s
    else
      okTables (fun r => { r with accounts := r.accounts ++
        [{ number := natAt items "account" 0, group := groupOf items, balance := 0, overdraft := natAt items "overdraft" 0
           reserved := 0, held := false }] }) (.action true) s

/-- ACCOUNT.PUT (R69). -/
def answerAccountPut (fields : List Text) : Answer := withItems (accountPutItems fields) accountPut

/-- ACCOUNT.PUT: create an account, or replace its terms (R69). -/
def execAccountPut (fields : List Text) (s : State) : Result := takeRequest (txt "ACCOUNT.PUT") fields (answerAccountPut fields) s

/-- The form check of a request that names an account alone; the field is spelled account as in ACCOUNT.PUT and ACCOUNT.CREDIT
(assumption 9). -/
def accountItems (fields : List Text) : Except Text (List Item) :=
  checkPlain [plainField "account" accountNumber] ["account"] fields

/-- The owner's answer on the account the items name, or NOT_FOUND. -/
def onAccountOf (items : List Item) (answer : Account → Answer) : Answer := fun s =>
  match s.rack.account? (natAt items "account" 0) with
  | some x => answer x s
  | none => refuseWith .notFound s

/-- A request that names an account alone: BAD_FIELD, NOT_FOUND, or the owner's answer on the record. -/
def onAccount (fields : List Text) (answer : Account → Answer) : Answer :=
  withItems (accountItems fields) (fun items => onAccountOf items answer)

/-- The number of lines that are not final and name an account (R70). -/
def Rack.linesOfAccount (r : Rack) (n : Nat) : Nat :=
  (r.allLines.filter (fun l => decide (l.account = n) && !l.state.isFinal)).length

/-- ACCOUNT.GET (R70). -/
def answerAccountGet (fields : List Text) : Answer :=
  onAccount fields (fun x s => answerOk (.account x x.available (s.rack.linesOfAccount x.number)) s)

/-- ACCOUNT.GET: read an account (R70). -/
def execAccountGet (fields : List Text) (s : State) : Result := takeRequest (txt "ACCOUNT.GET") fields (answerAccountGet fields) s

/-- The form check of ACCOUNT.CREDIT (R71). -/
def creditItems (fields : List Text) : Except Text (List Item) :=
  checkPlain [plainField "account" accountNumber, plainField "amount" (.signed (-999999999) 999999999)] ["account", "amount"] fields

/-- ACCOUNT.CREDIT on a record (R71): the amount is added, saturating at both limits. -/
def accountCredit (amount : Int) (x : Account) : Answer :=
  okTables (fun r => r.modAccount x.number (fun y =>
      { y with balance := clampInt (-balanceLimit) balanceLimit (y.balance + amount) }))
    (.credited (clampInt (-balanceLimit) balanceLimit (x.balance + amount))
      (decide (clampInt (-balanceLimit) balanceLimit (x.balance + amount) ≠ x.balance + amount)))

/-- ACCOUNT.CREDIT (R71). -/
def answerAccountCredit (fields : List Text) : Answer :=
  withItems (creditItems fields) (fun items => onAccountOf items (accountCredit (signedAt items "amount")))

/-- ACCOUNT.CREDIT: add to or take from the balance (R71). -/
def execAccountCredit (fields : List Text) (s : State) : Result :=
  takeRequest (txt "ACCOUNT.CREDIT") fields (answerAccountCredit fields) s

/-- An account's state set, with whether that changed it (R72). -/
def accountSetHeld (held : Bool) (x : Account) : Answer :=
  okTables (fun r => r.modAccount x.number (fun y => { y with held := held })) (.changed (decide (x.held ≠ held)))

/-- ACCOUNT.HOLD (R72). -/
def answerAccountHold (fields : List Text) : Answer := onAccount fields (accountSetHeld true)

/-- ACCOUNT.HOLD: stop new drawing (R72). -/
def execAccountHold (fields : List Text) (s : State) : Result := takeRequest (txt "ACCOUNT.HOLD") fields (answerAccountHold fields) s

/-- ACCOUNT.RELEASE (R72). -/
def answerAccountRelease (fields : List Text) : Answer := onAccount fields (accountSetHeld false)

/-- ACCOUNT.RELEASE: restart new drawing (R72). -/
def execAccountRelease (fields : List Text) (s : State) : Result :=
  takeRequest (txt "ACCOUNT.RELEASE") fields (answerAccountRelease fields) s

/-- ACCOUNT.CLOSE on a record (R73). -/
def accountClose (x : Account) : Answer :=
  if 0 < x.reserved then refuseWith .referenced
  else okTables (fun r => { r with accounts := r.accounts.filter (fun y => decide (y.number ≠ x.number)) }) (.closed x.balance)

/-- ACCOUNT.CLOSE (R73). -/
def answerAccountClose (fields : List Text) : Answer := onAccount fields accountClose

/-- ACCOUNT.CLOSE: remove an account (R73). -/
def execAccountClose (fields : List Text) (s : State) : Result :=
  takeRequest (txt "ACCOUNT.CLOSE") fields (answerAccountClose fields) s

end Sys2Proof.Machine
end

