-- ==== Sys2Proof/Machine/AdditiveRequests.lean ====
section
/-! DEFINITION. The additive requests (section 8.2). -/

namespace Sys2Proof.Machine

/-- The upper end of stock and low mark (section 8.2). -/
def stockMax : Nat := 999999999

/-- The additive a request names. -/
def additiveOf (items : List Item) : AdditiveId := numbered 7 (natAt items "additive" 0)

/-- The form check of ADDITIVE.PUT (R141). -/
def additivePutItems (fields : List Text) : Except Text (List Item) :=
  checkPlain [plainField "additive" (.nat 1 8), plainField "low" (.nat 0 999999999)] ["additive", "low"] fields

/-- An additive with a low mark. -/
def Additive.withLow (n : Nat) (x : Additive) : Additive := { x with lowMark := n }

/-- ADDITIVE.PUT on well-formed fields (R141). -/
def additivePut (items : List Item) : Answer := fun s =>
  let x := (s.rack.additive (additiveOf items)).withLow (natAt items "low" 0)
  okTables (fun r => r.modAdditive (additiveOf items) (Additive.withLow (natAt items "low" 0)))
    (.additivePut x.stock x.reserved x.low) s

/-- ADDITIVE.PUT (R141). -/
def answerAdditivePut (fields : List Text) : Answer := withItems (additivePutItems fields) additivePut

/-- ADDITIVE.PUT: set an additive's low mark (R141). -/
def execAdditivePut (fields : List Text) (s : State) : Result :=
  takeRequest (txt "ADDITIVE.PUT") fields (answerAdditivePut fields) s

/-- The form check of ADDITIVE.REFILL (R142). -/
def refillItems (fields : List Text) : Except Text (List Item) :=
  checkPlain [plainField "additive" (.nat 1 8), plainField "amount" (.nat 1 999999999)] ["additive", "amount"] fields

/-- An additive with an amount added to its stock, saturating (R142). -/
def Additive.refill (n : Nat) (x : Additive) : Additive := { x with stock := satAdd stockMax x.stock n }

/-- ADDITIVE.REFILL on well-formed fields (R142). -/
def additiveRefill (items : List Item) : Answer := fun s =>
  let old := s.rack.additive (additiveOf items)
  let x := old.refill (natAt items "amount" 0)
  okTables (fun r => r.modAdditive (additiveOf items) (Additive.refill (natAt items "amount" 0)))
    (.refilled x.stock (decide (stockMax < old.stock + natAt items "amount" 0)) x.low) s

/-- ADDITIVE.REFILL (R142). -/
def answerAdditiveRefill (fields : List Text) : Answer := withItems (refillItems fields) additiveRefill

/-- ADDITIVE.REFILL: add to stock (R142). -/
def execAdditiveRefill (fields : List Text) (s : State) : Result :=
  takeRequest (txt "ADDITIVE.REFILL") fields (answerAdditiveRefill fields) s

/-- The form check of ADDITIVE.GET (R143); the field is spelled additive as in ADDITIVE.PUT (assumption 9). -/
def additiveItems (fields : List Text) : Except Text (List Item) :=
  checkPlain [plainField "additive" (.nat 1 8)] ["additive"] fields

/-- The number of lines that are not final and hold a remaining reservation above 0 on an additive (R143). -/
def Rack.linesOfAdditive (r : Rack) (x : AdditiveId) : Nat :=
  (r.allLines.filter (fun l => !l.state.isFinal &&
    l.doses.any (fun d => decide (d.additive = x) && decide (0 < d.remaining)))).length

/-- The response of ADDITIVE.GET (R143). -/
def additiveAnswer (r : Rack) (x : AdditiveId) : OkFields :=
  .additive (r.additive x) (r.additive x).freeStock (r.additive x).low (r.linesOfAdditive x)

/-- ADDITIVE.GET (R143). -/
def answerAdditiveGet (fields : List Text) : Answer :=
  withItems (additiveItems fields) (fun items s => answerOk (additiveAnswer s.rack (additiveOf items)) s)

/-- ADDITIVE.GET: read an additive (R143). -/
def execAdditiveGet (fields : List Text) (s : State) : Result :=
  takeRequest (txt "ADDITIVE.GET") fields (answerAdditiveGet fields) s

end Sys2Proof.Machine
end

