-- ==== Sys2Proof/Machine/ArmRequests.lean ====
section
/-! DEFINITION. ARM.PUT, ARM.SERVICE, ARM.CLEAR, ARM.GET (sections 6.2 and 6.14). -/

namespace Sys2Proof.Machine

/-! ### ARM.PUT (R101) -/

/-- The fields of ARM.PUT (section 6.2). -/
def armPutForms : List FieldForm :=
  [plainField "arm" (.nat 1 8), plainField "header" (.nat 1 6), plainField "lowstart" (.nat 500 5000),
   plainField "taper" (.nat 200 5000), plainField "allow" (.nat 0 500), plainField "noflow" (.nat 5 120),
   plainField "settle" (.nat 1 10), plainField "mode" (.word [txt "FIFO", txt "SEQUENCE"]), indexedField "add" 1 4 .slotAdditive,
   indexedField "stroke" 1 4 (.nat 50 5000), indexedField "fbmin" 1 4 (.nat 20 2000), indexedField "fbmax" 1 4 (.nat 50 5000),
   indexedField "misses" 1 4 (.nat 1 15)]

/-- The fields of a slot beside its additive. -/
def slotFieldNames : List Text := [txt "stroke", txt "fbmin", txt "fbmax", txt "misses"]

/-- A slot whose add is NONE carries no other field of that slot (R101). -/
def armFieldBad (items : List Item) (i : Item) : Bool :=
  slotFieldNames.contains i.name && decide (itemValue items "add" i.index = some .clean)

/-- The fields a slot must carry: its additive, and the four others unless it carries NONE (R101). -/
def slotNeeds (items : List Item) (n : Nat) : List (Text × Nat × Text) :=
  requiredAt "add" n ::
    (if itemValue items "add" n = some .clean then []
     else [requiredAt "stroke" n, requiredAt "fbmin" n, requiredAt "fbmax" n, requiredAt "misses" n])

/-- The fields an ARM.PUT must carry (R101). -/
def armNeeds (items : List Item) : List (Text × Nat × Text) :=
  ["arm", "header", "lowstart", "taper", "allow", "noflow", "settle", "mode"].map required ++
    [1, 2, 3, 4].flatMap (slotNeeds items)

/-- The form check of ARM.PUT (R101, check 1). -/
def armPutItems (fields : List Text) : Except Text (List Item) := checkForm armPutForms false armFieldBad armNeeds fields

/-- A slot as well-formed fields give it. -/
def slotOf (items : List Item) (n : Nat) : Option SlotConfig :=
  (natAt? items "add" n).map (fun x =>
    { additive := numbered 7 x, stroke := natAt items "stroke" n, fbMin := natAt items "fbmin" n, fbMax := natAt items "fbmax" n
      missLimit := natAt items "misses" n })

/-- The configuration well-formed fields give. -/
def armConfigOf (items : List Item) : ArmConfig :=
  { header := numbered 5 (natAt items "header" 0), lowStart := natAt items "lowstart" 0, taper := natAt items "taper" 0
    allow := natAt items "allow" 0, noFlow := natAt items "noflow" 0, settle := natAt items "settle" 0
    mode := if wordAt items "mode" = txt "SEQUENCE" then .sequence else .fifo
    slots := Vector.ofFn (fun s : Fin 4 => slotOf items (numberOf s)) }

/-- The arm a request names. -/
def armOf (items : List Item) : ArmId := numbered 7 (natAt items "arm" 0)

/-- The four slots in order. -/
def allSlots : List SlotId := [0, 1, 2, 3]

/-- Check 2 for one slot: fbmax greater than fbmin (R101). -/
def slotTimesBad (k : ArmConfig) (s : SlotId) : Option Text :=
  match k.slots[s] with
  | some x => if x.fbMax ≤ x.fbMin then some (indexedKey "fbmax" (numberOf s)) else none
  | none => none

/-- A slot's additive. -/
def ArmConfig.additiveAt (k : ArmConfig) (s : SlotId) : Option AdditiveId := (k.slots[s]).map (fun x => x.additive)

/-- Check 3 for one slot: no lower-numbered slot names its additive (R101). -/
def slotAdditiveBad (k : ArmConfig) (s : SlotId) : Option Text :=
  if (k.additiveAt s).isSome && allSlots.any (fun t => decide (t < s) && decide (k.additiveAt t = k.additiveAt s)) then
    some (indexedKey "add" (numberOf s))
  else none

/-- The arm takes a configuration whole, its allowance the initial one (R101). -/
def Arm.configure (k : ArmConfig) (x : Arm) : Arm := { x with config := some k, allowance := some k.allow }

/-- An injector channel starts from an owed count and consecutive misses of 0 (R101, R144). -/
def Injector.configured (i : Injector) : Injector := { i with owed := 0, misses := 0 }

/-- The effects of an accepted ARM.PUT (R101). -/
def Rack.configure (a : ArmId) (k : ArmConfig) (r : Rack) : Rack :=
  (r.modArm a (Arm.configure k)).modInjectors a Injector.configured

/-- ARM.PUT on well-formed fields (R101, checks 2 to 4). Where several slots fail check 2, or several fail check 3, the lowest-numbered
of them is named, whatever their order in the frame (the model's choice, assumption 8). -/
def armPut (items : List Item) : Answer := fun s =>
  match allSlots.findSome? (slotTimesBad (armConfigOf items)) with
  | some key => badField key s
  | none =>
    match allSlots.findSome? (slotAdditiveBad (armConfigOf items)) with
    | some key => badField key s
    | none =>
      if (s.rack.arm (armOf items)).state = .idle ∨ (s.rack.arm (armOf items)).state = .outOfService then
        okTables (fun r => r.configure (armOf items) (armConfigOf items))
          (.action (s.rack.arm (armOf items)).config.isNone) s
      else refuseWith .wrongState s

/-- ARM.PUT (R101). -/
def answerArmPut (fields : List Text) : Answer := withItems (armPutItems fields) armPut

/-- ARM.PUT: set an arm's configuration (R101). -/
def execArmPut (fields : List Text) (s : State) : Result := takeRequest (txt "ARM.PUT") fields (answerArmPut fields) s

/-! ### ARM.SERVICE (R122; assumption 9 for the name dir) -/

/-- The form check of ARM.SERVICE; the fields are spelled arm and dir (assumption 9). -/
def serviceItems (fields : List Text) : Except Text (List Item) :=
  checkPlain [plainField "arm" (.nat 1 8), plainField "dir" (.word [txt "IN", txt "OUT"])] ["arm", "dir"] fields

/-- ARM.SERVICE with OUT (R122). -/
def serviceOut (a : ArmId) : Answer := fun s =>
  match (s.rack.arm a).state with
  | .idle => okRack (fun c r => r.setState c a .outOfService) (.changed true) s
  | .alarm => okTables (fun r => r.modArm a (fun x => { x with returnState := some .outOfService })) (.changed true) s
  | .outOfService => answerOk (.changed false) s
  | .ready => refuseWith .wrongState s
  | .lowStart => refuseWith .wrongState s
  | .waitGrant => refuseWith .wrongState s
  | .high => refuseWith .wrongState s
  | .lowRun => refuseWith .wrongState s
  | .closing => refuseWith .wrongState s
  | .suspended => refuseWith .wrongState s

/-- ARM.SERVICE with IN: the arm becomes IDLE, and ALARM at once by R22 (R122). -/
def serviceIn (a : ArmId) : Answer := fun s =>
  if (s.rack.arm a).state ≠ .outOfService then refuseWith .wrongState s
  else if (s.rack.arm a).config = none then refuseWith .notConfigured s
  else if (s.cond.cal.bank s.cond.cal.active).kFactor a = 0 then refuseWith .notCalibrated s
  else okRack (fun c r => r.enterIdle c a) (.inService ((s.rack.enterIdle s.cond a).arm a).state) s

/-- ARM.SERVICE on well-formed fields (R122). -/
def armService (items : List Item) : Answer :=
  if wordAt items "dir" = txt "IN" then serviceIn (armOf items) else serviceOut (armOf items)

/-- ARM.SERVICE (R122, R36). -/
def answerArmService (fields : List Text) : Answer := withItems (serviceItems fields) armService

/-- ARM.SERVICE: take an arm into or out of service (R122, R36). -/
def execArmService (fields : List Text) (s : State) : Result := takeRequest (txt "ARM.SERVICE") fields (answerArmService fields) s

/-! ### ARM.CLEAR (R123) -/

/-- The form check of a request that names an arm alone; the field is spelled arm (assumption 9). -/
def armItems (fields : List Text) : Except Text (List Item) := checkPlain [plainField "arm" (.nat 1 8)] ["arm"] fields

/-- The state a return state stands for. -/
def ReturnState.toState : ReturnState → ArmState
  | .idle => .idle
  | .outOfService => .outOfService

/-- The unassigned-flow count becomes 0, and an arm in ALARM enters its return state (R123). -/
def Rack.clearArm (c : Conditions) (a : ArmId) (r : Rack) : Rack :=
  let r1 := r.modChannel a (fun x => { x with unassigned := 0 })
  if (r.arm a).state = .alarm then
    (r1.modArm a (fun x => { x with returnState := none })).setState c a
      (((r.arm a).returnState.map ReturnState.toState).getD .outOfService)
  else r1

/-- ARM.CLEAR on well-formed fields (R123). -/
def armClear (a : ArmId) : Answer := fun s =>
  if (s.rack.arm a).state = .alarm ∨ (s.rack.arm a).state = .idle ∨ (s.rack.arm a).state = .outOfService then
    okRack (fun c r => r.clearArm c a) (.cleared (s.rack.channel a).unassigned ((s.rack.clearArm s.cond a).arm a).state) s
  else refuseWith .wrongState s

/-- ARM.CLEAR (R123). -/
def answerArmClear (fields : List Text) : Answer := withItems (armItems fields) (fun items => armClear (armOf items))

/-- ARM.CLEAR: clear an arm's unassigned flow (R123). -/
def execArmClear (fields : List Text) (s : State) : Result := takeRequest (txt "ARM.CLEAR") fields (answerArmClear fields) s

/-! ### ARM.GET (R24, R124, R155) -/

/-- A queue entry as ARM.GET returns it: the head is the current line's entry once there is one (R124). -/
def queueView (r : Rack) (x : Arm) (e : QueueEntry) : QueueView :=
  { order := e.order, line := e.line, addr := e.addr, lineState := (r.line? e.order e.line).map (fun l => l.state)
    isHead := decide (x.current = some e) }

/-- The arm holds a grant on its header. -/
def Rack.holdsGrant (r : Rack) (a : ArmId) : Bool :=
  match r.headerOf a with
  | some h => (r.header h).held.contains a
  | none => false

/-- The arm stands in its header's waiting list. -/
def Rack.isWaiting (r : Rack) (a : ArmId) : Bool :=
  match r.headerOf a with
  | some h => (r.header h).waiting.any (fun w => decide (w.arm = a))
  | none => false

/-- A volume in µL in 0.1 L, truncated toward zero. -/
def tenths (v : Int) : Int := v.tdiv 100000

/-- What ARM.GET adds for a line that is ACTIVE or SUSPENDED (R124). -/
def runView (r : Rack) (a : ArmId) : Option RunView :=
  match (r.arm a).config, r.currentLine a with
  | some k, some l =>
    if l.state.holdsBank then
      some
        { startMark := (r.arm a).startMark.map (fun v => v / 100000), taperPoint := tenths (taperPoint k l)
          closePoint := tenths (closePoint (r.arm a) l), standard := l.standard / 100000, intent := (r.arm a).intent
          pendingStop := (r.arm a).pendingStop, restartPending := (r.arm a).restartPending, causes := (r.arm a).causes
          holdsGrant := r.holdsGrant a, waiting := r.isWaiting a }
    else none
  | _, _ => none

/-- An injector channel as ARM.GET returns it (R155). -/
def Injector.view (i : Injector) : InjectorView :=
  { owed := i.owed, phase := i.phase, solenoidOpen := i.solenoidOpen, feedback := i.feedback, misses := i.misses }

/-- An arm as ARM.GET returns it (R24, R124, R155). -/
def armView (c : Conditions) (r : Rack) (a : ArmId) : ArmView :=
  { arm := a, state := (r.arm a).state, returnState := (r.arm a).returnState, valve := (r.arm a).state.valve
    config := (r.arm a).config, allowance := (r.arm a).allowance, queue := (r.arm a).queue.map (queueView r (r.arm a))
    fill := (r.arm a).queue.length, free := 8 - (r.arm a).queue.length, run := runView r a, rate := (r.channel a).rate
    factor := (r.channel a).factor
    temperature := (r.channel a).temperature.map (fun t => (t.value, c.age t.arrived / 1000))
    probeFault := (r.channel a).probeFault, grossTotal := (r.channel a).grossTotal / 1000000
    standardTotal := (r.channel a).standardTotal / 1000000, unassigned := (r.channel a).unassigned
    injectors := (r.injectors[a]).map Injector.view }

/-- ARM.GET (R124). -/
def answerArmGet (fields : List Text) : Answer :=
  withItems (armItems fields) (fun items s => answerOk (.arm (armView s.cond s.rack (armOf items))) s)

/-- ARM.GET: read an arm (R124). -/
def execArmGet (fields : List Text) (s : State) : Result := takeRequest (txt "ARM.GET") fields (answerArmGet fields) s

end Sys2Proof.Machine
end

