-- ==== Sys2Proof/Machine/CalRequests.lean ====
section
/-! DEFINITION. CAL.WRITE, CAL.READ, CAL.COMMIT (chapter 2). -/

namespace Sys2Proof.Machine

/-- The fields of CAL.WRITE (section 2.3, section 11.8). -/
def calWriteForms : List FieldForm :=
  [plainField "copy" (.word [txt "ACTIVE"]), indexedField "k" 1 8 .kFactor, indexedField "curve" 1 8 (.nat 0 15),
   indexedField "points" 0 15 .points, indexedField "beta" 1 16 (.nat 0 2000)]

/-- One field of a CAL.WRITE written into a bank (R27). -/
def Bank.write (k : Bank) (i : Item) : Bank :=
  match i.value with
  | some (.nat n) =>
    if i.name = txt "k" then
      { k with meters := k.meters.set (numbered 7 i.index) { k.meters[numbered 7 i.index] with k := n } }
    else if i.name = txt "curve" then
      { k with meters := k.meters.set (numbered 7 i.index) { k.meters[numbered 7 i.index] with page := Fin.ofNat 16 n } }
    else { k with beta := k.beta.set (numbered 15 i.index) n }
  | some (.points ps) => { k with pages := k.pages.set (Fin.ofNat 16 i.index) ps }
  | _ => k

/-- The fields of a CAL.WRITE written in frame order, so that a later occurrence stands (R27). -/
def Bank.writeAll (k : Bank) : List Item → Bank
  | [] => k
  | i :: rest => (k.write i).writeAll rest

/-- A bank of the store replaced. -/
def CalStore.setBank (s : CalStore) (id : BankId) (k : Bank) : CalStore :=
  match id with
  | .a => { s with bankA := k }
  | .b => { s with bankB := k }

/-- The standby bank (R25). -/
def CalStore.standby (s : CalStore) : BankId := s.active.other

/-- An accepted write: the copy of the active bank first if it is asked for, then the other fields (R27, R29). -/
def CalStore.writeStandby (s : CalStore) (items : List Item) : CalStore :=
  s.setBank s.standby
    ((if hasItem items (txt "copy") 0 then s.bank s.active else s.bank s.standby).writeAll items)

/-- An OK answer after a change of the calibration store. Until the response has been sent, a loss of supply may undo it (R37). -/
def okStore (f : CalStore → CalStore) (fields : OkFields) : Answer := fun s =>
  ({ s with cond := { s.cond with cal := f s.cond.cal }, calBefore := some s.cond.cal }, .ok fields)

/-- CAL.WRITE (R27): sealed, then the fields, then the bank in use. -/
def answerCalWrite (fields : List Text) : Answer := fun s =>
  if s.cond.calClosed = false then refuseWith .sealed s
  else if fields = [] then refuseWith .badField s
  else
    withItems (checkForm calWriteForms true (fun _ _ => false) (fun _ => []) fields) (fun items =>
      if 0 < s.rack.bankUsers s.cond.cal.standby then refuseWith .bankInUse
      else okStore (fun k => k.writeStandby items) (.calWritten s.cond.cal.standby)) s

/-- CAL.WRITE: change fields of the standby bank (R27 to R30). -/
def execCalWrite (fields : List Text) (s : State) : Result := takeRequest (txt "CAL.WRITE") fields (answerCalWrite fields) s

/-- The fields of CAL.READ (R31; assumption 9 for the name page). -/
def calReadForms : List FieldForm :=
  [plainField "bank" (.word [txt "A", txt "B"]), plainField "part" (.word [txt "METERS", txt "PAGE", txt "PRODUCTS"]),
   plainField "page" (.nat 0 15)]

/-- PAGE also names a page (R31). A well-formed page that stands beside METERS or PRODUCTS is passed over (the model's choice,
assumption 19). -/
def calReadNeeds (items : List Item) : List (Text × Nat × Text) :=
  [required "bank", required "part"] ++ (if wordAt items "part" = txt "PAGE" then [required "page"] else [])

/-- The part of a bank a CAL.READ asks for (R31). -/
def Bank.part (k : Bank) (items : List Item) : CalPart :=
  if wordAt items "part" = txt "METERS" then .meters k.meters
  else if wordAt items "part" = txt "PAGE" then .page k.pages[Fin.ofNat 16 (natAt items "page" 0)]
  else .products k.beta

/-- The response of CAL.READ (R31). -/
def calReadView (s : State) (items : List Item) : CalReadView :=
  let id : BankId := if wordAt items "bank" = txt "A" then .a else .b
  { part := (s.cond.cal.bank id).part items, active := s.cond.cal.active, count := s.cond.cal.count
    switchClosed := s.cond.calClosed, inUse := s.rack.bankUsers id
    usable := Vector.ofFn (fun a : Fin 8 => (s.cond.cal.bank id).curveUsable a) }

/-- CAL.READ (R31). -/
def answerCalRead (fields : List Text) : Answer := fun s =>
  withItems (checkForm calReadForms false (fun _ _ => false) calReadNeeds fields)
    (fun items => answerOk (.calRead (calReadView s items))) s

/-- CAL.READ: read a bank (R31). -/
def execCalRead (fields : List Text) (s : State) : Result := takeRequest (txt "CAL.READ") fields (answerCalRead fields) s

/-- What CAL.COMMIT finds wrong with a bank at one arm: an arm in service needs a K-factor, then a usable curve (R32). -/
def commitFault (r : Rack) (k : Bank) (a : ArmId) : Option Named :=
  if (r.arm a).inService then
    if k.kFactor a = 0 then some (.armK a)
    else if k.curveUsable a then none
    else some (.armCurve a)
  else none

/-- An accepted commit flips the active indicator and raises the count, which stops at 65,535 (R33). -/
def CalStore.commit (s : CalStore) : CalStore := { s with active := s.active.other, count := min 65535 (s.count + 1) }

/-- Checks 2 and 3 of a CAL.COMMIT and its effects (R32, R33). -/
def calCommit : Answer := fun s =>
  match allArms.findSome? (commitFault s.rack (s.cond.cal.bank s.cond.cal.standby)) with
  | some named => refuse .badBank named s
  | none => okStore CalStore.commit (.calCommitted s.cond.cal.commit.active s.cond.cal.commit.count) s

/-- CAL.COMMIT: the switch is read first, so an OPEN one gives SEALED whatever the frame carries (R26, R32, R33). It carries no field
besides its name, and one that stands there is BAD_FIELD behind that check and before the standby bank is looked at, so before BAD_BANK
(the model's choice, assumption 10). -/
def answerCalCommit (fields : List Text) : Answer := fun s =>
  if s.cond.calClosed = false then refuseWith .sealed s else noFields fields calCommit s

/-- CAL.COMMIT: make the standby bank active (R32, R33). -/
def execCalCommit (fields : List Text) (s : State) : Result := takeRequest (txt "CAL.COMMIT") fields (answerCalCommit fields) s

end Sys2Proof.Machine
end

