-- ==== Sys2Proof/Machine/HeaderRequests.lean ====
section
/-! DEFINITION. RACK.HEADER (section 7.5). -/

namespace Sys2Proof.Machine

/-- The form check of RACK.HEADER (R131). -/
def headerItems (fields : List Text) : Except Text (List Item) :=
  checkPlain [plainField "header" (.nat 1 6), plainField "cap" (.nat 0 8)] ["header"] fields

/-- A capacity is set; a raise makes the grant test at once, anything else grants and revokes nothing (R131). The arms granted, in
order, come with it. -/
def setCapacity (c : Conditions) (h : HeaderId) (cap : Nat) (r : Rack) : Rack × List ArmId :=
  let r1 := r.modHeader h (fun x => { x with capacity := cap })
  if (r.header h).capacity < cap then grantTest c h r1 else (r1, [])

/-- The response of RACK.HEADER: the waiting arms in list order, each with its priority (R131). -/
def headerAnswer (x : Header) (granted : Option (List ArmId)) : OkFields :=
  .header x.capacity x.held (x.waiting.map (fun w => (w.arm, w.priority))) granted

/-- RACK.HEADER on well-formed fields: with cap it sets, without it reads (R131). -/
def rackHeader (items : List Item) : Answer := fun s =>
  match natAt? items "cap" 0 with
  | some cap =>
    okRack (fun c r => (setCapacity c (numbered 5 (natAt items "header" 0)) cap r).1)
      (headerAnswer
        ((setCapacity s.cond (numbered 5 (natAt items "header" 0)) cap s.rack).1.header (numbered 5 (natAt items "header" 0)))
        (some (setCapacity s.cond (numbered 5 (natAt items "header" 0)) cap s.rack).2)) s
  | none => answerOk (headerAnswer (s.rack.header (numbered 5 (natAt items "header" 0))) none) s

/-- RACK.HEADER (R131). -/
def answerRackHeader (fields : List Text) : Answer := withItems (headerItems fields) rackHeader

/-- RACK.HEADER: set or read a header's capacity (R131). -/
def execRackHeader (fields : List Text) (s : State) : Result := takeRequest (txt "RACK.HEADER") fields (answerRackHeader fields) s

end Sys2Proof.Machine
end

