-- ==== Sys2Proof/Machine/Booking.lean ====
section
/-! DEFINITION. ORDER.BOOK: its form, its fifteen checks, its effects (section 5.4). -/

namespace Sys2Proof.Machine

/-! ### The form (R77) -/

/-- The order table has 64 slots (R74). -/
def orderSlots : Nat := 64

/-- The stored length of a remark (R77). -/
def remarkLength : Nat := 64

/-- The fields of ORDER.BOOK (section 5.4). -/
def bookForms : List FieldForm :=
  [plainField "order" longNumber, plainField "permit" longNumber, plainField "unit1" longNumber, plainField "unit2" longNumber,
   plainField "bay" .bayOrAny, plainField "prio" (.nat 0 7), plainField "remark" .text, indexedField "addr" 1 12 (.nat 1 12),
   indexedField "recipe" 1 12 (.nat 1 32), indexedField "account" 1 12 accountNumber, indexedField "preset" 1 12 (.nat 0 99999)]

/-- The four fields of a line. -/
def lineFieldNames : List Text := [txt "addr", txt "recipe", txt "account", txt "preset"]

/-- The number of lines described from line 1 on without a gap (R77). -/
def lineRun (items : List Item) : Nat := gaplessRun items lineFieldNames 12 1

/-- A line of this number has a field in the frame. -/
def hasLine (items : List Item) (n : Nat) : Bool := lineFieldNames.any (fun name => hasItem items name n)

/-- The line that follows the first gap, if there is one (R77). Where the frame has several gaps, that is the lowest-numbered line behind
the lowest-numbered gap, wherever its fields stand in the frame, and the lines behind later gaps are not judged for it (the model's choice,
assumption 8). -/
def lineBehindGap (items : List Item) : Option Nat :=
  (List.range 13).find? (fun n => decide (lineRun items < n) && hasLine items n)

/-- A field of the line that follows a gap is at fault (R77). -/
def bookFieldBad (items : List Item) (i : Item) : Bool :=
  lineFieldNames.contains i.name && decide (lineBehindGap items = some i.index)

/-- The fields a line must carry (R77). -/
def lineNeeds (n : Nat) : List (Text × Nat × Text) :=
  [requiredAt "addr" n, requiredAt "recipe" n, requiredAt "account" n, requiredAt "preset" n]

/-- The fields an ORDER.BOOK must carry: the plain ones, and all four of each line, of line 1 at least (R77). -/
def bookNeeds (items : List Item) : List (Text × Nat × Text) :=
  [required "order", required "permit", required "unit1", required "bay", required "prio"] ++
    (List.range (max 1 (lineRun items))).flatMap (fun j => lineNeeds (j + 1))

/-- The form check of ORDER.BOOK (R77). -/
def bookItems (fields : List Text) : Except Text (List Item) := checkForm bookForms true bookFieldBad bookNeeds fields

/-- One line of a booking as asked for. -/
structure BookLine where
  number : Nat
  addr : Nat
  recipe : Nat
  account : Nat
  preset : Nat
  deriving DecidableEq, Repr

/-- A booking as asked for. -/
structure Booking where
  order : Nat
  permit : Nat
  unit1 : Nat
  unit2 : Option Nat
  bay : Option BayId
  priority : Nat
  remark : Text
  lines : List BookLine
  deriving DecidableEq, Repr

/-- The bay a booking names: none for ANY. -/
def bookBay (items : List Item) : Option BayId := (natAt? items "bay" 0).map (fun n => numbered 3 n)

/-- The booking well-formed fields ask for. -/
def bookingOf (items : List Item) : Booking :=
  { order := natAt items "order" 0, permit := natAt items "permit" 0, unit1 := natAt items "unit1" 0
    unit2 := natAt? items "unit2" 0, bay := bookBay items, priority := natAt items "prio" 0, remark := textAt items "remark"
    lines := (List.range (lineRun items)).map (fun j =>
      { number := j + 1, addr := natAt items "addr" (j + 1), recipe := natAt items "recipe" (j + 1)
        account := natAt items "account" (j + 1), preset := natAt items "preset" (j + 1) }) }

/-! ### The checks (R78 to R81) -/

/-- The first of several checks that fails. -/
def firstRefusal : List (Option Refuse) → Option Refuse
  | [] => none
  | some x :: _ => some x
  | none :: rest => firstRefusal rest

/-- A refusal when a condition holds. -/
def refuseIf (p : Bool) (status : Status) (named : Named) : Option Refuse :=
  if p then some { status := status, named := named } else none

/-- The units a booking names, the first before the second (R79). -/
def Booking.units (k : Booking) : List Nat := k.unit1 :: k.unit2.toList

/-- Check 5 for one unit: it exists. -/
def unitUnknown (r : Rack) (u : Nat) : Option Refuse := refuseIf (r.unit? u).isNone .notFound (.unit u)

/-- Check 6 for one unit: its certificate expiry day is not before the day (R79). -/
def unitOutOfDate (c : Conditions) (r : Rack) (u : Nat) : Option Refuse :=
  refuseIf (r.unitExpired c u) .expired (.unit u)

/-- Check 7 for one unit: it has no committed order (R54, R79). -/
def unitBusy (r : Rack) (u : Nat) : Option Refuse :=
  match (r.unit? u).bind (fun v => v.committed) with
  | some o => some { status := .unitBusy, named := .unitOrder u o }
  | none => none

/-- Check 8 for the lines in turn: each address in range and not used before (R79). -/
def addressBad (r : Rack) (k : Booking) : List Nat → List BookLine → Option Refuse
  | _, [] => none
  | used, l :: rest =>
    if (r.compartment? k.unit1 k.unit2 l.addr).isNone ∨ l.addr ∈ used then
      some { status := .badField, named := .field (indexedKey "addr" l.number) }
    else addressBad r k (l.addr :: used) rest

/-- Check 9 for one line: its recipe exists (R80). -/
def recipeUnknown (c : Conditions) (l : BookLine) : Option Refuse :=
  refuseIf (c.recipe? l.recipe).isNone .notFound (.field (indexedKey "recipe" l.number))

/-- A preset is 100 to 30,000 L and no more than a compartment's safe fill, all inclusive (R80). -/
def presetFits (preset : Nat) (room : Option Compartment) : Bool :=
  decide (100 ≤ preset) && decide (preset ≤ 30000) &&
    (match room with
     | some x => decide (preset ≤ x.capacity)
     | none => false)

/-- Check 10 for one line (R80). -/
def presetBad (r : Rack) (k : Booking) (l : BookLine) : Option Refuse :=
  refuseIf (!presetFits l.preset (r.compartment? k.unit1 k.unit2 l.addr)) .capacity (.line l.number)

/-- An entry of the switch-load table: the row of a last group, CLEAN for none, and the column of a new group (R56). -/
def SwitchTable.verdict (t : SwitchTable) (last : Option Group) (new : Group) : Verdict :=
  match last with
  | some g => (t.rows[g.val])[new.val]
  | none => (t.rows[8])[new.val]

/-- The verdict of a line of a booking (R57). -/
def verdictOf (c : Conditions) (r : Rack) (k : Booking) (l : BookLine) : Verdict :=
  match c.recipe? l.recipe, r.compartment? k.unit1 k.unit2 l.addr with
  | some x, some room => c.switchTable.verdict room.lastGroup x.group
  | _, _ => .forbid

/-- Check 11 for one line (R57, R80). -/
def verdictBad (c : Conditions) (r : Rack) (k : Booking) (l : BookLine) : Option Refuse :=
  refuseIf (decide (verdictOf c r k l = .forbid)) .switchForbidden (.line l.number)

/-- Check 12 for one line: its account exists and is OPEN (R62). -/
def accountClosed (r : Rack) (l : BookLine) : Option Refuse :=
  match r.account? l.account with
  | none => some { status := .notFound, named := .lineAccount l.number l.account }
  | some x => refuseIf x.held .held (.lineAccount l.number l.account)

/-- Check 13 for one line: account and recipe have one group (R62). -/
def groupBad (c : Conditions) (r : Rack) (l : BookLine) : Option Refuse :=
  refuseIf (decide ((r.account? l.account).map (fun x => x.group) ≠ (c.recipe? l.recipe).map (fun x => x.group))) .badField
    (.field (indexedKey "account" l.number))

/-- A booking's need on an account: the presets of the lines that name it (R61). -/
def Booking.needOf (k : Booking) (account : Nat) : Nat :=
  ((k.lines.filter (fun l => decide (l.account = account))).map (fun l => l.preset)).sum

/-- Check 14 for one account (R61, R62). -/
def coverBad (r : Rack) (k : Booking) (account : Nat) : Option Refuse :=
  match r.account? account with
  | some x => refuseIf (!x.covers (k.needOf account)) .noCover (.account account)
  | none => none

/-- The dose entries of a line's recipe. -/
def dosesOf (c : Conditions) (l : BookLine) : List Dose := ((c.recipe? l.recipe).map (fun x => x.doses)).getD []

/-- A line's need of an additive (R81). -/
def lineNeed (c : Conditions) (x : AdditiveId) (l : BookLine) : Nat :=
  (((dosesOf c l).filter (fun d => decide (d.additive = x))).map (fun d => doseNeed d.dose l.preset)).sum

/-- A booking's need of an additive (R81). -/
def Booking.additiveNeed (c : Conditions) (k : Booking) (x : AdditiveId) : Nat := (k.lines.map (lineNeed c x)).sum

/-- Some line of the booking doses the additive: a dose entry names it, be its dose 0 (the model's choice, assumption 23; R81). -/
def Booking.usesAdditive (c : Conditions) (k : Booking) (x : AdditiveId) : Bool :=
  k.lines.any (fun l => (dosesOf c l).any (fun d => decide (d.additive = x)))

/-- An additive covers a need when its stock less its reserved is at least the need (R81). -/
def Additive.covers (a : Additive) (need : Nat) : Bool := decide ((need : Int) ≤ a.freeStock)

/-- Check 15 for one additive (R81). -/
def stockBad (c : Conditions) (r : Rack) (k : Booking) (x : AdditiveId) : Option Refuse :=
  refuseIf (k.usesAdditive c x && !(r.additive x).covers (k.additiveNeed c x)) .noStock (.additive x)

/-- Additives 1 to 8 in turn. -/
def allAdditives : List AdditiveId := [0, 1, 2, 3, 4, 5, 6, 7]

/-- The fifteen checks of a booking, in order (R78). -/
def bookRefusal (c : Conditions) (r : Rack) (k : Booking) : Option Refuse :=
  firstRefusal
    [refuseIf (r.order? k.order).isSome .duplicate .nothing,
     refuseIf (decide (orderSlots ≤ r.orders.length)) .tableFull .nothing,
     refuseIf (r.permit? k.permit).isNone .notFound (.field (txt "permit")),
     refuseIf (((r.permit? k.permit).map (fun p => p.suspended)).getD false) .suspended .nothing,
     k.units.findSome? (unitUnknown r),
     k.units.findSome? (unitOutOfDate c r),
     k.units.findSome? (unitBusy r),
     refuseIf (decide (k.unit2 = some k.unit1)) .badField (.field (txt "unit2")),
     addressBad r k [] k.lines,
     k.lines.findSome? (recipeUnknown c),
     k.lines.findSome? (presetBad r k),
     k.lines.findSome? (verdictBad c r k),
     k.lines.findSome? (accountClosed r),
     k.lines.findSome? (groupBad c r),
     k.lines.findSome? (fun l => coverBad r k l.account),
     allAdditives.findSome? (stockBad c r k)]

/-! ### The effects (R75, R82) -/

/-- A dose entry's record at booking: nothing dispensed, the need reserved (R75). -/
def Dose.record (preset : Nat) (d : Dose) : DoseRecord :=
  { additive := d.additive, dose := d.dose, slot := none, dispensed := 0, target := none, misses := 0
    remaining := doseNeed d.dose preset }

/-- A line as an accepted booking creates it: PENDING, the recipe's values copied (R75). -/
def newLine (x : Recipe) (low : Bool) (l : BookLine) : Line :=
  { number := l.number, addr := l.addr, recipe := l.recipe, product := x.product, header := x.header, group := x.group
    hazard := x.hazard, doses := x.doses.map (Dose.record l.preset), account := l.account, preset := l.preset, lowOnly := low
    state := .pending, arm := none, bank := none, calCount := none, gross := 0, standard := 0, residue := 0, weight := 0
    grossLitres := none, standardLitres := none, average := none, flags := { LineFlags.none with lowOnly := low }
    stopCause := none }

/-- A line of a booking is low-only (R57). -/
def lineLow (c : Conditions) (r : Rack) (k : Booking) (l : BookLine) : Bool := decide (verdictOf c r k l = .lowOnly)

/-- The lines an accepted booking creates. -/
def bookedLines (c : Conditions) (r : Rack) (k : Booking) : List Line :=
  k.lines.filterMap (fun l => (c.recipe? l.recipe).map (fun x => newLine x (lineLow c r k l) l))

/-- The order an accepted booking creates (R82). -/
def bookedOrder (c : Conditions) (r : Rack) (k : Booking) : Order :=
  { number := k.order, state := .booked, permit := k.permit, unit1 := k.unit1, unit2 := k.unit2, bay := k.bay, lastBay := none
    priority := k.priority, remark := k.remark.take remarkLength, counted := false, note := none, day := none
    lines := bookedLines c r k }

/-- Each account's reserved rises by the booking's need on it (R63). -/
def Booking.reserveAccounts (k : Booking) (xs : List Account) : List Account :=
  xs.map (fun x => { x with reserved := x.reserved + k.needOf x.number })

/-- Each additive's reserved rises by the booking's need of it (R82). -/
def Booking.reserveAdditives (c : Conditions) (k : Booking) (xs : Vector Additive 8) : Vector Additive 8 :=
  Vector.ofFn (fun x : Fin 8 => { xs[x] with reserved := (xs[x]).reserved + k.additiveNeed c x })

/-- The units named take the order as their committed order (R54). -/
def Booking.commitUnits (k : Booking) (us : List VehicleUnit) : List VehicleUnit :=
  us.map (fun u => if u.number ∈ k.units then { u with committed := some k.order } else u)

/-- The effects of an accepted booking, made together (R82). -/
def Rack.book (c : Conditions) (k : Booking) (r : Rack) : Rack :=
  { r with
    orders := r.orders ++ [bookedOrder c r k]
    accounts := k.reserveAccounts r.accounts
    additives := k.reserveAdditives c r.additives
    units := k.commitUnits r.units }

/-- The answer to an accepted booking (R82). -/
def bookAnswer (c : Conditions) (r : Rack) (k : Booking) : OkFields :=
  .booked k.order k.lines.length ((k.lines.filter (lineLow c r k)).map (fun l => l.number))
    (decide (remarkLength < k.remark.length))

/-- ORDER.BOOK on well-formed fields (R78, R82). -/
def orderBook (k : Booking) : Answer := fun s =>
  match bookRefusal s.cond s.rack k with
  | some why => (s, .refused why)
  | none => okTables (fun r => r.book s.cond k) (bookAnswer s.cond s.rack k) s

/-- ORDER.BOOK (R77 to R82). -/
def answerOrderBook (fields : List Text) : Answer := withItems (bookItems fields) (fun items => orderBook (bookingOf items))

/-- ORDER.BOOK: book a load (R77 to R82). -/
def execOrderBook (fields : List Text) (s : State) : Result := takeRequest (txt "ORDER.BOOK") fields (answerOrderBook fields) s

end Sys2Proof.Machine
end

