-- ==== Sys2Proof/Machine/OrderRequests.lean ====
section
/-! DEFINITION. ORDER.GET, ORDER.AMEND, ORDER.CANCEL, ORDER.RETIRE (sections 5.5, 5.7, 5.8, 5.10). -/

namespace Sys2Proof.Machine

/-- The form check of a request that names an order alone; the field is spelled order, as R170 and section 5.8 spell it, also for
ORDER.GET and ORDER.RETIRE (assumption 9). -/
def orderItems (fields : List Text) : Except Text (List Item) := checkPlain [plainField "order" longNumber] ["order"] fields

/-- A request that names an order: BAD_FIELD, NOT_FOUND, or the owner's answer on the record. -/
def onOrder (fields : List Text) (answer : Order → Answer) : Answer :=
  withItems (orderItems fields) (fun items s =>
    match s.rack.order? (natAt items "order" 0) with
    | some o => answer o s
    | none => refuseWith .notFound s)

/-! ### ORDER.GET (R83) -/

/-- A volume as ORDER.GET gives it: rounded litres of a final line, else whole litres truncated (R83). -/
def litresShown (final : Option Nat) (microlitres : Nat) : Nat := final.getD (microlitres / 1000000)

/-- A line as ORDER.GET returns it (R83). -/
def Line.view (l : Line) : LineView :=
  { number := l.number, addr := l.addr, recipe := l.recipe, product := l.product, header := l.header, group := l.group
    hazard := l.hazard, doses := l.doses, account := l.account, preset := l.preset, lowOnly := l.lowOnly, state := l.state
    arm := l.arm, bank := l.bank, calCount := l.calCount, grossLitres := litresShown l.grossLitres l.gross
    standardLitres := litresShown l.standardLitres l.standard, average := l.average, flags := l.flags, stopCause := l.stopCause }

/-- An order's place in the order of acceptance among the orders now in the table, counted from 1 (the model's choice, assumption 24;
R83). -/
def Rack.bookingPosition (r : Rack) (n : Nat) : Nat := (r.orders.takeWhile (fun o => decide (o.number ≠ n))).length + 1

/-- An order as ORDER.GET returns it (R83). -/
def orderView (r : Rack) (o : Order) : OrderView :=
  { number := o.number, position := r.bookingPosition o.number, state := o.state, permit := o.permit, unit1 := o.unit1
    unit2 := o.unit2, bay := o.bay, admittedBay := if o.state = .admitted then o.lastBay else none, lastBay := o.lastBay
    priority := o.priority, remark := o.remark, counted := o.counted, note := o.note, day := o.day
    lines := o.lines.map Line.view }

/-- ORDER.GET (R83). -/
def answerOrderGet (fields : List Text) : Answer := onOrder fields (fun o s => answerOk (.order (orderView s.rack o)) s)

/-- ORDER.GET: read an order and its lines (R83). -/
def execOrderGet (fields : List Text) (s : State) : Result := takeRequest (txt "ORDER.GET") fields (answerOrderGet fields) s

/-! ### ORDER.AMEND (R90, R91) -/

/-- The form check of ORDER.AMEND (R90, check 1). -/
def amendItems (fields : List Text) : Except Text (List Item) :=
  checkPlain [plainField "order" longNumber, plainField "line" (.nat 1 12), plainField "preset" (.nat 0 99999)]
    ["order", "line", "preset"] fields

/-- The need of a dose entry at a preset (R81). -/
def DoseRecord.need (preset : Nat) (d : DoseRecord) : Nat := doseNeed d.dose preset

/-- Check 8 for one dose entry: its additive covers the rise in its need (R90). -/
def riseUncovered (r : Rack) (old new : Nat) (d : DoseRecord) : Option Refuse :=
  refuseIf (!(r.additive d.additive).covers (d.need new - d.need old)) .noStock (.additive d.additive)

/-- Checks 4 to 8 of ORDER.AMEND (R90); a fall in preset passes 6 to 8 untested. -/
def amendRefusal (r : Rack) (o : Order) (l : Line) (new : Nat) : Option Refuse :=
  firstRefusal
    ([refuseIf (decide (l.state ≠ .pending ∧ l.state ≠ .queued)) .wrongState .nothing,
      refuseIf (!presetFits new (r.compartment? o.unit1 o.unit2 l.addr)) .capacity .nothing] ++
     (if l.preset < new then
        [refuseIf (((r.account? l.account).map (fun x => x.held)).getD false) .held .nothing,
         refuseIf (!(((r.account? l.account).map (fun x => x.covers (new - l.preset))).getD false)) .noCover .nothing,
         l.doses.findSome? (riseUncovered r l.preset new)]
      else []))

/-- A dose entry's remaining reservation recomputed from a new preset (R91). -/
def DoseRecord.rebook (preset : Nat) (d : DoseRecord) : DoseRecord := { d with remaining := d.need preset }

/-- Additives' reserved moves by the change of each remaining reservation (R91). -/
def moveAdditives (new : Nat) : List DoseRecord → Rack → Rack
  | [], r => r
  | d :: rest, r =>
    moveAdditives new rest (r.modAdditive d.additive (fun x => { x with reserved := x.reserved + d.need new - d.remaining }))

/-- The effects of an accepted amendment, made together (R91). -/
def Rack.amend (o : Order) (l : Line) (new : Nat) (r : Rack) : Rack :=
  ((moveAdditives new l.doses r).modAccount l.account (fun x => { x with reserved := x.reserved + new - l.preset })).modLine
    o.number l.number (fun y => { y with preset := new, doses := y.doses.map (DoseRecord.rebook new) })

/-- ORDER.AMEND on well-formed fields (R90, R91). -/
def orderAmend (items : List Item) : Answer := fun s =>
  match s.rack.order? (natAt items "order" 0) with
  | none => refuse .notFound (.field (txt "order")) s
  | some o =>
    match o.line? (natAt items "line" 0) with
    | none => refuse .notFound (.field (txt "line")) s
    | some l =>
      match amendRefusal s.rack o l (natAt items "preset" 0) with
      | some why => (s, .refused why)
      | none =>
        okTables (fun r => r.amend o l (natAt items "preset" 0)) (.amended l.preset (natAt items "preset" 0)) s

/-- ORDER.AMEND (R90, R91). -/
def answerOrderAmend (fields : List Text) : Answer := withItems (amendItems fields) orderAmend

/-- ORDER.AMEND: change one line's preset (R90, R91). -/
def execOrderAmend (fields : List Text) (s : State) : Result := takeRequest (txt "ORDER.AMEND") fields (answerOrderAmend fields) s

/-! ### ORDER.CANCEL (R92, R93) -/

/-- How many of an order's lines are in states of a kind. -/
def Order.countLines (o : Order) (kind : LineState → Bool) : Nat := (o.lines.filter (fun l => kind l.state)).length

/-- The three counts of a cancel's answer: made final at once, left in a close, already final (section 5.8). -/
def cancelCounts (o : Order) : OkFields :=
  .cancelled (o.countLines (fun x => !x.isFinal && decide (x ≠ .active))) (o.countLines (fun x => decide (x = .active)))
    (o.countLines LineState.isFinal)

/-- A cancel acts on each line of the order (R92, R93). -/
def Rack.cancelOrder (c : Conditions) (o : Order) (r : Rack) : Rack :=
  stopLines c o.number .cancel true (o.lines.map (fun l => l.number)) r

/-- ORDER.CANCEL on a record: WRONG_STATE in COMPLETE and VOID (section 5.8); after a cancel of a BOOKED order the completion test is
made at once (R95). -/
def orderCancel (o : Order) : Answer :=
  match o.state with
  | .complete => refuseWith .wrongState
  | .void => refuseWith .wrongState
  | .booked => okRack (fun c r => (r.cancelOrder c o).testOrder c o.number) (cancelCounts o)
  | .admitted => okRack (fun c r => r.cancelOrder c o) (cancelCounts o)

/-- ORDER.CANCEL (R92, R93). -/
def answerOrderCancel (fields : List Text) : Answer := onOrder fields orderCancel

/-- ORDER.CANCEL: end an order early (R92, R93). -/
def execOrderCancel (fields : List Text) (s : State) : Result :=
  takeRequest (txt "ORDER.CANCEL") fields (answerOrderCancel fields) s

/-! ### ORDER.RETIRE (R99) -/

/-- A finished order is removed with its lines and its note, and leaves the waiting-notes list (R99, R168). -/
def Rack.retireOrder (n : Nat) (r : Rack) : Rack :=
  { r with orders := r.orders.filter (fun o => decide (o.number ≠ n)), notes := r.notes.filter (fun m => decide (m ≠ n)) }

/-- ORDER.RETIRE on a record: WRONG_STATE in BOOKED and ADMITTED (R99). -/
def orderRetire (o : Order) : Answer :=
  match o.state with
  | .booked => refuseWith .wrongState
  | .admitted => refuseWith .wrongState
  | .complete => okTables (fun r => r.retireOrder o.number) (.retired o.state)
  | .void => okTables (fun r => r.retireOrder o.number) (.retired o.state)

/-- ORDER.RETIRE (R99). -/
def answerOrderRetire (fields : List Text) : Answer := onOrder fields orderRetire

/-- ORDER.RETIRE: remove a finished order (R99). -/
def execOrderRetire (fields : List Text) (s : State) : Result :=
  takeRequest (txt "ORDER.RETIRE") fields (answerOrderRetire fields) s

end Sys2Proof.Machine
end

