-- ==== Sys2Proof/Machine/NoteRequests.lean ====
section
/-! DEFINITION. The delivery note, NOTE.NEXT and NOTE.READ (chapter 10). -/

namespace Sys2Proof.Machine

/-! ### The content of a note (R172 to R176) -/

/-- A remark fitted to the note remark width: cut to it, or followed by spaces up to it (R173). -/
def fitRemark (width : Nat) (remark : Text) : Text :=
  remark.take width ++ List.replicate (width - remark.length) ' '

/-- The entry of a line on its order's note (R174, R175). -/
def noteLine (o : Order) (l : Line) : NoteLine :=
  let room := (resolveAddr o.unit1 o.unit2 l.addr).getD (0, 0)
  { number := l.number, addr := l.addr, unit := room.1, compartment := room.2, recipe := l.recipe, product := l.product
    preset := l.preset, gross := l.grossLitres.getD 0, standard := l.standardLitres.getD 0, average := l.average
    state := l.state, flags := l.flags, stopCause := l.stopCause, bank := l.bank, calCount := l.calCount
    additives := l.doses.map (fun d => (d.additive, d.dispensed, d.target.getD 0)) }

/-- What a note's lines dispensed of an additive (R176). -/
def dispensedOf (ls : List NoteLine) (x : AdditiveId) : Nat :=
  (ls.map (fun l => ((l.additives.filter (fun d => decide (d.1 = x))).map (fun d => d.2.1)).sum)).sum

/-- The additives named by a dose entry of some line, ascending, with what was dispensed of each (R176). -/
def additiveTotals (ls : List NoteLine) : List (AdditiveId × Nat) :=
  (allAdditives.filter (fun x => ls.any (fun l => l.additives.any (fun d => decide (d.1 = x))))).map
    (fun x => (x, dispensedOf ls x))

/-- The note of a COMPLETE order under a remark width (R172 to R176). -/
def noteOf (width : Nat) (o : Order) : Note :=
  let ls := o.lines.map (noteLine o)
  { note := o.note.getD 0, order := o.number, permit := o.permit, unit1 := o.unit1, unit2 := o.unit2, bay := o.lastBay
    day := o.day.getD 0, remark := fitRemark width o.remark, lines := ls, grossTotal := (ls.map (fun l => l.gross)).sum
    standardTotal := (ls.map (fun l => l.standard)).sum, additiveTotals := additiveTotals ls }

/-! ### NOTE.NEXT (R169) -/

/-- The form check of NOTE.NEXT (R169). -/
def noteNextItems (fields : List Text) : Except Text (List Item) := checkPlain [plainField "after" longNumber] [] fields

/-- A place in the waiting-notes list, counted from 1 at the head. -/
def placeOf (n : Nat) (notes : List Nat) : Nat := notes.idxOf n + 1

/-- The entry that stands immediately behind a named one. -/
def entryBehind (n : Nat) : List Nat → Option Nat
  | [] => none
  | m :: rest => if m = n then rest.head? else entryBehind n rest

/-- The order a NOTE.NEXT reaches, or its refusal (R169). -/
def nextWaiting (notes : List Nat) (after : Option Nat) : Except Named Nat :=
  match after with
  | none =>
    match notes with
    | [] => .error .nothing
    | n :: _ => .ok n
  | some n =>
    if n ∈ notes then
      match entryBehind n notes with
      | some m => .ok m
      | none => .error .nothing
    else .error (.field (txt "after"))

/-- The answer that carries an order's note, its place and the length of the list; NOTE.NEXT adds the counter (R169, R170). -/
def noteAnswer (counter : Option Nat) (o : Order) : Answer := fun s =>
  answerOk (.note (noteOf s.cond.noteWidth o) (placeOf o.number s.rack.notes) s.rack.notes.length counter) s

/-- NOTE.NEXT on well-formed fields (R169). -/
def noteNext (items : List Item) : Answer := fun s =>
  match nextWaiting s.rack.notes (natAt? items "after" 0) with
  | .error named => refuse .notFound named s
  | .ok n =>
    match s.rack.order? n with
    | some o => noteAnswer (some s.rack.noteCounter) o s
    | none => refuseWith .notFound s

/-- NOTE.NEXT (R169). -/
def answerNoteNext (fields : List Text) : Answer := withItems (noteNextItems fields) noteNext

/-- NOTE.NEXT: read the note of a waiting order (R169). -/
def execNoteNext (fields : List Text) (s : State) : Result := takeRequest (txt "NOTE.NEXT") fields (answerNoteNext fields) s

/-! ### NOTE.READ (R170) -/

/-- NOTE.READ on a record (R170): an order that is not COMPLETE has no note. -/
def noteRead (o : Order) : Answer :=
  match o.state with
  | .complete => noteAnswer none o
  | .booked => refuse .wrongState (.orderState .booked)
  | .admitted => refuse .wrongState (.orderState .admitted)
  | .void => refuse .wrongState (.orderState .void)

/-- NOTE.READ (R170). -/
def answerNoteRead (fields : List Text) : Answer := onOrder fields noteRead

/-- NOTE.READ: read the note of any completed order (R170). -/
def execNoteRead (fields : List Text) (s : State) : Result := takeRequest (txt "NOTE.READ") fields (answerNoteRead fields) s

end Sys2Proof.Machine
end

