-- ==== Sys2Proof/Machine/PermitRequests.lean ====
section
/-! DEFINITION. The permit requests (sections 3.1 and 3.2). -/

namespace Sys2Proof.Machine

/-- The permit table has 512 slots (R40). -/
def permitSlots : Nat := 512

/-- The fields of PERMIT.PUT (section 3.1). -/
def permitPutForms : List FieldForm :=
  [plainField "permit" longNumber, plainField "level" (.nat 0 7), plainField "endorse" .groups, plainField "expiry" dayNumber,
   plainField "limit" (.nat 1 255)]

/-- The form check of PERMIT.PUT: all five fields present and in range (R41). -/
def permitPutItems (fields : List Text) : Except Text (List Item) :=
  checkPlain permitPutForms ["permit", "level", "endorse", "expiry", "limit"] fields

/-- The groups listed, each once (R41). -/
def endorsementSet (gs : List Nat) : Vector Bool 8 := Vector.ofFn (fun g : Fin 8 => gs.contains g.val)

/-- The terms a PERMIT.PUT gives a permit; loads today, state and admitted bay are kept (R41). -/
def Permit.withTerms (items : List Item) (p : Permit) : Permit :=
  { p with level := natAt items "level" 0, endorsements := endorsementSet (groupsAt items "endorse")
           expiry := natAt items "expiry" 0, dailyLimit := natAt items "limit" 0 }

/-- A permit as PERMIT.PUT creates it: loads today 0, VALID, not admitted (R41). -/
def newPermit (items : List Item) : Permit :=
  { number := natAt items "permit" 0, level := natAt items "level" 0
    endorsements := endorsementSet (groupsAt items "endorse"), expiry := natAt items "expiry" 0
    dailyLimit := natAt items "limit" 0, loadsToday := 0, suspended := false, admittedBay := none }

/-- PERMIT.PUT on well-formed fields (R41). -/
def permitPut (items : List Item) : Answer := fun s =>
  match s.rack.permit? (natAt items "permit" 0) with
  | some p => okTables (fun r => r.modPermit p.number (Permit.withTerms items)) (.action false) s
  | none =>
    if permitSlots ≤ s.rack.permits.length then refuseWith .tableFull s
    else okTables (fun r => { r with permits := r.permits ++ [newPermit items] }) (.action true) s

/-- PERMIT.PUT (R41). -/
def answerPermitPut (fields : List Text) : Answer := withItems (permitPutItems fields) permitPut

/-- PERMIT.PUT: create a permit, or replace its terms (R41). -/
def execPermitPut (fields : List Text) (s : State) : Result := takeRequest (txt "PERMIT.PUT") fields (answerPermitPut fields) s

/-- The form check of a request that names a permit alone; the field is spelled permit as in PERMIT.PUT (assumption 9). -/
def permitItems (fields : List Text) : Except Text (List Item) := checkPlain [plainField "permit" longNumber] ["permit"] fields

/-- A request that names a permit: BAD_FIELD, NOT_FOUND, or the owner's answer on the record. -/
def onPermit (fields : List Text) (answer : Permit → Answer) : Answer :=
  withItems (permitItems fields) (fun items s =>
    match s.rack.permit? (natAt items "permit" 0) with
    | some p => answer p s
    | none => refuseWith .notFound s)

/-- The number of orders in the table that name a permit, whatever their state (R42). -/
def Rack.ordersOfPermit (r : Rack) (n : Nat) : Nat := (r.orders.filter (fun o => decide (o.permit = n))).length

/-- PERMIT.GET (R42). -/
def answerPermitGet (fields : List Text) : Answer :=
  onPermit fields (fun p s => answerOk (.permit p (s.rack.ordersOfPermit p.number)) s)

/-- PERMIT.GET: read a permit (R42). -/
def execPermitGet (fields : List Text) (s : State) : Result := takeRequest (txt "PERMIT.GET") fields (answerPermitGet fields) s

/-- The order admitted at a bay has its lines acted on by a suspension of its permit (R45, R46), in line-number order (the model's
choice, assumption 21). -/
def Rack.suspendAdmitted (c : Conditions) (b : BayId) (r : Rack) : Rack :=
  match (r.bay b).admitted with
  | some x =>
    match r.order? x.order with
    | some o => stopLines c o.number .permit false (o.lines.map (fun l => l.number)) r
    | none => r
  | none => r

/-- A permit becomes SUSPENDED, and the lines of its admitted order meet R46 (R45). -/
def Rack.suspendPermit (c : Conditions) (p : Permit) (r : Rack) : Rack :=
  let r1 := r.modPermit p.number (fun x => { x with suspended := true })
  match p.admittedBay with
  | some b => r1.suspendAdmitted c b
  | none => r1

/-- The bay at which a permit of the table stands admitted, if at any (R44). -/
def Rack.admittedBayOf (r : Rack) (permit : Nat) : Option BayId := (r.permit? permit).bind (fun p => p.admittedBay)

/-- PERMIT.SUSPEND on a record (R45): the admitted bay is answered as it stands once the effects of R46 are made (R182), empty where
they completed the order. A permit already SUSPENDED is left, and changed NO carries no bay, since R45 gives the bay with changed YES
alone (assumption 20). -/
def permitSuspend (p : Permit) : Answer := fun s =>
  if p.suspended then answerOk (.permitSuspended false none) s
  else
    okRack (fun c r => r.suspendPermit c p)
      (.permitSuspended true ((s.rack.suspendPermit s.cond p).admittedBayOf p.number)) s

/-- PERMIT.SUSPEND (R45, R46). -/
def answerPermitSuspend (fields : List Text) : Answer := onPermit fields permitSuspend

/-- PERMIT.SUSPEND: withdraw a permit (R45, R46). -/
def execPermitSuspend (fields : List Text) (s : State) : Result :=
  takeRequest (txt "PERMIT.SUSPEND") fields (answerPermitSuspend fields) s

/-- PERMIT.REINSTATE on a record (R47). -/
def permitReinstate (p : Permit) : Answer :=
  okTables (fun r => r.modPermit p.number (fun x => { x with suspended := false })) (.changed p.suspended)

/-- PERMIT.REINSTATE (R47). -/
def answerPermitReinstate (fields : List Text) : Answer := onPermit fields permitReinstate

/-- PERMIT.REINSTATE: restore a permit (R47). -/
def execPermitReinstate (fields : List Text) (s : State) : Result :=
  takeRequest (txt "PERMIT.REINSTATE") fields (answerPermitReinstate fields) s

/-- PERMIT.RETIRE on a record (R48). -/
def permitRetire (p : Permit) : Answer := fun s =>
  if 0 < s.rack.ordersOfPermit p.number then refuseWith .referenced s
  else okTables (fun r => { r with permits := r.permits.filter (fun x => decide (x.number ≠ p.number)) }) .plain s

/-- PERMIT.RETIRE (R48). -/
def answerPermitRetire (fields : List Text) : Answer := onPermit fields permitRetire

/-- PERMIT.RETIRE: remove a permit (R48). -/
def execPermitRetire (fields : List Text) (s : State) : Result :=
  takeRequest (txt "PERMIT.RETIRE") fields (answerPermitRetire fields) s

end Sys2Proof.Machine
end

