-- ==== Sys2Proof/Machine/RackRequests.lean ====
section
/-! DEFINITION. RACK.RESUME, RACK.STATUS, RACK.SETDAY, RACK.SWITCHTABLE, RACK.NOTEFORMAT, RACK.RESTART (chapters 3, 9 and 11). -/

namespace Sys2Proof.Machine

/-! ### RACK.RESUME (R164) -/

/-- RACK.RESUME on a frame without fields (R164). -/
def rackResume : Answer := fun s =>
  if s.cond.emergencyStop then refuseWith .esdActive s
  else okConditions (fun c => { c with mode := .normal }) (.changed (decide (s.cond.mode = .halted))) s

/-- RACK.RESUME (R164). -/
def answerRackResume (fields : List Text) : Answer := noFields fields rackResume

/-- RACK.RESUME: release the rack from HALTED (R164). -/
def execRackResume (fields : List Text) (s : State) : Result := takeRequest (txt "RACK.RESUME") fields (answerRackResume fields) s

/-! ### RACK.STATUS (R184) -/

/-- One bay in RACK.STATUS (R184). -/
def bayStatus (c : Conditions) (r : Rack) (b : BayId) : BayStatus :=
  { admitted := (r.bay b).admitted, ground := c.ground[b], overfill := c.overfill[b], permitted := c.permitted b }

/-- The response of RACK.STATUS (R184). -/
def statusView (c : Conditions) (r : Rack) : StatusView :=
  { day := c.day, mode := c.mode, emergencyStop := c.emergencyStop, calCount := c.cal.count, activeBank := c.cal.active
    calClosed := c.calClosed, noteWidth := c.noteWidth, notesWaiting := r.notes.length, bays := Vector.ofFn (bayStatus c r)
    alarms := allArms.filter (fun a => decide ((r.arm a).state = .alarm))
    lowAdditives := ([0, 1, 2, 3, 4, 5, 6, 7] : List AdditiveId).filter (fun x => (r.additive x).low)
    attention := attention c r }

/-- RACK.STATUS (R184). -/
def answerRackStatus (fields : List Text) : Answer := noFields fields (fun s => answerOk (.status (statusView s.cond s.rack)) s)

/-- RACK.STATUS: read the state of the rack (R184). -/
def execRackStatus (fields : List Text) (s : State) : Result := takeRequest (txt "RACK.STATUS") fields (answerRackStatus fields) s

/-! ### RACK.SETDAY (R59) -/

/-- The form check of RACK.SETDAY (R59). -/
def setDayItems (fields : List Text) : Except Text (List Item) := checkPlain [plainField "day" dayNumber] ["day"] fields

/-- Loads today becomes 0 in every permit record (R59). -/
def Rack.clearLoads (r : Rack) : Rack := { r with permits := r.permits.map (fun p => { p with loadsToday := 0 }) }

/-- RACK.SETDAY on a day in range: an advance clears every permit's loads today (R59). -/
def rackSetDay (day : Nat) : Answer := fun s =>
  ({ s with cond := { s.cond with day := day }, rack := if s.cond.day < day then s.rack.clearLoads else s.rack },
    .ok (.dayCleared (decide (s.cond.day < day))))

/-- RACK.SETDAY (R59). -/
def answerRackSetDay (fields : List Text) : Answer := withItems (setDayItems fields) (fun items => rackSetDay (natAt items "day" 0))

/-- RACK.SETDAY: set the day number (R59). -/
def execRackSetDay (fields : List Text) (s : State) : Result := takeRequest (txt "RACK.SETDAY") fields (answerRackSetDay fields) s

/-! ### RACK.SWITCHTABLE (R56) -/

/-- The fields of RACK.SWITCHTABLE: nine rows of eight verdicts (section 11.4). -/
def switchForms : List FieldForm := [{ name := txt "row", index := .lastGroup, value := .verdicts }]

/-- The rows a replacement must carry (R56). -/
def switchNeeds : List (Text × Nat × Text) :=
  (List.range 8).map (requiredAt "row") ++ [(txt "row", 8, txt "row.CLEAN")]

/-- The form check of RACK.SWITCHTABLE (R56): the first row at fault is named. -/
def switchItems (fields : List Text) : Except Text (List Item) :=
  checkForm switchForms false (fun _ _ => false) (fun _ => switchNeeds) fields

/-- The verdicts of a row as well-formed fields give them. -/
def verdictsAt (items : List Item) (row : Nat) : List Verdict :=
  match itemValue items "row" row with
  | some (.verdicts vs) => vs
  | _ => []

/-- The table well-formed fields give. -/
def switchTableOf (items : List Item) : SwitchTable :=
  { rows := Vector.ofFn (fun r : Fin 9 => Vector.ofFn (fun c : Fin 8 => (verdictsAt items r.val).getD c.val .forbid)) }

/-- RACK.SWITCHTABLE with rows replaces the table whole (R56). -/
def replaceSwitchTable (items : List Item) : Answer :=
  okConditions (fun c => { c with switchTable := switchTableOf items }) (.switchTable (switchTableOf items))

/-- RACK.SWITCHTABLE (R56): without fields it reads. -/
def answerRackSwitchTable (fields : List Text) : Answer := fun s =>
  if fields = [] then answerOk (.switchTable s.cond.switchTable) s
  else withItems (switchItems fields) replaceSwitchTable s

/-- RACK.SWITCHTABLE: replace or read the switch-load table (R56). -/
def execRackSwitchTable (fields : List Text) (s : State) : Result :=
  takeRequest (txt "RACK.SWITCHTABLE") fields (answerRackSwitchTable fields) s

/-! ### RACK.NOTEFORMAT (R185) -/

/-- The form check of RACK.NOTEFORMAT (R185). -/
def noteFormatItems (fields : List Text) : Except Text (List Item) := checkPlain [plainField "width" .width] [] fields

/-- RACK.NOTEFORMAT on well-formed fields: with width it sets, without it reads (R185). -/
def rackNoteFormat (items : List Item) : Answer := fun s =>
  match natAt? items "width" 0 with
  | some w => okConditions (fun c => { c with noteWidth := w }) (.widthSet s.cond.noteWidth w) s
  | none => answerOk (.width s.cond.noteWidth) s

/-- RACK.NOTEFORMAT (R185). -/
def answerRackNoteFormat (fields : List Text) : Answer := withItems (noteFormatItems fields) rackNoteFormat

/-- RACK.NOTEFORMAT: set the note remark width (R185). -/
def execRackNoteFormat (fields : List Text) (s : State) : Result :=
  takeRequest (txt "RACK.NOTEFORMAT") fields (answerRackNoteFormat fields) s

/-! ### RACK.RESTART (R186) -/

/-- The number of arms in a state. -/
def Rack.countArms (r : Rack) (x : ArmState) : Nat := (allArms.filter (fun a => decide ((r.arm a).state = x))).length

/-- The number of QUEUED lines. -/
def Rack.queuedLines (r : Rack) : Nat := (r.allLines.filter (fun l => decide (l.state = .queued))).length

/-- The rack after a restart whose arms are taken in the order of one draw (R120, R98, R132; assumption 3). -/
def restartedRack (s : State) : Rack := s.rack.restart s.cond (inFreeOrder s.choice allArms)

/-- RACK.RESTART on a frame without fields: the three counts are the SUSPENDED lines interrupted, the QUEUED lines returned and the
arms then in CLOSING (R186). -/
def rackRestart : Answer := fun s =>
  ({ s with choice := s.choice + 1, rack := (restartedRack s).pump },
    .ok (.restarted (s.rack.countArms .suspended) s.rack.queuedLines ((restartedRack s).countArms .closing)))

/-- RACK.RESTART (R186). -/
def answerRackRestart (fields : List Text) : Answer := noFields fields rackRestart

/-- RACK.RESTART: end loading in progress (R186, R120, R98, R132). -/
def execRackRestart (fields : List Text) (s : State) : Result :=
  takeRequest (txt "RACK.RESTART") fields (answerRackRestart fields) s

end Sys2Proof.Machine
end

