-- ==== Sys2Proof/Machine/RecipeRequests.lean ====
section
/-! DEFINITION. The recipe requests (section 8.1). -/

namespace Sys2Proof.Machine

/-- The fields of RECIPE.PUT (section 8.1). -/
def recipePutForms : List FieldForm :=
  [plainField "recipe" (.nat 1 32), plainField "product" (.nat 1 16), plainField "header" (.nat 1 6), plainField "group" (.nat 0 7),
   plainField "hazard" (.nat 0 7), indexedField "add" 1 4 (.nat 1 8), indexedField "dose" 1 4 (.nat 0 9999)]

/-- The two fields of a dose pair. -/
def doseFieldNames : List Text := [txt "add", txt "dose"]

/-- The number of dose entries from entry 1 on without a gap (R136). -/
def doseRun (items : List Item) : Nat := gaplessRun items doseFieldNames 4 1

/-- An entry before this one names the same additive (R136). -/
def additiveRepeated (items : List Item) (k : Nat) : Bool :=
  (List.range k).any (fun j => decide (1 ≤ j) && decide (natAt? items "add" j = natAt? items "add" k) &&
    (natAt? items "add" k).isSome)

/-- A dose field behind a gap, or an add that repeats an additive of an earlier entry, is at fault (R136). -/
def recipeFieldBad (items : List Item) (i : Item) : Bool :=
  (doseFieldNames.contains i.name && decide (doseRun items < i.index)) ||
    (decide (i.name = txt "add") && additiveRepeated items i.index)

/-- The fields a RECIPE.PUT must carry: the plain ones and both of each dose pair (R136). -/
def recipeNeeds (items : List Item) : List (Text × Nat × Text) :=
  ["recipe", "product", "header", "group", "hazard"].map required ++
    (List.range (doseRun items)).flatMap (fun j => [requiredAt "add" (j + 1), requiredAt "dose" (j + 1)])

/-- The form check of RECIPE.PUT (R136). -/
def recipePutItems (fields : List Text) : Except Text (List Item) :=
  checkForm recipePutForms true recipeFieldBad recipeNeeds fields

/-- The recipe well-formed fields give. -/
def recipeOf (items : List Item) : Recipe :=
  { number := natAt items "recipe" 0, product := numbered 15 (natAt items "product" 0)
    header := numbered 5 (natAt items "header" 0), group := Fin.ofNat 8 (natAt items "group" 0), hazard := natAt items "hazard" 0
    doses := (List.range (doseRun items)).map (fun j =>
      { additive := numbered 7 (natAt items "add" (j + 1)), dose := natAt items "dose" (j + 1) }) }

/-- A recipe created, or replaced whole (R136). -/
def putRecipe (x : Recipe) (xs : List Recipe) : List Recipe := xs.filter (fun y => decide (y.number ≠ x.number)) ++ [x]

/-- RECIPE.PUT on well-formed fields (R136). -/
def recipePut (items : List Item) : Answer := fun s =>
  okConditions (fun c => { c with recipes := putRecipe (recipeOf items) c.recipes })
    (.action (s.cond.recipe? (recipeOf items).number).isNone) s

/-- RECIPE.PUT (R136). -/
def answerRecipePut (fields : List Text) : Answer := withItems (recipePutItems fields) recipePut

/-- RECIPE.PUT: create or replace a recipe (R136). -/
def execRecipePut (fields : List Text) (s : State) : Result := takeRequest (txt "RECIPE.PUT") fields (answerRecipePut fields) s

/-- The form check of a request that names a recipe alone; the field is spelled recipe as in RECIPE.PUT (assumption 9). -/
def recipeItems (fields : List Text) : Except Text (List Item) := checkPlain [plainField "recipe" (.nat 1 32)] ["recipe"] fields

/-- A request that names a recipe: BAD_FIELD, NOT_FOUND, or the owner's answer on the record. -/
def onRecipe (fields : List Text) (answer : Recipe → Answer) : Answer :=
  withItems (recipeItems fields) (fun items s =>
    match s.cond.recipe? (natAt items "recipe" 0) with
    | some x => answer x s
    | none => refuseWith .notFound s)

/-- The number of lines that are not final and name a recipe number (R137). -/
def Rack.linesOfRecipe (r : Rack) (n : Nat) : Nat :=
  (r.allLines.filter (fun l => decide (l.recipe = n) && !l.state.isFinal)).length

/-- RECIPE.GET (R137). -/
def answerRecipeGet (fields : List Text) : Answer :=
  onRecipe fields (fun x s => answerOk (.recipe x (s.rack.linesOfRecipe x.number)) s)

/-- RECIPE.GET: read a recipe (R137). -/
def execRecipeGet (fields : List Text) (s : State) : Result := takeRequest (txt "RECIPE.GET") fields (answerRecipeGet fields) s

/-- RECIPE.RETIRE on a record (R138). -/
def recipeRetire (x : Recipe) : Answer := fun s =>
  if 0 < s.rack.linesOfRecipe x.number then refuseWith .referenced s
  else okConditions (fun c => { c with recipes := c.recipes.filter (fun y => decide (y.number ≠ x.number)) }) .plain s

/-- RECIPE.RETIRE (R138). -/
def answerRecipeRetire (fields : List Text) : Answer := onRecipe fields recipeRetire

/-- RECIPE.RETIRE: remove a recipe (R138). -/
def execRecipeRetire (fields : List Text) (s : State) : Result :=
  takeRequest (txt "RECIPE.RETIRE") fields (answerRecipeRetire fields) s

end Sys2Proof.Machine
end

