-- ==== Sys2Proof/Machine/UnitRequests.lean ====
section
/-! DEFINITION. The vehicle-unit requests (section 3.3). -/

namespace Sys2Proof.Machine

/-- The unit table has 256 slots (R49). -/
def unitSlots : Nat := 256

/-- The fields of UNIT.PUT (section 3.3). -/
def unitPutForms : List FieldForm :=
  [plainField "unit" longNumber, plainField "expiry" dayNumber, indexedField "cap" 1 6 (.nat 500 20000),
   indexedField "last" 1 6 .lastGroup]

/-- The number of compartments a UNIT.PUT gives: cap fields from 1 on without a gap (R50). -/
def capCount (items : List Item) : Nat := gaplessRun items [txt "cap"] 6 1

/-- Every cap behind a gap, and every last that names no compartment, is at fault (R50); the first of them in the frame is named (the
model's choice where several caps stand behind a gap, assumption 8). -/
def unitFieldBad (items : List Item) (i : Item) : Bool :=
  (decide (i.name = txt "cap") || decide (i.name = txt "last")) && decide (capCount items < i.index)

/-- The form check of UNIT.PUT (R50, check 1); a field may appear twice. -/
def unitPutItems (fields : List Text) : Except Text (List Item) :=
  checkForm unitPutForms true unitFieldBad (fun _ => [required "unit", required "expiry", requiredAt "cap" 1]) fields

/-- The last group a UNIT.PUT gives a compartment: the request's, else the one the record held for it, else CLEAN (R50). -/
def newLastGroup (items : List Item) (old : List Compartment) (k : Nat) : Option Group :=
  match itemValue items "last" k with
  | some (.nat g) => some (Fin.ofNat 8 g)
  | some .clean => none
  | _ => (old[k - 1]?).bind (fun x => x.lastGroup)

/-- The compartment list of a UNIT.PUT (R50). -/
def newCompartments (items : List Item) (old : List Compartment) : List Compartment :=
  (List.range (capCount items)).map (fun j =>
    { capacity := natAt items "cap" (j + 1), lastGroup := newLastGroup items old (j + 1) })

/-- UNIT.PUT on well-formed fields (R50, checks 2 and 3). -/
def unitPut (items : List Item) : Answer := fun s =>
  match s.rack.unit? (natAt items "unit" 0) with
  | some u =>
    if u.committed.isSome then refuseWith .referenced s
    else
      okTables (fun r => r.modUnit u.number (fun v =>
        { v with expiry := natAt items "expiry" 0, compartments := newCompartments items v.compartments })) (.action false) s
  | none =>
    if unitSlots ≤ s.rack.units.length then refuseWith .tableFull s
    else
      okTables (fun r => { r with units := r.units ++
        [{ number := natAt items "unit" 0, expiry := natAt items "expiry" 0, compartments := newCompartments items []
           committed := none }] }) (.action true) s

/-- UNIT.PUT (R50). -/
def answerUnitPut (fields : List Text) : Answer := withItems (unitPutItems fields) unitPut

/-- UNIT.PUT: create a unit, or replace its certificate and compartments (R50). -/
def execUnitPut (fields : List Text) (s : State) : Result := takeRequest (txt "UNIT.PUT") fields (answerUnitPut fields) s

/-- The form check of a request that names a unit alone; the field is spelled unit as in UNIT.PUT (assumption 9). -/
def unitItems (fields : List Text) : Except Text (List Item) := checkPlain [plainField "unit" longNumber] ["unit"] fields

/-- A request that names a unit: BAD_FIELD, NOT_FOUND, or the owner's answer on the record. -/
def onUnit (fields : List Text) (answer : VehicleUnit → Answer) : Answer :=
  withItems (unitItems fields) (fun items s =>
    match s.rack.unit? (natAt items "unit" 0) with
    | some u => answer u s
    | none => refuseWith .notFound s)

/-- The number of orders in the table that name a unit, in any state (R51). -/
def Rack.ordersOfUnit (r : Rack) (n : Nat) : Nat := (r.orders.filter (fun o => o.namesUnit n)).length

/-- UNIT.GET (R51). -/
def answerUnitGet (fields : List Text) : Answer :=
  onUnit fields (fun u s => answerOk (.unit u (s.rack.ordersOfUnit u.number)) s)

/-- UNIT.GET: read a unit (R51). -/
def execUnitGet (fields : List Text) (s : State) : Result := takeRequest (txt "UNIT.GET") fields (answerUnitGet fields) s

/-- Every compartment CLEAN (R52). -/
def VehicleUnit.clean (u : VehicleUnit) : VehicleUnit :=
  { u with compartments := u.compartments.map (fun x => { x with lastGroup := none }) }

/-- UNIT.CLEAN on a record (R52). -/
def unitClean (u : VehicleUnit) : Answer :=
  if u.committed.isSome then refuseWith .referenced
  else okTables (fun r => r.modUnit u.number VehicleUnit.clean) .plain

/-- UNIT.CLEAN (R52). -/
def answerUnitClean (fields : List Text) : Answer := onUnit fields unitClean

/-- UNIT.CLEAN: mark every compartment clean (R52). -/
def execUnitClean (fields : List Text) (s : State) : Result := takeRequest (txt "UNIT.CLEAN") fields (answerUnitClean fields) s

/-- UNIT.RETIRE on a record (R53). -/
def unitRetire (u : VehicleUnit) : Answer := fun s =>
  if 0 < s.rack.ordersOfUnit u.number then refuseWith .referenced s
  else okTables (fun r => { r with units := r.units.filter (fun x => decide (x.number ≠ u.number)) }) .plain s

/-- UNIT.RETIRE (R53). -/
def answerUnitRetire (fields : List Text) : Answer := onUnit fields unitRetire

/-- UNIT.RETIRE: remove a unit (R53). -/
def execUnitRetire (fields : List Text) (s : State) : Result := takeRequest (txt "UNIT.RETIRE") fields (answerUnitRetire fields) s

end Sys2Proof.Machine
end

