-- ==== Sys2Proof/Machine/LinkLine.lean ====
section
/-! DEFINITION. The request link's own events: BAD_FRAME, RESPONSE_SENT, UNKNOWN_REQUEST (R178 to R182). -/

namespace Sys2Proof.Machine

/-- The requests the part knows, each with what its owner answers (R181). -/
def owners : List (Text × (List Text → Answer)) :=
  [(txt "CAL.WRITE", answerCalWrite), (txt "CAL.READ", answerCalRead), (txt "CAL.COMMIT", answerCalCommit),
   (txt "PERMIT.PUT", answerPermitPut), (txt "PERMIT.GET", answerPermitGet), (txt "PERMIT.SUSPEND", answerPermitSuspend),
   (txt "PERMIT.REINSTATE", answerPermitReinstate), (txt "PERMIT.RETIRE", answerPermitRetire),
   (txt "UNIT.PUT", answerUnitPut), (txt "UNIT.GET", answerUnitGet), (txt "UNIT.CLEAN", answerUnitClean),
   (txt "UNIT.RETIRE", answerUnitRetire)] ++
  [(txt "ACCOUNT.PUT", answerAccountPut), (txt "ACCOUNT.GET", answerAccountGet), (txt "ACCOUNT.CREDIT", answerAccountCredit),
   (txt "ACCOUNT.HOLD", answerAccountHold), (txt "ACCOUNT.RELEASE", answerAccountRelease),
   (txt "ACCOUNT.CLOSE", answerAccountClose), (txt "ORDER.BOOK", answerOrderBook), (txt "ORDER.GET", answerOrderGet),
   (txt "ORDER.AMEND", answerOrderAmend), (txt "ORDER.CANCEL", answerOrderCancel), (txt "ORDER.RETIRE", answerOrderRetire)] ++
  [(txt "ARM.PUT", answerArmPut), (txt "ARM.SERVICE", answerArmService), (txt "ARM.CLEAR", answerArmClear),
   (txt "ARM.GET", answerArmGet), (txt "RACK.HEADER", answerRackHeader), (txt "RECIPE.PUT", answerRecipePut),
   (txt "RECIPE.GET", answerRecipeGet), (txt "RECIPE.RETIRE", answerRecipeRetire), (txt "ADDITIVE.PUT", answerAdditivePut),
   (txt "ADDITIVE.REFILL", answerAdditiveRefill), (txt "ADDITIVE.GET", answerAdditiveGet),
   (txt "RACK.RESUME", answerRackResume)] ++
  [(txt "NOTE.NEXT", answerNoteNext), (txt "NOTE.READ", answerNoteRead), (txt "RACK.STATUS", answerRackStatus),
   (txt "RACK.SETDAY", answerRackSetDay), (txt "RACK.SWITCHTABLE", answerRackSwitchTable),
   (txt "RACK.NOTEFORMAT", answerRackNoteFormat), (txt "RACK.RESTART", answerRackRestart)]

/-- What a taken request is answered: its owner's answer, or UNKNOWN_REQUEST with the name echoed, which is judged first (R181). -/
def answerNamed (name : Text) (fields : List Text) : Answer :=
  match owners.find? (fun x => decide (x.1 = name)) with
  | some x => x.2 fields
  | none => refuse .unknownRequest (.text name)

/-- UNKNOWN_REQUEST: a good frame whose name is none of the part's requests (R181). A name that is one gets its owner's answer. -/
def execUnknownRequest (name : Text) (fields : List Text) (s : State) : Result :=
  takeRequest name fields (answerNamed name fields) s

/-- RESPONSE_SENT: the LF of the response has been sent, and response owed is cleared (R180). A calibration request has reached the
retained store whole by then (R37). -/
def execResponseSent (s : State) : Result :=
  .next { s with link := { s.link with responseOwed := false, response := none }, calBefore := none }

/-- A body taken by the receiver is handed to its owner (R180, R181). -/
def takeBody (body : Text) (s : State) : State :=
  let answered := answerNamed (splitBody body).1 (splitBody body).2 s
  { answered.1 with link := s.link.respond (splitBody body).1 answered.2 }

/-- BAD_FRAME: characters on the request link. What they leave in the receiver stays; a frame that is bad, unwanted, empty or fails
its check changes nothing else (R178, R179). A good frame among them is a request taken (assumption 11). -/
def execBadFrame (chars : Text) (s : State) : Result :=
  match s.link.receiveAll chars with
  | (k, none) => .next { s with link := k }
  | (k, some body) => .next (takeBody body { s with link := k })

end Sys2Proof.Machine
end

