-- ==== Sys2Proof/Machine/Metering.lean ====
section
/-! DEFINITION. The events of a meter channel: METER_PULSE, RATE_WINDOW_EXPIRY, PROBE_READING, STALENESS_EXPIRY (chapter 1). -/

namespace Sys2Proof.Machine

/-- METER_PULSE: a pulse arrives at an arm's meter pin (R3, R4). -/
def execMeterPulse (arm : ArmId) (s : State) : Result := .next (s.moveRack (fun c r => r.pulse c arm))

/-- The length of a rate window in ms (R6). -/
def windowLength : Nat := 1000

/-- A rate window ends: the held rate and the held factor are taken, the count becomes 0 and the next window begins (R6). -/
def Channel.endWindow (c : Conditions) (k : Bank) (a : ArmId) (x : Channel) : Channel :=
  { x with rate := windowRate x.window (k.kFactor a), factor := k.factorAt a (windowRate x.window (k.kFactor a)), window := 0
           windowStart := c.stamp }

/-- RATE_WINDOW_EXPIRY: a channel's window of 1,000 ms ends (R6). A window that has not run its time does not end (assumption 5). -/
def execRateWindowExpiry (arm : ArmId) (s : State) : Result :=
  if windowLength ≤ s.cond.age (s.rack.channel arm).windowStart then
    .next (s.moveRack (fun c r => r.modChannel arm (Channel.endWindow c (effectiveBank c r arm) arm)))
  else .next s

/-- The valid value of a reading, −50.00 to +100.00 °C; a fault and a value outside are both faults (R10). -/
def readingValue : Reading → Option Int
  | .value t => if -5000 ≤ t ∧ t ≤ 10000 then some t else none
  | .fault => none

/-- A valid value: held with its arrival time, the probe fault condition cleared (R10). -/
def Channel.hold (c : Conditions) (t : Int) (x : Channel) : Channel :=
  { x with temperature := some { value := t, arrived := c.stamp, stale := false }, probeFault := false }

/-- A reading reaches a channel (R10) and, when valid, the arm (R111). -/
def Rack.reading (c : Conditions) (a : ArmId) (reading : Reading) (r : Rack) : Rack :=
  match readingValue reading with
  | some t => (r.modChannel a (Channel.hold c t)).modArm a (fun x => { x with probeRefreshed := true })
  | none => r.modChannel a (fun x => { x with probeFault := true })

/-- PROBE_READING: a reading arrives at an arm's probe input (R10, R111). -/
def execProbeReading (arm : ArmId) (reading : Reading) (s : State) : Result :=
  .next (s.moveRack (fun c r => r.reading c arm reading))

/-- The staleness expiry of a channel is due: the held temperature is more than 30,000 ms old and its expiry has not occurred (R12,
R2). -/
def staleDue (c : Conditions) (x : Channel) : Bool :=
  match x.temperature with
  | some t => staleNow c x && !t.stale
  | none => false

/-- The staleness expiry: it occurs once for each valid reading, and reports PROBE to the arm (R12). -/
def Rack.staleness (c : Conditions) (a : ArmId) (r : Rack) : Rack :=
  (r.modChannel a (fun x => { x with temperature := x.temperature.map (fun t => { t with stale := true }) })).raiseCause c a .probe

/-- STALENESS_EXPIRY: a held temperature passes 30,000 ms of age (R12). One that is not due does not occur (assumption 5). -/
def execStalenessExpiry (arm : ArmId) (s : State) : Result :=
  if staleDue s.cond (s.rack.channel arm) then .next (s.moveRack (fun c r => r.staleness c arm)) else .next s

end Sys2Proof.Machine
end

