-- ==== Sys2Proof/Machine/Panels.lean ====
section
/-! DEFINITION. The panel lines: CARD, START, STOP, PANEL_MESSAGE_DISCARDED, SHOW_SENT (R85 to R88, R105 to R107, R116, R187 to R189). -/

namespace Sys2Proof.Machine

/-- The receiver of a panel line set. -/
def State.setPanelRx (s : State) (b : BayId) (x : PanelRx) : State := { s with panelRx := s.panelRx.set b x }

/-! ### Messages handed on (R187) -/

/-- A card is handed to the bay's admission unit (R85 to R88, R187). -/
def State.card (s : State) (b : BayId) (permit : Nat) : State := s.moveRack (fun c r => r.cardAt c b permit)

/-- A START is handed to the arm of the panel's own bay; for an arm of another bay the bay's reason becomes NOT_READY (R105 to R107,
R187). -/
def State.pressStart (s : State) (b : BayId) (a : ArmId) : State :=
  s.moveRack (fun c r => if bayOf a = b then r.startArm c a else r.answerBay b (some .notReady))

/-- A STOP is handed to the arm of the panel's own bay; for an arm of another bay the bay's reason becomes NOT_READY (R116, R187). -/
def State.pressStop (s : State) (b : BayId) (a : ArmId) : State :=
  s.moveRack (fun c r => if bayOf a = b then r.stopFromPanel c a else r.answerBay b (some .notReady))

/-- A permit number a CARD may carry (R187). -/
def cardPermitOk (permit : Nat) : Bool := decide (1 ≤ permit) && decide (permit ≤ 99999999)

/-- CARD: a card message is taken at a bay's panel (R85 to R88). A number out of range makes it a message discarded (R187). -/
def execCard (bay : BayId) (permit : Nat) (s : State) : Result :=
  if cardPermitOk permit then .next ((s.setPanelRx bay .fresh).card bay permit) else .next (s.setPanelRx bay .fresh)

/-- START: a START message is taken at a bay's panel (R105 to R107). -/
def execStart (bay : BayId) (arm : ArmId) (s : State) : Result := .next ((s.setPanelRx bay .fresh).pressStart bay arm)

/-- STOP: a STOP message is taken at a bay's panel (R107, R116). -/
def execStop (bay : BayId) (arm : ArmId) (s : State) : Result := .next ((s.setPanelRx bay .fresh).pressStop bay arm)

/-! ### Receiving on a panel line (R187) -/

/-- A `>` begins a new message. -/
def PanelRx.begin : PanelRx := { state := .body, body := [] }

/-- One character received on a panel line, and the body it completes, if it does (R178, R187; assumption 17 for `*`). -/
def PanelRx.receive (x : PanelRx) (ch : Char) : PanelRx × Option Text :=
  if ch = '>' then (.begin, none)
  else
    match x.state with
    | .hunt => (x, none)
    | .body =>
      if ch = charCR then ({ x with state := .lineEnd }, none)
      else if printable ch ∧ x.body.length < panelBodyMax then ({ x with body := x.body ++ [ch] }, none)
      else (.fresh, none)
    | .lineEnd => (.fresh, if ch = charLF then some x.body else none)

/-- What a message body asks for; a body that is no well-formed message is discarded (R187). -/
def State.panelMessage (s : State) (b : BayId) (body : Text) : State :=
  if (splitBody body).1 = txt "CARD" then
    match checkPlain [plainField "permit" longNumber] ["permit"] (splitBody body).2 with
    | .ok items => s.card b (natAt items "permit" 0)
    | .error _ => s
  else if (splitBody body).1 = txt "START" then
    match checkPlain [plainField "arm" (.nat 1 8)] ["arm"] (splitBody body).2 with
    | .ok items => s.pressStart b (numbered 7 (natAt items "arm" 0))
    | .error _ => s
  else if (splitBody body).1 = txt "STOP" then
    match checkPlain [plainField "arm" (.nat 1 8)] ["arm"] (splitBody body).2 with
    | .ok items => s.pressStop b (numbered 7 (natAt items "arm" 0))
    | .error _ => s
  else s

/-- Characters received on a panel line, one after another; a message acts at its LF (R187). -/
def panelCharacters (b : BayId) : Text → State → State
  | [], s => s
  | ch :: rest, s =>
    match (s.panelRx[b]).receive ch with
    | (x, some body) => panelCharacters b rest ((s.setPanelRx b x).panelMessage b body)
    | (x, none) => panelCharacters b rest (s.setPanelRx b x)

/-- PANEL_MESSAGE_DISCARDED: characters on a panel line that bring no well-formed message change nothing but the receiver (R187). -/
def execPanelMessageDiscarded (bay : BayId) (chars : Text) (s : State) : Result := .next (panelCharacters bay chars s)

/-! ### SHOW_SENT (R188) -/

/-- A SHOW has gone out: the line sends nothing, until the next subject of its list is taken (R188). -/
def Panel.sent (p : Panel) : Panel := { p with sending := none }

/-- SHOW_SENT: the SHOW being sent on a panel line ends (R188). A line that sends nothing has none to end (assumption 15). -/
def execShowSent (bay : BayId) (s : State) : Result :=
  if (s.rack.panel bay).sending = none then .next s
  else .next (s.moveRack (fun _ r => r.modPanel bay Panel.sent))

end Sys2Proof.Machine
end

