-- ==== Sys2Proof/Machine/Dispatch.lean ====
section
/-! DEFINITION. What each command does: one arm per constructor of Instr. -/

namespace Sys2Proof.Machine

/-- The effect of a command on everything but the queue of waiting commands. -/
def exec (i : Instr) (s : State) : Host.Outcome State Fault Refusal :=
  match i with
  | .powerOn inputs => Sys2Proof.Machine.execPowerOn inputs s
  | .timebaseTick => Sys2Proof.Machine.execTimebaseTick s
  | .meterPulse arm => Sys2Proof.Machine.execMeterPulse arm s
  | .rateWindowExpiry arm => Sys2Proof.Machine.execRateWindowExpiry arm s
  | .probeReading arm reading => Sys2Proof.Machine.execProbeReading arm reading s
  | .stalenessExpiry arm => Sys2Proof.Machine.execStalenessExpiry arm s
  | .noFlowTimerExpiry arm => Sys2Proof.Machine.execNoFlowTimerExpiry arm s
  | .settleTimerExpiry arm => Sys2Proof.Machine.execSettleTimerExpiry arm s
  | .feedbackRise arm slot => Sys2Proof.Machine.execFeedbackRise arm slot s
  | .feedbackFall arm slot => Sys2Proof.Machine.execFeedbackFall arm slot s
  | .riseTimerExpiry arm slot => Sys2Proof.Machine.execRiseTimerExpiry arm slot s
  | .activeTimerExpiry arm slot => Sys2Proof.Machine.execActiveTimerExpiry arm slot s
  | .permissiveInputChange bay input level => Sys2Proof.Machine.execPermissiveInputChange bay input level s
  | .emergencyStopInputChange active => Sys2Proof.Machine.execEmergencyStopInputChange active s
  | .calSwitchChange closed => Sys2Proof.Machine.execCalSwitchChange closed s
  | .badFrame chars => Sys2Proof.Machine.execBadFrame chars s
  | .responseSent => Sys2Proof.Machine.execResponseSent s
  | .unknownRequest name fields => Sys2Proof.Machine.execUnknownRequest name fields s
  | .calWrite fields => Sys2Proof.Machine.execCalWrite fields s
  | .calRead fields => Sys2Proof.Machine.execCalRead fields s
  | .calCommit fields => Sys2Proof.Machine.execCalCommit fields s
  | .permitPut fields => Sys2Proof.Machine.execPermitPut fields s
  | .permitGet fields => Sys2Proof.Machine.execPermitGet fields s
  | .permitSuspend fields => Sys2Proof.Machine.execPermitSuspend fields s
  | .permitReinstate fields => Sys2Proof.Machine.execPermitReinstate fields s
  | .permitRetire fields => Sys2Proof.Machine.execPermitRetire fields s
  | .unitPut fields => Sys2Proof.Machine.execUnitPut fields s
  | .unitGet fields => Sys2Proof.Machine.execUnitGet fields s
  | .unitClean fields => Sys2Proof.Machine.execUnitClean fields s
  | .unitRetire fields => Sys2Proof.Machine.execUnitRetire fields s
  | .accountPut fields => Sys2Proof.Machine.execAccountPut fields s
  | .accountGet fields => Sys2Proof.Machine.execAccountGet fields s
  | .accountCredit fields => Sys2Proof.Machine.execAccountCredit fields s
  | .accountHold fields => Sys2Proof.Machine.execAccountHold fields s
  | .accountRelease fields => Sys2Proof.Machine.execAccountRelease fields s
  | .accountClose fields => Sys2Proof.Machine.execAccountClose fields s
  | .orderBook fields => Sys2Proof.Machine.execOrderBook fields s
  | .orderGet fields => Sys2Proof.Machine.execOrderGet fields s
  | .orderAmend fields => Sys2Proof.Machine.execOrderAmend fields s
  | .orderCancel fields => Sys2Proof.Machine.execOrderCancel fields s
  | .orderRetire fields => Sys2Proof.Machine.execOrderRetire fields s
  | .armPut fields => Sys2Proof.Machine.execArmPut fields s
  | .armService fields => Sys2Proof.Machine.execArmService fields s
  | .armClear fields => Sys2Proof.Machine.execArmClear fields s
  | .armGet fields => Sys2Proof.Machine.execArmGet fields s
  | .rackHeader fields => Sys2Proof.Machine.execRackHeader fields s
  | .recipePut fields => Sys2Proof.Machine.execRecipePut fields s
  | .recipeGet fields => Sys2Proof.Machine.execRecipeGet fields s
  | .recipeRetire fields => Sys2Proof.Machine.execRecipeRetire fields s
  | .additivePut fields => Sys2Proof.Machine.execAdditivePut fields s
  | .additiveRefill fields => Sys2Proof.Machine.execAdditiveRefill fields s
  | .additiveGet fields => Sys2Proof.Machine.execAdditiveGet fields s
  | .rackResume fields => Sys2Proof.Machine.execRackResume fields s
  | .noteNext fields => Sys2Proof.Machine.execNoteNext fields s
  | .noteRead fields => Sys2Proof.Machine.execNoteRead fields s
  | .rackStatus fields => Sys2Proof.Machine.execRackStatus fields s
  | .rackSetDay fields => Sys2Proof.Machine.execRackSetDay fields s
  | .rackSwitchTable fields => Sys2Proof.Machine.execRackSwitchTable fields s
  | .rackNoteFormat fields => Sys2Proof.Machine.execRackNoteFormat fields s
  | .rackRestart fields => Sys2Proof.Machine.execRackRestart fields s
  | .card bay permit => Sys2Proof.Machine.execCard bay permit s
  | .start bay arm => Sys2Proof.Machine.execStart bay arm s
  | .stop bay arm => Sys2Proof.Machine.execStop bay arm s
  | .panelMessageDiscarded bay chars => Sys2Proof.Machine.execPanelMessageDiscarded bay chars s
  | .showSent bay => Sys2Proof.Machine.execShowSent bay s
  | .showRepeatTimerExpiry arm => Sys2Proof.Machine.execShowRepeatTimerExpiry arm s

end Sys2Proof.Machine
end

