-- ==== Sys2Proof/Safety.lean ====
section
/-! DEFINITION. What claims about the LC-8 speak of: a request taken and answered, flow under permission, grants, queues, bays, notes,
reservations and additives in agreement, the ending of a line, stops, banks in range, ages. -/

namespace Sys2Proof.Machine

/-! ### Requests -/

/-- The link takes a request of this name and these fields: a frame can carry it and no response is owed (R178, R180). -/
abbrev State.takes (s : State) (name : String) (fields : List Text) : Prop :=
  fitsFrame (txt name) fields = true ∧ s.link.responseOwed = false

/-- The state with the receiver in HUNT, response owed set and this answer being sent (R180, R182). -/
def State.answers (s : State) (name : String) (reply : Reply) : State :=
  { s with link := s.link.toHunt.respond (txt name) reply }

/-- A refusal as the response carries it. -/
def refusal (status : Status) (named : Named) : Reply := .refused { status := status, named := named }

/-- A request is refused with this status, naming this, and nothing but the link has changed (R182). -/
abbrev State.refuses (s : State) (i : Instr) (name : String) (status : Status) (named : Named) : Prop :=
  exec i s = .next (s.answers name (refusal status named))

/-- The command is a request frame, known or not. -/
def isRequest (i : Instr) : Prop :=
  (∃ name, i.requestName = some name) ∨ ∃ name fields, i = .unknownRequest name fields

/-! ### Panel messages (R187, R189) -/

/-- A panel message of this bay has been received and changes nothing but the receiver (R187). -/
def State.heard (s : State) (b : BayId) : State := { s with panelRx := s.panelRx.set b .fresh }

/-- A panel message is answered by its arm: the reason is set, and the arm calls for a SHOW (R188, R189). -/
def State.armSays (s : State) (b : BayId) (a : ArmId) (reason : PanelReason) : State :=
  { s.heard b with rack := ((s.rack.modArm a (fun x => { x with reason := some reason })).callArm a).pump }

/-- A panel message is answered by the bay: the reason is set, and the bay calls for a SHOW (R188, R189). -/
def State.baySays (s : State) (b : BayId) (reason : PanelReason) : State :=
  { s.heard b with rack := ((s.rack.modBay b (fun x => { x with reason := some reason })).callBay b).pump }

/-! ### Flow (R104) -/

/-- An arm stands in a flow state only while its bay is PERMITTED and the rack is NORMAL (R104). -/
abbrev flowPermitted (c : Conditions) (r : Rack) : Prop :=
  ∀ a, (r.arm a).state.isFlow = true → c.permitted (bayOf a) = true ∧ c.mode = .normal

/-- An arm has entered a suspending close with this cause as its primary and only one (R112, R113). -/
def suspendingFor (r : Rack) (a : ArmId) (cause : Cause) : Prop :=
  (r.arm a).state = .closing ∧ (r.arm a).intent = some .suspend ∧ (r.arm a).causes = [cause]

/-! ### Grants, queues, reservations (R63, R102, R126 to R128) -/

/-- One entry of a waiting list stands before another: higher priority first, then earlier joining (R126). -/
abbrev Waiter.before (v w : Waiter) : Prop := w.priority < v.priority ∨ (v.priority = w.priority ∧ v.position < w.position)

/-- A header's set holds each arm on it that is in HIGH once and no other (R128); its list holds each arm on it that is in WAIT_GRANT
once and no other, in order (R126); and an arm waits only while the set is full (R127). -/
abbrev Rack.grantsMatch (r : Rack) : Prop :=
  ∀ h, (r.header h).held.Nodup ∧ ((r.header h).waiting.map (fun w => w.arm)).Nodup ∧
    (r.header h).waiting.Pairwise Waiter.before ∧
    ((r.header h).waiting ≠ [] → (r.header h).capacity ≤ (r.header h).held.length) ∧
    ∀ a, (a ∈ (r.header h).held ↔ (r.arm a).state = .high ∧ r.headerOf a = some h) ∧
      (a ∈ (r.header h).waiting.map (fun w => w.arm) ↔ (r.arm a).state = .waitGrant ∧ r.headerOf a = some h)

/-- The state of a line that has an entry in an arm's queue (sections 5.2, 6.1): ACTIVE at the current entry of an arm in flow or
CLOSING, SUSPENDED at that of an arm in SUSPENDED, QUEUED at every other entry. -/
def Arm.lineStateAt (x : Arm) (e : QueueEntry) : LineState :=
  if x.current = some e then
    if x.state.isRunning then .active else if x.state = .suspended then .suspended else .queued
  else .queued

/-- Order numbers and line numbers name one record each, a finished order has only final lines, and a QUEUED, ACTIVE or SUSPENDED line
stands in an arm's queue. An arm's queue holds a line once, each entry's line is assigned to the arm and in the state its entry has. The
current entry stands in the queue and is there exactly while the arm is READY or bears a line; an arm that is OUT_OF_SERVICE, IDLE or in
ALARM has an empty queue (R102). -/
abbrev Rack.queuesMatch (r : Rack) : Prop :=
  (r.orders.map (fun o => o.number)).Nodup ∧
  (∀ o ∈ r.orders, (o.lines.map (fun l => l.number)).Nodup ∧
    (o.state = .complete ∨ o.state = .void → ∀ l ∈ o.lines, l.state.isFinal = true) ∧
    ∀ l ∈ o.lines, l.state = .queued ∨ l.state = .active ∨ l.state = .suspended →
      ∃ a, ∃ e ∈ (r.arm a).queue, e.order = o.number ∧ e.line = l.number) ∧
  ∀ a, ((r.arm a).queue.map (fun e => (e.order, e.line))).Nodup ∧
    (∀ e ∈ (r.arm a).queue,
      (r.line? e.order e.line).map (fun l => (l.arm, l.state)) = some (some a, (r.arm a).lineStateAt e)) ∧
    (∀ e ∈ (r.arm a).current, e ∈ (r.arm a).queue) ∧
    ((r.arm a).current ≠ none ↔ (r.arm a).state = .ready ∨ (r.arm a).state.isLineBearing = true) ∧
    ((r.arm a).state = .outOfService ∨ (r.arm a).state = .idle ∨ (r.arm a).state = .alarm → (r.arm a).queue = [])

/-- Bays, ADMITTED orders and permits name one another: the order at an ADMITTED bay is ADMITTED there for the bay's permit, every ADMITTED
order holds a bay, and a permit's admitted bay is the bay that holds it (R84, R88, R97). -/
abbrev Rack.baysMatch (r : Rack) : Prop :=
  (∀ b, ∀ x ∈ (r.bay b).admitted,
    (r.order? x.order).map (fun o => (o.state, o.permit, o.lastBay)) = some (.admitted, x.permit, some b) ∧
    ∃ p ∈ r.permits, p.number = x.permit) ∧
  (∀ o ∈ r.orders, o.state = .admitted → ∃ b, (r.bay b).admitted = some { permit := o.permit, order := o.number }) ∧
  ∀ p ∈ r.permits, ∀ b, p.admittedBay = some b ↔ (r.bay b).admitted.map (fun x => x.permit) = some p.number

/-- The waiting-notes list holds exactly the COMPLETE orders, once each; these and no other hold a note number, from 1 to 999,999, that no
other order holds (R167, R168), and finished orders alone hold a completion day (R96). -/
abbrev Rack.notesMatch (r : Rack) : Prop :=
  (r.orders.map (fun o => o.number)).Nodup ∧ r.orders.length ≤ 64 ∧ r.noteCounter ≤ 999999 ∧ r.notes.Nodup ∧
  (∀ n ∈ r.notes, ∃ o ∈ r.orders, o.number = n ∧ o.state = .complete) ∧ (r.orders.filterMap (fun o => o.note)).Nodup ∧
  ∀ o ∈ r.orders, (o.state = .complete → o.number ∈ r.notes) ∧ (o.state = .complete ↔ o.note ≠ none) ∧
    (∀ n ∈ o.note, 1 ≤ n ∧ n ≤ 999999) ∧ (o.state = .complete ∨ o.state = .void ↔ o.day ≠ none)

/-- The presets of the lines that name an account and are not final (R63). -/
def Rack.presetsOf (r : Rack) (account : Nat) : Nat :=
  ((r.allLines.filter (fun l => decide (l.account = account) && !l.state.isFinal)).map (fun l => l.preset)).sum

/-- For every account, reserved is the sum of the presets of the lines that name it and are not final; a number without a record is
named by none with a preset above 0 (R63). -/
abbrev Rack.reservedMatches (r : Rack) : Prop :=
  ∀ n, ((r.account? n).map (fun x => x.reserved)).getD 0 = r.presetsOf n

/-- What remains reserved of an additive for the lines that are not final (R139). -/
def Rack.remainingOf (r : Rack) (x : AdditiveId) : Nat :=
  ((r.allLines.filter (fun l => !l.state.isFinal)).map (fun l =>
    ((l.doses.filter (fun d => decide (d.additive = x))).map (fun d => d.remaining)).sum)).sum

/-- The stroke volume in flight on one channel of an additive; 0 where none is. -/
def Rack.strokeVolume (r : Rack) (x : AdditiveId) (a : ArmId) (n : SlotId) : Nat :=
  match r.slotConfig a n with
  | some k => if k.additive = x ∧ (r.injector a n).phase ≠ .none then k.stroke else 0
  | none => 0

/-- The stroke volumes in flight on an additive (section 8.2). -/
def Rack.strokesOf (r : Rack) (x : AdditiveId) : Nat :=
  (allArms.flatMap (fun a => allSlots.map (fun n => r.strokeVolume x a n))).sum

/-- No two slots of a configuration name one additive (R101). -/
abbrev ArmConfig.slotsDiffer (c : ArmConfig) : Prop :=
  ∀ n m : SlotId, n ≠ m → ∀ x ∈ c.slots[n], ∀ y ∈ c.slots[m], x.additive ≠ y.additive

/-- An injector channel serves a dose entry of its arm's current line under its slot's configuration (R144). -/
abbrev Rack.serves (r : Rack) (a : ArmId) (n : SlotId) (k : SlotConfig) (d : DoseRecord) : Prop :=
  r.slotConfig a n = some k ∧ ∃ j l, (r.injector a n).served = some j ∧ r.currentLine a = some l ∧ l.doses[j]? = some d

/-- The channels of an arm, in slot order, that serve an entry and on which a stroke is due at these owed counts, none is in flight, and the
additive's stock less its in flight lies below the stroke volume (R146); each with its additive. -/
def Rack.shortSlots (r : Rack) (a : ArmId) (owed : SlotId → Nat) : List (AdditiveId × SlotId) :=
  allSlots.filterMap (fun n =>
    match r.slotConfig a n, r.servedDose a n with
    | some k, some _ =>
      if 100 * k.stroke ≤ owed n ∧ (r.injector a n).phase = .none ∧
          (r.additive k.additive).stock < (r.additive k.additive).inFlight + k.stroke then some (k.additive, n)
      else none
    | _, _ => none)

/-- For every additive, reserved is what remains reserved for lines that are not final, in flight is the volume of the strokes in flight and
no more than the stock (R139). The dose entry a channel serves, and one that names a slot of the arm it waits at, is of the slot's additive
(R88, R144); a channel serves an entry only while its arm bears a line, and has a stroke in flight only while it serves one and its arm is
in flow or CLOSING (R152); no two slots of an arm name one additive (R101). -/
abbrev Rack.additivesMatch (r : Rack) : Prop :=
  (∀ x, (r.additive x).reserved = r.remainingOf x ∧ (r.additive x).inFlight = r.strokesOf x ∧
    (r.additive x).inFlight ≤ (r.additive x).stock ∧ (r.additive x).stock ≤ 999999999) ∧
  (∀ a, ∀ c ∈ (r.arm a).config, c.slotsDiffer) ∧
  ∀ a n,
    ((r.injector a n).served ≠ none → (r.arm a).state.isLineBearing = true ∧
      ((r.servedDose a n).map (fun d => d.additive)).isSome = true ∧
      (r.servedDose a n).map (fun d => d.additive) = (r.slotConfig a n).map (fun k => k.additive)) ∧
    ((r.injector a n).phase ≠ .none → (r.injector a n).served ≠ none ∧ (r.arm a).state.isRunning = true) ∧
    ∀ e ∈ (r.arm a).queue, ∀ l ∈ r.line? e.order e.line, ∀ d ∈ l.doses, d.slot = some n →
      (r.slotConfig a n).map (fun k => k.additive) = some d.additive

/-! ### The ending of a line (R76) -/

/-- A line has become final and its ending has reached its owners: its residue is discarded, its litres, average and targets are fixed and
its doses judged (R15, R17, R18, R153), its account is settled (R65), what remained of its additive reservations is released (R154), its
compartment takes its group from 1 L gross on (R58), and no other line and no other account has changed. -/
abbrev Rack.lineHandedOn (r r' : Rack) (a : ArmId) (e : QueueEntry) (l l' : Line) (litres : Nat) : Prop :=
  r'.line? e.order e.line = some l' ∧ l'.residue = 0 ∧ litres = (l.gross + 500000) / 1000000 ∧ l'.grossLitres = some litres ∧
  l'.standardLitres = some ((l.standard + 500000) / 1000000) ∧
  (l.gross = 0 → l'.average = none) ∧ (l.gross ≠ 0 → l'.average = some (roundDiv l.weight (l.gross * 10))) ∧
  l'.doses = l.doses.map (fun d => { d with target := some (d.dose * litres / 10), remaining := 0 }) ∧
  (l.arm = some a → (l'.flags.underDose = true ↔ l.flags.underDose = true ∨
    ∃ d ∈ l.doses, ∃ n k, d.slot = some n ∧ r.slotConfig a n = some k ∧ 0 < d.dose ∧ 100 * k.stroke ≤ litres * d.dose ∧
      d.dispensed * 100 < d.dose * litres / 10 * 95)) ∧
  (∀ y, r.account? l.account = some y → r'.account? l.account = some { y with
    reserved := y.reserved - l.preset, balance := max (-999999999) (y.balance - ((l.standard + 500000) / 1000000 : Nat)) }) ∧
  (∀ n, n ≠ l.account → r'.account? n = r.account? n) ∧
  (∀ x, r'.additive x = { r.additive x with reserved := (r.additive x).reserved -
    ((l.doses.filter (fun d => decide (d.additive = x))).map (fun d => d.remaining)).sum }) ∧
  (∀ o u k v, r.order? e.order = some o →
    (1 ≤ l.addr ∧ l.addr ≤ 6 ∧ u = o.unit1 ∧ k = l.addr ∨ 7 ≤ l.addr ∧ l.addr ≤ 12 ∧ o.unit2 = some u ∧ k = l.addr - 6) →
    r.unit? u = some v →
    (r'.unit? u).map (fun w => w.compartments) = some (if 1 ≤ litres then
      v.compartments.modify (k - 1) (fun c => { c with lastGroup := some l.group }) else v.compartments) ∧
    ∀ n, n ≠ u → (r'.unit? n).map (fun w => w.compartments) = (r.unit? n).map (fun w => w.compartments)) ∧
  ∀ n m, ¬(n = e.order ∧ m = e.line) → r'.line? n m = r.line? n m

/-- An arm has given up a line that became final: its intent and marks are cleared, the line's entry has left its queue, it is READY, IDLE
or in ALARM, and its injector channels serve nothing and owe nothing; no other arm and no meter channel has changed (R117, R144). -/
abbrev Rack.armFreed (r r' : Rack) (a : ArmId) (e : QueueEntry) : Prop :=
  (r'.arm a).causes = [] ∧ (r'.arm a).pendingStop = none ∧ (r'.arm a).restartPending = false ∧ (r'.arm a).intent = none ∧
  (r'.arm a).settleTimer = none ∧ (r'.arm a).quiet = false ∧
  (∀ y ∈ (r'.arm a).queue, y ∈ (r.arm a).queue ∧ ¬(y.order = e.order ∧ y.line = e.line)) ∧
  ((r'.arm a).state = .ready ∨ (r'.arm a).state = .idle ∨ (r'.arm a).state = .alarm) ∧
  (∀ n, (r'.injector a n).served = none ∧ (r'.injector a n).owed = 0) ∧
  r'.channels = r.channels ∧ ∀ c, c ≠ a → r'.arm c = r.arm c

/-- A close has settled and the arm has carried out its intent (R115): FINISH makes the line FULL and learns the allowance (R119); a
suspending close without restart pending suspends the line, the arm keeping line, queue and causes; STOP makes it STOPPED with the
pending stop cause; INTERRUPT, and a suspending close with restart pending, make it INTERRUPTED with cause RESTART; none of these
learns (R118). -/
abbrev Rack.settled (r r' : Rack) (a : ArmId) (e : QueueEntry) (l : Line) : Prop :=
  (∀ err : Int, (r.arm a).intent = some .finish → err = ((l.standard + 500000) / 1000000 : Nat) - (l.preset : Int) →
    ∃ l' litres, r.lineHandedOn r' a e l l' litres ∧ r.armFreed r' a e ∧ l'.state = .full ∧ l'.stopCause = none ∧
      l'.flags.overPreset = (l.flags.overPreset || (decide (1 ≤ err) && decide (((l.preset * 5 / 1000 : Nat) : Int) < err))) ∧
      ∀ v, (r.arm a).allowance = some v →
        (r'.arm a).allowance = some ((max 0 (min 500 ((v : Int) + 10 * err.tdiv 4))).toNat)) ∧
  ((r.arm a).intent = some .suspend → (r.arm a).restartPending = false →
    r'.arm a = { r.arm a with
      state := .suspended, intent := none, settleTimer := none, quiet := false, repeatTimer := none, reason := none } ∧
    (r'.arm a).state.valve = .closed ∧ r'.currentLine a = some { l with state := .suspended } ∧
    (∀ n m, ¬(n = e.order ∧ m = e.line) → r'.line? n m = r.line? n m) ∧
    (∀ c, c ≠ a → r'.arm c = r.arm c) ∧ r' = { r with orders := r'.orders, arms := r'.arms, panels := r'.panels }) ∧
  ∀ (final : LineState) (cause : Option StopCause),
    ((r.arm a).intent = some .stop ∧ final = .stopped ∧ cause = (r.arm a).pendingStop ∨
      (r.arm a).intent = some .interrupt ∧ final = .interrupted ∧ cause = some .restart ∨
      (r.arm a).intent = some .suspend ∧ (r.arm a).restartPending = true ∧ final = .interrupted ∧ cause = some .restart) →
    ∃ l' litres, r.lineHandedOn r' a e l l' litres ∧ r.armFreed r' a e ∧ l'.state = final ∧ l'.stopCause = cause ∧
      l'.flags.overPreset = l.flags.overPreset ∧ (r'.arm a).allowance = (r.arm a).allowance

/-! ### The lines of an order that is ended early (R46, R93) -/

/-- Each line of an order stands where its state says: a QUEUED line has an arm, an ACTIVE or SUSPENDED line is the current line of
its arm, which is in flow or CLOSING, or in SUSPENDED. -/
abbrev Order.standsAtArms (o : Order) (r : Rack) : Prop :=
  (o.lines.map (fun l => l.number)).Nodup ∧
  ∀ l ∈ o.lines, (l.state = .queued → l.arm ≠ none) ∧
    (l.state = .active ∨ l.state = .suspended →
      ∃ a e, l.arm = some a ∧ (r.arm a).current = some e ∧ e.order = o.number ∧ e.line = l.number ∧
        (if l.state = .active then (r.arm a).state.isRunning = true else (r.arm a).state = .suspended))

/-- A line has become final with a stop cause, its figures as its note shows them (R15, R17, R18, R153, R154, R174, R175). -/
abbrev Rack.lineEnded (r : Rack) (order : Nat) (l : Line) (final : LineState) (cause : StopCause) : Prop :=
  ∃ l' litres, r.line? order l.number = some l' ∧ litres = (l.gross + 500000) / 1000000 ∧
    l' = { l with
      state := final, stopCause := some cause, residue := 0, grossLitres := some litres
      standardLitres := some ((l.standard + 500000) / 1000000)
      average := if l.gross = 0 then none else some (roundDiv l.weight (l.gross * 10))
      doses := l.doses.map (fun d => { d with target := some (d.dose * litres / 10), remaining := 0 })
      flags := { l.flags with underDose := l'.flags.underDose } } ∧
    (final = .cancelled → l'.flags = l.flags)

/-- A line's entry stands in its arm's queue no more. -/
abbrev Rack.lineLeft (r : Rack) (order : Nat) (l : Line) : Prop :=
  ∀ a e, l.arm = some a → e ∈ (r.arm a).queue → ¬(e.order = order ∧ e.line = l.number)

/-- What a stop leaves of the arm of an ACTIVE line: an arm in flow is in a close with intent STOP, a suspending close has turned to
STOP without its causes, any other close is as it was (R116). -/
abbrev Arm.stopped (x y : Arm) (cause : StopCause) : Prop :=
  y.state = .closing ∧
  (x.state.isFlow = true ∨ x.intent = some .suspend ∧ x.state = .closing → y.intent = some .stop ∧ y.pendingStop = some cause) ∧
  (x.state = .closing → x.intent = some .suspend → y.causes = [] ∧ y.restartPending = false) ∧
  (x.state = .closing → x.intent ≠ some .suspend → y.intent = x.intent ∧ y.pendingStop = x.pendingStop)

/-- What a cancel or a permit suspension leaves of a line (R46, R93), PENDING lines being reached by a cancel alone. -/
abbrev Rack.lineStopped (r r' : Rack) (o : Order) (cause : StopCause) (pendingToo : Bool) (l : Line) : Prop :=
  (l.state.isFinal = true → r'.line? o.number l.number = some l) ∧
  (l.state = .pending → if pendingToo = true then r'.lineEnded o.number l .cancelled cause else r'.line? o.number l.number = some l) ∧
  (l.state = .queued → r'.lineEnded o.number l .cancelled cause ∧ r'.lineLeft o.number l) ∧
  (l.state = .suspended → r'.lineEnded o.number l .stopped cause ∧ r'.lineLeft o.number l) ∧
  (l.state = .active → r'.line? o.number l.number = some l ∧ ∀ a, l.arm = some a → (r.arm a).stopped (r'.arm a) cause)

/-! ### Card admission (R87) -/

/-- An arm can take a line: it is IDLE, draws from the line's header, and has a slot for the additive of every dose entry (R87). -/
abbrev Rack.armFits (r : Rack) (a : ArmId) (l : Line) : Prop :=
  (r.arm a).state = .idle ∧ ∃ k, (r.arm a).config = some k ∧ k.header = l.header ∧
    ∀ d ∈ l.doses, ∃ (n : SlotId) (y : SlotConfig), k.slots[n] = some y ∧ y.additive = d.additive

/-- The order a card finds: of the orders that are BOOKED, name the permit, and are for this bay or ANY, the earliest booked (R85). -/
abbrev Rack.earliestFor (r : Rack) (b : BayId) (permit : Nat) (o : Order) : Prop :=
  (o.state = .booked ∧ o.permit = permit ∧ (o.bay = none ∨ o.bay = some b)) ∧
  ∃ earlier later, r.orders = earlier ++ o :: later ∧
    ∀ x ∈ earlier, ¬(x.state = .booked ∧ x.permit = permit ∧ (x.bay = none ∨ x.bay = some b))

/-- The entries an arm's queue holds with those given to it before in an assignment (R87). -/
def Rack.loadWith (r : Rack) (given : List (Nat × ArmId)) (a : ArmId) : Nat :=
  (r.arm a).queue.length + (given.filter (fun x => decide (x.2 = a))).length

/-- The arm of a bay that R87 chooses for a line behind those given before: one that fits it and holds fewer entries than any other arm of
the bay that does, the lower-numbered on equal counts. -/
abbrev Rack.chosenFor (r : Rack) (b : BayId) (l : Line) (given : List (Nat × ArmId)) (a : ArmId) : Prop :=
  bayOf a = b ∧ r.armFits a l ∧ ∀ c, bayOf c = b → c ≠ a → r.armFits c l →
    r.loadWith given a < r.loadWith given c ∨ r.loadWith given a = r.loadWith given c ∧ a < c

/-- The assignment of lines to the arms of a bay, line by line (R87): each number with the arm chosen for it, which holds fewer than eight. -/
abbrev Rack.assigns (r : Rack) (b : BayId) (ls : List Line) (xs : List (Nat × ArmId)) : Prop :=
  xs.map (fun x => x.1) = ls.map (fun l => l.number) ∧
  ∀ (i n : Nat) (a : ArmId) (l : Line), xs[i]? = some (n, a) → ls[i]? = some l →
    r.chosenFor b l (xs.take i) a ∧ r.loadWith (xs.take i) a < 8

/-! ### The checks of a booking (R78) -/

/-- The first of a list that fails a test. -/
abbrev firstFailing {α : Type} (xs : List α) (passes : α → Prop) (x : α) : Prop :=
  ∃ ys zs, xs = ys ++ x :: zs ∧ (∀ y ∈ ys, passes y) ∧ ¬passes x

/-- What checks 5 to 7 ask of one unit (R79). -/
abbrev Booking.unitPasses (_ : Booking) (c : Conditions) (r : Rack) (check : Nat) (u : Nat) : Prop :=
  (check = 5 → r.unit? u ≠ none) ∧ ∀ v ∈ r.unit? u, (check = 6 → c.day ≤ v.expiry) ∧ (check = 7 → v.committed = none)

/-- What checks 9 to 14 ask of one line (R61, R62, R80). -/
abbrev Booking.linePasses (k : Booking) (c : Conditions) (r : Rack) (check : Nat) (l : BookLine) : Prop :=
  (check = 9 → c.recipe? l.recipe ≠ none) ∧
  (check = 10 → 100 ≤ l.preset ∧ l.preset ≤ 30000 ∧
    ∀ room ∈ r.compartment? k.unit1 k.unit2 l.addr, l.preset ≤ room.capacity) ∧
  (check = 11 → ∀ room ∈ r.compartment? k.unit1 k.unit2 l.addr, ∀ x ∈ c.recipe? l.recipe,
    c.switchTable.verdict room.lastGroup x.group ≠ .forbid) ∧
  (check = 12 → (r.account? l.account).map (fun y => y.held) = some false) ∧
  (check = 13 → ∀ x ∈ c.recipe? l.recipe, ∀ y ∈ r.account? l.account, y.group = x.group) ∧
  (check = 14 → ∀ y ∈ r.account? l.account,
    (((k.lines.filter (fun m => decide (m.account = l.account))).map (fun m => m.preset)).sum : Int) ≤
      y.balance + y.overdraft - y.reserved)

/-- A booking passes the checks of R78 up to one below 15. -/
abbrev Booking.passesTo (k : Booking) (c : Conditions) (r : Rack) (last : Nat) : Prop :=
  (1 ≤ last → r.order? k.order = none) ∧ (2 ≤ last → r.orders.length < 64) ∧ (3 ≤ last → r.permit? k.permit ≠ none) ∧
  (4 ≤ last → ∀ p ∈ r.permit? k.permit, p.suspended = false) ∧
  (∀ check, check ≤ last → ∀ u ∈ k.units, k.unitPasses c r check u) ∧
  (8 ≤ last → k.unit2 ≠ some k.unit1 ∧ (∀ l ∈ k.lines, r.compartment? k.unit1 k.unit2 l.addr ≠ none) ∧
    (k.lines.map (fun l => l.addr)).Nodup) ∧
  ∀ check, check ≤ last → ∀ l ∈ k.lines, k.linePasses c r check l

/-! ### Calibration (section 2.1) -/

/-- A legal K-factor: 0, or 20 to 9,990 in multiples of 10. -/
abbrev legalK (k : Nat) : Prop := k = 0 ∨ (20 ≤ k ∧ k ≤ 9990 ∧ k % 10 = 0)

/-- A legal point: a rate of 0 to 6,000 L/min and a factor of 90,000 to 110,000. -/
abbrev CurvePoint.legal (p : CurvePoint) : Prop := p.rate ≤ 6000 ∧ 90000 ≤ p.factor ∧ p.factor ≤ 110000

/-- A legal page: no points, or 2 to 6 legal points of strictly rising rate. -/
abbrev legalPage (ps : List CurvePoint) : Prop :=
  (ps.length = 0 ∨ (2 ≤ ps.length ∧ ps.length ≤ 6)) ∧ risingRates ps = true ∧ ∀ p ∈ ps, p.legal

/-- Every field of a bank holds a value in its range. -/
abbrev Bank.inRange (k : Bank) : Prop :=
  (∀ a : ArmId, legalK (k.kFactor a)) ∧ (∀ p : PageId, legalPage (k.pages[p])) ∧ ∀ q : ProductId, k.beta[q] ≤ 2000

/-- Both banks in range. -/
abbrev CalStore.inRange (s : CalStore) : Prop := s.bankA.inRange ∧ s.bankB.inRange

/-- The calibration in force, and one that a loss of supply may bring back, are in range (R37). -/
abbrev State.calInRange (s : State) : Prop :=
  s.cond.cal.inRange ∧ ∀ old : CalStore, s.calBefore = some old → old.inRange

/-! ### Ages (R2) -/

/-- A recorded time one millisecond later: the same time, its age one more, or 4,294,967,295 ms once it has reached it (R2). -/
def Stamp.oneLater (c c' : Conditions) (x y : Stamp) : Prop :=
  y.time = x.time ∧ (x.full = true ∨ (c.time - x.time).toNat < ageMax → c'.age y = min ageMax (c.age x + 1))

/-- A timer one millisecond later: still stopped, or running from the same time. -/
def timerOneLater (c c' : Conditions) : Option Stamp → Option Stamp → Prop
  | none, none => True
  | some x, some y => x.oneLater c c' y
  | none, some _ => False
  | some _, none => False

end Sys2Proof.Machine
end

