-- ==== Sys2Proof/WellFormed.lean ====
section
/-! DEFINITION. Which commands can come: the text a request carries is text a frame can bring, numbers are in range. -/

namespace Sys2Proof

/-- Serial characters are 8 bits (chapter 11). -/
def eightBit (cs : Text) : Bool := cs.all (fun c => decide (c.toNat < 256))

/-- The names of the requests the part knows. -/
def requestNames : List Text := knownRequests.map (·.1)

/-- A request's fields are what one good frame can carry under its name (R178, R181); an unknown request's name is none of the
part's; a card carries a permit number in range (R187); received characters are 8-bit. -/
def Instr.wellFormed (i : Instr) : Bool :=
  match i with
  | .unknownRequest name fields => Machine.fitsFrame name fields && !(requestNames.contains name)
  | .badFrame chars => eightBit chars
  | .panelMessageDiscarded _ chars => eightBit chars
  | .card _ permit => decide (1 ≤ permit) && decide (permit ≤ 99999999)
  | i =>
    match i.requestName with
    | some name => Machine.fitsFrame name i.requestFields
    | none => true

end Sys2Proof
end

