-- ==== Sys2Proof/Certificates/Slice0/Obligations.lean ====
section
/-! DEFINITION. The statements about the LC-8, for the provers. -/

open Sys2Proof Sys2Proof.Machine

/-! ### The queue of commands, reset, power-on, time -/

/-- A step carries out the command at the front of the queue on the state with the queue's rest; with none waiting nothing changes
(the model's choice, assumption 2). -/
def Obligations.StepTakesFrontCommand : Prop :=
  (∀ (c : Instr) (rest : List Instr) (s : State), s.pending = c :: rest → step s = exec c { s with pending := rest }) ∧
  ∀ s : State, s.pending = [] → step s = .next s

/-- Every command of the table leaves a next state, in every state: none ends in a fault or a refusal of the model. None touches the
queue of the commands that wait behind it (the queue is the model's own, assumption 2). -/
def Obligations.EveryCommandAnswersNext : Prop :=
  ∀ (i : Instr) (s : State), ∃ t, exec i s = .next t ∧ t.pending = s.pending

/-- What a part holds whose retained store has never been written (R2, R25, R40, R49, R60, R74, R84, R100, R125, R139, R166, R178),
its inputs at the levels of assumption 1; and this state meets every invariant stated below: banks in range, no arm in flow, bays, queues,
grants, notes, reservations and additives in agreement. -/
def Obligations.ResetHoldsFactoryValues : Prop :=
  State.reset.cond.time = 0#32 ∧ State.reset.cond.day = 0 ∧ State.reset.cond.mode = .normal ∧
  State.reset.cond.cal.active = .a ∧ State.reset.cond.cal.count = 0 ∧
  (∀ (k : BankId) (a : ArmId), (State.reset.cond.cal.bank k).kFactor a = 0) ∧
  State.reset.cond.noteWidth = 32 ∧ State.reset.cond.recipes = [] ∧
  State.reset.rack.permits = [] ∧ State.reset.rack.units = [] ∧ State.reset.rack.accounts = [] ∧ State.reset.rack.orders = [] ∧
  State.reset.rack.notes = [] ∧ State.reset.rack.noteCounter = 0 ∧
  (∀ a, (State.reset.rack.arm a).state = .outOfService ∧ (State.reset.rack.arm a).config = none ∧
    (State.reset.rack.arm a).queue = []) ∧
  (∀ h, (State.reset.rack.header h).capacity = 1 ∧ (State.reset.rack.header h).held = [] ∧
    (State.reset.rack.header h).waiting = []) ∧
  (∀ b, (State.reset.rack.bay b).admitted = none) ∧
  (∀ x, State.reset.rack.additive x = { stock := 0, reserved := 0, inFlight := 0, lowMark := 0 }) ∧
  (∀ a, (State.reset.rack.channel a).factor = 100000 ∧ (State.reset.rack.channel a).temperature = none ∧
    (State.reset.rack.channel a).unassigned = 0) ∧
  State.reset.link.rx = .hunt ∧ State.reset.link.responseOwed = false ∧
  State.reset.calInRange ∧ flowPermitted State.reset.cond State.reset.rack ∧ State.reset.rack.grantsMatch ∧
  State.reset.rack.queuesMatch ∧ State.reset.rack.baysMatch ∧ State.reset.rack.notesMatch ∧ State.reset.rack.reservedMatches ∧
  State.reset.rack.additivesMatch

/-- POWER_ON keeps the retained store (banks, active indicator, count, totalisers, note counter), takes the input levels, and gives
everything else its power-on value (R23, R37, R100, R156, R160, R166). Where supply was lost before the response of a calibration
request had been sent, the store stands all as before that request or all as after it (R37). That the input levels (permissives,
emergency stop, calibration switch, feedback) come with the command, and that the waiting commands stay, is the model's choice
(assumption 16); that each panel line is found sending its bay's SHOW, its two arms still in the list (R188), is read from the manual by
inference (assumption 7). -/
def Obligations.PowerOnKeepsRetainedStore : Prop :=
  ∀ (inputs : InputLevels) (s : State), ∃ t, exec (.powerOn inputs) s = .next t ∧
    (s.calBefore = none → t.cond.cal = s.cond.cal) ∧
    (∀ old, s.calBefore = some old → t.cond.cal = old ∨ t.cond.cal = s.cond.cal) ∧ t.calBefore = none ∧
    t.rack.noteCounter = s.rack.noteCounter ∧
    (∀ a, t.rack.channel a =
      { pulses := 0, window := 0, windowStart := { time := 0#32, full := false }, rate := 0
        factor := (t.cond.cal.bank t.cond.cal.active).factorAt a 0, temperature := none, probeFault := false
        grossTotal := (s.rack.channel a).grossTotal, standardTotal := (s.rack.channel a).standardTotal, unassigned := 0 }) ∧
    t.cond.time = 0#32 ∧ t.cond.day = 0 ∧ t.cond.noteWidth = 32 ∧ t.cond.recipes = [] ∧
    t.cond.switchTable = State.reset.cond.switchTable ∧
    t.cond.ground = inputs.ground ∧ t.cond.overfill = inputs.overfill ∧ t.cond.calClosed = inputs.calClosed ∧
    t.cond.emergencyStop = inputs.emergencyStop ∧
    (t.cond.mode = if inputs.emergencyStop = true then .halted else .normal) ∧
    t.rack.permits = [] ∧ t.rack.units = [] ∧ t.rack.accounts = [] ∧ t.rack.orders = [] ∧ t.rack.notes = [] ∧
    t.rack.additives = State.reset.rack.additives ∧ t.rack.arms = State.reset.rack.arms ∧
    t.rack.headers = State.reset.rack.headers ∧ t.rack.bays = State.reset.rack.bays ∧
    (∀ a x, t.rack.injector a x =
      { served := none, owed := 0, phase := .none, opened := none, riseTime := none, misses := 0
        feedback := (inputs.feedback[a])[x] }) ∧
    (∀ b, t.rack.panel b = { sendList := [.lower, .upper], sending := some (.ofBay b false none none) }) ∧
    t.link = State.reset.link ∧ t.panelRx = State.reset.panelRx ∧ t.pending = s.pending

/-- A millisecond passes: the count rises by 1 and wraps, every recorded time ages by 1 ms up to 4,294,967,295 ms, and nothing else
changes (R2). -/
def Obligations.TickAgesEveryRecordedTime : Prop :=
  ∀ s : State, ∃ t, exec .timebaseTick s = .next t ∧
    t.cond = { s.cond with time := s.cond.time + 1#32 } ∧ t.link = s.link ∧ t.panelRx = s.panelRx ∧ t.pending = s.pending ∧
    t.choice = s.choice ∧ t.calBefore = s.calBefore ∧
    t.rack = { s.rack with channels := t.rack.channels, arms := t.rack.arms, injectors := t.rack.injectors } ∧
    (∀ a,
      t.rack.channel a = { s.rack.channel a with
        windowStart := (t.rack.channel a).windowStart, temperature := (t.rack.channel a).temperature } ∧
      (s.rack.channel a).windowStart.oneLater s.cond t.cond (t.rack.channel a).windowStart ∧
      (t.rack.channel a).temperature.map (fun x => (x.value, x.stale)) =
        (s.rack.channel a).temperature.map (fun x => (x.value, x.stale)) ∧
      timerOneLater s.cond t.cond ((s.rack.channel a).temperature.map (fun x => x.arrived))
        ((t.rack.channel a).temperature.map (fun x => x.arrived))) ∧
    (∀ a,
      t.rack.arm a = { s.rack.arm a with
        noFlowTimer := (t.rack.arm a).noFlowTimer, settleTimer := (t.rack.arm a).settleTimer
        repeatTimer := (t.rack.arm a).repeatTimer } ∧
      timerOneLater s.cond t.cond (s.rack.arm a).noFlowTimer (t.rack.arm a).noFlowTimer ∧
      timerOneLater s.cond t.cond (s.rack.arm a).settleTimer (t.rack.arm a).settleTimer ∧
      timerOneLater s.cond t.cond (s.rack.arm a).repeatTimer (t.rack.arm a).repeatTimer) ∧
    ∀ a x,
      t.rack.injector a x = { s.rack.injector a x with
        opened := (t.rack.injector a x).opened, riseTime := (t.rack.injector a x).riseTime } ∧
      timerOneLater s.cond t.cond (s.rack.injector a x).opened (t.rack.injector a x).opened ∧
      timerOneLater s.cond t.cond (s.rack.injector a x).riseTime (t.rack.injector a x).riseTime

/-! ### The meter channels (chapter 1) -/

/-- A pulse at an uncalibrated meter raises the window count alone; below K/10 it raises both counts (R3). At the end of a 1,000 ms
window the channel takes the rate and the factor looked up at it, and the next window begins (R6). -/
def Obligations.WindowCountsPulses : Prop :=
  (∀ (a : ArmId) (s : State),
    ((effectiveBank s.cond s.rack a).kFactor a = 0 →
      exec (.meterPulse a) s = .next { s with rack :=
        (s.rack.modChannel a (fun x => { x with window := min 9999999 (x.window + 1) })).pump }) ∧
    ((effectiveBank s.cond s.rack a).kFactor a ≠ 0 →
      (s.rack.channel a).pulses + 1 < (effectiveBank s.cond s.rack a).kFactor a / 10 →
      exec (.meterPulse a) s = .next { s with rack :=
        (s.rack.modChannel a (fun x => { x with window := min 9999999 (x.window + 1), pulses := x.pulses + 1 })).pump })) ∧
  ∀ (a : ArmId) (s : State) (k : Bank) (rate : Nat),
    1000 ≤ s.cond.age (s.rack.channel a).windowStart → k = effectiveBank s.cond s.rack a →
    (rate = if k.kFactor a = 0 then 0 else min 6000 ((s.rack.channel a).window * 60 / k.kFactor a)) →
    exec (.rateWindowExpiry a) s = .next { s with rack :=
      (s.rack.modChannel a (fun x =>
        { x with rate := rate, factor := k.factorAt a rate, window := 0
                 windowStart := { time := s.cond.time, full := false } })).pump }

/-- A step taken outside the flow states and CLOSING belongs to no line: both totalisers gain the held factor, the unassigned-flow
count rises by 1, and an arm that is IDLE or OUT_OF_SERVICE enters ALARM at 20 steps (R4, R19 to R22). -/
def Obligations.UnassignedStepIsCounted : Prop :=
  ∀ (a : ArmId) (s : State),
    (effectiveBank s.cond s.rack a).kFactor a ≠ 0 →
    (effectiveBank s.cond s.rack a).kFactor a / 10 ≤ (s.rack.channel a).pulses + 1 →
    (s.rack.arm a).state.isRunning = false →
    ∃ t, exec (.meterPulse a) s = .next t ∧ t.cond = s.cond ∧
      t.rack.channel a = { s.rack.channel a with
        window := min 9999999 ((s.rack.channel a).window + 1)
        pulses := 0
        grossTotal :=
          if 100000000000000 ≤ (s.rack.channel a).grossTotal + (s.rack.channel a).factor then
            (s.rack.channel a).grossTotal + (s.rack.channel a).factor - 100000000000000
          else (s.rack.channel a).grossTotal + (s.rack.channel a).factor
        standardTotal :=
          if 100000000000000 ≤ (s.rack.channel a).standardTotal + (s.rack.channel a).factor then
            (s.rack.channel a).standardTotal + (s.rack.channel a).factor - 100000000000000
          else (s.rack.channel a).standardTotal + (s.rack.channel a).factor
        unassigned := min 65535 ((s.rack.channel a).unassigned + 1) } ∧
      ((20 ≤ (t.rack.channel a).unassigned ∧ (s.rack.arm a).state = .idle →
          (t.rack.arm a).state = .alarm ∧ (t.rack.arm a).returnState = some .idle) ∧
        (20 ≤ (t.rack.channel a).unassigned ∧ (s.rack.arm a).state = .outOfService →
          (t.rack.arm a).state = .alarm ∧ (t.rack.arm a).returnState = some .outOfService) ∧
        (¬(20 ≤ (t.rack.channel a).unassigned ∧ ((s.rack.arm a).state = .idle ∨ (s.rack.arm a).state = .outOfService)) →
          t.rack.arm a = s.rack.arm a)) ∧
      (∀ b, b ≠ a → t.rack.channel b = s.rack.channel b ∧ t.rack.arm b = s.rack.arm b) ∧
      t.rack = { s.rack with channels := t.rack.channels, arms := t.rack.arms, panels := t.rack.panels }

/-- A step taken in a flow state or in CLOSING belongs to the line (R4, R9, R11, R13, R14, R16, R19, R20): the line and the
totalisers gain what the rules say, and no other line, channel, account, unit or permit moves. Of the result flags it sets TEMP_CLAMPED and
PROBE_HELD by the measurement, may raise DOSE_LIMITED and UNDER_DOSE by the dosing (StepOwesDoseAndStrokes says when), and leaves the others. In a flow state it restarts the no-flow timer,
unless it closes the arm; in CLOSING it restarts the settle timer and clears quiet, the intent stands and no threshold is tested (R108,
R110, R113, R114). -/
def Obligations.AssignedStepIsMeasured : Prop :=
  ∀ (a : ArmId) (s : State) (e : QueueEntry) (l : Line) (ppm : Int) (n : Nat),
    (effectiveBank s.cond s.rack a).kFactor a ≠ 0 →
    (effectiveBank s.cond s.rack a).kFactor a / 10 ≤ (s.rack.channel a).pulses + 1 →
    (s.rack.arm a).state.isRunning = true → (s.rack.arm a).current = some e → s.rack.currentLine a = some l →
    ppm = 1000000 -
      roundDiv (((effectiveBank s.cond s.rack a).beta[l.product] : Int) * ((s.rack.channel a).stepTemperature - 1500)) 100 →
    n = (((s.rack.channel a).factor : Int) * ppm + l.residue).toNat →
    ∃ t l', exec (.meterPulse a) s = .next t ∧ t.cond = s.cond ∧ (t.rack.arm a).current = some e ∧
      t.rack.currentLine a = some l' ∧
      l' = { l with
        gross := l.gross + (s.rack.channel a).factor, standard := l.standard + n / 1000000, residue := n % 1000000
        weight := l.weight + (s.rack.channel a).stepTemperature * (s.rack.channel a).factor
        flags := { l.flags with
          tempClamped := l.flags.tempClamped || (s.rack.channel a).clamped
          probeHeld := l.flags.probeHeld || (s.rack.channel a).probeFault
          underDose := l'.flags.underDose, doseLimited := l'.flags.doseLimited } } ∧
      (l.flags.underDose = true → l'.flags.underDose = true) ∧ (l.flags.doseLimited = true → l'.flags.doseLimited = true) ∧
      ((∀ m k d, ¬s.rack.serves a m k d) → l'.flags.underDose = l.flags.underDose ∧ l'.flags.doseLimited = l.flags.doseLimited) ∧
      t.rack.channel a = { s.rack.channel a with
        window := min 9999999 ((s.rack.channel a).window + 1)
        pulses := 0
        grossTotal :=
          if 100000000000000 ≤ (s.rack.channel a).grossTotal + (s.rack.channel a).factor then
            (s.rack.channel a).grossTotal + (s.rack.channel a).factor - 100000000000000
          else (s.rack.channel a).grossTotal + (s.rack.channel a).factor
        standardTotal :=
          if 100000000000000 ≤ (s.rack.channel a).standardTotal + n / 1000000 then
            (s.rack.channel a).standardTotal + n / 1000000 - 100000000000000
          else (s.rack.channel a).standardTotal + n / 1000000 } ∧
      (∀ b, b ≠ a → t.rack.channel b = s.rack.channel b) ∧
      (∀ o m, ¬(o = e.order ∧ m = e.line) → t.rack.line? o m = s.rack.line? o m) ∧
      t.rack.accounts = s.rack.accounts ∧ t.rack.units = s.rack.units ∧ t.rack.permits = s.rack.permits ∧
      t.rack.bays = s.rack.bays ∧ t.rack.notes = s.rack.notes ∧ t.rack.noteCounter = s.rack.noteCounter ∧
      ((s.rack.arm a).state.isFlow = true →
        (t.rack.arm a).state.isFlow = true ∧ (t.rack.arm a).noFlowTimer = some { time := s.cond.time, full := false } ∨
        (t.rack.arm a).state = .closing ∧ (t.rack.arm a).noFlowTimer = none ∧ (t.rack.arm a).quiet = false ∧
          (t.rack.arm a).settleTimer = some { time := s.cond.time, full := false }) ∧
      ((s.rack.arm a).state = .closing →
        (∃ joined, t.rack.arm a = { s.rack.arm a with
          settleTimer := some { time := s.cond.time, full := false }, quiet := false
          causes := (s.rack.arm a).causes ++ joined }) ∧
        (∀ b, b ≠ a → t.rack.arm b = s.rack.arm b) ∧ t.rack.headers = s.rack.headers)

/-- The volume thresholds, tested with V as the step leaves it (R108). At the close point the arm closes to finish the line, whatever other
figure the step passes (R113). Below it: in LOW_START the start mark takes the line to LOW_RUN when it asks for no grant, else to its
header's waiting list and, when the header has room and none waits, to HIGH with the grant (R109, R126, R127, R130); the taper point takes
an arm from WAIT_GRANT to LOW_RUN, off the list without a grant test (R129), and from HIGH to LOW_RUN, its grant going back and on to the head
of the list where one waits and no more are held than the capacity allows (R128); a step that reaches no figure of its state leaves state and
header, and LOW_RUN has no other. -/
def Obligations.ThresholdsMoveArm : Prop :=
  ∀ (a : ArmId) (s : State) (l l' : Line) (k : ArmConfig) (h : HeaderId) (closeAt taperAt : Int) (now : Stamp),
    (effectiveBank s.cond s.rack a).kFactor a ≠ 0 →
    (effectiveBank s.cond s.rack a).kFactor a / 10 ≤ (s.rack.channel a).pulses + 1 →
    (s.rack.arm a).state.isFlow = true → s.rack.currentLine a = some l → (s.rack.arm a).config = some k → h = k.header →
    l' = l.addStep (s.rack.channel a) (stepCtl s.cond s.rack a l) → now = { time := s.cond.time, full := false } →
    closeAt = (l.preset : Int) * 1000000 - (((s.rack.arm a).allowance.getD 0 : Nat) : Int) * 100000 →
    taperAt = (l.preset : Int) * 1000000 - (k.taper : Int) * 100000 →
    (closeAt ≤ (l'.standard : Int) →
      ∃ t, exec (.meterPulse a) s = .next t ∧ (t.rack.arm a).state = .closing ∧ (t.rack.arm a).state.valve = .closed ∧
        (t.rack.arm a).intent = some .finish ∧ (t.rack.arm a).noFlowTimer = none ∧
        (t.rack.arm a).settleTimer = some now ∧ (t.rack.arm a).quiet = false ∧
        (t.rack.arm a).queue = (s.rack.arm a).queue ∧ (t.rack.arm a).config = some k) ∧
    ((l'.standard : Int) < closeAt → (∀ n, (s.rack.injector a n).served = none) →
      ∃ t, exec (.meterPulse a) s = .next t ∧ (∀ g, g ≠ h → t.rack.header g = s.rack.header g) ∧
        ((s.rack.arm a).state = .lowRun ∨
            (s.rack.arm a).state = .lowStart ∧ (∃ v, (s.rack.arm a).startMark = some v ∧ l'.standard < v) ∨
            ((s.rack.arm a).state = .waitGrant ∨ (s.rack.arm a).state = .high) ∧ (l'.standard : Int) < taperAt →
          t.rack.arm a = { s.rack.arm a with noFlowTimer := some now } ∧ t.rack.headers = s.rack.headers ∧
            ∀ b, b ≠ a → t.rack.arm b = s.rack.arm b) ∧
        (∀ v, (s.rack.arm a).state = .lowStart → (s.rack.arm a).startMark = some v → v ≤ l'.standard →
          (l.lowOnly = true ∨ taperAt ≤ (l'.standard : Int) ∨ (s.rack.header h).capacity = 0 →
            t.rack.arm a = { s.rack.arm a with state := .lowRun, reason := none, noFlowTimer := some now } ∧
              t.rack.headers = s.rack.headers ∧ ∀ b, b ≠ a → t.rack.arm b = s.rack.arm b) ∧
          (l.lowOnly = false → (l'.standard : Int) < taperAt → (s.rack.header h).capacity ≠ 0 →
            ((s.rack.header h).waiting = [] → (s.rack.header h).held.length < (s.rack.header h).capacity →
              (t.rack.arm a).state = .high ∧ (t.rack.arm a).state.valve = .high ∧ a ∈ (t.rack.header h).held ∧
                (t.rack.header h).waiting = []) ∧
            ((s.rack.header h).capacity ≤ (s.rack.header h).held.length →
              (t.rack.arm a).state = .waitGrant ∧ (t.rack.arm a).state.valve = .low ∧
                (t.rack.header h).held = (s.rack.header h).held ∧
                (t.rack.header h).waiting.length = (s.rack.header h).waiting.length + 1 ∧
                ∃ w ∈ (t.rack.header h).waiting, w.arm = a ∧
                  ∀ e o, (s.rack.arm a).current = some e → s.rack.order? e.order = some o → w.priority = o.priority))) ∧
        ((s.rack.arm a).state = .waitGrant → taperAt ≤ (l'.standard : Int) →
          t.rack.arm a = { s.rack.arm a with state := .lowRun, reason := none, noFlowTimer := some now } ∧
            (t.rack.arm a).state.valve = .low ∧
            t.rack.header h = { s.rack.header h with
              waiting := (s.rack.header h).waiting.filter (fun w => decide (w.arm ≠ a)) } ∧
            ∀ b, b ≠ a → t.rack.arm b = s.rack.arm b) ∧
        ∀ kept, (s.rack.arm a).state = .high → taperAt ≤ (l'.standard : Int) →
          kept = (s.rack.header h).held.filter (fun b => decide (b ≠ a)) →
          t.rack.arm a = { s.rack.arm a with state := .lowRun, reason := none, noFlowTimer := some now } ∧
            (t.rack.arm a).state.valve = .low ∧
            ((s.rack.header h).waiting = [] ∨ (s.rack.header h).capacity ≤ kept.length →
              t.rack.header h = { s.rack.header h with held := kept } ∧ ∀ b, b ≠ a → t.rack.arm b = s.rack.arm b) ∧
            ∀ w rest, (s.rack.header h).waiting = w :: rest → kept.length + 1 = (s.rack.header h).capacity → w.arm ≠ a →
              w.arm ∉ kept → w.arm ∉ rest.map (fun v => v.arm) → (s.rack.arm w.arm).state = .waitGrant →
              t.rack.arm w.arm = { s.rack.arm w.arm with state := .high, reason := none } ∧
                (t.rack.arm w.arm).state.valve = .high ∧ (t.rack.header h).capacity = (s.rack.header h).capacity ∧
                (t.rack.header h).waiting = rest ∧ (∀ b, b ∈ (t.rack.header h).held ↔ b ∈ kept ∨ b = w.arm) ∧
                ∀ b, b ≠ a → b ≠ w.arm → t.rack.arm b = s.rack.arm b)

/-- A valid reading becomes the held temperature, clears the fault condition and tells the arm; a fault, or a value outside −50.00 to
+100.00 °C, sets the fault condition alone (R10, R111). That probe refreshed is set in every arm state, whether PROBE stands or not, is
read from the manual by inference (assumption 14). -/
def Obligations.ProbeReadingIsClassified : Prop :=
  ∀ (a : ArmId) (s : State),
    (∀ v : Int, -5000 ≤ v → v ≤ 10000 →
      exec (.probeReading a (.value v)) s = .next { s with rack :=
        ((s.rack.modChannel a (fun x =>
            { x with temperature := some { value := v, arrived := { time := s.cond.time, full := false }, stale := false }
                     probeFault := false })).modArm a (fun x => { x with probeRefreshed := true })).pump }) ∧
    (∀ v : Int, v < -5000 ∨ 10000 < v →
      exec (.probeReading a (.value v)) s = .next { s with rack :=
        (s.rack.modChannel a (fun x => { x with probeFault := true })).pump }) ∧
    exec (.probeReading a .fault) s = .next { s with rack :=
      (s.rack.modChannel a (fun x => { x with probeFault := true })).pump }

/-- A held temperature that passes 30,000 ms of age suspends a line in flow with PROBE. In CLOSING the cause joins a suspending close, once,
and leaves no mark on the line of any other; probe refreshed is cleared by it in either. An arm that is neither in flow nor in CLOSING is
told nothing (R12, R111, R112). -/
def Obligations.StaleTemperatureSuspends : Prop :=
  ∀ (a : ArmId) (s : State) (x : HeldTemperature),
    (s.rack.channel a).temperature = some x → x.stale = false → 30000 < s.cond.age x.arrived →
    ((s.rack.arm a).state.isFlow = true →
      ∃ t, exec (.stalenessExpiry a) s = .next t ∧ suspendingFor t.rack a .probe ∧ (t.rack.arm a).probeRefreshed = false ∧
        t.rack.channel a = { s.rack.channel a with temperature := some { x with stale := true } } ∧
        t.cond = s.cond ∧
        t.rack = { s.rack with
          channels := t.rack.channels, arms := t.rack.arms, headers := t.rack.headers, panels := t.rack.panels } ∧
        ∀ b, b ≠ a → t.rack.channel b = s.rack.channel b) ∧
    ((s.rack.arm a).state = .closing →
      exec (.stalenessExpiry a) s = .next { s with rack :=
        ((s.rack.modChannel a (fun y => { y with temperature := some { x with stale := true } })).modArm a (fun y =>
          { y with
            probeRefreshed := false
            causes := if (s.rack.arm a).intent = some .suspend ∧ Cause.probe ∉ (s.rack.arm a).causes then
              (s.rack.arm a).causes ++ [.probe] else (s.rack.arm a).causes })).pump }) ∧
    ((s.rack.arm a).state.isRunning = false →
      exec (.stalenessExpiry a) s = .next { s with rack :=
        (s.rack.modChannel a (fun y => { y with temperature := some { x with stale := true } })).pump })

/-- The page of a lookup (R7): the meter's own page where it holds 2 points or more, else page 0 where that does, else no page and 100,000
at every rate. The end of a window looks the factor up in the bank in effect, and no step of the part gives a held factor that is not
the one held before or one looked up, so a meter without a usable curve is measured uncorrected. CAL.COMMIT asks every arm in service
for a usable curve (R32); ARM.SERVICE reads the K-factor alone: banks with other curves and the same K-factors leave what it does as it
was. -/
def Obligations.LookupChoosesPage : Prop :=
  (∀ (k : Bank) (a : ArmId) (rate : Nat),
    (2 ≤ (k.pages[k.meters[a].page]).length → k.factorAt a rate = pageFactor k.pages[k.meters[a].page] rate) ∧
    ((k.pages[k.meters[a].page]).length < 2 → 2 ≤ (k.pages[(0 : PageId)]).length →
      k.factorAt a rate = pageFactor k.pages[(0 : PageId)] rate) ∧
    ((k.pages[k.meters[a].page]).length < 2 → (k.pages[(0 : PageId)]).length < 2 → k.factorAt a rate = 100000)) ∧
  (∀ (a : ArmId) (s : State), 1000 ≤ s.cond.age (s.rack.channel a).windowStart →
    ∃ t, exec (.rateWindowExpiry a) s = .next t ∧
      (t.rack.channel a).factor = (effectiveBank s.cond s.rack a).factorAt a (t.rack.channel a).rate) ∧
  (∀ (s t : State) (a : ArmId), step s = .next t →
    (t.rack.channel a).factor = (s.rack.channel a).factor ∨
      ∃ (k : BankId) (rate : Nat), (t.rack.channel a).factor = (t.cond.cal.bank k).factorAt a rate) ∧
  (∀ (s t : State) (fields : List Text) (a : ArmId),
    exec (.calCommit fields) s = .next t → t.cond.cal.active ≠ s.cond.cal.active → (s.rack.arm a).inService = true →
    2 ≤ ((t.cond.cal.bank t.cond.cal.active).pages[(t.cond.cal.bank t.cond.cal.active).meters[a].page]).length ∨
      2 ≤ ((t.cond.cal.bank t.cond.cal.active).pages[(0 : PageId)]).length) ∧
  ∀ (s t : State) (fields : List Text) (cal : CalStore),
    cal.active = s.cond.cal.active → (∀ (k : BankId) (a : ArmId), (cal.bank k).kFactor a = (s.cond.cal.bank k).kFactor a) →
    exec (.armService fields) s = .next t →
    exec (.armService fields) { s with cond := { s.cond with cal := cal } } = .next { t with cond := { t.cond with cal := cal } }

/-- The meter factor on a page of strictly rising rates (R8): the first point's at or below its rate, the last point's at or above its
rate, between neighbours the truncated interpolation; it lies between 90,000 and 110,000 when every point's factor does. -/
def Obligations.PageFactorFollowsCurve : Prop :=
  (∀ (p : CurvePoint) (rest : List CurvePoint) (rate : Nat), rate ≤ p.rate → pageFactor (p :: rest) rate = p.factor) ∧
  (∀ (ps : List CurvePoint) (q : CurvePoint) (rate : Nat),
    risingRates (ps ++ [q]) = true → q.rate ≤ rate → pageFactor (ps ++ [q]) rate = q.factor) ∧
  (∀ (ps qs : List CurvePoint) (p q : CurvePoint) (rate : Nat),
    risingRates (ps ++ p :: q :: qs) = true → p.rate ≤ rate → rate < q.rate →
    pageFactor (ps ++ p :: q :: qs) rate = ((p.factor : Int) +
      (((q.factor : Int) - p.factor) * ((rate : Int) - p.rate)).tdiv ((q.rate : Int) - p.rate)).toNat) ∧
  (∀ (ps qs : List CurvePoint) (p : CurvePoint), risingRates (ps ++ p :: qs) = true →
    pageFactor (ps ++ p :: qs) p.rate = p.factor) ∧
  ∀ (ps : List CurvePoint) (rate : Nat),
    risingRates ps = true → (∀ p ∈ ps, 90000 ≤ p.factor ∧ p.factor ≤ 110000) →
    90000 ≤ pageFactor ps rate ∧ pageFactor ps rate ≤ 110000

/-- CTL lies between 890,000 and 1,110,000 ppm for a β of at most 2,000 and a temperature of −40.00 to +70.00 °C, and is 1,000,000
where β is 0 (R13). A step loses no part of a microlitre: standard and residue together gain exactly meter factor × CTL, and the residue
stays below 1,000,000 (R14). -/
def Obligations.CorrectionIsBoundedAndExact : Prop :=
  (∀ (beta : Nat) (t : Int), beta ≤ 2000 → -4000 ≤ t → t ≤ 7000 → 890000 ≤ ctl beta t ∧ ctl beta t ≤ 1110000) ∧
  (∀ t : Int, ctl 0 t = 1000000) ∧
  ∀ (l : Line) (x : Channel) (ppm : Int), 0 ≤ ppm →
    (((l.addStep x ppm).standard * 1000000 + (l.addStep x ppm).residue : Nat) : Int) =
      ((l.standard * 1000000 + l.residue : Nat) : Int) + (x.factor : Int) * ppm ∧
    (l.addStep x ppm).residue < 1000000

/-! ### The calibration store (chapter 2) -/

/-- CAL.WRITE, CAL.READ and CAL.COMMIT accepted: what the store becomes and what is answered (R27, R29, R31, R32, R33). Each k, curve, points
and beta that a CAL.WRITE names takes its last value in the frame, and every other field of the standby bank is that of the active bank with a
copy, and as it was without one (R27, R29); CAL.READ answers the part asked for, the position of the switch, how many lines use the bank, and
which meters have a usable curve in it (R31). And refused, with nothing changed: SEALED at an OPEN switch before anything else, a field at fault, BANK_IN_USE, and BAD_BANK with the first arm in service that
the standby bank would leave without K-factor or usable curve (R26, R27, R30, R32). The field page of CAL.READ, what a page beside METERS or
PRODUCTS does, which of several fields at fault is named, and the field that a CAL.COMMIT carries, are the model's choice (assumptions 8, 9, 10
and 19). -/
def Obligations.CalibrationRequestsComplete : Prop :=
  (∀ (s : State) (fields : List Text) (items : List Item) (base : Bank),
    s.takes "CAL.WRITE" fields → s.cond.calClosed = true → fields ≠ [] →
    checkForm calWriteForms true (fun _ _ => false) (fun _ => []) fields = .ok items →
    s.rack.bankUsers s.cond.cal.active.other = 0 →
    base = (if hasItem items (txt "copy") 0 = true then s.cond.cal.bank s.cond.cal.active
      else s.cond.cal.bank s.cond.cal.active.other) →
    ∃ k : Bank,
      exec (.calWrite fields) s = .next
        (State.answers
          { s with
            cond := { s.cond with cal :=
              { s.cond.cal with
                bankA := if s.cond.cal.active = .a then s.cond.cal.bankA else k
                bankB := if s.cond.cal.active = .a then k else s.cond.cal.bankB } }
            calBefore := some s.cond.cal }
          "CAL.WRITE" (.ok (.calWritten s.cond.cal.active.other))) ∧
      (∀ a : ArmId, k.meters[a].k = (natAt? items "k" (a.val + 1)).getD base.meters[a].k ∧
        k.meters[a].page.val = (natAt? items "curve" (a.val + 1)).getD base.meters[a].page.val) ∧
      (∀ p : PageId, (∀ ps, itemValue items "points" p.val = some (.points ps) → k.pages[p] = ps) ∧
        (itemValue items "points" p.val = none → k.pages[p] = base.pages[p])) ∧
      ∀ q : ProductId, k.beta[q] = (natAt? items "beta" (q.val + 1)).getD base.beta[q]) ∧
  (∀ (s : State) (fields : List Text) (items : List Item) (id : BankId) (k : Bank),
    s.takes "CAL.READ" fields → checkForm calReadForms false (fun _ _ => false) calReadNeeds fields = .ok items →
    (wordAt items "bank" = txt "A" ∧ id = .a ∨ wordAt items "bank" = txt "B" ∧ id = .b) → k = s.cond.cal.bank id →
    ∃ part : CalPart,
      exec (.calRead fields) s = .next (s.answers "CAL.READ" (.ok (.calRead
        { part := part, active := s.cond.cal.active, count := s.cond.cal.count, switchClosed := s.cond.calClosed
          inUse := ((s.rack.orders.flatMap (fun o => o.lines)).filter (fun l =>
            decide ((l.state = .active ∨ l.state = .suspended) ∧ l.bank = some id))).length
          usable := Vector.ofFn (fun a : Fin 8 =>
            decide (2 ≤ k.pages[k.meters[a].page].length ∨ 2 ≤ k.pages[(0 : PageId)].length)) }))) ∧
      (wordAt items "part" = txt "METERS" → part = .meters k.meters) ∧
      (∀ p : PageId, wordAt items "part" = txt "PAGE" → natAt? items "page" 0 = some p.val → part = .page k.pages[p]) ∧
      (wordAt items "part" = txt "PRODUCTS" → part = .products k.beta)) ∧
  (∀ s : State,
    s.takes "CAL.COMMIT" [] → s.cond.calClosed = true →
    (∀ a : ArmId, (s.rack.arm a).inService = true →
      (s.cond.cal.bank s.cond.cal.active.other).kFactor a ≠ 0 ∧
        (s.cond.cal.bank s.cond.cal.active.other).curveUsable a = true) →
    exec (.calCommit []) s = .next
      (State.answers
        { s with
          cond := { s.cond with cal :=
            { s.cond.cal with active := s.cond.cal.active.other, count := min 65535 (s.cond.cal.count + 1) } }
          calBefore := some s.cond.cal }
        "CAL.COMMIT" (.ok (.calCommitted s.cond.cal.active.other (min 65535 (s.cond.cal.count + 1)))))) ∧
  ∀ (s : State) (fields : List Text) (key : Text),
    (s.takes "CAL.WRITE" fields →
      (s.cond.calClosed = false → s.refuses (.calWrite fields) "CAL.WRITE" .sealed .nothing) ∧
      (s.cond.calClosed = true → fields = [] → s.refuses (.calWrite fields) "CAL.WRITE" .badField .nothing) ∧
      (s.cond.calClosed = true → checkForm calWriteForms true (fun _ _ => false) (fun _ => []) fields = .error key →
        s.refuses (.calWrite fields) "CAL.WRITE" .badField (.field key)) ∧
      ∀ items, s.cond.calClosed = true → fields ≠ [] →
        checkForm calWriteForms true (fun _ _ => false) (fun _ => []) fields = .ok items →
        0 < s.rack.bankUsers s.cond.cal.active.other → s.refuses (.calWrite fields) "CAL.WRITE" .bankInUse .nothing) ∧
    (s.takes "CAL.READ" fields → checkForm calReadForms false (fun _ _ => false) calReadNeeds fields = .error key →
      s.refuses (.calRead fields) "CAL.READ" .badField (.field key)) ∧
    (s.takes "CAL.COMMIT" fields →
      (s.cond.calClosed = false → s.refuses (.calCommit fields) "CAL.COMMIT" .sealed .nothing) ∧
      (∀ f rest, s.cond.calClosed = true → fields = f :: rest →
        s.refuses (.calCommit fields) "CAL.COMMIT" .badField (.field (keyOf f))) ∧
      ∀ (k : Bank) (a : ArmId), s.cond.calClosed = true → fields = [] → k = s.cond.cal.bank s.cond.cal.active.other →
        (∀ c : ArmId, c < a → (s.rack.arm c).inService = true → k.kFactor c ≠ 0 ∧ k.curveUsable c = true) →
        (s.rack.arm a).inService = true →
        (k.kFactor a = 0 → s.refuses (.calCommit fields) "CAL.COMMIT" .badBank (.armK a)) ∧
        (k.kFactor a ≠ 0 → k.curveUsable a = false → s.refuses (.calCommit fields) "CAL.COMMIT" .badBank (.armCurve a)))

/-- While the calibration switch is OPEN no step changes either bank, the active indicator or the count, but for a loss of supply that
undoes a calibration request whose response had not been sent (R26, R37). -/
def Obligations.SealedStoreNeverChanges : Prop :=
  ∀ s t : State, step s = .next t → s.cond.calClosed = false →
    t.cond.cal = s.cond.cal ∨
      ∃ inputs rest, s.pending = Instr.powerOn inputs :: rest ∧ s.calBefore = some t.cond.cal

/-- No step writes a bank that a line holds which is ACTIVE or SUSPENDED (R30, R34), but for a loss of supply, which ends the line and
may undo a calibration request whose response had not been sent (R37). -/
def Obligations.BankInUseIsNeverWritten : Prop :=
  ∀ (s t : State) (k : BankId), step s = .next t → 0 < s.rack.bankUsers k →
    t.cond.cal.bank k = s.cond.cal.bank k ∨
      ∃ inputs rest, s.pending = Instr.powerOn inputs :: rest ∧ s.calBefore = some t.cond.cal

/-- Both banks keep every field in its range through every step, and so do those a loss of supply may bring back (section 2.1, R28,
R37). -/
def Obligations.BanksStayInRange : Prop :=
  ∀ s t : State, step s = .next t → s.calInRange → t.calInRange

/-! ### Permits, units, accounts (chapters 3 and 4) -/

/-- PERMIT.PUT, PERMIT.GET, PERMIT.SUSPEND of a permit that is not admitted, PERMIT.REINSTATE and PERMIT.RETIRE accepted: the table after
each, and nothing else (R41, R42, R45, R47, R48). That a request that names one record alone carries its number in a field permit, and that
the suspension of a permit already SUSPENDED carries no bay, is the model's choice (assumptions 9 and 20). -/
def Obligations.PermitRequestsComplete : Prop :=
  (∀ (s : State) (fields : List Text) (items : List Item),
    s.takes "PERMIT.PUT" fields → permitPutItems fields = .ok items → s.rack.permit? (natAt items "permit" 0) = none →
    s.rack.permits.length < 512 →
    exec (.permitPut fields) s = .next
      (State.answers { s with rack := { s.rack with permits := s.rack.permits ++
          [{ number := natAt items "permit" 0, level := natAt items "level" 0
             endorsements := Vector.ofFn (fun g : Fin 8 => (groupsAt items "endorse").contains g.val)
             expiry := natAt items "expiry" 0, dailyLimit := natAt items "limit" 0, loadsToday := 0, suspended := false
             admittedBay := none }] } } "PERMIT.PUT" (.ok (.action true)))) ∧
  (∀ (s : State) (fields : List Text) (items : List Item) (p : Permit),
    s.takes "PERMIT.PUT" fields → permitPutItems fields = .ok items → s.rack.permit? (natAt items "permit" 0) = some p →
    exec (.permitPut fields) s = .next
      (State.answers { s with rack := s.rack.modPermit p.number (fun q =>
          { q with level := natAt items "level" 0
                   endorsements := Vector.ofFn (fun g : Fin 8 => (groupsAt items "endorse").contains g.val)
                   expiry := natAt items "expiry" 0, dailyLimit := natAt items "limit" 0 }) } "PERMIT.PUT"
        (.ok (.action false)))) ∧
  (∀ (s : State) (fields : List Text) (items : List Item) (p : Permit),
    s.takes "PERMIT.GET" fields → permitItems fields = .ok items → s.rack.permit? (natAt items "permit" 0) = some p →
    exec (.permitGet fields) s = .next (s.answers "PERMIT.GET"
      (.ok (.permit p (s.rack.orders.filter (fun o => decide (o.permit = p.number))).length)))) ∧
  (∀ (s : State) (fields : List Text) (items : List Item) (p : Permit),
    s.takes "PERMIT.SUSPEND" fields → permitItems fields = .ok items → s.rack.permit? (natAt items "permit" 0) = some p →
    p.suspended = false → p.admittedBay = none →
    exec (.permitSuspend fields) s = .next
      (State.answers { s with rack := (s.rack.modPermit p.number (fun q => { q with suspended := true })).pump } "PERMIT.SUSPEND"
        (.ok (.permitSuspended true none)))) ∧
  (∀ (s : State) (fields : List Text) (items : List Item) (p : Permit),
    s.takes "PERMIT.SUSPEND" fields → permitItems fields = .ok items → s.rack.permit? (natAt items "permit" 0) = some p →
    p.suspended = true →
    exec (.permitSuspend fields) s = .next (s.answers "PERMIT.SUSPEND" (.ok (.permitSuspended false none)))) ∧
  (∀ (s : State) (fields : List Text) (items : List Item) (p : Permit),
    s.takes "PERMIT.REINSTATE" fields → permitItems fields = .ok items → s.rack.permit? (natAt items "permit" 0) = some p →
    exec (.permitReinstate fields) s = .next
      (State.answers { s with rack := s.rack.modPermit p.number (fun q => { q with suspended := false }) } "PERMIT.REINSTATE"
        (.ok (.changed p.suspended)))) ∧
  ∀ (s : State) (fields : List Text) (items : List Item) (p : Permit),
    s.takes "PERMIT.RETIRE" fields → permitItems fields = .ok items → s.rack.permit? (natAt items "permit" 0) = some p →
    (∀ o ∈ s.rack.orders, o.permit ≠ p.number) →
    exec (.permitRetire fields) s = .next
      (State.answers { s with rack := { s.rack with permits := s.rack.permits.filter (fun q => decide (q.number ≠ p.number)) } }
        "PERMIT.RETIRE" (.ok .plain))

/-- UNIT.PUT, UNIT.GET, UNIT.CLEAN and UNIT.RETIRE accepted: the table after each, and nothing else (R50 to R53). A UNIT.PUT gives as many
compartments as the frame has capacities, each of its last group there, and where none is given of the one the record held for that compartment,
or CLEAN; of a field that stands twice the later occurrence is taken (R50). That a request that
names one record alone carries its number in a field unit is the model's choice (assumption 9). -/
def Obligations.UnitRequestsComplete : Prop :=
  (∀ (s : State) (fields : List Text) (items : List Item),
    s.takes "UNIT.PUT" fields → unitPutItems fields = .ok items → s.rack.unit? (natAt items "unit" 0) = none →
    s.rack.units.length < 256 →
    exec (.unitPut fields) s = .next
      (State.answers { s with rack := { s.rack with units := s.rack.units ++
          [{ number := natAt items "unit" 0, expiry := natAt items "expiry" 0, compartments := newCompartments items []
             committed := none }] } } "UNIT.PUT" (.ok (.action true)))) ∧
  (∀ (s : State) (fields : List Text) (items : List Item) (u : VehicleUnit),
    s.takes "UNIT.PUT" fields → unitPutItems fields = .ok items → s.rack.unit? (natAt items "unit" 0) = some u →
    u.committed = none →
    exec (.unitPut fields) s = .next
      (State.answers { s with rack := s.rack.modUnit u.number (fun v =>
          { v with expiry := natAt items "expiry" 0, compartments := newCompartments items v.compartments }) } "UNIT.PUT"
        (.ok (.action false)))) ∧
  (∀ (s : State) (fields : List Text) (items : List Item) (u : VehicleUnit),
    s.takes "UNIT.GET" fields → unitItems fields = .ok items → s.rack.unit? (natAt items "unit" 0) = some u →
    exec (.unitGet fields) s = .next (s.answers "UNIT.GET"
      (.ok (.unit u (s.rack.orders.filter (fun o => decide (o.unit1 = u.number) || decide (o.unit2 = some u.number))).length)))) ∧
  (∀ (s : State) (fields : List Text) (items : List Item) (u : VehicleUnit),
    s.takes "UNIT.CLEAN" fields → unitItems fields = .ok items → s.rack.unit? (natAt items "unit" 0) = some u →
    u.committed = none →
    exec (.unitClean fields) s = .next
      (State.answers { s with rack := s.rack.modUnit u.number (fun v =>
          { v with compartments := v.compartments.map (fun x => { x with lastGroup := none }) }) } "UNIT.CLEAN"
        (.ok .plain))) ∧
  (∀ (s : State) (fields : List Text) (items : List Item) (u : VehicleUnit),
    s.takes "UNIT.RETIRE" fields → unitItems fields = .ok items → s.rack.unit? (natAt items "unit" 0) = some u →
    (∀ o ∈ s.rack.orders, o.unit1 ≠ u.number ∧ o.unit2 ≠ some u.number) →
    exec (.unitRetire fields) s = .next
      (State.answers { s with rack := { s.rack with units := s.rack.units.filter (fun v => decide (v.number ≠ u.number)) } } "UNIT.RETIRE"
        (.ok .plain))) ∧
  ∀ (fields : List Text) (items : List Item) (old xs : List Compartment),
    unitPutItems fields = .ok items → xs = newCompartments items old →
    1 ≤ xs.length ∧ xs.length ≤ 6 ∧ (∀ j, j < xs.length ↔ natAt? items "cap" (j + 1) ≠ none) ∧
    ∀ (j : Nat) (x : Compartment), xs[j]? = some x →
      natAt? items "cap" (j + 1) = some x.capacity ∧
      (∀ g : Group, itemValue items "last" (j + 1) = some (.nat g.val) → x.lastGroup = some g) ∧
      (itemValue items "last" (j + 1) = some .clean → x.lastGroup = none) ∧
      (itemValue items "last" (j + 1) = none →
        (∀ y, old[j]? = some y → x.lastGroup = y.lastGroup) ∧ (old[j]? = none → x.lastGroup = none))

/-- ACCOUNT.PUT, ACCOUNT.GET, ACCOUNT.HOLD, ACCOUNT.RELEASE, ACCOUNT.CLOSE and ACCOUNT.CREDIT accepted: the table after each, and nothing
else (R69, R70, R72, R73). A credit raises the balance of the account named, and no other, brought to ±999,999,999 L (R71). That a request
that names an account alone carries its number in a field account is the model's choice (assumption 9). -/
def Obligations.AccountRequestsComplete : Prop :=
  (∀ (s : State) (fields : List Text) (items : List Item),
    s.takes "ACCOUNT.PUT" fields → accountPutItems fields = .ok items → s.rack.account? (natAt items "account" 0) = none →
    s.rack.accounts.length < 128 →
    exec (.accountPut fields) s = .next
      (State.answers { s with rack := { s.rack with accounts := s.rack.accounts ++
          [{ number := natAt items "account" 0, group := Fin.ofNat 8 (natAt items "group" 0), balance := 0
             overdraft := natAt items "overdraft" 0, reserved := 0, held := false }] } } "ACCOUNT.PUT"
        (.ok (.action true)))) ∧
  (∀ (s : State) (fields : List Text) (items : List Item) (x : Account),
    s.takes "ACCOUNT.PUT" fields → accountPutItems fields = .ok items → s.rack.account? (natAt items "account" 0) = some x →
    (x.group = Fin.ofNat 8 (natAt items "group" 0) ∨ x.reserved = 0) →
    exec (.accountPut fields) s = .next
      (State.answers { s with rack := s.rack.modAccount x.number (fun y =>
          { y with group := Fin.ofNat 8 (natAt items "group" 0), overdraft := natAt items "overdraft" 0 }) } "ACCOUNT.PUT"
        (.ok (.action false)))) ∧
  (∀ (s : State) (fields : List Text) (items : List Item) (x : Account),
    s.takes "ACCOUNT.GET" fields → accountItems fields = .ok items → s.rack.account? (natAt items "account" 0) = some x →
    exec (.accountGet fields) s = .next (s.answers "ACCOUNT.GET"
      (.ok (.account x (x.balance + x.overdraft - x.reserved)
        (s.rack.allLines.filter (fun l => decide (l.account = x.number) && !l.state.isFinal)).length)))) ∧
  (∀ (s : State) (fields : List Text) (items : List Item) (x : Account),
    s.takes "ACCOUNT.HOLD" fields → accountItems fields = .ok items → s.rack.account? (natAt items "account" 0) = some x →
    exec (.accountHold fields) s = .next
      (State.answers { s with rack := s.rack.modAccount x.number (fun y => { y with held := true }) } "ACCOUNT.HOLD"
        (.ok (.changed (!x.held))))) ∧
  (∀ (s : State) (fields : List Text) (items : List Item) (x : Account),
    s.takes "ACCOUNT.RELEASE" fields → accountItems fields = .ok items → s.rack.account? (natAt items "account" 0) = some x →
    exec (.accountRelease fields) s = .next
      (State.answers { s with rack := s.rack.modAccount x.number (fun y => { y with held := false }) } "ACCOUNT.RELEASE"
        (.ok (.changed x.held)))) ∧
  (∀ (s : State) (fields : List Text) (items : List Item) (x : Account),
    s.takes "ACCOUNT.CLOSE" fields → accountItems fields = .ok items → s.rack.account? (natAt items "account" 0) = some x →
    x.reserved = 0 →
    exec (.accountClose fields) s = .next
      (State.answers { s with rack := { s.rack with accounts := s.rack.accounts.filter (fun y => decide (y.number ≠ x.number)) } }
        "ACCOUNT.CLOSE" (.ok (.closed x.balance)))) ∧
  ∀ (s : State) (fields : List Text) (items : List Item) (x : Account) (b : Int),
    s.takes "ACCOUNT.CREDIT" fields → creditItems fields = .ok items → s.rack.account? (natAt items "account" 0) = some x →
    b = max (-999999999) (min 999999999 (x.balance + signedAt items "amount")) →
    ∃ t, exec (.accountCredit fields) s = .next t ∧
      t = { (s.answers "ACCOUNT.CREDIT" (.ok (.credited b (decide (b ≠ x.balance + signedAt items "amount"))))) with
        rack := { s.rack with accounts := t.rack.accounts } } ∧
      t.rack.account? x.number = some { x with balance := b } ∧
      (∀ n, n ≠ x.number → t.rack.account? n = s.rack.account? n) ∧ -999999999 ≤ b ∧ b ≤ 999999999

/-! ### Recipes, additives, headers, the rack (chapters 7 to 9, 11) -/

/-- RECIPE.PUT, RECIPE.GET and RECIPE.RETIRE accepted: the table after each, and nothing else (R136 to R138); a recipe has as many dose
entries as the frame has pairs (R136). ADDITIVE.PUT, ADDITIVE.REFILL
and ADDITIVE.GET accepted: the low mark, the stock, and nothing else, with the low condition worked out again (R140 to R143). That a request
that names one record alone carries its number in a field recipe or additive is the model's choice (assumption 9). -/
def Obligations.RecipeAndAdditiveRequestsComplete : Prop :=
  (∀ (s : State) (fields : List Text) (items : List Item),
    s.takes "RECIPE.PUT" fields → recipePutItems fields = .ok items →
    ∃ t, exec (.recipePut fields) s = .next t ∧
      t = { (s.answers "RECIPE.PUT" (.ok (.action (s.cond.recipe? (natAt items "recipe" 0)).isNone))) with
        cond := { s.cond with recipes := t.cond.recipes } } ∧
      t.cond.recipe? (natAt items "recipe" 0) = some
        { number := natAt items "recipe" 0, product := numbered 15 (natAt items "product" 0)
          header := numbered 5 (natAt items "header" 0), group := Fin.ofNat 8 (natAt items "group" 0)
          hazard := natAt items "hazard" 0
          doses := (List.range (doseRun items)).map (fun j =>
            { additive := numbered 7 (natAt items "add" (j + 1)), dose := natAt items "dose" (j + 1) }) } ∧
      ∀ n, n ≠ natAt items "recipe" 0 → t.cond.recipe? n = s.cond.recipe? n) ∧
  (∀ (fields : List Text) (items : List Item), recipePutItems fields = .ok items →
    ∀ j, (j < doseRun items ↔ natAt? items "add" (j + 1) ≠ none) ∧ (j < doseRun items ↔ natAt? items "dose" (j + 1) ≠ none)) ∧
  (∀ (s : State) (fields : List Text) (items : List Item) (x : Recipe),
    s.takes "RECIPE.GET" fields → recipeItems fields = .ok items → s.cond.recipe? (natAt items "recipe" 0) = some x →
    exec (.recipeGet fields) s = .next (s.answers "RECIPE.GET"
      (.ok (.recipe x (s.rack.allLines.filter (fun l => decide (l.recipe = x.number) && !l.state.isFinal)).length)))) ∧
  (∀ (s : State) (fields : List Text) (items : List Item) (x : Recipe),
    s.takes "RECIPE.RETIRE" fields → recipeItems fields = .ok items → s.cond.recipe? (natAt items "recipe" 0) = some x →
    (∀ l ∈ s.rack.allLines, l.recipe = x.number → l.state.isFinal = true) →
    exec (.recipeRetire fields) s = .next
      (State.answers { s with cond := { s.cond with recipes := s.cond.recipes.filter (fun y => decide (y.number ≠ x.number)) } }
        "RECIPE.RETIRE" (.ok .plain))) ∧
  (∀ (s : State) (fields : List Text) (items : List Item) (x : AdditiveId),
    s.takes "ADDITIVE.PUT" fields → additivePutItems fields = .ok items → x = numbered 7 (natAt items "additive" 0) →
    exec (.additivePut fields) s = .next
      (State.answers { s with rack := s.rack.modAdditive x (fun y => { y with lowMark := natAt items "low" 0 }) } "ADDITIVE.PUT"
        (.ok (.additivePut (s.rack.additive x).stock (s.rack.additive x).reserved
          (decide (((s.rack.additive x).stock : Int) - (s.rack.additive x).reserved < natAt items "low" 0)))))) ∧
  (∀ (s : State) (fields : List Text) (items : List Item) (x : AdditiveId) (n : Nat),
    s.takes "ADDITIVE.REFILL" fields → refillItems fields = .ok items → x = numbered 7 (natAt items "additive" 0) →
    n = min 999999999 ((s.rack.additive x).stock + natAt items "amount" 0) →
    exec (.additiveRefill fields) s = .next
      (State.answers { s with rack := s.rack.modAdditive x (fun y => { y with stock := n }) } "ADDITIVE.REFILL"
        (.ok (.refilled n (decide (999999999 < (s.rack.additive x).stock + natAt items "amount" 0))
          (decide ((n : Int) - (s.rack.additive x).reserved < (s.rack.additive x).lowMark)))))) ∧
  ∀ (s : State) (fields : List Text) (items : List Item) (x : AdditiveId),
    s.takes "ADDITIVE.GET" fields → additiveItems fields = .ok items → x = numbered 7 (natAt items "additive" 0) →
    exec (.additiveGet fields) s = .next (s.answers "ADDITIVE.GET"
      (.ok (.additive (s.rack.additive x) (((s.rack.additive x).stock : Int) - (s.rack.additive x).reserved)
        (decide (((s.rack.additive x).stock : Int) - (s.rack.additive x).reserved < (s.rack.additive x).lowMark))
        (s.rack.allLines.filter (fun l => !l.state.isFinal &&
          l.doses.any (fun d => decide (d.additive = x) && decide (0 < d.remaining)))).length)))

/-- The requests of the permit, unit, account, recipe and additive tables refused, each with its status word and nothing changed: a field at
fault (R181), a record that is not there, a full table, and a record that something else still names (R41, R42, R45, R47, R48, R50 to R53, R69
to R73, R136 to R138, R141 to R143). Which of several fields at fault is named, and how a field that names a record alone is spelled, is the
model's choice (assumptions 8 and 9). -/
def Obligations.TableRequestsAreRefused : Prop :=
  ∀ (s : State) (fields : List Text) (items : List Item) (key : Text),
    (∀ name i, (name, i) ∈ [("PERMIT.GET", Instr.permitGet fields), ("PERMIT.SUSPEND", .permitSuspend fields),
        ("PERMIT.REINSTATE", .permitReinstate fields), ("PERMIT.RETIRE", .permitRetire fields)] → s.takes name fields →
      (permitItems fields = .error key → s.refuses i name .badField (.field key)) ∧
      (permitItems fields = .ok items → s.rack.permit? (natAt items "permit" 0) = none → s.refuses i name .notFound .nothing)) ∧
    (∀ name i, (name, i) ∈ [("UNIT.GET", Instr.unitGet fields), ("UNIT.CLEAN", .unitClean fields),
        ("UNIT.RETIRE", .unitRetire fields)] → s.takes name fields →
      (unitItems fields = .error key → s.refuses i name .badField (.field key)) ∧
      (unitItems fields = .ok items → s.rack.unit? (natAt items "unit" 0) = none → s.refuses i name .notFound .nothing)) ∧
    (∀ name i, (name, i) ∈ [("ACCOUNT.GET", Instr.accountGet fields), ("ACCOUNT.HOLD", .accountHold fields),
        ("ACCOUNT.RELEASE", .accountRelease fields), ("ACCOUNT.CLOSE", .accountClose fields)] → s.takes name fields →
      (accountItems fields = .error key → s.refuses i name .badField (.field key)) ∧
      (accountItems fields = .ok items → s.rack.account? (natAt items "account" 0) = none →
        s.refuses i name .notFound .nothing)) ∧
    (∀ name i, (name, i) ∈ [("RECIPE.GET", Instr.recipeGet fields), ("RECIPE.RETIRE", .recipeRetire fields)] → s.takes name fields →
      (recipeItems fields = .error key → s.refuses i name .badField (.field key)) ∧
      (recipeItems fields = .ok items → s.cond.recipe? (natAt items "recipe" 0) = none → s.refuses i name .notFound .nothing)) ∧
    (∀ name i checked, (name, i, checked) ∈ [("PERMIT.PUT", Instr.permitPut fields, permitPutItems fields),
        ("UNIT.PUT", .unitPut fields, unitPutItems fields), ("ACCOUNT.PUT", .accountPut fields, accountPutItems fields),
        ("ACCOUNT.CREDIT", .accountCredit fields, creditItems fields), ("RECIPE.PUT", .recipePut fields, recipePutItems fields),
        ("ADDITIVE.PUT", .additivePut fields, additivePutItems fields),
        ("ADDITIVE.REFILL", .additiveRefill fields, refillItems fields),
        ("ADDITIVE.GET", .additiveGet fields, additiveItems fields)] →
      s.takes name fields → checked = .error key → s.refuses i name .badField (.field key)) ∧
    (s.takes "PERMIT.PUT" fields → permitPutItems fields = .ok items → s.rack.permit? (natAt items "permit" 0) = none →
      512 ≤ s.rack.permits.length → s.refuses (.permitPut fields) "PERMIT.PUT" .tableFull .nothing) ∧
    (∀ p, ∀ o ∈ s.rack.orders, s.takes "PERMIT.RETIRE" fields → permitItems fields = .ok items →
      s.rack.permit? (natAt items "permit" 0) = some p → o.permit = p.number →
      s.refuses (.permitRetire fields) "PERMIT.RETIRE" .referenced .nothing) ∧
    (s.takes "UNIT.PUT" fields → unitPutItems fields = .ok items →
      (∀ u, s.rack.unit? (natAt items "unit" 0) = some u → u.committed ≠ none →
        s.refuses (.unitPut fields) "UNIT.PUT" .referenced .nothing) ∧
      (s.rack.unit? (natAt items "unit" 0) = none → 256 ≤ s.rack.units.length →
        s.refuses (.unitPut fields) "UNIT.PUT" .tableFull .nothing)) ∧
    (∀ u, unitItems fields = .ok items → s.rack.unit? (natAt items "unit" 0) = some u →
      (s.takes "UNIT.CLEAN" fields → u.committed ≠ none → s.refuses (.unitClean fields) "UNIT.CLEAN" .referenced .nothing) ∧
      ∀ o ∈ s.rack.orders, s.takes "UNIT.RETIRE" fields → o.unit1 = u.number ∨ o.unit2 = some u.number →
        s.refuses (.unitRetire fields) "UNIT.RETIRE" .referenced .nothing) ∧
    (s.takes "ACCOUNT.PUT" fields → accountPutItems fields = .ok items →
      (∀ x, s.rack.account? (natAt items "account" 0) = some x → x.group ≠ Fin.ofNat 8 (natAt items "group" 0) → 0 < x.reserved →
        s.refuses (.accountPut fields) "ACCOUNT.PUT" .referenced .nothing) ∧
      (s.rack.account? (natAt items "account" 0) = none → 128 ≤ s.rack.accounts.length →
        s.refuses (.accountPut fields) "ACCOUNT.PUT" .tableFull .nothing)) ∧
    (∀ x, s.takes "ACCOUNT.CLOSE" fields → accountItems fields = .ok items → s.rack.account? (natAt items "account" 0) = some x →
      0 < x.reserved → s.refuses (.accountClose fields) "ACCOUNT.CLOSE" .referenced .nothing) ∧
    (s.takes "ACCOUNT.CREDIT" fields → creditItems fields = .ok items → s.rack.account? (natAt items "account" 0) = none →
      s.refuses (.accountCredit fields) "ACCOUNT.CREDIT" .notFound .nothing) ∧
    ∀ x, ∀ l ∈ s.rack.allLines, s.takes "RECIPE.RETIRE" fields → recipeItems fields = .ok items →
      s.cond.recipe? (natAt items "recipe" 0) = some x → l.recipe = x.number → l.state.isFinal = false →
      s.refuses (.recipeRetire fields) "RECIPE.RETIRE" .referenced .nothing

/-- RACK.NOTEFORMAT (R185): it reads without width, refuses a width that is malformed or none of the five naming it, and sets the width
otherwise, no stored remark changed. The width held governs every note read, whenever its order completed (R173); it is 32 at power-on and
a rack restart keeps it. -/
def Obligations.NoteFormatSetsWidth : Prop :=
  (∀ s : State, s.takes "RACK.NOTEFORMAT" [] →
    exec (.rackNoteFormat []) s = .next (s.answers "RACK.NOTEFORMAT" (.ok (.width s.cond.noteWidth)))) ∧
  (∀ (s : State) (v : Text), s.takes "RACK.NOTEFORMAT" [txt "width=" ++ v] →
    (∀ w, readNat v = some w → w ∈ [0, 16, 32, 48, 64] →
      exec (.rackNoteFormat [txt "width=" ++ v]) s = .next
        (State.answers { s with cond := { s.cond with noteWidth := w } } "RACK.NOTEFORMAT" (.ok (.widthSet s.cond.noteWidth w)))) ∧
    ((∀ w, readNat v = some w → w ∉ [0, 16, 32, 48, 64]) →
      exec (.rackNoteFormat [txt "width=" ++ v]) s = .next
        (s.answers "RACK.NOTEFORMAT" (refusal .badField (.field (txt "width")))))) ∧
  (∀ (s : State) (fields : List Text) (n : Note) (place count : Nat) (counter : Option Nat),
    s.takes "NOTE.READ" fields → exec (.noteRead fields) s = .next (s.answers "NOTE.READ" (.ok (.note n place count counter))) →
    ∃ o ∈ s.rack.orders, n = noteOf s.cond.noteWidth o ∧
      n.remark = (o.remark ++ List.replicate (s.cond.noteWidth - o.remark.length) ' ').take s.cond.noteWidth) ∧
  (∀ (s : State) (fields : List Text) (n : Note) (place count : Nat) (counter : Option Nat),
    s.takes "NOTE.NEXT" fields → exec (.noteNext fields) s = .next (s.answers "NOTE.NEXT" (.ok (.note n place count counter))) →
    ∃ o ∈ s.rack.orders, n = noteOf s.cond.noteWidth o ∧
      n.remark = (o.remark ++ List.replicate (s.cond.noteWidth - o.remark.length) ' ').take s.cond.noteWidth) ∧
  (∀ (inputs : InputLevels) (s t : State), exec (.powerOn inputs) s = .next t → t.cond.noteWidth = 32) ∧
  ∀ (s t : State) (fields : List Text), exec (.rackRestart fields) s = .next t → t.cond.noteWidth = s.cond.noteWidth

/-- RACK.SETDAY (R59): an advance of the day clears every permit's loads today, any other day keeps them, a field at fault changes
nothing; the day is 0 at power-on and a rack restart keeps it. That a second day is a field at fault, and that a field at fault in the frame
is named before a day that is missing, is the model's choice (assumption 8). -/
def Obligations.DayAdvanceClearsLoads : Prop :=
  (∀ (s : State) (fields : List Text), s.takes "RACK.SETDAY" fields →
    (∀ key, setDayItems fields = .error key →
      exec (.rackSetDay fields) s = .next (s.answers "RACK.SETDAY" (refusal .badField (.field key)))) ∧
    ∀ items day, setDayItems fields = .ok items → day = natAt items "day" 0 →
      (s.cond.day < day →
        exec (.rackSetDay fields) s = .next
          (State.answers { s with
              cond := { s.cond with day := day }
              rack := { s.rack with permits := s.rack.permits.map (fun p => { p with loadsToday := 0 }) } }
            "RACK.SETDAY" (.ok (.dayCleared true)))) ∧
      (day ≤ s.cond.day →
        exec (.rackSetDay fields) s = .next
          (State.answers { s with cond := { s.cond with day := day } } "RACK.SETDAY" (.ok (.dayCleared false))))) ∧
  (∀ (inputs : InputLevels) (s t : State), exec (.powerOn inputs) s = .next t → t.cond.day = 0) ∧
  ∀ (s t : State) (fields : List Text), exec (.rackRestart fields) s = .next t → t.cond.day = s.cond.day

/-- RACK.STATUS, RACK.SWITCHTABLE and RACK.HEADER accepted: what each sets and answers, and nothing else (R56, R131, R184). The table that a
RACK.SWITCHTABLE sets has in each column of each row, CLEAN being the last, the verdict the frame gives at that place of the row's field (R56).
The attention level reported is that of R183. A raised capacity grants the waiting arms in list order until the list is empty or the set is
full, and answers with the arms granted in that order; no other arm and no other header moves (R127, R131). A field at fault, and any field of
RACK.STATUS or RACK.RESTART, is refused with nothing changed (R181, R184, R186); which of several is named is the model's choice
(assumption 8). -/
def Obligations.RackRequestsComplete : Prop :=
  (∀ s : State, s.takes "RACK.STATUS" [] →
    exec (.rackStatus []) s = .next (s.answers "RACK.STATUS" (.ok (.status
      { day := s.cond.day, mode := s.cond.mode, emergencyStop := s.cond.emergencyStop, calCount := s.cond.cal.count
        activeBank := s.cond.cal.active, calClosed := s.cond.calClosed, noteWidth := s.cond.noteWidth
        notesWaiting := s.rack.notes.length
        bays := Vector.ofFn (fun b : Fin 4 =>
          { admitted := (s.rack.bay b).admitted, ground := s.cond.ground[b], overfill := s.cond.overfill[b]
            permitted := s.cond.ground[b] && s.cond.overfill[b] })
        alarms := allArms.filter (fun a => decide ((s.rack.arm a).state = .alarm))
        lowAdditives := allAdditives.filter (fun x =>
          decide (((s.rack.additive x).stock : Int) - (s.rack.additive x).reserved < (s.rack.additive x).lowMark))
        attention := decide (s.rack.notes ≠ [] ∨ (∃ a, (s.rack.arm a).state = .alarm) ∨ s.cond.mode = .halted ∨
          ∃ x, ((s.rack.additive x).stock : Int) - (s.rack.additive x).reserved < (s.rack.additive x).lowMark) })))) ∧
  (∀ s : State, s.takes "RACK.SWITCHTABLE" [] →
    exec (.rackSwitchTable []) s = .next (s.answers "RACK.SWITCHTABLE" (.ok (.switchTable s.cond.switchTable)))) ∧
  (∀ (s : State) (fields : List Text) (items : List Item),
    s.takes "RACK.SWITCHTABLE" fields → fields ≠ [] → switchItems fields = .ok items →
    exec (.rackSwitchTable fields) s = .next
      (State.answers { s with cond := { s.cond with switchTable := switchTableOf items } } "RACK.SWITCHTABLE"
        (.ok (.switchTable (switchTableOf items))))) ∧
  (∀ (fields : List Text) (items : List Item) (x : SwitchTable) (row : Fin 9),
    switchItems fields = .ok items → x = switchTableOf items →
    (∃ vs, itemValue items "row" row.val = some (.verdicts vs) ∧ vs.length = 8 ∧
      ∀ col : Fin 8, vs[col.val]? = some x.rows[row][col]) ∧
    ∀ key text : Text, key = (if row = 8 then txt "row.CLEAN" else indexedKey "row" row.val) → key ++ '=' :: text ∈ fields →
      ∃ vs, readVerdicts text = some vs ∧ vs.length = 8 ∧ ∀ col : Fin 8, vs[col.val]? = some x.rows[row][col]) ∧
  (∀ (s : State) (fields : List Text) (items : List Item) (h : HeaderId),
    s.takes "RACK.HEADER" fields → headerItems fields = .ok items → h = numbered 5 (natAt items "header" 0) →
    natAt? items "cap" 0 = none →
    exec (.rackHeader fields) s = .next (s.answers "RACK.HEADER"
      (.ok (.header (s.rack.header h).capacity (s.rack.header h).held
        ((s.rack.header h).waiting.map (fun w => (w.arm, w.priority))) none)))) ∧
  (∀ (s : State) (fields : List Text) (items : List Item) (h : HeaderId) (cap : Nat),
    s.takes "RACK.HEADER" fields → headerItems fields = .ok items → h = numbered 5 (natAt items "header" 0) →
    natAt? items "cap" 0 = some cap → cap ≤ (s.rack.header h).capacity →
    exec (.rackHeader fields) s = .next
      (State.answers { s with rack := (s.rack.modHeader h (fun x => { x with capacity := cap })).pump } "RACK.HEADER"
        (.ok (.header cap (s.rack.header h).held ((s.rack.header h).waiting.map (fun w => (w.arm, w.priority))) (some []))))) ∧
  (∀ (s : State) (f : Text) (fields : List Text) (key : Text),
    (s.takes "RACK.STATUS" (f :: fields) → s.refuses (.rackStatus (f :: fields)) "RACK.STATUS" .badField (.field (keyOf f))) ∧
    (s.takes "RACK.RESTART" (f :: fields) → s.refuses (.rackRestart (f :: fields)) "RACK.RESTART" .badField (.field (keyOf f))) ∧
    (s.takes "RACK.SWITCHTABLE" (f :: fields) → switchItems (f :: fields) = .error key →
      s.refuses (.rackSwitchTable (f :: fields)) "RACK.SWITCHTABLE" .badField (.field key)) ∧
    (s.takes "RACK.HEADER" fields → headerItems fields = .error key →
      s.refuses (.rackHeader fields) "RACK.HEADER" .badField (.field key))) ∧
  ∀ (s : State) (fields : List Text) (items : List Item) (h : HeaderId) (cap n : Nat) (ws : List Waiter),
    s.takes "RACK.HEADER" fields → headerItems fields = .ok items → h = numbered 5 (natAt items "header" 0) →
    natAt? items "cap" 0 = some cap → (s.rack.header h).capacity < cap → ws = (s.rack.header h).waiting →
    (ws.map (fun w => w.arm)).Nodup → (∀ w ∈ ws, (s.rack.arm w.arm).state = .waitGrant ∧ w.arm ∉ (s.rack.header h).held) →
    n = min ws.length (cap - (s.rack.header h).held.length) →
    ∃ t, exec (.rackHeader fields) s = .next t ∧ t.cond = s.cond ∧
      t.link = s.link.toHunt.respond (txt "RACK.HEADER") (.ok (.header cap (t.rack.header h).held
        ((ws.drop n).map (fun w => (w.arm, w.priority))) (some ((ws.take n).map (fun w => w.arm))))) ∧
      (t.rack.header h).capacity = cap ∧ (t.rack.header h).waiting = ws.drop n ∧
      (t.rack.header h).held.length = (s.rack.header h).held.length + n ∧
      (∀ a, a ∈ (t.rack.header h).held ↔ a ∈ (s.rack.header h).held ∨ a ∈ (ws.take n).map (fun w => w.arm)) ∧
      (∀ a, a ∈ (ws.take n).map (fun w => w.arm) →
        t.rack.arm a = { s.rack.arm a with state := .high, reason := none } ∧ (t.rack.arm a).state.valve = .high) ∧
      (∀ a, a ∉ (ws.take n).map (fun w => w.arm) → t.rack.arm a = s.rack.arm a) ∧
      (∀ g, g ≠ h → t.rack.header g = s.rack.header g) ∧
      t.rack = { s.rack with arms := t.rack.arms, headers := t.rack.headers, panels := t.rack.panels }

/-! ### Fields (section 11.2) -/

/-- A decimal number read back is itself, and a field that carries it is accepted exactly when it lies in the field's range; the
refusal names the field (R181, section 11.8). -/
def Obligations.NumberFieldReads : Prop :=
  (∀ n : Nat, readNat (natText n) = some n) ∧
  ∀ (name : String) (lo hi n : Nat), (txt name).contains '=' = false → (txt name).contains '.' = false →
    checkPlain [plainField name (.nat lo hi)] [name] [txt name ++ '=' :: natText n] =
      if lo ≤ n ∧ n ≤ hi then .ok [{ key := txt name, name := txt name, index := 0, value := some (.nat n) }]
      else .error (txt name)

/-! ### Orders and notes (chapters 5 and 10) -/

/-- ORDER.BOOK that passes every check creates the order and its PENDING lines, reserves on accounts and additives and commits the
units, together (R54, R63, R74, R75, R77, R82); one that fails a check changes nothing (R78). The booking is what the frame's fields say, of a
field that stands twice the later occurrence, its lines as many as the frame describes (R77). Each line is PENDING with its recipe's values
as they stand, no arm, nothing measured, and for each dose entry the need reserved that the additive's reserved has risen by (R75, R81). -/
def Obligations.BookingIsDecided : Prop :=
  ∀ (s : State) (fields : List Text) (items : List Item) (k : Booking),
    s.takes "ORDER.BOOK" fields → bookItems fields = .ok items → k = bookingOf items →
    k.lines.map (fun l => l.number) = List.range' 1 k.lines.length ∧ 1 ≤ k.lines.length ∧ k.lines.length ≤ 12 ∧
    natAt? items "order" 0 = some k.order ∧ natAt? items "permit" 0 = some k.permit ∧ natAt? items "unit1" 0 = some k.unit1 ∧
    natAt? items "unit2" 0 = k.unit2 ∧ natAt? items "bay" 0 = k.bay.map (fun b => b.val + 1) ∧
    natAt? items "prio" 0 = some k.priority ∧ (∀ x, itemValue items "remark" 0 = some (.text x) → k.remark = x) ∧
    (itemValue items "remark" 0 = none → k.remark = []) ∧
    (∀ i, i < k.lines.length ↔ natAt? items "addr" (i + 1) ≠ none) ∧
    (∀ (i : Nat) (x : BookLine), k.lines[i]? = some x →
      natAt? items "addr" (i + 1) = some x.addr ∧ natAt? items "recipe" (i + 1) = some x.recipe ∧
      natAt? items "account" (i + 1) = some x.account ∧ natAt? items "preset" (i + 1) = some x.preset) ∧
    (bookRefusal s.cond s.rack k = none →
      exec (.orderBook fields) s = .next
        (State.answers { s with rack := { s.rack with
            orders := s.rack.orders ++
              [{ number := k.order, state := .booked, permit := k.permit, unit1 := k.unit1, unit2 := k.unit2, bay := k.bay
                 lastBay := none, priority := k.priority, remark := k.remark.take 64, counted := false, note := none, day := none
                 lines := bookedLines s.cond s.rack k }]
            accounts := s.rack.accounts.map (fun x => { x with reserved := x.reserved +
              ((k.lines.filter (fun l => decide (l.account = x.number))).map (fun l => l.preset)).sum })
            additives := Vector.ofFn (fun x : Fin 8 =>
              { s.rack.additive x with reserved := (s.rack.additive x).reserved + k.additiveNeed s.cond x })
            units := s.rack.units.map (fun u =>
              if u.number = k.unit1 ∨ k.unit2 = some u.number then { u with committed := some k.order } else u) } } "ORDER.BOOK"
          (.ok (.booked k.order k.lines.length
            ((k.lines.filter (fun l => decide (verdictOf s.cond s.rack k l = .lowOnly))).map (fun l => l.number))
            (decide (64 < k.remark.length)))))) ∧
    (bookRefusal s.cond s.rack k = none →
      (bookedLines s.cond s.rack k).length = k.lines.length ∧
      (∀ (i : Nat) (x : BookLine), k.lines[i]? = some x →
        ∃ recipe room, s.cond.recipe? x.recipe = some recipe ∧ s.rack.compartment? k.unit1 k.unit2 x.addr = some room ∧
          ∀ low, low = decide (s.cond.switchTable.verdict room.lastGroup recipe.group = .lowOnly) →
            (bookedLines s.cond s.rack k)[i]? = some
              { number := x.number, addr := x.addr, recipe := x.recipe, product := recipe.product, header := recipe.header
                group := recipe.group, hazard := recipe.hazard
                doses := recipe.doses.map (fun d =>
                  { additive := d.additive, dose := d.dose, slot := none, dispensed := 0, target := none, misses := 0
                    remaining := (d.dose * x.preset + 9) / 10 })
                account := x.account, preset := x.preset, lowOnly := low, state := .pending, arm := none, bank := none
                calCount := none, gross := 0, standard := 0, residue := 0, weight := 0, grossLitres := none
                standardLitres := none, average := none, stopCause := none
                flags := { tempClamped := false, probeHeld := false, doseLimited := false, underDose := false
                           permissiveLost := false, overPreset := false, lowOnly := low } }) ∧
      ∀ y : AdditiveId, k.additiveNeed s.cond y = ((bookedLines s.cond s.rack k).map (fun l =>
        ((l.doses.filter (fun d => decide (d.additive = y))).map (fun d => d.remaining)).sum)).sum) ∧
    (∀ why, bookRefusal s.cond s.rack k = some why →
      exec (.orderBook fields) s = .next (s.answers "ORDER.BOOK" (.refused why))) ∧
    (s.rack.order? k.order ≠ none →
      exec (.orderBook fields) s = .next (s.answers "ORDER.BOOK" (refusal .duplicate .nothing))) ∧
    (s.rack.order? k.order = none → 64 ≤ s.rack.orders.length →
      exec (.orderBook fields) s = .next (s.answers "ORDER.BOOK" (refusal .tableFull .nothing)))

/-- A booking passes its checks exactly when every condition of R78 to R81 holds (R54, R57, R61, R62, R74, R79 to R81). One that passes the
checks before a check and fails it is refused with that check's status, naming the first unit, line or additive at fault (R78). That check 15
also tests an additive that dose entries of 0 alone name is the model's choice (assumption 23). -/
def Obligations.BookingAcceptedExactlyWhen : Prop :=
  (∀ (c : Conditions) (r : Rack) (k : Booking),
    bookRefusal c r k = none ↔
      r.order? k.order = none ∧ r.orders.length < 64 ∧ (∃ p, r.permit? k.permit = some p ∧ p.suspended = false) ∧
      (∀ u ∈ k.unit1 :: k.unit2.toList, ∃ v, r.unit? u = some v ∧ c.day ≤ v.expiry ∧ v.committed = none) ∧
      k.unit2 ≠ some k.unit1 ∧ (k.lines.map (fun l => l.addr)).Nodup ∧
      (∀ l ∈ k.lines, ∃ room x a,
        r.compartment? k.unit1 k.unit2 l.addr = some room ∧ c.recipe? l.recipe = some x ∧
        100 ≤ l.preset ∧ l.preset ≤ 30000 ∧ l.preset ≤ room.capacity ∧
        c.switchTable.verdict room.lastGroup x.group ≠ .forbid ∧
        r.account? l.account = some a ∧ a.held = false ∧ a.group = x.group ∧
        (((k.lines.filter (fun m => decide (m.account = l.account))).map (fun m => m.preset)).sum : Int) ≤
          a.balance + a.overdraft - a.reserved) ∧
      ∀ x : AdditiveId, k.usesAdditive c x = true →
        (k.additiveNeed c x : Int) ≤ ((r.additive x).stock : Int) - (r.additive x).reserved) ∧
  ∀ (c : Conditions) (r : Rack) (k : Booking) (refused : Status → Named → Prop),
    (∀ status named, refused status named ↔ bookRefusal c r k = some { status := status, named := named }) →
    (r.order? k.order ≠ none → refused .duplicate .nothing) ∧
    (k.passesTo c r 1 → 64 ≤ r.orders.length → refused .tableFull .nothing) ∧
    (k.passesTo c r 2 → r.permit? k.permit = none → refused .notFound (.field (txt "permit"))) ∧
    (k.passesTo c r 3 → ∀ p, r.permit? k.permit = some p → p.suspended = true → refused .suspended .nothing) ∧
    (∀ u v,
      (k.passesTo c r 4 → firstFailing k.units (k.unitPasses c r 5) u → refused .notFound (.unit u)) ∧
      (k.passesTo c r 5 → firstFailing k.units (k.unitPasses c r 6) u → refused .expired (.unit u)) ∧
      (k.passesTo c r 6 → firstFailing k.units (k.unitPasses c r 7) u → ∀ o, r.unit? u = some v → v.committed = some o →
        refused .unitBusy (.unitOrder u o))) ∧
    (k.passesTo c r 7 → k.unit2 = some k.unit1 → refused .badField (.field (txt "unit2"))) ∧
    (∀ ls l ms, k.passesTo c r 7 → k.unit2 ≠ some k.unit1 → k.lines = ls ++ l :: ms →
      (∀ x ∈ ls, r.compartment? k.unit1 k.unit2 x.addr ≠ none) → (ls.map (fun x => x.addr)).Nodup →
      (r.compartment? k.unit1 k.unit2 l.addr = none ∨ l.addr ∈ ls.map (fun x => x.addr)) →
      refused .badField (.field (indexedKey "addr" l.number))) ∧
    (∀ l,
      (k.passesTo c r 8 → firstFailing k.lines (k.linePasses c r 9) l → refused .notFound (.field (indexedKey "recipe" l.number))) ∧
      (k.passesTo c r 9 → firstFailing k.lines (k.linePasses c r 10) l → refused .capacity (.line l.number)) ∧
      (k.passesTo c r 10 → firstFailing k.lines (k.linePasses c r 11) l → refused .switchForbidden (.line l.number)) ∧
      (k.passesTo c r 11 → firstFailing k.lines (k.linePasses c r 12) l →
        (r.account? l.account = none → refused .notFound (.lineAccount l.number l.account)) ∧
        (r.account? l.account ≠ none → refused .held (.lineAccount l.number l.account))) ∧
      (k.passesTo c r 12 → firstFailing k.lines (k.linePasses c r 13) l →
        refused .badField (.field (indexedKey "account" l.number))) ∧
      (k.passesTo c r 13 → firstFailing k.lines (k.linePasses c r 14) l → refused .noCover (.account l.account))) ∧
    ∀ x, k.passesTo c r 14 → firstFailing allAdditives (fun y => k.usesAdditive c y = true →
        (k.additiveNeed c y : Int) ≤ ((r.additive y).stock : Int) - (r.additive y).reserved) x →
      refused .noStock (.additive x)


/-- ORDER.GET, ORDER.AMEND and ORDER.RETIRE accepted: the table after each, and nothing else (R83, R90, R91, R99, R168). The answer of
ORDER.GET holds every field of the order, the bay at which an ADMITTED order is admitted, and every field of each line but the residue and the
weight: its final litres, or whole litres truncated while it is not final, its flags, and of each dose entry slot, dispensed, target, misses
and remaining reservation (R83, R155). The field order of ORDER.GET and ORDER.RETIRE, and the figure of the booking position, are the model's
choice (assumptions 9 and 24). -/
def Obligations.OrderRequestsComplete : Prop :=
  (∀ (s : State) (fields : List Text) (items : List Item) (o : Order),
    s.takes "ORDER.GET" fields → orderItems fields = .ok items → s.rack.order? (natAt items "order" 0) = some o →
    exec (.orderGet fields) s = .next (s.answers "ORDER.GET" (.ok (.order (orderView s.rack o))))) ∧
  (∀ (s : State) (fields : List Text) (items : List Item) (o : Order) (l : Line) (room : Compartment) (new : Nat),
    s.takes "ORDER.AMEND" fields → amendItems fields = .ok items → s.rack.order? (natAt items "order" 0) = some o →
    o.line? (natAt items "line" 0) = some l → new = natAt items "preset" 0 → (l.state = .pending ∨ l.state = .queued) →
    s.rack.compartment? o.unit1 o.unit2 l.addr = some room → 100 ≤ new → new ≤ 30000 → new ≤ room.capacity →
    (l.preset < new →
      (∃ x, s.rack.account? l.account = some x ∧ x.held = false ∧
        ((new - l.preset : Nat) : Int) ≤ x.balance + x.overdraft - x.reserved) ∧
      ∀ d ∈ l.doses, ((doseNeed d.dose new - doseNeed d.dose l.preset : Nat) : Int) ≤
        ((s.rack.additive d.additive).stock : Int) - (s.rack.additive d.additive).reserved) →
    ∃ t, exec (.orderAmend fields) s = .next t ∧
      t = { (s.answers "ORDER.AMEND" (.ok (.amended l.preset new))) with
        rack := { s.rack with orders := t.rack.orders, accounts := t.rack.accounts, additives := t.rack.additives } } ∧
      t.rack.line? o.number l.number = some { l with
        preset := new, doses := l.doses.map (fun d => { d with remaining := doseNeed d.dose new }) } ∧
      (∀ n m, ¬(n = o.number ∧ m = l.number) → t.rack.line? n m = s.rack.line? n m) ∧
      t.rack.accounts = s.rack.accounts.map (fun x =>
        if x.number = l.account then { x with reserved := x.reserved + new - l.preset } else x) ∧
      (∀ x, (∀ d ∈ l.doses, d.additive ≠ x) → t.rack.additive x = s.rack.additive x) ∧
      ((l.doses.map (fun d => d.additive)).Nodup → ∀ d ∈ l.doses,
        t.rack.additive d.additive = { s.rack.additive d.additive with
          reserved := (s.rack.additive d.additive).reserved + doseNeed d.dose new - d.remaining })) ∧
  (∀ (s : State) (fields : List Text) (items : List Item) (o : Order),
    s.takes "ORDER.RETIRE" fields → orderItems fields = .ok items → s.rack.order? (natAt items "order" 0) = some o →
    (o.state = .complete ∨ o.state = .void) →
    exec (.orderRetire fields) s = .next
      (State.answers { s with rack := { s.rack with
          orders := s.rack.orders.filter (fun x => decide (x.number ≠ o.number))
          notes := s.rack.notes.filter (fun n => decide (n ≠ o.number)) } } "ORDER.RETIRE" (.ok (.retired o.state)))) ∧
  ∀ (r : Rack) (o : Order) (v : OrderView), v = orderView r o →
    v = { number := o.number, position := v.position, state := o.state, permit := o.permit, unit1 := o.unit1, unit2 := o.unit2
          bay := o.bay, admittedBay := v.admittedBay, lastBay := o.lastBay, priority := o.priority, remark := o.remark
          counted := o.counted, note := o.note, day := o.day, lines := v.lines } ∧
    (o.state = .admitted → v.admittedBay = o.lastBay) ∧ (o.state ≠ .admitted → v.admittedBay = none) ∧
    (∀ xs ys, r.orders = xs ++ o :: ys → (∀ x ∈ xs, x.number ≠ o.number) → v.position = xs.length + 1) ∧
    v.lines.length = o.lines.length ∧
    ∀ (i : Nat) (l : Line), o.lines[i]? = some l → ∃ x, v.lines[i]? = some x ∧
      x = { number := l.number, addr := l.addr, recipe := l.recipe, product := l.product, header := l.header, group := l.group
            hazard := l.hazard, doses := l.doses, account := l.account, preset := l.preset, lowOnly := l.lowOnly
            state := l.state, arm := l.arm, bank := l.bank, calCount := l.calCount, grossLitres := x.grossLitres
            standardLitres := x.standardLitres, average := l.average, flags := l.flags, stopCause := l.stopCause } ∧
      (∀ litres, l.grossLitres = some litres → x.grossLitres = litres) ∧
      (l.grossLitres = none → x.grossLitres = l.gross / 1000000) ∧
      (∀ litres, l.standardLitres = some litres → x.standardLitres = litres) ∧
      (l.standardLitres = none → x.standardLitres = l.standard / 1000000)

/-- ORDER.CANCEL and the suspension of an admitted permit, with the lines of the order in any states (R45, R46, R92, R93, R116): final
lines stay; QUEUED lines, and for a cancel PENDING ones, become CANCELLED and SUSPENDED lines STOPPED at once, leaving their arms' queues;
an ACTIVE line stays ACTIVE, its arm in a close with intent STOP or, in a close that is no suspension, as it was. The order completes
when no line is left (R95, R97), and the suspension answers the bay as it stands then (R182). That PERMIT.SUSPEND carries the permit's number
in a field permit is the model's choice (assumption 9). -/
def Obligations.LinesAreStopped : Prop :=
  (∀ (s : State) (fields : List Text) (items : List Item) (o : Order),
    s.takes "ORDER.CANCEL" fields → orderItems fields = .ok items → s.rack.order? (natAt items "order" 0) = some o →
    (o.state = .booked ∨ o.state = .admitted) → o.standsAtArms s.rack → (∃ l ∈ o.lines, l.state.isFinal = false) →
    ∃ t o', exec (.orderCancel fields) s = .next t ∧ t.cond = s.cond ∧
      t.link = s.link.toHunt.respond (txt "ORDER.CANCEL") (.ok (.cancelled
        (o.lines.filter (fun l => !l.state.isFinal && decide (l.state ≠ .active))).length
        (o.lines.filter (fun l => decide (l.state = .active))).length (o.lines.filter (fun l => l.state.isFinal)).length)) ∧
      t.rack.order? o.number = some o' ∧
      (∀ l ∈ o.lines, s.rack.lineStopped t.rack o .cancel true l) ∧
      ((∀ l ∈ o.lines, l.state ≠ .active) → (o'.state = .complete ∨ o'.state = .void) ∧ o'.day = some s.cond.day) ∧
      ((∃ l ∈ o.lines, l.state = .active) → o'.state = o.state) ∧
      (∀ n, n ≠ o.number → t.rack.order? n = s.rack.order? n) ∧ t.rack.channels = s.rack.channels) ∧
  ∀ (s : State) (fields : List Text) (items : List Item) (p : Permit) (b : BayId) (x : Admission) (o : Order),
    s.takes "PERMIT.SUSPEND" fields → permitItems fields = .ok items → s.rack.permit? (natAt items "permit" 0) = some p →
    p.suspended = false → p.admittedBay = some b → (s.rack.bay b).admitted = some x → s.rack.order? x.order = some o →
    o.state = .admitted → o.standsAtArms s.rack → (∃ l ∈ o.lines, l.state.isFinal = false) →
    ∃ t o', exec (.permitSuspend fields) s = .next t ∧ t.cond = s.cond ∧
      t.link = s.link.toHunt.respond (txt "PERMIT.SUSPEND")
        (.ok (.permitSuspended true ((t.rack.permit? p.number).bind (fun q => q.admittedBay)))) ∧
      (t.rack.permit? p.number).map (fun q => q.suspended) = some true ∧ t.rack.order? o.number = some o' ∧
      (∀ l ∈ o.lines, s.rack.lineStopped t.rack o .permit false l) ∧
      ((∀ l ∈ o.lines, l.state ≠ .active ∧ l.state ≠ .pending) →
        (o'.state = .complete ∨ o'.state = .void) ∧
          (o.permit = p.number → o.lastBay ≠ none → (t.rack.permit? p.number).bind (fun q => q.admittedBay) = none)) ∧
      ((∃ l ∈ o.lines, l.state = .active) →
        o'.state = .admitted ∧ (t.rack.permit? p.number).bind (fun q => q.admittedBay) = some b) ∧
      (∀ n, n ≠ o.number → t.rack.order? n = s.rack.order? n) ∧ t.rack.channels = s.rack.channels

/-- NOTE.NEXT and NOTE.READ: the note of the head, of the entry behind the one named, or of a COMPLETE order, with nothing changed (R168 to
R170). The note (R172 to R176): the order's figures in its header, its remark filling the width, an entry for each of its lines in their
order with the line's own figures, the compartment its address names (R55), the gross and standard totals as the sums of the lines shown, and
for each additive that a dose entry names, in rising order, the sum of what was dispensed. -/
def Obligations.NoteRequestsComplete : Prop :=
  (∀ (s : State) (n : Nat) (rest : List Nat) (o : Order),
    s.takes "NOTE.NEXT" [] → s.rack.notes = n :: rest → s.rack.order? n = some o →
    exec (.noteNext []) s = .next (s.answers "NOTE.NEXT"
      (.ok (.note (noteOf s.cond.noteWidth o) 1 (rest.length + 1) (some s.rack.noteCounter))))) ∧
  (∀ s : State, s.takes "NOTE.NEXT" [] → s.rack.notes = [] →
    exec (.noteNext []) s = .next (s.answers "NOTE.NEXT" (refusal .notFound .nothing))) ∧
  (∀ (s : State) (fields : List Text) (items : List Item) (m n : Nat) (xs ys : List Nat) (o : Order),
    s.takes "NOTE.NEXT" fields → noteNextItems fields = .ok items → natAt? items "after" 0 = some m →
    s.rack.notes = xs ++ m :: n :: ys → m ∉ xs → n ∉ xs ++ [m] → s.rack.order? n = some o →
    exec (.noteNext fields) s = .next (s.answers "NOTE.NEXT"
      (.ok (.note (noteOf s.cond.noteWidth o) (xs.length + 2) (xs.length + ys.length + 2) (some s.rack.noteCounter))))) ∧
  (∀ (s : State) (fields : List Text) (items : List Item) (o : Order),
    s.takes "NOTE.READ" fields → orderItems fields = .ok items → s.rack.order? (natAt items "order" 0) = some o →
    o.state = .complete → o.number ∈ s.rack.notes →
    exec (.noteRead fields) s = .next (s.answers "NOTE.READ"
      (.ok (.note (noteOf s.cond.noteWidth o) (s.rack.notes.idxOf o.number + 1) s.rack.notes.length none)))) ∧
  ∀ (w : Nat) (o : Order) (n : Note), n = noteOf w o →
    (∀ number, o.note = some number → n.note = number) ∧ (∀ day, o.day = some day → n.day = day) ∧ n.order = o.number ∧
    n.permit = o.permit ∧ n.unit1 = o.unit1 ∧ n.unit2 = o.unit2 ∧ n.bay = o.lastBay ∧
    n.remark.length = w ∧ n.remark = (o.remark ++ List.replicate (w - o.remark.length) ' ').take w ∧
    n.lines.length = o.lines.length ∧
    (∀ (i : Nat) (l : Line), o.lines[i]? = some l → ∃ x, n.lines[i]? = some x ∧
      x = { number := l.number, addr := l.addr, unit := x.unit, compartment := x.compartment, recipe := l.recipe
            product := l.product, preset := l.preset, gross := x.gross, standard := x.standard, average := l.average
            state := l.state, flags := l.flags, stopCause := l.stopCause, bank := l.bank, calCount := l.calCount
            additives := x.additives } ∧
      (1 ≤ l.addr → l.addr ≤ 6 → x.unit = o.unit1 ∧ x.compartment = l.addr) ∧
      (∀ u, 7 ≤ l.addr → l.addr ≤ 12 → o.unit2 = some u → x.unit = u ∧ x.compartment = l.addr - 6) ∧
      (∀ litres, l.grossLitres = some litres → x.gross = litres) ∧
      (∀ litres, l.standardLitres = some litres → x.standard = litres) ∧ x.additives.length = l.doses.length ∧
      ∀ (j : Nat) (d : DoseRecord) (target : Nat), l.doses[j]? = some d → d.target = some target →
        x.additives[j]? = some (d.additive, d.dispensed, target)) ∧
    n.grossTotal = (n.lines.map (fun x => x.gross)).sum ∧ n.standardTotal = (n.lines.map (fun x => x.standard)).sum ∧
    (n.additiveTotals.map (fun x => x.1)).Pairwise (fun x y => x < y) ∧
    (∀ x, x ∈ n.additiveTotals.map (fun y => y.1) ↔ ∃ l ∈ o.lines, ∃ d ∈ l.doses, d.additive = x) ∧
    ∀ x v, (x, v) ∈ n.additiveTotals →
      v = ((o.lines.flatMap (fun l => l.doses.filter (fun d => decide (d.additive = x)))).map (fun d => d.dispensed)).sum

/-- The order and note requests refused, each with its status word and nothing changed: a field at fault (R181), an order, a line or an entry
that is not there, and a state that does not admit the request (R83, R92, R99, R169, R170); the checks of an amendment in their order, the last
three of a rise alone (R90). Which of several fields at fault is named, and that ORDER.GET and ORDER.RETIRE spell theirs order, is the model's
choice (assumptions 8 and 9). -/
def Obligations.OrderAndNoteRequestsAreRefused : Prop :=
  ∀ (s : State) (fields : List Text) (items : List Item) (key : Text),
    (∀ name i, (name, i) ∈ [("ORDER.GET", Instr.orderGet fields), ("ORDER.CANCEL", .orderCancel fields),
        ("ORDER.RETIRE", .orderRetire fields), ("NOTE.READ", .noteRead fields)] → s.takes name fields →
      (orderItems fields = .error key → s.refuses i name .badField (.field key)) ∧
      (orderItems fields = .ok items → s.rack.order? (natAt items "order" 0) = none → s.refuses i name .notFound .nothing)) ∧
    (∀ o, orderItems fields = .ok items → s.rack.order? (natAt items "order" 0) = some o →
      (s.takes "ORDER.CANCEL" fields → o.state = .complete ∨ o.state = .void →
        s.refuses (.orderCancel fields) "ORDER.CANCEL" .wrongState .nothing) ∧
      (s.takes "ORDER.RETIRE" fields → o.state = .booked ∨ o.state = .admitted →
        s.refuses (.orderRetire fields) "ORDER.RETIRE" .wrongState .nothing) ∧
      (s.takes "NOTE.READ" fields → o.state ≠ .complete →
        s.refuses (.noteRead fields) "NOTE.READ" .wrongState (.orderState o.state))) ∧
    (s.takes "ORDER.BOOK" fields → bookItems fields = .error key →
      s.refuses (.orderBook fields) "ORDER.BOOK" .badField (.field key)) ∧
    (s.takes "ORDER.AMEND" fields →
      (amendItems fields = .error key → s.refuses (.orderAmend fields) "ORDER.AMEND" .badField (.field key)) ∧
      (amendItems fields = .ok items → s.rack.order? (natAt items "order" 0) = none →
        s.refuses (.orderAmend fields) "ORDER.AMEND" .notFound (.field (txt "order"))) ∧
      ∀ o new, amendItems fields = .ok items → s.rack.order? (natAt items "order" 0) = some o → new = natAt items "preset" 0 →
        (o.line? (natAt items "line" 0) = none →
          s.refuses (.orderAmend fields) "ORDER.AMEND" .notFound (.field (txt "line"))) ∧
        ∀ l, o.line? (natAt items "line" 0) = some l →
          (l.state ≠ .pending → l.state ≠ .queued → s.refuses (.orderAmend fields) "ORDER.AMEND" .wrongState .nothing) ∧
          (l.state = .pending ∨ l.state = .queued →
            (new < 100 ∨ 30000 < new ∨ (∀ room, s.rack.compartment? o.unit1 o.unit2 l.addr = some room → room.capacity < new) →
              s.refuses (.orderAmend fields) "ORDER.AMEND" .capacity .nothing) ∧
            ∀ room x, s.rack.compartment? o.unit1 o.unit2 l.addr = some room → 100 ≤ new → new ≤ 30000 → new ≤ room.capacity →
              l.preset < new → s.rack.account? l.account = some x →
              (x.held = true → s.refuses (.orderAmend fields) "ORDER.AMEND" .held .nothing) ∧
              (x.held = false → x.balance + x.overdraft - x.reserved < ((new - l.preset : Nat) : Int) →
                s.refuses (.orderAmend fields) "ORDER.AMEND" .noCover .nothing) ∧
              ∀ (before behind : List DoseRecord) (d : DoseRecord), x.held = false →
                ((new - l.preset : Nat) : Int) ≤ x.balance + x.overdraft - x.reserved → l.doses = before ++ d :: behind →
                (∀ y ∈ before, ((doseNeed y.dose new - doseNeed y.dose l.preset : Nat) : Int) ≤
                  ((s.rack.additive y.additive).stock : Int) - (s.rack.additive y.additive).reserved) →
                ((s.rack.additive d.additive).stock : Int) - (s.rack.additive d.additive).reserved <
                  ((doseNeed d.dose new - doseNeed d.dose l.preset : Nat) : Int) →
                s.refuses (.orderAmend fields) "ORDER.AMEND" .noStock (.additive d.additive))) ∧
    (s.takes "NOTE.NEXT" fields →
      (noteNextItems fields = .error key → s.refuses (.noteNext fields) "NOTE.NEXT" .badField (.field key)) ∧
      ∀ m, noteNextItems fields = .ok items → natAt? items "after" 0 = some m →
        (m ∉ s.rack.notes → s.refuses (.noteNext fields) "NOTE.NEXT" .notFound (.field (txt "after"))) ∧
        ∀ before, s.rack.notes = before ++ [m] → m ∉ before → s.refuses (.noteNext fields) "NOTE.NEXT" .notFound .nothing)

/-- A note number lies from 1 to 999,999 and is the first behind the counter, 1 behind 999,999, that no order in the table holds (R167).
The settle that makes an order's last line final completes the order: COMPLETE with the next free number, at the tail of the waiting notes,
when some line delivered 1 L or more standard as rounded, and VOID otherwise; the day is recorded, the units' committed order and the bay
with its permit are cleared, and no other order changes (R95, R96, R97, R167, R168). -/
def Obligations.CompletionEndsOrder : Prop :=
  (∀ (taken : List Nat) (fuel n : Nat),
    taken.length ≤ fuel → fuel < 999999 → n ≤ 999999 →
    freeNote taken fuel n ∉ taken ∧ 1 ≤ freeNote taken fuel n ∧ freeNote taken fuel n ≤ 999999 ∧
    ∀ next : Nat → Nat, (∀ m, next m = if m = 999999 then 1 else m + 1) →
      ∃ i, freeNote taken fuel n = next^[i + 1] n ∧ ∀ j, j < i → next^[j + 1] n ∈ taken) ∧
  ∀ (a : ArmId) (s : State) (k : ArmConfig) (x : Stamp) (e : QueueEntry) (l : Line) (o : Order) (n : Nat),
    (s.rack.arm a).config = some k → (s.rack.arm a).settleTimer = some x → k.settle * 1000 ≤ s.cond.age x →
    (s.rack.arm a).state = .closing →
    ((s.rack.arm a).intent = some .finish ∨ (s.rack.arm a).intent = some .stop ∨ (s.rack.arm a).intent = some .interrupt ∨
      (s.rack.arm a).intent = some .suspend ∧ (s.rack.arm a).restartPending = true) →
    (∀ m, (s.rack.injector a m).phase = .none) → (s.rack.arm a).current = some e → s.rack.order? e.order = some o →
    o.line? e.line = some l → (s.rack.orders.map (fun q => q.number)).Nodup → (o.lines.map (fun m => m.number)).Nodup →
    (o.state = .booked ∨ o.state = .admitted) → (∀ m ∈ o.lines, m.number ≠ e.line → m.state.isFinal = true) →
    n = freeNote (s.rack.orders.filterMap (fun q => q.note)) s.rack.orders.length s.rack.noteCounter →
    ∃ t o', exec (.settleTimerExpiry a) s = .next t ∧ t.cond = s.cond ∧ t.rack.order? e.order = some o' ∧
      (∀ m ∈ o'.lines, m.state.isFinal = true) ∧ o'.day = some s.cond.day ∧
      ((1 ≤ (l.standard + 500000) / 1000000 ∨ ∃ m ∈ o.lines, m.number ≠ e.line ∧ 1 ≤ m.standardLitres.getD 0) →
        o'.state = .complete ∧ o'.note = some n ∧ t.rack.noteCounter = n ∧ t.rack.notes = s.rack.notes ++ [e.order]) ∧
      ((l.standard + 500000) / 1000000 = 0 → (∀ m ∈ o.lines, m.number ≠ e.line → m.standardLitres.getD 0 = 0) →
        o'.state = .void ∧ o'.note = o.note ∧ t.rack.noteCounter = s.rack.noteCounter ∧ t.rack.notes = s.rack.notes) ∧
      (∀ u, (t.rack.unit? u).map (fun v => v.committed) =
        (s.rack.unit? u).map (fun v => if o.unit1 = u ∨ o.unit2 = some u then none else v.committed)) ∧
      (∀ b, o.state = .admitted → o.lastBay = some b → t.rack.bay b = { admitted := none, reason := none } ∧
        ∀ p, s.rack.permit? o.permit = some p → t.rack.permit? o.permit = some { p with admittedBay := none }) ∧
      ∀ m, m ≠ e.order → t.rack.order? m = s.rack.order? m

/-! ### Arms and panels (chapters 5, 6, 7, 11) -/

/-- ARM.PUT, ARM.SERVICE, ARM.CLEAR and ARM.GET accepted: what each sets and answers (R22, R101, R122, R123, R124). The answer of ARM.GET holds
the arm with its valve command, its queue in order of joining with the head marked, fill and free level, the quantities of its meter (the
probe's age in whole seconds, the totalisers in whole litres), of each slot the channel, and while its line is ACTIVE or SUSPENDED the marks and
the standard volume truncated to 0.1 L, intent, stop cause, causes with the primary one first, grant and place in the waiting list (R24, R104,
R124, R155). And refused, with nothing
changed: a field at fault, a slot whose maximum time is not above its minimum, an additive in two slots, an arm that does not stand in the
state asked for, has no configuration or no K-factor (R36, R101, R122, R123). That the direction of ARM.SERVICE is carried by a field dir with
the words IN and OUT, which of several fields at fault is named, and that of several slots at fault the lowest-numbered is named, is the
model's choice (assumptions 8 and 9). -/
def Obligations.ArmRequestsComplete : Prop :=
  (∀ (s : State) (fields : List Text) (items : List Item) (k : ArmConfig) (a : ArmId),
    s.takes "ARM.PUT" fields → armPutItems fields = .ok items → k = armConfigOf items → a = armOf items →
    (∀ (n : SlotId) (x : SlotConfig), k.slots[n] = some x → x.fbMin < x.fbMax) →
    (∀ (n m : SlotId) (x y : SlotConfig), n ≠ m → k.slots[n] = some x → k.slots[m] = some y → x.additive ≠ y.additive) →
    ((s.rack.arm a).state = .idle ∨ (s.rack.arm a).state = .outOfService) →
    exec (.armPut fields) s = .next
      (State.answers
        { s with
          rack := (s.rack.modArm a (fun x => { x with config := some k, allowance := some k.allow })).modInjectors a
            (fun i => { i with owed := 0, misses := 0 }) }
        "ARM.PUT" (.ok (.action (s.rack.arm a).config.isNone)))) ∧
  (∀ (fields : List Text) (items : List Item) (k : ArmConfig),
    armPutItems fields = .ok items → k = armConfigOf items →
    natAt? items "arm" 0 = some ((armOf items).val + 1) ∧ natAt? items "header" 0 = some (k.header.val + 1) ∧
    natAt? items "lowstart" 0 = some k.lowStart ∧ natAt? items "taper" 0 = some k.taper ∧ natAt? items "allow" 0 = some k.allow ∧
    natAt? items "noflow" 0 = some k.noFlow ∧ natAt? items "settle" 0 = some k.settle ∧
    wordAt items "mode" = (match k.mode with
      | .fifo => txt "FIFO"
      | .sequence => txt "SEQUENCE") ∧
    ∀ n : SlotId,
      (k.slots[n] = none → itemValue items "add" (n.val + 1) = some .clean) ∧
      ∀ x, k.slots[n] = some x →
        natAt? items "add" (n.val + 1) = some (x.additive.val + 1) ∧ natAt? items "stroke" (n.val + 1) = some x.stroke ∧
        natAt? items "fbmin" (n.val + 1) = some x.fbMin ∧ natAt? items "fbmax" (n.val + 1) = some x.fbMax ∧
        natAt? items "misses" (n.val + 1) = some x.missLimit) ∧
  (∀ (s : State) (fields : List Text) (items : List Item) (a : ArmId) (new : ArmState),
    s.takes "ARM.SERVICE" fields → serviceItems fields = .ok items → a = armOf items → wordAt items "dir" = txt "IN" →
    (s.rack.arm a).state = .outOfService → (s.rack.arm a).config ≠ none →
    (s.cond.cal.bank s.cond.cal.active).kFactor a ≠ 0 →
    new = (if 20 ≤ (s.rack.channel a).unassigned then .alarm else .idle) →
    ∃ t, exec (.armService fields) s = .next t ∧
      t = { (s.answers "ARM.SERVICE" (.ok (.inService new))) with
        rack := { s.rack with arms := t.rack.arms, panels := t.rack.panels } } ∧
      t.rack.arm a = { s.rack.arm a with
        state := new, returnState := if new = .alarm then some .idle else (s.rack.arm a).returnState
        current := none, repeatTimer := none, reason := none } ∧
      ∀ b, b ≠ a → t.rack.arm b = s.rack.arm b) ∧
  (∀ (s : State) (fields : List Text) (items : List Item) (a : ArmId),
    s.takes "ARM.SERVICE" fields → serviceItems fields = .ok items → a = armOf items → wordAt items "dir" = txt "OUT" →
    ((s.rack.arm a).state = .idle →
      ∃ t, exec (.armService fields) s = .next t ∧
        t = { (s.answers "ARM.SERVICE" (.ok (.changed true))) with
          rack := { s.rack with arms := t.rack.arms, panels := t.rack.panels } } ∧
        t.rack.arm a = { s.rack.arm a with state := .outOfService, repeatTimer := none, reason := none } ∧
        ∀ b, b ≠ a → t.rack.arm b = s.rack.arm b) ∧
    ((s.rack.arm a).state = .alarm →
      exec (.armService fields) s = .next (State.answers
        { s with rack := s.rack.modArm a (fun x => { x with returnState := some .outOfService }) }
        "ARM.SERVICE" (.ok (.changed true)))) ∧
    ((s.rack.arm a).state = .outOfService →
      exec (.armService fields) s = .next (s.answers "ARM.SERVICE" (.ok (.changed false)))) ∧
    ((s.rack.arm a).state.isLineBearing = true ∨ (s.rack.arm a).state = .ready →
      exec (.armService fields) s = .next (s.answers "ARM.SERVICE" (refusal .wrongState .nothing)))) ∧
  (∀ (s : State) (fields : List Text) (items : List Item) (a : ArmId) (new : ArmState),
    s.takes "ARM.CLEAR" fields → armItems fields = .ok items → a = armOf items →
    ((s.rack.arm a).state = .idle ∧ new = .idle ∨ (s.rack.arm a).state = .outOfService ∧ new = .outOfService ∨
      (s.rack.arm a).state = .alarm ∧ (s.rack.arm a).returnState = some .idle ∧ new = .idle ∨
      (s.rack.arm a).state = .alarm ∧ (s.rack.arm a).returnState = some .outOfService ∧ new = .outOfService) →
    ∃ t, exec (.armClear fields) s = .next t ∧
      t = { (s.answers "ARM.CLEAR" (.ok (.cleared (s.rack.channel a).unassigned new))) with
        rack := { s.rack with arms := t.rack.arms, channels := t.rack.channels, panels := t.rack.panels } } ∧
      ((s.rack.arm a).state ≠ .alarm → t.rack.arm a = s.rack.arm a) ∧
      ((s.rack.arm a).state = .alarm →
        t.rack.arm a = { s.rack.arm a with state := new, returnState := none, reason := none, repeatTimer := none }) ∧
      t.rack.channel a = { s.rack.channel a with unassigned := 0 } ∧
      ∀ b, b ≠ a → t.rack.arm b = s.rack.arm b ∧ t.rack.channel b = s.rack.channel b) ∧
  (∀ (s : State) (fields : List Text) (items : List Item),
    s.takes "ARM.GET" fields → armItems fields = .ok items →
    exec (.armGet fields) s = .next (s.answers "ARM.GET" (.ok (.arm (armView s.cond s.rack (armOf items)))))) ∧
  (∀ (c : Conditions) (r : Rack) (a : ArmId) (x : Arm) (y : Channel) (v : ArmView),
    x = r.arm a → y = r.channel a → v = armView c r a →
    v = { arm := a, state := x.state, returnState := x.returnState, valve := v.valve, config := x.config
          allowance := x.allowance, queue := v.queue, fill := x.queue.length, free := 8 - x.queue.length, run := v.run
          rate := y.rate, factor := y.factor, temperature := y.temperature.map (fun h => (h.value, c.age h.arrived / 1000))
          probeFault := y.probeFault, grossTotal := y.grossTotal / 1000000, standardTotal := y.standardTotal / 1000000
          unassigned := y.unassigned, injectors := v.injectors } ∧
    v.valve = (if x.state = .high then .high
      else if x.state = .lowStart ∨ x.state = .waitGrant ∨ x.state = .lowRun then .low else .closed) ∧
    v.queue.length = x.queue.length ∧
    (∀ (i : Nat) (e : QueueEntry), x.queue[i]? = some e →
      v.queue[i]? = some
        { order := e.order, line := e.line, addr := e.addr, lineState := (r.line? e.order e.line).map (fun l => l.state)
          isHead := decide (x.current = some e) }) ∧
    (∀ n : SlotId, v.injectors[n] =
      { owed := (r.injector a n).owed, phase := (r.injector a n).phase, solenoidOpen := decide ((r.injector a n).phase ≠ .none)
        feedback := (r.injector a n).feedback, misses := (r.injector a n).misses }) ∧
    ((∀ l, r.currentLine a = some l → l.state ≠ .active ∧ l.state ≠ .suspended) → v.run = none) ∧
    ∀ (l : Line) (k : ArmConfig), r.currentLine a = some l → (l.state = .active ∨ l.state = .suspended) → x.config = some k →
      v.run = some
        { startMark := x.startMark.map (fun m => m / 100000)
          taperPoint := ((l.preset : Int) * 1000000 - (k.taper : Int) * 100000).tdiv 100000
          closePoint := ((l.preset : Int) * 1000000 - ((x.allowance.getD 0 : Nat) : Int) * 100000).tdiv 100000
          standard := l.standard / 100000, intent := x.intent, pendingStop := x.pendingStop
          restartPending := x.restartPending, causes := x.causes, holdsGrant := decide (a ∈ (r.header k.header).held)
          waiting := decide (∃ w ∈ (r.header k.header).waiting, w.arm = a) }) ∧
  ∀ (s : State) (fields : List Text) (items : List Item) (key : Text),
    (∀ name i checked, (name, i, checked) ∈ [("ARM.PUT", Instr.armPut fields, armPutItems fields),
        ("ARM.SERVICE", .armService fields, serviceItems fields), ("ARM.CLEAR", .armClear fields, armItems fields),
        ("ARM.GET", .armGet fields, armItems fields)] →
      s.takes name fields → checked = .error key → s.refuses i name .badField (.field key)) ∧
    (∀ k : ArmConfig, s.takes "ARM.PUT" fields → armPutItems fields = .ok items → k = armConfigOf items →
      (∀ (n : SlotId) (x : SlotConfig), k.slots[n] = some x → x.fbMax ≤ x.fbMin →
        (∀ (m : SlotId) (y : SlotConfig), m < n → k.slots[m] = some y → y.fbMin < y.fbMax) →
        s.refuses (.armPut fields) "ARM.PUT" .badField (.field (indexedKey "fbmax" (n.val + 1)))) ∧
      ((∀ (n : SlotId) (x : SlotConfig), k.slots[n] = some x → x.fbMin < x.fbMax) →
        (∀ (n m : SlotId) (x y : SlotConfig), m < n → k.slots[n] = some x → k.slots[m] = some y → x.additive = y.additive →
          (∀ (p q : SlotId) (v w : SlotConfig), q < p → p < n → k.slots[p] = some v → k.slots[q] = some w →
            v.additive ≠ w.additive) →
          s.refuses (.armPut fields) "ARM.PUT" .badField (.field (indexedKey "add" (n.val + 1)))) ∧
        ((∀ (n m : SlotId) (x y : SlotConfig), n ≠ m → k.slots[n] = some x → k.slots[m] = some y → x.additive ≠ y.additive) →
          (s.rack.arm (armOf items)).state ≠ .idle → (s.rack.arm (armOf items)).state ≠ .outOfService →
          s.refuses (.armPut fields) "ARM.PUT" .wrongState .nothing))) ∧
    (s.takes "ARM.SERVICE" fields → serviceItems fields = .ok items → wordAt items "dir" = txt "IN" →
      ((s.rack.arm (armOf items)).state ≠ .outOfService → s.refuses (.armService fields) "ARM.SERVICE" .wrongState .nothing) ∧
      ((s.rack.arm (armOf items)).state = .outOfService → (s.rack.arm (armOf items)).config = none →
        s.refuses (.armService fields) "ARM.SERVICE" .notConfigured .nothing) ∧
      ((s.rack.arm (armOf items)).state = .outOfService → (s.rack.arm (armOf items)).config ≠ none →
        (s.cond.cal.bank s.cond.cal.active).kFactor (armOf items) = 0 →
        s.refuses (.armService fields) "ARM.SERVICE" .notCalibrated .nothing)) ∧
    (s.takes "ARM.CLEAR" fields → armItems fields = .ok items →
      (s.rack.arm (armOf items)).state = .ready ∨ (s.rack.arm (armOf items)).state.isLineBearing = true →
      s.refuses (.armClear fields) "ARM.CLEAR" .wrongState .nothing)

/-- A card at a FREE bay finds the earliest BOOKED order of its permit for this bay or ANY (R85), and where that order passes the seven checks
of R86 and its lines get their arms by R87 admits it: its lines are QUEUED at their
arms, which are READY, and bay, order and permit record the admission (R88). Each PENDING line in turn goes to an arm that fits it with fewer
entries than any other arm of the bay that does, counting the lines given before it, the lower-numbered on equal counts, and with fewer than
eight (R87); its dose results take the slots of that arm that carry their additives, and its entry joins the tail of the queue (R88, R102).
Where an arm fits every PENDING line and the queues have room for all of them, every line gets its arm. -/
def Obligations.CardAdmitsOrder : Prop :=
  (∀ (b : BayId) (permit : Nat) (s : State) (p : Permit) (o : Order) (xs : List (Nat × ArmId)),
    1 ≤ permit → permit ≤ 99999999 → (s.rack.bay b).admitted = none → s.rack.earliestFor b permit o →
    s.rack.permit? permit = some p → p.suspended = false → s.cond.day ≤ p.expiry → p.admittedBay = none →
    (o.counted = true ∨ p.loadsToday < p.dailyLimit) →
    (∀ l ∈ o.lines, l.state = .pending → l.hazard ≤ p.level ∧ p.endorsements[l.group] = true) →
    (∀ u, o.unit1 = u ∨ o.unit2 = some u → ∃ v, s.rack.unit? u = some v ∧ s.cond.day ≤ v.expiry) →
    s.rack.assigns b (o.lines.filter (fun l => decide (l.state = .pending))) xs →
    s.rack.order? o.number = some o → (o.lines.map (fun l => l.number)).Nodup →
    ∃ t o', exec (.card b permit) s = .next t ∧ t.cond = s.cond ∧ t.link = s.link ∧
      t.rack.bay b = { admitted := some { permit := permit, order := o.number }, reason := none } ∧
      (∀ c, c ≠ b → t.rack.bay c = s.rack.bay c) ∧
      t.rack.permit? permit = some { p with
        admittedBay := some b, loadsToday := if o.counted = true then p.loadsToday else min 255 (p.loadsToday + 1) } ∧
      t.rack.order? o.number = some o' ∧
      o' = { o with state := .admitted, lastBay := some b, counted := true, lines := o'.lines } ∧
      (∀ n a, (n, a) ∈ xs → bayOf a = b ∧ (t.rack.arm a).state = .ready ∧
        ∃ e, (t.rack.arm a).current = some e ∧ e ∈ (t.rack.arm a).queue ∧ (t.rack.arm a).head = some e) ∧
      (∀ (i n : Nat) (a : ArmId) (l : Line), xs[i]? = some (n, a) →
        (o.lines.filter (fun l => decide (l.state = .pending)))[i]? = some l →
        ∃ l', o'.line? n = some l' ∧ l' = { l with state := .queued, arm := some a, doses := l'.doses } ∧
          l'.doses.length = l.doses.length ∧
          ∀ (j : Nat) (d : DoseRecord), l.doses[j]? = some d →
            ∃ m y, l'.doses[j]? = some { d with slot := some m } ∧ s.rack.slotConfig a m = some y ∧ y.additive = d.additive) ∧
      (∀ l ∈ o.lines, l.state ≠ .pending → o'.line? l.number = some l) ∧
      (∀ a, (t.rack.arm a).queue.map (fun e => (e.order, e.line)) =
        (s.rack.arm a).queue.map (fun e => (e.order, e.line)) ++
          (xs.filter (fun x => decide (x.2 = a))).map (fun x => (o.number, x.1))) ∧
      (∀ n, n ≠ o.number → t.rack.order? n = s.rack.order? n) ∧
      t.rack.accounts = s.rack.accounts ∧ t.rack.units = s.rack.units ∧ t.rack.additives = s.rack.additives ∧
      t.rack.channels = s.rack.channels ∧ t.rack.headers = s.rack.headers ∧ t.rack.notes = s.rack.notes) ∧
  ∀ (b : BayId) (r : Rack) (ls : List Line),
    (∀ l ∈ ls, ∃ a, bayOf a = b ∧ r.armFits a l) → (∀ a, bayOf a = b → (r.arm a).queue.length + ls.length ≤ 8) →
    ∃ xs, r.assigns b ls xs

/-- A START or a card that is refused sets the reason on the panel and changes nothing else (R85, R86, R87, R105 to R107, R187, R189): each
reason, where every check before it passes. -/
def Obligations.PanelRefusalsShowReason : Prop :=
  (∀ (b : BayId) (a : ArmId) (s : State),
    (bayOf a ≠ b → exec (.start b a) s = .next (s.baySays b .notReady) ∧ exec (.stop b a) s = .next (s.baySays b .notReady)) ∧
    (bayOf a = b →
      ((s.rack.arm a).state = .outOfService ∨ (s.rack.arm a).state = .idle ∨ (s.rack.arm a).state = .alarm →
        exec (.start b a) s = .next (s.armSays b a .notReady)) ∧
      ((s.rack.arm a).state.isRunning = true → exec (.start b a) s = .next (s.armSays b a .running)) ∧
      ((s.rack.arm a).state = .ready ∨ (s.rack.arm a).state = .suspended → s.cond.permitted b = false →
        exec (.start b a) s = .next (s.armSays b a .permissive)) ∧
      ((s.rack.arm a).state = .ready ∨ (s.rack.arm a).state = .suspended → s.cond.permitted b = true → s.cond.mode = .halted →
        exec (.start b a) s = .next (s.armSays b a .halted)) ∧
      ((s.rack.arm a).state = .ready → s.cond.permitted b = true → s.cond.mode = .normal →
        (s.rack.channel a).temperature = none → exec (.start b a) s = .next (s.armSays b a .noTemperature)) ∧
      ((s.rack.arm a).state = .suspended → s.cond.permitted b = true → s.cond.mode = .normal →
        Cause.probe ∈ (s.rack.arm a).causes → (s.rack.arm a).probeRefreshed = false →
        exec (.start b a) s = .next (s.armSays b a .probe)) ∧
      ((s.rack.arm a).state = .suspended → s.cond.permitted b = true → s.cond.mode = .normal →
        (Cause.probe ∈ (s.rack.arm a).causes → (s.rack.arm a).probeRefreshed = true) →
        ∀ x n k, Cause.additiveStock x n ∈ (s.rack.arm a).causes → s.rack.slotConfig a n = some k →
          (s.rack.additive x).stock < k.stroke → exec (.start b a) s = .next (s.armSays b a .additiveStock)))) ∧
  ∀ (b : BayId) (permit : Nat) (s : State), 1 ≤ permit → permit ≤ 99999999 →
    ((s.rack.bay b).admitted ≠ none → exec (.card b permit) s = .next (s.baySays b .bayBusy)) ∧
    ((s.rack.bay b).admitted = none →
      (∀ o ∈ s.rack.orders, ¬(o.state = .booked ∧ o.permit = permit ∧ (o.bay = none ∨ o.bay = some b))) →
      exec (.card b permit) s = .next (s.baySays b .noOrder)) ∧
    ∀ o p, (s.rack.bay b).admitted = none → s.rack.earliestFor b permit o → s.rack.permit? permit = some p →
      (p.suspended = true → exec (.card b permit) s = .next (s.baySays b .permitSuspended)) ∧
      (p.suspended = false → p.expiry < s.cond.day → exec (.card b permit) s = .next (s.baySays b .permitExpired)) ∧
      (p.suspended = false → s.cond.day ≤ p.expiry → p.admittedBay ≠ none →
        exec (.card b permit) s = .next (s.baySays b .bayBusy)) ∧
      (p.suspended = false → s.cond.day ≤ p.expiry → p.admittedBay = none → o.counted = false → p.dailyLimit ≤ p.loadsToday →
        exec (.card b permit) s = .next (s.baySays b .dailyLimit)) ∧
      (p.suspended = false → s.cond.day ≤ p.expiry → p.admittedBay = none → (o.counted = true ∨ p.loadsToday < p.dailyLimit) →
        ((∃ l ∈ o.lines, l.state = .pending ∧ p.level < l.hazard) → exec (.card b permit) s = .next (s.baySays b .level)) ∧
        ((∀ l ∈ o.lines, l.state = .pending → l.hazard ≤ p.level) →
          ((∃ l ∈ o.lines, l.state = .pending ∧ p.endorsements[l.group] = false) →
            exec (.card b permit) s = .next (s.baySays b .endorsement)) ∧
          ((∀ l ∈ o.lines, l.state = .pending → p.endorsements[l.group] = true) →
            ((∃ u v, (o.unit1 = u ∨ o.unit2 = some u) ∧ s.rack.unit? u = some v ∧ v.expiry < s.cond.day) →
              exec (.card b permit) s = .next (s.baySays b .unitExpired)) ∧
            ((∀ u, o.unit1 = u ∨ o.unit2 = some u → ∃ v, s.rack.unit? u = some v ∧ s.cond.day ≤ v.expiry) →
              ∀ ls l rest xs, o.lines.filter (fun l => decide (l.state = .pending)) = ls ++ l :: rest → s.rack.assigns b ls xs →
                ((∀ a, bayOf a = b → ¬s.rack.armFits a l) → exec (.card b permit) s = .next (s.baySays b .noArm)) ∧
                ∀ a, s.rack.chosenFor b l xs a → 8 ≤ s.rack.loadWith xs a →
                  exec (.card b permit) s = .next (s.baySays b .queueFull)))))


/-- A START at a READY arm begins its line: the meter, the injector channels and the line's accumulators restart, the line takes bank
and count, the arm is in LOW_START with its mark and its no-flow timer (R5, R34, R104, R105, R110, R144, R188). A held temperature more than
30,000 ms old raises PROBE at that entry, and the arm closes at once to suspend the line (R12, R105, R111, R113). -/
def Obligations.StartBeginsLine : Prop :=
  ∀ (b : BayId) (a : ArmId) (s : State) (e : QueueEntry) (l : Line) (k : ArmConfig) (x : HeldTemperature),
    bayOf a = b → (s.rack.arm a).state = .ready → s.cond.permitted b = true → s.cond.mode = .normal →
    (s.rack.channel a).temperature = some x → (s.rack.arm a).current = some e →
    s.rack.currentLine a = some l → (s.rack.arm a).config = some k →
    ∃ t, exec (.start b a) s = .next t ∧ t.cond = s.cond ∧ t.link = s.link ∧
      (s.cond.age x.arrived ≤ 30000 →
        t.rack.arm a = { s.rack.arm a with
          state := .lowStart, startMark := some (k.lowStart * 100000), causes := [], probeRefreshed := false, reason := none
          noFlowTimer := some { time := s.cond.time, full := false }
          repeatTimer := some { time := s.cond.time, full := false } } ∧
        (t.rack.arm a).state.valve = .low) ∧
      (30000 < s.cond.age x.arrived →
        t.rack.arm a = { s.rack.arm a with
          state := .closing, intent := some .suspend, causes := [.probe], startMark := some (k.lowStart * 100000)
          probeRefreshed := false, reason := none, noFlowTimer := none, quiet := false
          settleTimer := some { time := s.cond.time, full := false }
          repeatTimer := some { time := s.cond.time, full := false } } ∧
        (t.rack.arm a).state.valve = .closed) ∧
      t.rack.channel a = { s.rack.channel a with
        pulses := 0, window := 0, windowStart := { time := s.cond.time, full := false }, rate := 0
        factor := (s.cond.cal.bank s.cond.cal.active).factorAt a 0 } ∧
      t.rack.currentLine a = some { l with
        state := .active, bank := some s.cond.cal.active, calCount := some s.cond.cal.count, gross := 0, standard := 0
        residue := 0, weight := 0 } ∧
      (∀ n, t.rack.injector a n = { s.rack.injector a n with
        served := l.doses.findIdx? (fun d => decide (d.slot = some n)), owed := 0, misses := 0 }) ∧
      (∀ c, c ≠ a → t.rack.arm c = s.rack.arm c ∧ t.rack.channel c = s.rack.channel c ∧
        ∀ n, t.rack.injector c n = s.rack.injector c n) ∧
      (∀ n m, ¬(n = e.order ∧ m = e.line) → t.rack.line? n m = s.rack.line? n m) ∧
      t.rack = { s.rack with
        orders := t.rack.orders, channels := t.rack.channels, arms := t.rack.arms, injectors := t.rack.injectors
        panels := t.rack.panels }

/-- A START at a SUSPENDED arm that passes the four checks of R106 (the bay is PERMITTED, the rack NORMAL, a cause PROBE refreshed, the stock of
each cause ADDITIVE_STOCK at its stroke or above) resumes the line: to LOW_START with a new mark below the close point, or there, at a
held temperature more than 30,000 ms old, to a close that suspends it again with PROBE (R12, R105); to a close with intent FINISH at or above
it; the causes are discarded and the accumulators kept (R5, R106, R144). On each channel, in slot order, a stroke that is due starts then while stock covers it;
where it does not, ADDITIVE_STOCK suspends the line or joins the close, and a close with intent FINISH gives UNDER_DOSE (R146; that PROBE comes
before these tests is the model's choice, assumption 25). -/
def Obligations.ResumeContinuesLine : Prop :=
  ∀ (b : BayId) (a : ArmId) (s : State) (e : QueueEntry) (l : Line) (k : ArmConfig) (closeAt : Int) (stale : Prop) (now : Stamp),
    bayOf a = b → (s.rack.arm a).state = .suspended → s.cond.permitted b = true → s.cond.mode = .normal →
    (Cause.probe ∈ (s.rack.arm a).causes → (s.rack.arm a).probeRefreshed = true) →
    (∀ x n y, Cause.additiveStock x n ∈ (s.rack.arm a).causes → s.rack.slotConfig a n = some y → y.stroke ≤ (s.rack.additive x).stock) →
    (s.rack.arm a).current = some e → s.rack.currentLine a = some l → (s.rack.arm a).config = some k →
    closeAt = (l.preset : Int) * 1000000 - (((s.rack.arm a).allowance.getD 0 : Nat) : Int) * 100000 →
    (stale ↔ ∃ x, (s.rack.channel a).temperature = some x ∧ 30000 < s.cond.age x.arrived) →
    now = { time := s.cond.time, full := false } →
    ((∀ n y, s.rack.slotConfig a n = some y → (s.rack.injector a n).owed < 100 * y.stroke) →
      ∃ t, exec (.start b a) s = .next t ∧ t.cond = s.cond ∧ (t.rack.arm a).probeRefreshed = false ∧
        (t.rack.arm a).queue = (s.rack.arm a).queue ∧ (t.rack.arm a).current = some e ∧
        t.rack.currentLine a = some { l with state := .active } ∧
        (∀ n, t.rack.injector a n = { s.rack.injector a n with misses := 0 }) ∧
        ((l.standard : Int) < closeAt →
          (t.rack.arm a).startMark = some (l.standard + k.lowStart * 100000) ∧
          (t.rack.channel a).pulses = 0 ∧ (t.rack.channel a).window = 0 ∧ (t.rack.channel a).rate = 0 ∧
          (¬stale → (t.rack.arm a).state = .lowStart ∧ (t.rack.arm a).causes = [] ∧ (t.rack.arm a).noFlowTimer = some now) ∧
          (stale → suspendingFor t.rack a .probe ∧ (t.rack.arm a).noFlowTimer = none ∧
            (t.rack.arm a).settleTimer = some now ∧ (t.rack.arm a).quiet = false)) ∧
        (closeAt ≤ (l.standard : Int) →
          (t.rack.arm a).state = .closing ∧ (t.rack.arm a).intent = some .finish ∧ (t.rack.arm a).causes = [] ∧
          (t.rack.arm a).settleTimer = some now ∧ t.rack.channel a = s.rack.channel a) ∧
        (∀ c, c ≠ a → t.rack.arm c = s.rack.arm c) ∧
        (∀ n m, ¬(n = e.order ∧ m = e.line) → t.rack.line? n m = s.rack.line? n m) ∧
        t.rack = { s.rack with
          orders := t.rack.orders, channels := t.rack.channels, arms := t.rack.arms, injectors := t.rack.injectors
          panels := t.rack.panels }) ∧
    ∀ short : List (AdditiveId × SlotId), (s.rack.arm a).quiet = false → k.slotsDiffer →
      short = s.rack.shortSlots a (fun n => (s.rack.injector a n).owed) →
      ∃ t, exec (.start b a) s = .next t ∧ t.cond = s.cond ∧
        (∀ n, (∀ y d, ¬s.rack.serves a n y d) → t.rack.injector a n = { s.rack.injector a n with misses := 0 }) ∧
        (∀ z, (∀ n y d, s.rack.serves a n y d → y.additive ≠ z) → t.rack.additive z = s.rack.additive z) ∧
        (∀ n y d, s.rack.serves a n y d →
          ((s.rack.injector a n).owed < 100 * y.stroke ∨ (s.rack.injector a n).phase ≠ .none →
            t.rack.injector a n = { s.rack.injector a n with misses := 0 } ∧
            t.rack.additive y.additive = s.rack.additive y.additive) ∧
          (100 * y.stroke ≤ (s.rack.injector a n).owed → (s.rack.injector a n).phase = .none →
            ((s.rack.additive y.additive).inFlight + y.stroke ≤ (s.rack.additive y.additive).stock →
              t.rack.injector a n = { s.rack.injector a n with
                owed := (s.rack.injector a n).owed - 100 * y.stroke, phase := .waitRise, opened := some now, riseTime := none
                misses := 0 } ∧
              t.rack.additive y.additive = { s.rack.additive y.additive with
                inFlight := (s.rack.additive y.additive).inFlight + y.stroke }) ∧
            ((s.rack.additive y.additive).stock < (s.rack.additive y.additive).inFlight + y.stroke →
              t.rack.injector a n = { s.rack.injector a n with misses := 0 } ∧
              t.rack.additive y.additive = s.rack.additive y.additive))) ∧
        ((l.standard : Int) < closeAt →
          t.rack.currentLine a = some { l with state := .active } ∧
          (¬stale → short = [] → (t.rack.arm a).state = .lowStart ∧ (t.rack.arm a).causes = []) ∧
          (stale ∨ short ≠ [] → (t.rack.arm a).state = .closing ∧ (t.rack.arm a).intent = some .suspend) ∧
          (¬stale → (t.rack.arm a).causes = short.map (fun x => .additiveStock x.1 x.2)) ∧
          (stale → (t.rack.arm a).causes = .probe :: short.map (fun x => .additiveStock x.1 x.2))) ∧
        (closeAt ≤ (l.standard : Int) →
          (t.rack.arm a).state = .closing ∧ (t.rack.arm a).intent = some .finish ∧
          t.rack.currentLine a = some { l with
            state := .active, flags := { l.flags with underDose := l.flags.underDose || decide (short ≠ []) } })


/-- A STOP closes a line in flow, turns a suspending close to STOP, ends a SUSPENDED line STOPPED at once, its ending handed to account,
additives and unit and its arm and injector channels freed (R76, R117, R144), and is passed over by any other arm but for a SHOW (R107, R116,
R189). That a STOP without effect still empties the arm's reason and calls for the SHOW is
read from the manual by inference (assumption 13). -/
def Obligations.StopClosesArm : Prop :=
  ∀ (b : BayId) (a : ArmId) (s : State), bayOf a = b →
    ((s.rack.arm a).state.isFlow = true →
      ∃ t, exec (.stop b a) s = .next t ∧ (t.rack.arm a).state = .closing ∧ (t.rack.arm a).state.valve = .closed ∧
        (t.rack.arm a).intent = some .stop ∧ (t.rack.arm a).pendingStop = some .panel ∧ (t.rack.arm a).noFlowTimer = none ∧
        (t.rack.arm a).settleTimer = some { time := s.cond.time, full := false } ∧ t.cond = s.cond ∧
        t.rack = { s.rack with arms := t.rack.arms, headers := t.rack.headers, panels := t.rack.panels } ∧
        ∀ c, c ≠ a → (t.rack.arm c).state = (s.rack.arm c).state ∨
          (s.rack.arm c).state = .waitGrant ∧ (t.rack.arm c).state = .high) ∧
    ((s.rack.arm a).state = .closing → (s.rack.arm a).intent = some .suspend →
      exec (.stop b a) s = .next { s.heard b with rack :=
        ((s.rack.modArm a (fun x =>
          { x with intent := some .stop, pendingStop := some .panel, causes := [], restartPending := false, reason := none })).callArm
          a).pump }) ∧
    (∀ e l, (s.rack.arm a).state = .suspended → (s.rack.arm a).current = some e → s.rack.currentLine a = some l →
      ∃ t l' litres, exec (.stop b a) s = .next t ∧ s.rack.lineHandedOn t.rack a e l l' litres ∧ s.rack.armFreed t.rack a e ∧
        l'.state = .stopped ∧ l'.stopCause = some .panel ∧ l'.flags.overPreset = l.flags.overPreset ∧
        (t.rack.arm a).allowance = (s.rack.arm a).allowance ∧ (t.rack.arm a).reason = none ∧ t.cond = s.cond) ∧
    ((s.rack.arm a).state = .ready ∨ (s.rack.arm a).state = .idle ∨ (s.rack.arm a).state = .outOfService ∨
        (s.rack.arm a).state = .alarm ∨ ((s.rack.arm a).state = .closing ∧ (s.rack.arm a).intent ≠ some .suspend) →
      exec (.stop b a) s = .next { s.heard b with rack :=
        ((s.rack.modArm a (fun x => { x with reason := none })).callArm a).pump })

/-- No flow for the configured time suspends the line with NO_FLOW; a timer that has time left does not expire (R110, R112, R113; the
second clause is assumption 5). -/
def Obligations.NoFlowSuspends : Prop :=
  ∀ (a : ArmId) (s : State) (k : ArmConfig) (x : Stamp),
    (s.rack.arm a).config = some k → (s.rack.arm a).noFlowTimer = some x →
    (k.noFlow * 1000 ≤ s.cond.age x → (s.rack.arm a).state.isFlow = true →
      ∃ t, exec (.noFlowTimerExpiry a) s = .next t ∧ suspendingFor t.rack a .noFlow ∧ (t.rack.arm a).state.valve = .closed ∧
        (t.rack.arm a).noFlowTimer = none ∧ (t.rack.arm a).settleTimer = some { time := s.cond.time, full := false } ∧
        (t.rack.arm a).probeRefreshed = (s.rack.arm a).probeRefreshed ∧ t.cond = s.cond ∧
        t.rack = { s.rack with arms := t.rack.arms, headers := t.rack.headers, panels := t.rack.panels }) ∧
    (s.cond.age x < k.noFlow * 1000 → exec (.noFlowTimerExpiry a) s = .next s)

/-- When the settle timer runs out the arm is quiet, and while a stroke is in flight it is only that. With none in flight the close settles:
FINISH makes the line FULL, hands its ending on (figures, account, additive reservations, UNDER_DOSE, last group), learns the allowance and
frees the arm (R15, R17, R18, R58, R65, R76, R114, R115, R117, R119, R153, R154). A suspending close ends in SUSPENDED, the arm keeping line,
queue and causes; a STOP close ends the line STOPPED with the pending stop cause; an INTERRUPT close, and a suspending one with restart
pending, ends it INTERRUPTED with cause RESTART; none of these learns (R115, R118). -/
def Obligations.SettleCarriesOutIntent : Prop :=
  ∀ (a : ArmId) (s : State) (k : ArmConfig) (x : Stamp) (e : QueueEntry) (l : Line),
    (s.rack.arm a).config = some k → (s.rack.arm a).settleTimer = some x → k.settle * 1000 ≤ s.cond.age x →
    (s.rack.arm a).state = .closing → (s.rack.arm a).current = some e → s.rack.currentLine a = some l →
    ((∃ n, (s.rack.injector a n).phase ≠ .none) →
      exec (.settleTimerExpiry a) s = .next
        { s with rack := (s.rack.modArm a (fun y => { y with settleTimer := none, quiet := true })).pump }) ∧
    ((∀ n, (s.rack.injector a n).phase = .none) →
      ∃ t, exec (.settleTimerExpiry a) s = .next t ∧ t.cond = s.cond ∧ s.rack.settled t.rack a e l)

/-- A SHOW that ends makes room for the next subject of its line; the repeat of a running arm calls for one each 1,000 ms (R188). A subject that
is called for joins the tail of the list, one already in it keeps its place, and a line that sends nothing begins with the head (R188). The SHOW
of a bay carries its state, its permit and its reason; that of an arm its state, of its current line the compartment address, the preset and
the whole litres of standard volume, 0 while it is QUEUED, the primary cause in SUSPENDED and in a suspending close alone, and its reason (R189;
that it has no field for the valve command is the model's choice, assumption 12). That a repeat expiry with time left changes nothing is assumption 5; that a SHOW_SENT on a line that sends nothing changes nothing
is assumption 15. -/
def Obligations.ShowLinesAdvance : Prop :=
  (∀ (b : BayId) (s : State),
    ((s.rack.panel b).sending = none → exec (.showSent b) s = .next s) ∧
    ∀ m, (s.rack.panel b).sending = some m →
      ∃ t, exec (.showSent b) s = .next t ∧ t.cond = s.cond ∧ t.rack = { s.rack with panels := t.rack.panels } ∧
        ((s.rack.panel b).sendList = [] → t.rack.panel b = { sendList := [], sending := none }) ∧
        ∀ x rest, (s.rack.panel b).sendList = x :: rest →
          t.rack.panel b = { sendList := rest, sending := some (s.rack.showOf b x) }) ∧
  (∀ (a : ArmId) (s : State) (x : Stamp), (s.rack.arm a).repeatTimer = some x →
    (s.cond.age x < 1000 → exec (.showRepeatTimerExpiry a) s = .next s) ∧
    (1000 ≤ s.cond.age x →
      ∃ t, exec (.showRepeatTimerExpiry a) s = .next t ∧
        t.rack = { s.rack with arms := t.rack.arms, panels := t.rack.panels } ∧
        t.rack.arm a = { s.rack.arm a with repeatTimer := some { time := s.cond.time, full := false } } ∧
        ∀ joined, joined = (if subjectOf a ∈ (s.rack.panel (bayOf a)).sendList then (s.rack.panel (bayOf a)).sendList
            else (s.rack.panel (bayOf a)).sendList ++ [subjectOf a]) →
          (∀ m, (s.rack.panel (bayOf a)).sending = some m →
            t.rack.panel (bayOf a) = { sendList := joined, sending := some m }) ∧
          ((s.rack.panel (bayOf a)).sending = none → ∀ y rest, joined = y :: rest →
            t.rack.panel (bayOf a) = { sendList := rest, sending := some (s.rack.showOf (bayOf a) y) }))) ∧
  (∀ (r : Rack) (b : BayId), (∀ c, c ≠ b → (r.callBay b).panel c = r.panel c) ∧
    r.callBay b = { r with panels := (r.callBay b).panels } ∧ ((r.callBay b).panel b).sending = (r.panel b).sending ∧
    (.bay ∈ (r.panel b).sendList → ((r.callBay b).panel b).sendList = (r.panel b).sendList) ∧
    (.bay ∉ (r.panel b).sendList → ((r.callBay b).panel b).sendList = (r.panel b).sendList ++ [.bay])) ∧
  (∀ (r : Rack) (a : ArmId) (b : BayId) (x : Subject), b = bayOf a → x = subjectOf a →
    (∀ c, c ≠ b → (r.callArm a).panel c = r.panel c) ∧
    r.callArm a = { r with panels := (r.callArm a).panels } ∧ ((r.callArm a).panel b).sending = (r.panel b).sending ∧
    (x ∈ (r.panel b).sendList → ((r.callArm a).panel b).sendList = (r.panel b).sendList) ∧
    (x ∉ (r.panel b).sendList → ((r.callArm a).panel b).sendList = (r.panel b).sendList ++ [x])) ∧
  (∀ (r : Rack) (b : BayId), r.pump = { r with panels := r.pump.panels } ∧
    (∀ m, (r.panel b).sending = some m → r.pump.panel b = r.panel b) ∧
    ((r.panel b).sendList = [] → r.pump.panel b = r.panel b) ∧
    ∀ y rest, (r.panel b).sending = none → (r.panel b).sendList = y :: rest →
      r.pump.panel b = { sendList := rest, sending := some (r.showOf b y) }) ∧
  (∀ (r : Rack) (b : BayId), r.showOf b .bay = .ofBay b (decide ((r.bay b).admitted ≠ none))
    ((r.bay b).admitted.map (fun x => x.permit)) (r.bay b).reason) ∧
  ∀ (r : Rack) (a : ArmId) (x : Arm), x = r.arm a →
    ∃ addr preset litres cause,
      r.showOf (bayOf a) (subjectOf a) = .ofArm a x.state addr preset litres cause x.reason ∧
      (x.current = none → addr = none ∧ preset = none ∧ litres = none) ∧
      (∀ e l, x.current = some e → r.line? e.order e.line = some l →
        addr = some e.addr ∧ preset = some l.preset ∧ litres = some (if l.state = .queued then 0 else l.standard / 1000000)) ∧
      (x.state = .suspended ∨ x.state = .closing ∧ x.intent = some .suspend → cause = x.causes.head?) ∧
      (x.state ≠ .suspended → ¬(x.state = .closing ∧ x.intent = some .suspend) → cause = none)

/-! ### Injectors (chapter 8) -/

/-- A feedback rise in WAIT_RISE starts the active time; a fall after the minimum feedback time is a GOOD stroke: the additive leaves
stock, reservation and flight, the line gains what was dispensed, the misses end (R148, R149). Where another stroke is due it starts at once
while stock covers it; where it does not, ADDITIVE_STOCK suspends the line in flow or joins a suspending close, once for each additive, and any
other close gives UNDER_DOSE (R111, R112, R146). -/
def Obligations.GoodStrokeDispenses : Prop :=
  (∀ (a : ArmId) (n : SlotId) (s : State), (s.rack.injector a n).feedback = false →
    ((s.rack.injector a n).phase = .waitRise →
      exec (.feedbackRise a n) s = .next { s with rack := (s.rack.modInjector a n (fun i =>
        { i with feedback := true, phase := .feedbackActive, opened := none
                 riseTime := some { time := s.cond.time, full := false } })).pump }) ∧
    ((s.rack.injector a n).phase ≠ .waitRise →
      exec (.feedbackRise a n) s = .next { s with rack :=
        (s.rack.modInjector a n (fun i => { i with feedback := true })).pump })) ∧
  (∀ (a : ArmId) (n : SlotId) (s : State) (k : SlotConfig) (x : Stamp) (j : Nat) (d : DoseRecord) (l : Line),
    (s.rack.injector a n).feedback = true → (s.rack.injector a n).phase = .feedbackActive →
    (s.rack.injector a n).riseTime = some x → s.rack.slotConfig a n = some k → k.fbMin ≤ s.cond.age x →
    (s.rack.injector a n).served = some j → s.rack.currentLine a = some l → l.doses[j]? = some d →
    (s.rack.injector a n).owed < 100 * k.stroke → (s.rack.arm a).quiet = false →
    ∃ t, exec (.feedbackFall a n) s = .next t ∧ t.cond = s.cond ∧
      t.rack.injector a n = { s.rack.injector a n with
        feedback := false, phase := .none, opened := none, riseTime := none, misses := 0 } ∧
      t.rack.additive k.additive = { s.rack.additive k.additive with
        stock := (s.rack.additive k.additive).stock - k.stroke, inFlight := (s.rack.additive k.additive).inFlight - k.stroke
        reserved := (s.rack.additive k.additive).reserved - min d.remaining k.stroke } ∧
      t.rack.currentLine a = some { l with doses := l.doses.modify j (fun y =>
        { y with dispensed := min 999999999 (y.dispensed + k.stroke), remaining := y.remaining - k.stroke }) } ∧
      t.rack = { s.rack with
        orders := t.rack.orders, additives := t.rack.additives, injectors := t.rack.injectors, panels := t.rack.panels } ∧
      (∀ y, y ≠ k.additive → t.rack.additive y = s.rack.additive y) ∧
      ∀ c m, ¬(c = a ∧ m = n) → t.rack.injector c m = s.rack.injector c m) ∧
  ∀ (a : ArmId) (n : SlotId) (s : State) (k : SlotConfig) (x : Stamp) (j : Nat) (d : DoseRecord) (l l' : Line) (drawn : Additive)
    (ended : Injector),
    (s.rack.injector a n).feedback = true → (s.rack.injector a n).phase = .feedbackActive →
    (s.rack.injector a n).riseTime = some x → s.rack.slotConfig a n = some k → k.fbMin ≤ s.cond.age x →
    (s.rack.injector a n).served = some j → s.rack.currentLine a = some l → l.doses[j]? = some d →
    100 * k.stroke ≤ (s.rack.injector a n).owed → (s.rack.arm a).state.isRunning = true → (s.rack.arm a).quiet = false →
    k.stroke ≤ (s.rack.additive k.additive).inFlight →
    l' = { l with doses := l.doses.modify j (fun y =>
      { y with dispensed := min 999999999 (y.dispensed + k.stroke), remaining := y.remaining - k.stroke }) } →
    drawn = { s.rack.additive k.additive with
      stock := (s.rack.additive k.additive).stock - k.stroke, inFlight := (s.rack.additive k.additive).inFlight - k.stroke
      reserved := (s.rack.additive k.additive).reserved - min d.remaining k.stroke } →
    ended = { s.rack.injector a n with feedback := false, phase := .none, opened := none, riseTime := none, misses := 0 } →
    ∃ t, exec (.feedbackFall a n) s = .next t ∧ t.cond = s.cond ∧
      (∀ y, y ≠ k.additive → t.rack.additive y = s.rack.additive y) ∧
      (∀ c m, ¬(c = a ∧ m = n) → t.rack.injector c m = s.rack.injector c m) ∧
      ((s.rack.additive k.additive).inFlight + k.stroke ≤ (s.rack.additive k.additive).stock →
        t.rack.injector a n = { ended with
          owed := ended.owed - 100 * k.stroke, phase := .waitRise, opened := some { time := s.cond.time, full := false } } ∧
        t.rack.additive k.additive = { drawn with inFlight := (s.rack.additive k.additive).inFlight } ∧
        t.rack.arm a = s.rack.arm a ∧ t.rack.currentLine a = some l') ∧
      ((s.rack.additive k.additive).stock < (s.rack.additive k.additive).inFlight + k.stroke →
        t.rack.injector a n = ended ∧ t.rack.additive k.additive = drawn ∧
        ((s.rack.arm a).state.isFlow = true →
          suspendingFor t.rack a (.additiveStock k.additive n) ∧ t.rack.currentLine a = some l') ∧
        ((s.rack.arm a).state = .closing → (s.rack.arm a).intent = some .suspend → t.rack.currentLine a = some l' ∧
          t.rack.arm a = { s.rack.arm a with causes := (s.rack.arm a).causes ++
            (if ∃ m : SlotId, Cause.additiveStock k.additive m ∈ (s.rack.arm a).causes then []
            else [.additiveStock k.additive n]) }) ∧
        ((s.rack.arm a).state = .closing → (s.rack.arm a).intent ≠ some .suspend →
          t.rack.arm a = s.rack.arm a ∧
          t.rack.currentLine a = some { l' with flags := { l'.flags with underDose := true } }))


/-- An assigned step reaches the four channels of its arm in slot order: each owes the dose of the entry it serves, a risen count at four
strokes gives DOSE_LIMITED, and a channel that serves none is as it was (R145). On each channel a stroke that is due starts when the stock less
what is in flight covers it; where it does not, ADDITIVE_STOCK suspends the line in flow, the causes of the slots behind it joining in slot
order, joins a suspending close once for each additive, and gives UNDER_DOSE in any other close (R111, R112, R146). That no two slots of an arm
name one additive is R101, and stands in the invariant AdditivesMatchLines. -/
def Obligations.StepOwesDoseAndStrokes : Prop :=
  ∀ (a : ArmId) (s : State) (e : QueueEntry) (l : Line) (c : ArmConfig) (closeAt : Int) (owed : SlotId → Nat)
    (short : List (AdditiveId × SlotId)),
    (effectiveBank s.cond s.rack a).kFactor a ≠ 0 →
    (effectiveBank s.cond s.rack a).kFactor a / 10 ≤ (s.rack.channel a).pulses + 1 →
    (s.rack.arm a).state.isRunning = true → (s.rack.arm a).state = .closing ∨ (s.rack.arm a).quiet = false →
    (s.rack.arm a).current = some e → s.rack.currentLine a = some l → (s.rack.arm a).config = some c → c.slotsDiffer →
    closeAt = (l.preset : Int) * 1000000 - (((s.rack.arm a).allowance.getD 0 : Nat) : Int) * 100000 →
    (∀ n k d, s.rack.serves a n k d → owed n = min 999999999 ((s.rack.injector a n).owed + d.dose)) →
    short = s.rack.shortSlots a owed →
    ∃ t l', exec (.meterPulse a) s = .next t ∧ t.rack.currentLine a = some l' ∧ l'.doses = l.doses ∧
      (l'.flags.doseLimited = true ↔ l.flags.doseLimited = true ∨
        ∃ n k d, s.rack.serves a n k d ∧ (s.rack.injector a n).owed < owed n ∧ 400 * k.stroke ≤ owed n) ∧
      (∀ n, (∀ k d, ¬s.rack.serves a n k d) → t.rack.injector a n = s.rack.injector a n) ∧
      (∀ y, (∀ n k d, s.rack.serves a n k d → k.additive ≠ y) → t.rack.additive y = s.rack.additive y) ∧
      (∀ n k d, s.rack.serves a n k d →
        (owed n < 100 * k.stroke ∨ (s.rack.injector a n).phase ≠ .none →
          t.rack.injector a n = { s.rack.injector a n with owed := owed n } ∧
          t.rack.additive k.additive = s.rack.additive k.additive) ∧
        (100 * k.stroke ≤ owed n → (s.rack.injector a n).phase = .none →
          ((s.rack.additive k.additive).inFlight + k.stroke ≤ (s.rack.additive k.additive).stock →
            t.rack.injector a n = { s.rack.injector a n with
              owed := owed n - 100 * k.stroke, phase := .waitRise, riseTime := none
              opened := some { time := s.cond.time, full := false } } ∧
            t.rack.additive k.additive = { s.rack.additive k.additive with
              inFlight := (s.rack.additive k.additive).inFlight + k.stroke }) ∧
          ((s.rack.additive k.additive).stock < (s.rack.additive k.additive).inFlight + k.stroke →
            t.rack.injector a n = { s.rack.injector a n with owed := owed n } ∧
            t.rack.additive k.additive = s.rack.additive k.additive))) ∧
      ((s.rack.arm a).state.isFlow = true → (l'.standard : Int) < closeAt → l'.flags.underDose = l.flags.underDose ∧
        (short = [] → (t.rack.arm a).state.isFlow = true) ∧
        (short ≠ [] → (t.rack.arm a).state = .closing ∧ (t.rack.arm a).intent = some .suspend ∧
          (t.rack.arm a).causes = short.map (fun x => .additiveStock x.1 x.2))) ∧
      ((s.rack.arm a).state = .closing → (s.rack.arm a).intent = some .suspend → l'.flags.underDose = l.flags.underDose ∧
        (t.rack.arm a).state = .closing ∧ (t.rack.arm a).intent = some .suspend ∧
        (t.rack.arm a).causes = (s.rack.arm a).causes ++ (short.filter (fun x =>
          decide (∀ m : SlotId, Cause.additiveStock x.1 m ∉ (s.rack.arm a).causes))).map (fun x => .additiveStock x.1 x.2)) ∧
      ((s.rack.arm a).state = .closing ∧ (s.rack.arm a).intent ≠ some .suspend ∨
          (s.rack.arm a).state.isFlow = true ∧ closeAt ≤ (l'.standard : Int) →
        (l'.flags.underDose = true ↔ l.flags.underDose = true ∨ short ≠ []) ∧
        (t.rack.arm a).state = .closing ∧ (t.rack.arm a).intent ≠ some .suspend)

/-- A stroke whose feedback does not come, does not end, or ends too soon is a miss (NO_FEEDBACK, STUCK, SHORT): its volume is owed again,
DOSE_LIMITED is tested, line and channel count the miss, and the next stroke starts at once while stock covers it, but for a quiet arm, where
none starts. The miss limit suspends a line in flow with ADDITIVE; in CLOSING the cause joins a suspending close, once, and leaves no mark in
any other (R111, R112, R145, R146, R148, R150). That a rise or active timer with time left changes nothing is the model's choice
(assumption 5). -/
def Obligations.MissedStrokeIsRepeated : Prop :=
  (∀ (a : ArmId) (n : SlotId) (s : State) (k : SlotConfig) (x : Stamp), s.rack.slotConfig a n = some k → s.cond.age x < k.fbMax →
    ((s.rack.injector a n).phase = .waitRise → (s.rack.injector a n).opened = some x → exec (.riseTimerExpiry a n) s = .next s) ∧
    ((s.rack.injector a n).phase = .feedbackActive → (s.rack.injector a n).riseTime = some x →
      exec (.activeTimerExpiry a n) s = .next s)) ∧
  ∀ (a : ArmId) (n : SlotId) (s : State) (i : Instr) (level : Bool) (k : SlotConfig) (x : Stamp) (j : Nat) (d : DoseRecord)
    (l l' : Line) (owed misses : Nat) (ended restarted : Injector) (joined : List Cause),
    ((s.rack.injector a n).phase = .waitRise ∧ (s.rack.injector a n).opened = some x ∧ i = .riseTimerExpiry a n ∧
        level = (s.rack.injector a n).feedback ∧ k.fbMax ≤ s.cond.age x ∨
      (s.rack.injector a n).phase = .feedbackActive ∧ (s.rack.injector a n).riseTime = some x ∧ i = .activeTimerExpiry a n ∧
        level = (s.rack.injector a n).feedback ∧ k.fbMax ≤ s.cond.age x ∨
      (s.rack.injector a n).phase = .feedbackActive ∧ (s.rack.injector a n).riseTime = some x ∧ i = .feedbackFall a n ∧
        (s.rack.injector a n).feedback = true ∧ level = false ∧ s.cond.age x < k.fbMin) →
    s.rack.slotConfig a n = some k → (s.rack.injector a n).served = some j → s.rack.currentLine a = some l →
    l.doses[j]? = some d → k.stroke ≤ (s.rack.additive k.additive).inFlight → k.stroke ≤ 5000 →
    owed = min 999999999 ((s.rack.injector a n).owed + 100 * k.stroke) → misses = min 255 ((s.rack.injector a n).misses + 1) →
    l' = { l with
      doses := l.doses.modify j (fun y => { y with misses := min 65535 (y.misses + 1) })
      flags := { l.flags with doseLimited :=
        l.flags.doseLimited || (decide ((s.rack.injector a n).owed < owed) && decide (400 * k.stroke ≤ owed)) } } →
    ended = { s.rack.injector a n with
      feedback := level, owed := owed, phase := .none, opened := none, riseTime := none, misses := misses } →
    restarted = { ended with
      owed := owed - 100 * k.stroke, phase := .waitRise, opened := some { time := s.cond.time, full := false } } →
    joined = (if (s.rack.arm a).intent = some .suspend ∧ k.missLimit ≤ misses ∧ Cause.additive ∉ (s.rack.arm a).causes then
      (s.rack.arm a).causes ++ [.additive] else (s.rack.arm a).causes) →
    ((s.rack.arm a).state.isRunning = true → (s.rack.arm a).quiet = false → misses < k.missLimit →
      (s.rack.additive k.additive).inFlight ≤ (s.rack.additive k.additive).stock →
      ∃ t, exec i s = .next t ∧ t.cond = s.cond ∧
        t.rack = { s.rack with orders := t.rack.orders, injectors := t.rack.injectors, panels := t.rack.panels } ∧
        t.rack.injector a n = restarted ∧ t.rack.currentLine a = some l' ∧
        ∀ c m, ¬(c = a ∧ m = n) → t.rack.injector c m = s.rack.injector c m) ∧
    ((s.rack.arm a).state.isFlow = true → (s.rack.arm a).quiet = false → k.missLimit ≤ misses →
      ∃ t, exec i s = .next t ∧ (t.rack.arm a).state = .closing ∧ (t.rack.arm a).intent = some .suspend ∧
        (t.rack.arm a).causes.head? = some .additive ∧ (t.rack.injector a n).misses = misses ∧
        t.rack.currentLine a = some l' ∧
        ((s.rack.additive k.additive).inFlight ≤ (s.rack.additive k.additive).stock →
          suspendingFor t.rack a .additive ∧ t.rack.injector a n = restarted)) ∧
    ((s.rack.arm a).state = .closing → (s.rack.arm a).quiet = false →
      (s.rack.additive k.additive).inFlight ≤ (s.rack.additive k.additive).stock →
      ∃ t, exec i s = .next t ∧ t.rack.arm a = { s.rack.arm a with causes := joined } ∧ t.rack.injector a n = restarted ∧
        t.rack.currentLine a = some l') ∧
    ((s.rack.arm a).state = .closing → (s.rack.arm a).quiet = true → (∃ m, m ≠ n ∧ (s.rack.injector a m).phase ≠ .none) →
      ∃ t, exec i s = .next t ∧ t.rack.arm a = { s.rack.arm a with causes := joined } ∧ t.rack.injector a n = ended ∧
        t.rack.currentLine a = some l' ∧
        t.rack.additive k.additive = { s.rack.additive k.additive with
          inFlight := (s.rack.additive k.additive).inFlight - k.stroke } ∧
        ∀ y, y ≠ k.additive → t.rack.additive y = s.rack.additive y)

/-- The close of a quiet arm settles at the outcome of its last stroke, GOOD or a miss, after that outcome's own effects and without another
stroke (R114, R146, R149, R150): the intent is then carried out on the line as the outcome leaves it (R115), a cause ADDITIVE that the miss
limit raises standing in the set of a suspending close (R111, R112). -/
def Obligations.QuietOutcomeSettles : Prop :=
  ∀ (a : ArmId) (n : SlotId) (s : State) (i : Instr) (level good : Bool) (k : SlotConfig) (x : Stamp) (j : Nat) (d : DoseRecord)
    (e : QueueEntry) (l l' : Line) (owed misses : Nat) (joined : List Cause),
    ((s.rack.injector a n).phase = .waitRise ∧ (s.rack.injector a n).opened = some x ∧ i = .riseTimerExpiry a n ∧
        level = (s.rack.injector a n).feedback ∧ k.fbMax ≤ s.cond.age x ∧ good = false ∨
      (s.rack.injector a n).phase = .feedbackActive ∧ (s.rack.injector a n).riseTime = some x ∧ i = .activeTimerExpiry a n ∧
        level = (s.rack.injector a n).feedback ∧ k.fbMax ≤ s.cond.age x ∧ good = false ∨
      (s.rack.injector a n).phase = .feedbackActive ∧ (s.rack.injector a n).riseTime = some x ∧ i = .feedbackFall a n ∧
        (s.rack.injector a n).feedback = true ∧ level = false ∧ good = decide (k.fbMin ≤ s.cond.age x)) →
    s.rack.slotConfig a n = some k → (s.rack.injector a n).served = some j → (s.rack.arm a).current = some e →
    s.rack.currentLine a = some l → l.doses[j]? = some d → (s.rack.arm a).state = .closing → (s.rack.arm a).quiet = true →
    (∀ m, m ≠ n → (s.rack.injector a m).phase = .none) →
    owed = min 999999999 ((s.rack.injector a n).owed + 100 * k.stroke) → misses = min 255 ((s.rack.injector a n).misses + 1) →
    l' = (if good = true then
        { l with doses := l.doses.modify j (fun y =>
            { y with dispensed := min 999999999 (y.dispensed + k.stroke), remaining := y.remaining - k.stroke }) }
      else
        { l with
          doses := l.doses.modify j (fun y => { y with misses := min 65535 (y.misses + 1) })
          flags := { l.flags with doseLimited :=
            l.flags.doseLimited || (decide ((s.rack.injector a n).owed < owed) && decide (400 * k.stroke ≤ owed)) } }) →
    joined = (if good = false ∧ (s.rack.arm a).intent = some .suspend ∧ k.missLimit ≤ misses ∧
        Cause.additive ∉ (s.rack.arm a).causes then (s.rack.arm a).causes ++ [.additive] else (s.rack.arm a).causes) →
    ∃ (t : State) (r : Rack), exec i s = .next t ∧ t.cond = s.cond ∧ t.link = s.link ∧ r.settled t.rack a e l' ∧
      r = { s.rack with orders := r.orders, additives := r.additives, arms := r.arms, injectors := r.injectors } ∧
      r.arm a = { s.rack.arm a with causes := joined } ∧ (∀ c, c ≠ a → r.arm c = s.rack.arm c) ∧ r.currentLine a = some l' ∧
      (∀ o m, ¬(o = e.order ∧ m = e.line) → r.line? o m = s.rack.line? o m) ∧
      (∀ o, (r.order? o).map (fun y => { y with lines := [] }) = (s.rack.order? o).map (fun y => { y with lines := [] })) ∧
      r.additive k.additive =
        (if good = true then
          { s.rack.additive k.additive with
            stock := (s.rack.additive k.additive).stock - k.stroke, inFlight := (s.rack.additive k.additive).inFlight - k.stroke
            reserved := (s.rack.additive k.additive).reserved - min d.remaining k.stroke }
        else { s.rack.additive k.additive with inFlight := (s.rack.additive k.additive).inFlight - k.stroke }) ∧
      (∀ y, y ≠ k.additive → r.additive y = s.rack.additive y) ∧
      r.injector a n =
        (if good = true then
          { s.rack.injector a n with feedback := level, phase := .none, opened := none, riseTime := none, misses := 0 }
        else
          { s.rack.injector a n with
            feedback := level, owed := owed, phase := .none, opened := none, riseTime := none, misses := misses }) ∧
      ∀ c m, ¬(c = a ∧ m = n) → r.injector c m = s.rack.injector c m

/-! ### Field inputs (chapter 9) and the calibration switch -/

/-- A bay that becomes BLOCKED suspends every line in flow at its arms with PERMISSIVE and stops no arm of another bay; at an arm in
CLOSING the cause joins a suspending close, once, and gives the line of any other close PERMISSIVE_LOST (R112, R159); any other change of
a permissive input is only recorded (R104, R113, R156, R157, R158). -/
def Obligations.PermissiveLossSuspends : Prop :=
  ∀ (b : BayId) (input : PermissiveInput) (level : Bool) (s : State) (c : Conditions), s.cond.inputLevel b input ≠ level →
    (input = .ground ∧ c = { s.cond with ground := s.cond.ground.set b level } ∨
      input = .overfill ∧ c = { s.cond with overfill := s.cond.overfill.set b level }) →
    (s.cond.permitted b = true →
      ∃ t, exec (.permissiveInputChange b input level) s = .next t ∧ t.cond = c ∧
        t.cond.permitted b = false ∧
        (∀ a, bayOf a = b →
          ((s.rack.arm a).state.isFlow = true → suspendingFor t.rack a .permissive ∧ (t.rack.arm a).state.valve = .closed) ∧
          ((s.rack.arm a).state = .closing → (s.rack.arm a).intent = some .suspend →
            t.rack.arm a = { s.rack.arm a with causes :=
              if Cause.permissive ∈ (s.rack.arm a).causes then (s.rack.arm a).causes
              else (s.rack.arm a).causes ++ [.permissive] }) ∧
          ((s.rack.arm a).state = .closing → (s.rack.arm a).intent ≠ some .suspend → t.rack.arm a = s.rack.arm a ∧
            ∀ l, s.rack.currentLine a = some l →
              t.rack.currentLine a = some { l with flags := { l.flags with permissiveLost := true } }) ∧
          ((s.rack.arm a).state.isRunning = false → t.rack.arm a = s.rack.arm a)) ∧
        (∀ a, bayOf a ≠ b → (t.rack.arm a).state = (s.rack.arm a).state ∨
          (s.rack.arm a).state = .waitGrant ∧ (t.rack.arm a).state = .high) ∧
        t.rack = { s.rack with
          orders := t.rack.orders, arms := t.rack.arms, headers := t.rack.headers, panels := t.rack.panels }) ∧
    (s.cond.permitted b = false →
      exec (.permissiveInputChange b input level) s = .next { s with cond := c })

/-- The emergency stop halts a NORMAL rack and suspends every line in flow with HALT; its release leaves the rack HALTED (R160 to R163),
until RACK.RESUME, at which a field is at fault before the level is read, ESD_ACTIVE stands while the input is ACTIVE, and the rack is
NORMAL otherwise and nothing else changes (R164). No step but a RACK.RESUME at an INACTIVE input, however its frame comes, and POWER_ON
takes a HALTED rack out of HALTED (R160, R162). The calibration switch only takes its position (R26). -/
def Obligations.EmergencyStopHaltsUntilResume : Prop :=
  (∀ s t : State, step s = .next t → s.cond.mode = .halted →
    t.cond.mode = .halted ∨ ∃ c rest, s.pending = c :: rest ∧
      ((∃ inputs, c = .powerOn inputs) ∨ s.cond.emergencyStop = false ∧
        ((∃ fields, c = .rackResume fields) ∨ (∃ fields, c = .unknownRequest (txt "RACK.RESUME") fields) ∨
          ∃ chars k body, c = .badFrame chars ∧ s.link.receiveAll chars = (k, some body) ∧
            (splitBody body).1 = txt "RACK.RESUME"))) ∧
  ∀ s : State,
    (s.cond.emergencyStop = false → s.cond.mode = .normal →
      ∃ t, exec (.emergencyStopInputChange true) s = .next t ∧
        t.cond = { s.cond with emergencyStop := true, mode := .halted } ∧
        (∀ a, (t.rack.arm a).state.isFlow = false) ∧
        (∀ a, (s.rack.arm a).state.isFlow = true → suspendingFor t.rack a .halt) ∧
        (∀ a, (s.rack.arm a).state.isRunning = false → t.rack.arm a = s.rack.arm a) ∧
        t.rack = { s.rack with arms := t.rack.arms, headers := t.rack.headers, panels := t.rack.panels }) ∧
    (s.cond.mode = .halted → exec (.emergencyStopInputChange true) s = .next { s with cond := { s.cond with emergencyStop := true } }) ∧
    exec (.emergencyStopInputChange false) s = .next { s with cond := { s.cond with emergencyStop := false } } ∧
    (∀ closed, exec (.calSwitchChange closed) s = .next { s with cond := { s.cond with calClosed := closed } }) ∧
    (∀ (f : Text) (fields : List Text), s.takes "RACK.RESUME" (f :: fields) →
      exec (.rackResume (f :: fields)) s = .next (s.answers "RACK.RESUME" (refusal .badField (.field (keyOf f))))) ∧
    (s.takes "RACK.RESUME" [] → s.cond.emergencyStop = true →
      exec (.rackResume []) s = .next (s.answers "RACK.RESUME" (refusal .esdActive .nothing))) ∧
    (s.takes "RACK.RESUME" [] → s.cond.emergencyStop = false →
      exec (.rackResume []) s = .next (State.answers { s with cond := { s.cond with mode := .normal } } "RACK.RESUME"
        (.ok (.changed (decide (s.cond.mode = RackMode.halted))))))

/-! ### The link and the panel lines (chapter 11) -/

/-- The end of a response frees the link; a name the part does not know is refused with the name; a request that comes while a
response is owed, a frame whose check does not agree and characters that open no frame change nothing but the receiver (R178 to
R182). A response is sent as `<`, its body, `*`, the four capital digits of the check over that body, CR and LF, the body opening with the
request name, then the status word (R179, R182); no command leaves another frame in the link. -/
def Obligations.LinkEventsComplete : Prop :=
  (∀ s : State, exec .responseSent s =
    .next { s with link := { s.link with responseOwed := false, response := none }, calBefore := none }) ∧
  (∀ (s : State) (name : Text) (fields : List Text),
    fitsFrame name fields = true → s.link.responseOwed = false → (∀ r ∈ knownRequests, r.1 ≠ name) →
    exec (.unknownRequest name fields) s =
      .next { s with link := s.link.toHunt.respond name (refusal .unknownRequest (.text name)) }) ∧
  (∀ (s : State) (i : Instr) (name : Text), i.requestName = some name → s.link.responseOwed = true →
    exec i s = .next { s with link := s.link.toHunt }) ∧
  (∀ (s : State) (body digits : Text),
    (∀ ch ∈ body, bodyChar ch = true) → body.length < 2041 → digits.length = 4 → (∀ ch ∈ digits, (hexValue ch).isSome = true) →
    hexNumber digits ≠ (frameCheck body).toNat →
    exec (.badFrame ('>' :: body ++ '*' :: digits ++ [charCR, charLF])) s = .next { s with link := s.link.toHunt }) ∧
  (∀ (s : State) (chars : Text), s.link.rx = .hunt → (∀ ch ∈ chars, ch ≠ '>') → exec (.badFrame chars) s = .next s) ∧
  (∀ (k : Link) (name : Text) (reply : Reply), ∃ fields digits x,
    (k.respond name reply).response = some x ∧ x.name = name ∧ x.reply = reply ∧
    x.frame = '<' :: responseBody name reply ++ '*' :: digits ++ [charCR, charLF] ∧
    responseBody name reply = name ++ ';' :: (match reply with | .ok _ => txt "OK" | .refused why => why.status.text) ++ fields ∧
    digits.length = 4 ∧ (∀ ch ∈ digits, ch ∈ txt "0123456789ABCDEF") ∧
    hexNumber digits = (frameCheck (responseBody name reply)).toNat) ∧
  ∀ (i : Instr) (s t : State) (x : Response), exec i s = .next t →
    (∀ y, s.link.response = some y → y.frame = responseFrame y.name y.reply) →
    t.link.response = some x → x.frame = responseFrame x.name x.reply

/-- Characters that open no message, a message whose name is none of the three, and a CARD, START or STOP with a field that is missing,
malformed, out of range or one too many, change nothing but the receiver (R187). -/
def Obligations.PanelMessageIsDiscarded : Prop :=
  (∀ (b : BayId) (s : State) (chars : Text), (s.panelRx[b]).state = .hunt → (∀ ch ∈ chars, ch ≠ '>') →
    exec (.panelMessageDiscarded b chars) s = .next s) ∧
  (∀ (b : BayId) (s : State) (body : Text),
    (∀ ch ∈ body, printable ch = true ∧ ch ≠ '>') → body.length ≤ 60 →
    ((splitBody body).1 ∉ [txt "CARD", txt "START", txt "STOP"] ∨
      ∃ name field hi key, (name, field, hi) ∈ [("CARD", "permit", 99999999), ("START", "arm", 8), ("STOP", "arm", 8)] ∧
        (splitBody body).1 = txt name ∧
        checkPlain [plainField field (.nat 1 hi)] [field] (splitBody body).2 = .error key) →
    exec (.panelMessageDiscarded b ('>' :: body ++ [charCR, charLF])) s = .next (s.heard b)) ∧
  (∀ (b : BayId) (s : State) (name field : String) (hi : Nat) (body : Text),
    (name, field, hi) ∈ [("CARD", "permit", 99999999), ("START", "arm", 8), ("STOP", "arm", 8)] →
    (∀ ch ∈ body, printable ch = true ∧ ch ≠ '>') → body.length ≤ 60 →
    (body = txt name ∨
      (∃ value, readNat value = none ∧ body = txt name ++ ';' :: txt field ++ '=' :: value) ∨
      (∃ v, (v = 0 ∨ hi < v) ∧ body = txt name ++ ';' :: txt field ++ '=' :: natText v) ∨
      ∃ value extra, body = txt name ++ ';' :: txt field ++ '=' :: value ++ ';' :: extra) →
    exec (.panelMessageDiscarded b ('>' :: body ++ [charCR, charLF])) s = .next (s.heard b)) ∧
  ∀ (b : BayId) (s : State) (permit : Nat), permit = 0 ∨ 99999999 < permit → exec (.card b permit) s = .next (s.heard b)

/-- A rack restart leaves no arm in flow, no grant and no wait; every READY arm's queue is emptied, a suspending close keeps its intent and
has restart pending, and IDLE, ALARM and OUT_OF_SERVICE arms are untouched; calibration, mode, day, recipes and inputs stay (R120, R121,
R132, R186). A QUEUED line returns to PENDING without arm and slots, a SUSPENDED one is INTERRUPTED with cause RESTART and its arm IDLE or in
ALARM, an ACTIVE one stays alone in its arm's queue, and no other line changes. An order admitted at a bay then completes when no line is
left, returns to BOOKED and frees the bay when some line is PENDING and none ACTIVE, and stays ADMITTED while one is ACTIVE (R95 to R98);
these clauses hold where queues and bays match the order table, as every step keeps them. -/
def Obligations.RestartEndsLoading : Prop :=
  ∀ s : State, s.takes "RACK.RESTART" [] →
    ∃ t n, exec (.rackRestart []) s = .next t ∧ t.cond = s.cond ∧
      t.link = s.link.toHunt.respond (txt "RACK.RESTART") (.ok (.restarted
        (allArms.filter (fun a => decide ((s.rack.arm a).state = .suspended))).length
        (s.rack.allLines.filter (fun l => decide (l.state = .queued))).length n)) ∧
      n = (allArms.filter (fun a => decide ((t.rack.arm a).state = .closing))).length ∧
      (∀ a, (t.rack.arm a).state.isFlow = false ∧ (t.rack.arm a).config = (s.rack.arm a).config ∧
        ((s.rack.arm a).state.isFlow = true →
          (t.rack.arm a).state = .closing ∧ (t.rack.arm a).intent = some .interrupt) ∧
        ((s.rack.arm a).state = .closing → (t.rack.arm a).state = .closing ∧ (t.rack.arm a).intent = (s.rack.arm a).intent ∧
          (t.rack.arm a).restartPending = ((s.rack.arm a).restartPending || decide ((s.rack.arm a).intent = some .suspend))) ∧
        ((s.rack.arm a).state = .ready → (t.rack.arm a).queue = [] ∧
          ((t.rack.arm a).state = .idle ∨ (t.rack.arm a).state = .alarm)) ∧
        ((s.rack.arm a).state = .idle ∨ (s.rack.arm a).state = .alarm ∨ (s.rack.arm a).state = .outOfService →
          t.rack.arm a = s.rack.arm a)) ∧
      (∀ h, t.rack.header h = { s.rack.header h with held := [], waiting := [] }) ∧
      t.rack.channels = s.rack.channels ∧
      (s.rack.queuesMatch →
        (∀ (a : ArmId) (e : QueueEntry) (l : Line), e ∈ (s.rack.arm a).queue → s.rack.line? e.order e.line = some l →
          (l.state = .queued → e ∉ (t.rack.arm a).queue ∧ t.rack.line? e.order e.line = some { l with
            state := .pending, arm := none, doses := l.doses.map (fun d => { d with slot := none }) }) ∧
          (l.state = .suspended → (t.rack.arm a).queue = [] ∧
            ((t.rack.arm a).state = .idle ∨ (t.rack.arm a).state = .alarm) ∧
            ∃ l', t.rack.line? e.order e.line = some l' ∧ l'.state = .interrupted ∧ l'.stopCause = some .restart ∧
              l'.standardLitres = some ((l.standard + 500000) / 1000000)) ∧
          (l.state = .active → (t.rack.arm a).queue = [e])) ∧
        ∀ (o m : Nat) (l : Line), s.rack.line? o m = some l → l.state ≠ .queued → l.state ≠ .suspended →
          t.rack.line? o m = some l) ∧
      (s.rack.queuesMatch → s.rack.baysMatch → ∀ (b : BayId) (x : Admission) (o : Order),
        (s.rack.bay b).admitted = some x → t.rack.order? x.order = some o →
        ((∀ l ∈ o.lines, l.state.isFinal = true) →
          (o.state = .complete ∨ o.state = .void) ∧ o.day = some s.cond.day ∧ (t.rack.bay b).admitted = none) ∧
        ((∃ l ∈ o.lines, l.state = .pending) → (∀ l ∈ o.lines, l.state ≠ .active) →
          o.state = .booked ∧ (t.rack.bay b).admitted = none) ∧
        ((∃ l ∈ o.lines, l.state = .active) → o.state = .admitted ∧ t.rack.bay b = s.rack.bay b))

/-! ### The whole part -/

/-- A request that is refused changes nothing: everything but the link stands as before (R182). -/
def Obligations.RefusalChangesNothing : Prop :=
  ∀ (i : Instr) (s t : State) (x : Response) (why : Refuse),
    isRequest i → exec i s = .next t → t.link.response = some x → x.reply = .refused why →
    t = { s with link := t.link }

/-- No step ever leaves an arm in a flow state at a bay that is BLOCKED or in a HALTED rack (R104, R105, R106, R157, R161). -/
def Obligations.FlowNeedsPermission : Prop :=
  ∀ s t : State, step s = .next t → flowPermitted s.cond s.rack → flowPermitted t.cond t.rack

/-- Every step keeps the held-grant sets and the waiting lists in agreement with the arms: a set holds exactly the arms on its header in
HIGH, a list exactly those in WAIT_GRANT, in order of priority and joining, and no arm waits while its header has room (R126 to R129,
R131, R132). -/
def Obligations.GrantsMatchStates : Prop :=
  ∀ s t : State, step s = .next t → s.rack.grantsMatch → t.rack.grantsMatch

/-- Every step keeps the arms' queues in agreement with the order table: each entry's line is assigned to the arm and QUEUED, or ACTIVE or
SUSPENDED as its arm is, each such line has its entry, and no finished order holds a line that is not final (R102, sections 5.2, 5.3, 6.1,
6.3). Given that, it keeps the bays in agreement with the ADMITTED orders and their permits (R84, R88, R97). -/
def Obligations.QueuesMatchLines : Prop :=
  ∀ s t : State, step s = .next t → s.rack.queuesMatch →
    t.rack.queuesMatch ∧ (s.rack.baysMatch → t.rack.baysMatch)

/-- Every step keeps the notes in agreement with the orders: the waiting-notes list holds exactly the COMPLETE orders, each with a number
from 1 to 999,999 that no other order holds, and finished orders alone hold a completion day (R96, R167, R168). -/
def Obligations.NotesMatchOrders : Prop :=
  ∀ s t : State, step s = .next t → s.rack.notesMatch → t.rack.notesMatch

/-- Every step keeps each account's reserved equal to the sum of the presets of the lines that name it and are not final (R63), given
the agreement of queues and lines, which every step keeps too. -/
def Obligations.ReservedMatchesLines : Prop :=
  ∀ s t : State, step s = .next t → s.rack.queuesMatch → s.rack.reservedMatches → t.rack.reservedMatches

/-- Every step keeps each additive's reserved equal to what remains reserved for lines that are not final, and its in flight equal to the
strokes in flight and within its stock, given the agreement of queues and lines, which every step keeps too; with them it keeps each channel
serving an entry of its own slot's additive (R88, R139, R144, R149, R152, R154). -/
def Obligations.AdditivesMatchLines : Prop :=
  ∀ s t : State, step s = .next t → s.rack.queuesMatch → s.rack.additivesMatch → t.rack.additivesMatch

/-- A request put in a frame with its check, and received while no response is owed, is the same request again (R178, R179, R181). -/
def Obligations.FrameCarriesCommand : Prop :=
  ∀ (i : Instr) (body : Text) (k : Link),
    i.wellFormed = true → bodyOfCommand i = some body → k.responseOwed = false →
    (k.receiveAll (frameText '>' body)).2.bind commandOfBody = some i
end

