-- ==== Sys2Proof/Laws/State.lean ====
section
/-! SUPPORT. What each update of the rack leaves as it was: one lemma per field and per reading, each true by rfl. -/

namespace Sys2Proof.Machine

variable (r : Rack)

@[simp] theorem Rack.setArm_permits (a : ArmId) (x : Arm) : (r.setArm a x).permits = r.permits := (rfl)
@[simp] theorem Rack.setArm_units (a : ArmId) (x : Arm) : (r.setArm a x).units = r.units := (rfl)
@[simp] theorem Rack.setArm_accounts (a : ArmId) (x : Arm) : (r.setArm a x).accounts = r.accounts := (rfl)
@[simp] theorem Rack.setArm_additives (a : ArmId) (x : Arm) : (r.setArm a x).additives = r.additives := (rfl)
@[simp] theorem Rack.setArm_orders (a : ArmId) (x : Arm) : (r.setArm a x).orders = r.orders := (rfl)
@[simp] theorem Rack.setArm_channels (a : ArmId) (x : Arm) : (r.setArm a x).channels = r.channels := (rfl)
@[simp] theorem Rack.setArm_injectors (a : ArmId) (x : Arm) : (r.setArm a x).injectors = r.injectors := (rfl)
@[simp] theorem Rack.setArm_headers (a : ArmId) (x : Arm) : (r.setArm a x).headers = r.headers := (rfl)
@[simp] theorem Rack.setArm_bays (a : ArmId) (x : Arm) : (r.setArm a x).bays = r.bays := (rfl)
@[simp] theorem Rack.setArm_panels (a : ArmId) (x : Arm) : (r.setArm a x).panels = r.panels := (rfl)
@[simp] theorem Rack.setArm_noteCounter (a : ArmId) (x : Arm) : (r.setArm a x).noteCounter = r.noteCounter := (rfl)
@[simp] theorem Rack.setArm_notes (a : ArmId) (x : Arm) : (r.setArm a x).notes = r.notes := (rfl)
@[simp] theorem Rack.setArm_channel_of (a : ArmId) (x : Arm) (b : ArmId) :
    (r.setArm a x).channel b = r.channel b := (rfl)
@[simp] theorem Rack.setArm_injector_of (a : ArmId) (x : Arm) (b : ArmId) (t : SlotId) :
    (r.setArm a x).injector b t = r.injector b t := (rfl)
@[simp] theorem Rack.setArm_header_of (a : ArmId) (x : Arm) (g : HeaderId) :
    (r.setArm a x).header g = r.header g := (rfl)
@[simp] theorem Rack.setArm_additive_of (a : ArmId) (x : Arm) (y : AdditiveId) :
    (r.setArm a x).additive y = r.additive y := (rfl)
@[simp] theorem Rack.setArm_bay_of (a : ArmId) (x : Arm) (c : BayId) :
    (r.setArm a x).bay c = r.bay c := (rfl)
@[simp] theorem Rack.setArm_panel_of (a : ArmId) (x : Arm) (c : BayId) :
    (r.setArm a x).panel c = r.panel c := (rfl)
@[simp] theorem Rack.setArm_permit_of (a : ArmId) (x : Arm) (k : Nat) :
    (r.setArm a x).permit? k = r.permit? k := (rfl)
@[simp] theorem Rack.setArm_unit_of (a : ArmId) (x : Arm) (k : Nat) :
    (r.setArm a x).unit? k = r.unit? k := (rfl)
@[simp] theorem Rack.setArm_account_of (a : ArmId) (x : Arm) (k : Nat) :
    (r.setArm a x).account? k = r.account? k := (rfl)
@[simp] theorem Rack.setArm_order_of (a : ArmId) (x : Arm) (k : Nat) :
    (r.setArm a x).order? k = r.order? k := (rfl)
@[simp] theorem Rack.setArm_line_of (a : ArmId) (x : Arm) (k l : Nat) :
    (r.setArm a x).line? k l = r.line? k l := (rfl)

@[simp] theorem Rack.modArm_permits (a : ArmId) (f : Arm → Arm) : (r.modArm a f).permits = r.permits := (rfl)
@[simp] theorem Rack.modArm_units (a : ArmId) (f : Arm → Arm) : (r.modArm a f).units = r.units := (rfl)
@[simp] theorem Rack.modArm_accounts (a : ArmId) (f : Arm → Arm) : (r.modArm a f).accounts = r.accounts := (rfl)
@[simp] theorem Rack.modArm_additives (a : ArmId) (f : Arm → Arm) : (r.modArm a f).additives = r.additives := (rfl)
@[simp] theorem Rack.modArm_orders (a : ArmId) (f : Arm → Arm) : (r.modArm a f).orders = r.orders := (rfl)
@[simp] theorem Rack.modArm_channels (a : ArmId) (f : Arm → Arm) : (r.modArm a f).channels = r.channels := (rfl)
@[simp] theorem Rack.modArm_injectors (a : ArmId) (f : Arm → Arm) : (r.modArm a f).injectors = r.injectors := (rfl)
@[simp] theorem Rack.modArm_headers (a : ArmId) (f : Arm → Arm) : (r.modArm a f).headers = r.headers := (rfl)
@[simp] theorem Rack.modArm_bays (a : ArmId) (f : Arm → Arm) : (r.modArm a f).bays = r.bays := (rfl)
@[simp] theorem Rack.modArm_panels (a : ArmId) (f : Arm → Arm) : (r.modArm a f).panels = r.panels := (rfl)
@[simp] theorem Rack.modArm_noteCounter (a : ArmId) (f : Arm → Arm) : (r.modArm a f).noteCounter = r.noteCounter := (rfl)
@[simp] theorem Rack.modArm_notes (a : ArmId) (f : Arm → Arm) : (r.modArm a f).notes = r.notes := (rfl)
@[simp] theorem Rack.modArm_channel_of (a : ArmId) (f : Arm → Arm) (b : ArmId) :
    (r.modArm a f).channel b = r.channel b := (rfl)
@[simp] theorem Rack.modArm_injector_of (a : ArmId) (f : Arm → Arm) (b : ArmId) (t : SlotId) :
    (r.modArm a f).injector b t = r.injector b t := (rfl)
@[simp] theorem Rack.modArm_header_of (a : ArmId) (f : Arm → Arm) (g : HeaderId) :
    (r.modArm a f).header g = r.header g := (rfl)
@[simp] theorem Rack.modArm_additive_of (a : ArmId) (f : Arm → Arm) (y : AdditiveId) :
    (r.modArm a f).additive y = r.additive y := (rfl)
@[simp] theorem Rack.modArm_bay_of (a : ArmId) (f : Arm → Arm) (c : BayId) :
    (r.modArm a f).bay c = r.bay c := (rfl)
@[simp] theorem Rack.modArm_panel_of (a : ArmId) (f : Arm → Arm) (c : BayId) :
    (r.modArm a f).panel c = r.panel c := (rfl)
@[simp] theorem Rack.modArm_permit_of (a : ArmId) (f : Arm → Arm) (k : Nat) :
    (r.modArm a f).permit? k = r.permit? k := (rfl)
@[simp] theorem Rack.modArm_unit_of (a : ArmId) (f : Arm → Arm) (k : Nat) :
    (r.modArm a f).unit? k = r.unit? k := (rfl)
@[simp] theorem Rack.modArm_account_of (a : ArmId) (f : Arm → Arm) (k : Nat) :
    (r.modArm a f).account? k = r.account? k := (rfl)
@[simp] theorem Rack.modArm_order_of (a : ArmId) (f : Arm → Arm) (k : Nat) :
    (r.modArm a f).order? k = r.order? k := (rfl)
@[simp] theorem Rack.modArm_line_of (a : ArmId) (f : Arm → Arm) (k l : Nat) :
    (r.modArm a f).line? k l = r.line? k l := (rfl)

@[simp] theorem Rack.modChannel_permits (a : ArmId) (f : Channel → Channel) : (r.modChannel a f).permits = r.permits := (rfl)
@[simp] theorem Rack.modChannel_units (a : ArmId) (f : Channel → Channel) : (r.modChannel a f).units = r.units := (rfl)
@[simp] theorem Rack.modChannel_accounts (a : ArmId) (f : Channel → Channel) : (r.modChannel a f).accounts = r.accounts := (rfl)
@[simp] theorem Rack.modChannel_additives (a : ArmId) (f : Channel → Channel) : (r.modChannel a f).additives = r.additives := (rfl)
@[simp] theorem Rack.modChannel_orders (a : ArmId) (f : Channel → Channel) : (r.modChannel a f).orders = r.orders := (rfl)
@[simp] theorem Rack.modChannel_arms (a : ArmId) (f : Channel → Channel) : (r.modChannel a f).arms = r.arms := (rfl)
@[simp] theorem Rack.modChannel_injectors (a : ArmId) (f : Channel → Channel) : (r.modChannel a f).injectors = r.injectors := (rfl)
@[simp] theorem Rack.modChannel_headers (a : ArmId) (f : Channel → Channel) : (r.modChannel a f).headers = r.headers := (rfl)
@[simp] theorem Rack.modChannel_bays (a : ArmId) (f : Channel → Channel) : (r.modChannel a f).bays = r.bays := (rfl)
@[simp] theorem Rack.modChannel_panels (a : ArmId) (f : Channel → Channel) : (r.modChannel a f).panels = r.panels := (rfl)
@[simp] theorem Rack.modChannel_noteCounter (a : ArmId) (f : Channel → Channel) : (r.modChannel a f).noteCounter = r.noteCounter := (rfl)
@[simp] theorem Rack.modChannel_notes (a : ArmId) (f : Channel → Channel) : (r.modChannel a f).notes = r.notes := (rfl)
@[simp] theorem Rack.modChannel_arm_of (a : ArmId) (f : Channel → Channel) (b : ArmId) :
    (r.modChannel a f).arm b = r.arm b := (rfl)
@[simp] theorem Rack.modChannel_injector_of (a : ArmId) (f : Channel → Channel) (b : ArmId) (t : SlotId) :
    (r.modChannel a f).injector b t = r.injector b t := (rfl)
@[simp] theorem Rack.modChannel_header_of (a : ArmId) (f : Channel → Channel) (g : HeaderId) :
    (r.modChannel a f).header g = r.header g := (rfl)
@[simp] theorem Rack.modChannel_additive_of (a : ArmId) (f : Channel → Channel) (y : AdditiveId) :
    (r.modChannel a f).additive y = r.additive y := (rfl)
@[simp] theorem Rack.modChannel_bay_of (a : ArmId) (f : Channel → Channel) (c : BayId) :
    (r.modChannel a f).bay c = r.bay c := (rfl)
@[simp] theorem Rack.modChannel_panel_of (a : ArmId) (f : Channel → Channel) (c : BayId) :
    (r.modChannel a f).panel c = r.panel c := (rfl)
@[simp] theorem Rack.modChannel_permit_of (a : ArmId) (f : Channel → Channel) (k : Nat) :
    (r.modChannel a f).permit? k = r.permit? k := (rfl)
@[simp] theorem Rack.modChannel_unit_of (a : ArmId) (f : Channel → Channel) (k : Nat) :
    (r.modChannel a f).unit? k = r.unit? k := (rfl)
@[simp] theorem Rack.modChannel_account_of (a : ArmId) (f : Channel → Channel) (k : Nat) :
    (r.modChannel a f).account? k = r.account? k := (rfl)
@[simp] theorem Rack.modChannel_order_of (a : ArmId) (f : Channel → Channel) (k : Nat) :
    (r.modChannel a f).order? k = r.order? k := (rfl)
@[simp] theorem Rack.modChannel_line_of (a : ArmId) (f : Channel → Channel) (k l : Nat) :
    (r.modChannel a f).line? k l = r.line? k l := (rfl)
@[simp] theorem Rack.modChannel_headerOf_of (a : ArmId) (f : Channel → Channel) (b : ArmId) :
    (r.modChannel a f).headerOf b = r.headerOf b := (rfl)
@[simp] theorem Rack.modChannel_slotConfig_of (a : ArmId) (f : Channel → Channel) (b : ArmId) (t : SlotId) :
    (r.modChannel a f).slotConfig b t = r.slotConfig b t := (rfl)
@[simp] theorem Rack.modChannel_currentLine_of (a : ArmId) (f : Channel → Channel) (b : ArmId) :
    (r.modChannel a f).currentLine b = r.currentLine b := (rfl)

@[simp] theorem Rack.modInjector_permits (a : ArmId) (s : SlotId) (f : Injector → Injector) : (r.modInjector a s f).permits = r.permits := (rfl)
@[simp] theorem Rack.modInjector_units (a : ArmId) (s : SlotId) (f : Injector → Injector) : (r.modInjector a s f).units = r.units := (rfl)
@[simp] theorem Rack.modInjector_accounts (a : ArmId) (s : SlotId) (f : Injector → Injector) : (r.modInjector a s f).accounts = r.accounts := (rfl)
@[simp] theorem Rack.modInjector_additives (a : ArmId) (s : SlotId) (f : Injector → Injector) : (r.modInjector a s f).additives = r.additives := (rfl)
@[simp] theorem Rack.modInjector_orders (a : ArmId) (s : SlotId) (f : Injector → Injector) : (r.modInjector a s f).orders = r.orders := (rfl)
@[simp] theorem Rack.modInjector_channels (a : ArmId) (s : SlotId) (f : Injector → Injector) : (r.modInjector a s f).channels = r.channels := (rfl)
@[simp] theorem Rack.modInjector_arms (a : ArmId) (s : SlotId) (f : Injector → Injector) : (r.modInjector a s f).arms = r.arms := (rfl)
@[simp] theorem Rack.modInjector_headers (a : ArmId) (s : SlotId) (f : Injector → Injector) : (r.modInjector a s f).headers = r.headers := (rfl)
@[simp] theorem Rack.modInjector_bays (a : ArmId) (s : SlotId) (f : Injector → Injector) : (r.modInjector a s f).bays = r.bays := (rfl)
@[simp] theorem Rack.modInjector_panels (a : ArmId) (s : SlotId) (f : Injector → Injector) : (r.modInjector a s f).panels = r.panels := (rfl)
@[simp] theorem Rack.modInjector_noteCounter (a : ArmId) (s : SlotId) (f : Injector → Injector) : (r.modInjector a s f).noteCounter = r.noteCounter := (rfl)
@[simp] theorem Rack.modInjector_notes (a : ArmId) (s : SlotId) (f : Injector → Injector) : (r.modInjector a s f).notes = r.notes := (rfl)
@[simp] theorem Rack.modInjector_arm_of (a : ArmId) (s : SlotId) (f : Injector → Injector) (b : ArmId) :
    (r.modInjector a s f).arm b = r.arm b := (rfl)
@[simp] theorem Rack.modInjector_channel_of (a : ArmId) (s : SlotId) (f : Injector → Injector) (b : ArmId) :
    (r.modInjector a s f).channel b = r.channel b := (rfl)
@[simp] theorem Rack.modInjector_header_of (a : ArmId) (s : SlotId) (f : Injector → Injector) (g : HeaderId) :
    (r.modInjector a s f).header g = r.header g := (rfl)
@[simp] theorem Rack.modInjector_additive_of (a : ArmId) (s : SlotId) (f : Injector → Injector) (y : AdditiveId) :
    (r.modInjector a s f).additive y = r.additive y := (rfl)
@[simp] theorem Rack.modInjector_bay_of (a : ArmId) (s : SlotId) (f : Injector → Injector) (c : BayId) :
    (r.modInjector a s f).bay c = r.bay c := (rfl)
@[simp] theorem Rack.modInjector_panel_of (a : ArmId) (s : SlotId) (f : Injector → Injector) (c : BayId) :
    (r.modInjector a s f).panel c = r.panel c := (rfl)
@[simp] theorem Rack.modInjector_permit_of (a : ArmId) (s : SlotId) (f : Injector → Injector) (k : Nat) :
    (r.modInjector a s f).permit? k = r.permit? k := (rfl)
@[simp] theorem Rack.modInjector_unit_of (a : ArmId) (s : SlotId) (f : Injector → Injector) (k : Nat) :
    (r.modInjector a s f).unit? k = r.unit? k := (rfl)
@[simp] theorem Rack.modInjector_account_of (a : ArmId) (s : SlotId) (f : Injector → Injector) (k : Nat) :
    (r.modInjector a s f).account? k = r.account? k := (rfl)
@[simp] theorem Rack.modInjector_order_of (a : ArmId) (s : SlotId) (f : Injector → Injector) (k : Nat) :
    (r.modInjector a s f).order? k = r.order? k := (rfl)
@[simp] theorem Rack.modInjector_line_of (a : ArmId) (s : SlotId) (f : Injector → Injector) (k l : Nat) :
    (r.modInjector a s f).line? k l = r.line? k l := (rfl)
@[simp] theorem Rack.modInjector_headerOf_of (a : ArmId) (s : SlotId) (f : Injector → Injector) (b : ArmId) :
    (r.modInjector a s f).headerOf b = r.headerOf b := (rfl)
@[simp] theorem Rack.modInjector_slotConfig_of (a : ArmId) (s : SlotId) (f : Injector → Injector) (b : ArmId) (t : SlotId) :
    (r.modInjector a s f).slotConfig b t = r.slotConfig b t := (rfl)
@[simp] theorem Rack.modInjector_currentLine_of (a : ArmId) (s : SlotId) (f : Injector → Injector) (b : ArmId) :
    (r.modInjector a s f).currentLine b = r.currentLine b := (rfl)

@[simp] theorem Rack.modInjectors_permits (a : ArmId) (f : Injector → Injector) : (r.modInjectors a f).permits = r.permits := (rfl)
@[simp] theorem Rack.modInjectors_units (a : ArmId) (f : Injector → Injector) : (r.modInjectors a f).units = r.units := (rfl)
@[simp] theorem Rack.modInjectors_accounts (a : ArmId) (f : Injector → Injector) : (r.modInjectors a f).accounts = r.accounts := (rfl)
@[simp] theorem Rack.modInjectors_additives (a : ArmId) (f : Injector → Injector) : (r.modInjectors a f).additives = r.additives := (rfl)
@[simp] theorem Rack.modInjectors_orders (a : ArmId) (f : Injector → Injector) : (r.modInjectors a f).orders = r.orders := (rfl)
@[simp] theorem Rack.modInjectors_channels (a : ArmId) (f : Injector → Injector) : (r.modInjectors a f).channels = r.channels := (rfl)
@[simp] theorem Rack.modInjectors_arms (a : ArmId) (f : Injector → Injector) : (r.modInjectors a f).arms = r.arms := (rfl)
@[simp] theorem Rack.modInjectors_headers (a : ArmId) (f : Injector → Injector) : (r.modInjectors a f).headers = r.headers := (rfl)
@[simp] theorem Rack.modInjectors_bays (a : ArmId) (f : Injector → Injector) : (r.modInjectors a f).bays = r.bays := (rfl)
@[simp] theorem Rack.modInjectors_panels (a : ArmId) (f : Injector → Injector) : (r.modInjectors a f).panels = r.panels := (rfl)
@[simp] theorem Rack.modInjectors_noteCounter (a : ArmId) (f : Injector → Injector) : (r.modInjectors a f).noteCounter = r.noteCounter := (rfl)
@[simp] theorem Rack.modInjectors_notes (a : ArmId) (f : Injector → Injector) : (r.modInjectors a f).notes = r.notes := (rfl)
@[simp] theorem Rack.modInjectors_arm_of (a : ArmId) (f : Injector → Injector) (b : ArmId) :
    (r.modInjectors a f).arm b = r.arm b := (rfl)
@[simp] theorem Rack.modInjectors_channel_of (a : ArmId) (f : Injector → Injector) (b : ArmId) :
    (r.modInjectors a f).channel b = r.channel b := (rfl)
@[simp] theorem Rack.modInjectors_header_of (a : ArmId) (f : Injector → Injector) (g : HeaderId) :
    (r.modInjectors a f).header g = r.header g := (rfl)
@[simp] theorem Rack.modInjectors_additive_of (a : ArmId) (f : Injector → Injector) (y : AdditiveId) :
    (r.modInjectors a f).additive y = r.additive y := (rfl)
@[simp] theorem Rack.modInjectors_bay_of (a : ArmId) (f : Injector → Injector) (c : BayId) :
    (r.modInjectors a f).bay c = r.bay c := (rfl)
@[simp] theorem Rack.modInjectors_panel_of (a : ArmId) (f : Injector → Injector) (c : BayId) :
    (r.modInjectors a f).panel c = r.panel c := (rfl)
@[simp] theorem Rack.modInjectors_permit_of (a : ArmId) (f : Injector → Injector) (k : Nat) :
    (r.modInjectors a f).permit? k = r.permit? k := (rfl)
@[simp] theorem Rack.modInjectors_unit_of (a : ArmId) (f : Injector → Injector) (k : Nat) :
    (r.modInjectors a f).unit? k = r.unit? k := (rfl)
@[simp] theorem Rack.modInjectors_account_of (a : ArmId) (f : Injector → Injector) (k : Nat) :
    (r.modInjectors a f).account? k = r.account? k := (rfl)
@[simp] theorem Rack.modInjectors_order_of (a : ArmId) (f : Injector → Injector) (k : Nat) :
    (r.modInjectors a f).order? k = r.order? k := (rfl)
@[simp] theorem Rack.modInjectors_line_of (a : ArmId) (f : Injector → Injector) (k l : Nat) :
    (r.modInjectors a f).line? k l = r.line? k l := (rfl)
@[simp] theorem Rack.modInjectors_headerOf_of (a : ArmId) (f : Injector → Injector) (b : ArmId) :
    (r.modInjectors a f).headerOf b = r.headerOf b := (rfl)
@[simp] theorem Rack.modInjectors_slotConfig_of (a : ArmId) (f : Injector → Injector) (b : ArmId) (t : SlotId) :
    (r.modInjectors a f).slotConfig b t = r.slotConfig b t := (rfl)
@[simp] theorem Rack.modInjectors_currentLine_of (a : ArmId) (f : Injector → Injector) (b : ArmId) :
    (r.modInjectors a f).currentLine b = r.currentLine b := (rfl)

@[simp] theorem Rack.modHeader_permits (h : HeaderId) (f : Header → Header) : (r.modHeader h f).permits = r.permits := (rfl)
@[simp] theorem Rack.modHeader_units (h : HeaderId) (f : Header → Header) : (r.modHeader h f).units = r.units := (rfl)
@[simp] theorem Rack.modHeader_accounts (h : HeaderId) (f : Header → Header) : (r.modHeader h f).accounts = r.accounts := (rfl)
@[simp] theorem Rack.modHeader_additives (h : HeaderId) (f : Header → Header) : (r.modHeader h f).additives = r.additives := (rfl)
@[simp] theorem Rack.modHeader_orders (h : HeaderId) (f : Header → Header) : (r.modHeader h f).orders = r.orders := (rfl)
@[simp] theorem Rack.modHeader_channels (h : HeaderId) (f : Header → Header) : (r.modHeader h f).channels = r.channels := (rfl)
@[simp] theorem Rack.modHeader_arms (h : HeaderId) (f : Header → Header) : (r.modHeader h f).arms = r.arms := (rfl)
@[simp] theorem Rack.modHeader_injectors (h : HeaderId) (f : Header → Header) : (r.modHeader h f).injectors = r.injectors := (rfl)
@[simp] theorem Rack.modHeader_bays (h : HeaderId) (f : Header → Header) : (r.modHeader h f).bays = r.bays := (rfl)
@[simp] theorem Rack.modHeader_panels (h : HeaderId) (f : Header → Header) : (r.modHeader h f).panels = r.panels := (rfl)
@[simp] theorem Rack.modHeader_noteCounter (h : HeaderId) (f : Header → Header) : (r.modHeader h f).noteCounter = r.noteCounter := (rfl)
@[simp] theorem Rack.modHeader_notes (h : HeaderId) (f : Header → Header) : (r.modHeader h f).notes = r.notes := (rfl)
@[simp] theorem Rack.modHeader_arm_of (h : HeaderId) (f : Header → Header) (b : ArmId) :
    (r.modHeader h f).arm b = r.arm b := (rfl)
@[simp] theorem Rack.modHeader_channel_of (h : HeaderId) (f : Header → Header) (b : ArmId) :
    (r.modHeader h f).channel b = r.channel b := (rfl)
@[simp] theorem Rack.modHeader_injector_of (h : HeaderId) (f : Header → Header) (b : ArmId) (t : SlotId) :
    (r.modHeader h f).injector b t = r.injector b t := (rfl)
@[simp] theorem Rack.modHeader_additive_of (h : HeaderId) (f : Header → Header) (y : AdditiveId) :
    (r.modHeader h f).additive y = r.additive y := (rfl)
@[simp] theorem Rack.modHeader_bay_of (h : HeaderId) (f : Header → Header) (c : BayId) :
    (r.modHeader h f).bay c = r.bay c := (rfl)
@[simp] theorem Rack.modHeader_panel_of (h : HeaderId) (f : Header → Header) (c : BayId) :
    (r.modHeader h f).panel c = r.panel c := (rfl)
@[simp] theorem Rack.modHeader_permit_of (h : HeaderId) (f : Header → Header) (k : Nat) :
    (r.modHeader h f).permit? k = r.permit? k := (rfl)
@[simp] theorem Rack.modHeader_unit_of (h : HeaderId) (f : Header → Header) (k : Nat) :
    (r.modHeader h f).unit? k = r.unit? k := (rfl)
@[simp] theorem Rack.modHeader_account_of (h : HeaderId) (f : Header → Header) (k : Nat) :
    (r.modHeader h f).account? k = r.account? k := (rfl)
@[simp] theorem Rack.modHeader_order_of (h : HeaderId) (f : Header → Header) (k : Nat) :
    (r.modHeader h f).order? k = r.order? k := (rfl)
@[simp] theorem Rack.modHeader_line_of (h : HeaderId) (f : Header → Header) (k l : Nat) :
    (r.modHeader h f).line? k l = r.line? k l := (rfl)
@[simp] theorem Rack.modHeader_headerOf_of (h : HeaderId) (f : Header → Header) (b : ArmId) :
    (r.modHeader h f).headerOf b = r.headerOf b := (rfl)
@[simp] theorem Rack.modHeader_slotConfig_of (h : HeaderId) (f : Header → Header) (b : ArmId) (t : SlotId) :
    (r.modHeader h f).slotConfig b t = r.slotConfig b t := (rfl)
@[simp] theorem Rack.modHeader_currentLine_of (h : HeaderId) (f : Header → Header) (b : ArmId) :
    (r.modHeader h f).currentLine b = r.currentLine b := (rfl)

@[simp] theorem Rack.modAdditive_permits (x : AdditiveId) (f : Additive → Additive) : (r.modAdditive x f).permits = r.permits := (rfl)
@[simp] theorem Rack.modAdditive_units (x : AdditiveId) (f : Additive → Additive) : (r.modAdditive x f).units = r.units := (rfl)
@[simp] theorem Rack.modAdditive_accounts (x : AdditiveId) (f : Additive → Additive) : (r.modAdditive x f).accounts = r.accounts := (rfl)
@[simp] theorem Rack.modAdditive_orders (x : AdditiveId) (f : Additive → Additive) : (r.modAdditive x f).orders = r.orders := (rfl)
@[simp] theorem Rack.modAdditive_channels (x : AdditiveId) (f : Additive → Additive) : (r.modAdditive x f).channels = r.channels := (rfl)
@[simp] theorem Rack.modAdditive_arms (x : AdditiveId) (f : Additive → Additive) : (r.modAdditive x f).arms = r.arms := (rfl)
@[simp] theorem Rack.modAdditive_injectors (x : AdditiveId) (f : Additive → Additive) : (r.modAdditive x f).injectors = r.injectors := (rfl)
@[simp] theorem Rack.modAdditive_headers (x : AdditiveId) (f : Additive → Additive) : (r.modAdditive x f).headers = r.headers := (rfl)
@[simp] theorem Rack.modAdditive_bays (x : AdditiveId) (f : Additive → Additive) : (r.modAdditive x f).bays = r.bays := (rfl)
@[simp] theorem Rack.modAdditive_panels (x : AdditiveId) (f : Additive → Additive) : (r.modAdditive x f).panels = r.panels := (rfl)
@[simp] theorem Rack.modAdditive_noteCounter (x : AdditiveId) (f : Additive → Additive) : (r.modAdditive x f).noteCounter = r.noteCounter := (rfl)
@[simp] theorem Rack.modAdditive_notes (x : AdditiveId) (f : Additive → Additive) : (r.modAdditive x f).notes = r.notes := (rfl)
@[simp] theorem Rack.modAdditive_arm_of (x : AdditiveId) (f : Additive → Additive) (b : ArmId) :
    (r.modAdditive x f).arm b = r.arm b := (rfl)
@[simp] theorem Rack.modAdditive_channel_of (x : AdditiveId) (f : Additive → Additive) (b : ArmId) :
    (r.modAdditive x f).channel b = r.channel b := (rfl)
@[simp] theorem Rack.modAdditive_injector_of (x : AdditiveId) (f : Additive → Additive) (b : ArmId) (t : SlotId) :
    (r.modAdditive x f).injector b t = r.injector b t := (rfl)
@[simp] theorem Rack.modAdditive_header_of (x : AdditiveId) (f : Additive → Additive) (g : HeaderId) :
    (r.modAdditive x f).header g = r.header g := (rfl)
@[simp] theorem Rack.modAdditive_bay_of (x : AdditiveId) (f : Additive → Additive) (c : BayId) :
    (r.modAdditive x f).bay c = r.bay c := (rfl)
@[simp] theorem Rack.modAdditive_panel_of (x : AdditiveId) (f : Additive → Additive) (c : BayId) :
    (r.modAdditive x f).panel c = r.panel c := (rfl)
@[simp] theorem Rack.modAdditive_permit_of (x : AdditiveId) (f : Additive → Additive) (k : Nat) :
    (r.modAdditive x f).permit? k = r.permit? k := (rfl)
@[simp] theorem Rack.modAdditive_unit_of (x : AdditiveId) (f : Additive → Additive) (k : Nat) :
    (r.modAdditive x f).unit? k = r.unit? k := (rfl)
@[simp] theorem Rack.modAdditive_account_of (x : AdditiveId) (f : Additive → Additive) (k : Nat) :
    (r.modAdditive x f).account? k = r.account? k := (rfl)
@[simp] theorem Rack.modAdditive_order_of (x : AdditiveId) (f : Additive → Additive) (k : Nat) :
    (r.modAdditive x f).order? k = r.order? k := (rfl)
@[simp] theorem Rack.modAdditive_line_of (x : AdditiveId) (f : Additive → Additive) (k l : Nat) :
    (r.modAdditive x f).line? k l = r.line? k l := (rfl)
@[simp] theorem Rack.modAdditive_headerOf_of (x : AdditiveId) (f : Additive → Additive) (b : ArmId) :
    (r.modAdditive x f).headerOf b = r.headerOf b := (rfl)
@[simp] theorem Rack.modAdditive_slotConfig_of (x : AdditiveId) (f : Additive → Additive) (b : ArmId) (t : SlotId) :
    (r.modAdditive x f).slotConfig b t = r.slotConfig b t := (rfl)
@[simp] theorem Rack.modAdditive_currentLine_of (x : AdditiveId) (f : Additive → Additive) (b : ArmId) :
    (r.modAdditive x f).currentLine b = r.currentLine b := (rfl)

@[simp] theorem Rack.modBay_permits (w : BayId) (f : Bay → Bay) : (r.modBay w f).permits = r.permits := (rfl)
@[simp] theorem Rack.modBay_units (w : BayId) (f : Bay → Bay) : (r.modBay w f).units = r.units := (rfl)
@[simp] theorem Rack.modBay_accounts (w : BayId) (f : Bay → Bay) : (r.modBay w f).accounts = r.accounts := (rfl)
@[simp] theorem Rack.modBay_additives (w : BayId) (f : Bay → Bay) : (r.modBay w f).additives = r.additives := (rfl)
@[simp] theorem Rack.modBay_orders (w : BayId) (f : Bay → Bay) : (r.modBay w f).orders = r.orders := (rfl)
@[simp] theorem Rack.modBay_channels (w : BayId) (f : Bay → Bay) : (r.modBay w f).channels = r.channels := (rfl)
@[simp] theorem Rack.modBay_arms (w : BayId) (f : Bay → Bay) : (r.modBay w f).arms = r.arms := (rfl)
@[simp] theorem Rack.modBay_injectors (w : BayId) (f : Bay → Bay) : (r.modBay w f).injectors = r.injectors := (rfl)
@[simp] theorem Rack.modBay_headers (w : BayId) (f : Bay → Bay) : (r.modBay w f).headers = r.headers := (rfl)
@[simp] theorem Rack.modBay_panels (w : BayId) (f : Bay → Bay) : (r.modBay w f).panels = r.panels := (rfl)
@[simp] theorem Rack.modBay_noteCounter (w : BayId) (f : Bay → Bay) : (r.modBay w f).noteCounter = r.noteCounter := (rfl)
@[simp] theorem Rack.modBay_notes (w : BayId) (f : Bay → Bay) : (r.modBay w f).notes = r.notes := (rfl)
@[simp] theorem Rack.modBay_arm_of (w : BayId) (f : Bay → Bay) (b : ArmId) :
    (r.modBay w f).arm b = r.arm b := (rfl)
@[simp] theorem Rack.modBay_channel_of (w : BayId) (f : Bay → Bay) (b : ArmId) :
    (r.modBay w f).channel b = r.channel b := (rfl)
@[simp] theorem Rack.modBay_injector_of (w : BayId) (f : Bay → Bay) (b : ArmId) (t : SlotId) :
    (r.modBay w f).injector b t = r.injector b t := (rfl)
@[simp] theorem Rack.modBay_header_of (w : BayId) (f : Bay → Bay) (g : HeaderId) :
    (r.modBay w f).header g = r.header g := (rfl)
@[simp] theorem Rack.modBay_additive_of (w : BayId) (f : Bay → Bay) (y : AdditiveId) :
    (r.modBay w f).additive y = r.additive y := (rfl)
@[simp] theorem Rack.modBay_panel_of (w : BayId) (f : Bay → Bay) (c : BayId) :
    (r.modBay w f).panel c = r.panel c := (rfl)
@[simp] theorem Rack.modBay_permit_of (w : BayId) (f : Bay → Bay) (k : Nat) :
    (r.modBay w f).permit? k = r.permit? k := (rfl)
@[simp] theorem Rack.modBay_unit_of (w : BayId) (f : Bay → Bay) (k : Nat) :
    (r.modBay w f).unit? k = r.unit? k := (rfl)
@[simp] theorem Rack.modBay_account_of (w : BayId) (f : Bay → Bay) (k : Nat) :
    (r.modBay w f).account? k = r.account? k := (rfl)
@[simp] theorem Rack.modBay_order_of (w : BayId) (f : Bay → Bay) (k : Nat) :
    (r.modBay w f).order? k = r.order? k := (rfl)
@[simp] theorem Rack.modBay_line_of (w : BayId) (f : Bay → Bay) (k l : Nat) :
    (r.modBay w f).line? k l = r.line? k l := (rfl)
@[simp] theorem Rack.modBay_headerOf_of (w : BayId) (f : Bay → Bay) (b : ArmId) :
    (r.modBay w f).headerOf b = r.headerOf b := (rfl)
@[simp] theorem Rack.modBay_slotConfig_of (w : BayId) (f : Bay → Bay) (b : ArmId) (t : SlotId) :
    (r.modBay w f).slotConfig b t = r.slotConfig b t := (rfl)
@[simp] theorem Rack.modBay_currentLine_of (w : BayId) (f : Bay → Bay) (b : ArmId) :
    (r.modBay w f).currentLine b = r.currentLine b := (rfl)

@[simp] theorem Rack.modPermit_units (n : Nat) (f : Permit → Permit) : (r.modPermit n f).units = r.units := (rfl)
@[simp] theorem Rack.modPermit_accounts (n : Nat) (f : Permit → Permit) : (r.modPermit n f).accounts = r.accounts := (rfl)
@[simp] theorem Rack.modPermit_additives (n : Nat) (f : Permit → Permit) : (r.modPermit n f).additives = r.additives := (rfl)
@[simp] theorem Rack.modPermit_orders (n : Nat) (f : Permit → Permit) : (r.modPermit n f).orders = r.orders := (rfl)
@[simp] theorem Rack.modPermit_channels (n : Nat) (f : Permit → Permit) : (r.modPermit n f).channels = r.channels := (rfl)
@[simp] theorem Rack.modPermit_arms (n : Nat) (f : Permit → Permit) : (r.modPermit n f).arms = r.arms := (rfl)
@[simp] theorem Rack.modPermit_injectors (n : Nat) (f : Permit → Permit) : (r.modPermit n f).injectors = r.injectors := (rfl)
@[simp] theorem Rack.modPermit_headers (n : Nat) (f : Permit → Permit) : (r.modPermit n f).headers = r.headers := (rfl)
@[simp] theorem Rack.modPermit_bays (n : Nat) (f : Permit → Permit) : (r.modPermit n f).bays = r.bays := (rfl)
@[simp] theorem Rack.modPermit_panels (n : Nat) (f : Permit → Permit) : (r.modPermit n f).panels = r.panels := (rfl)
@[simp] theorem Rack.modPermit_noteCounter (n : Nat) (f : Permit → Permit) : (r.modPermit n f).noteCounter = r.noteCounter := (rfl)
@[simp] theorem Rack.modPermit_notes (n : Nat) (f : Permit → Permit) : (r.modPermit n f).notes = r.notes := (rfl)
@[simp] theorem Rack.modPermit_arm_of (n : Nat) (f : Permit → Permit) (b : ArmId) :
    (r.modPermit n f).arm b = r.arm b := (rfl)
@[simp] theorem Rack.modPermit_channel_of (n : Nat) (f : Permit → Permit) (b : ArmId) :
    (r.modPermit n f).channel b = r.channel b := (rfl)
@[simp] theorem Rack.modPermit_injector_of (n : Nat) (f : Permit → Permit) (b : ArmId) (t : SlotId) :
    (r.modPermit n f).injector b t = r.injector b t := (rfl)
@[simp] theorem Rack.modPermit_header_of (n : Nat) (f : Permit → Permit) (g : HeaderId) :
    (r.modPermit n f).header g = r.header g := (rfl)
@[simp] theorem Rack.modPermit_additive_of (n : Nat) (f : Permit → Permit) (y : AdditiveId) :
    (r.modPermit n f).additive y = r.additive y := (rfl)
@[simp] theorem Rack.modPermit_bay_of (n : Nat) (f : Permit → Permit) (c : BayId) :
    (r.modPermit n f).bay c = r.bay c := (rfl)
@[simp] theorem Rack.modPermit_panel_of (n : Nat) (f : Permit → Permit) (c : BayId) :
    (r.modPermit n f).panel c = r.panel c := (rfl)
@[simp] theorem Rack.modPermit_unit_of (n : Nat) (f : Permit → Permit) (k : Nat) :
    (r.modPermit n f).unit? k = r.unit? k := (rfl)
@[simp] theorem Rack.modPermit_account_of (n : Nat) (f : Permit → Permit) (k : Nat) :
    (r.modPermit n f).account? k = r.account? k := (rfl)
@[simp] theorem Rack.modPermit_order_of (n : Nat) (f : Permit → Permit) (k : Nat) :
    (r.modPermit n f).order? k = r.order? k := (rfl)
@[simp] theorem Rack.modPermit_line_of (n : Nat) (f : Permit → Permit) (k l : Nat) :
    (r.modPermit n f).line? k l = r.line? k l := (rfl)
@[simp] theorem Rack.modPermit_headerOf_of (n : Nat) (f : Permit → Permit) (b : ArmId) :
    (r.modPermit n f).headerOf b = r.headerOf b := (rfl)
@[simp] theorem Rack.modPermit_slotConfig_of (n : Nat) (f : Permit → Permit) (b : ArmId) (t : SlotId) :
    (r.modPermit n f).slotConfig b t = r.slotConfig b t := (rfl)
@[simp] theorem Rack.modPermit_currentLine_of (n : Nat) (f : Permit → Permit) (b : ArmId) :
    (r.modPermit n f).currentLine b = r.currentLine b := (rfl)

@[simp] theorem Rack.modUnit_permits (n : Nat) (f : VehicleUnit → VehicleUnit) : (r.modUnit n f).permits = r.permits := (rfl)
@[simp] theorem Rack.modUnit_accounts (n : Nat) (f : VehicleUnit → VehicleUnit) : (r.modUnit n f).accounts = r.accounts := (rfl)
@[simp] theorem Rack.modUnit_additives (n : Nat) (f : VehicleUnit → VehicleUnit) : (r.modUnit n f).additives = r.additives := (rfl)
@[simp] theorem Rack.modUnit_orders (n : Nat) (f : VehicleUnit → VehicleUnit) : (r.modUnit n f).orders = r.orders := (rfl)
@[simp] theorem Rack.modUnit_channels (n : Nat) (f : VehicleUnit → VehicleUnit) : (r.modUnit n f).channels = r.channels := (rfl)
@[simp] theorem Rack.modUnit_arms (n : Nat) (f : VehicleUnit → VehicleUnit) : (r.modUnit n f).arms = r.arms := (rfl)
@[simp] theorem Rack.modUnit_injectors (n : Nat) (f : VehicleUnit → VehicleUnit) : (r.modUnit n f).injectors = r.injectors := (rfl)
@[simp] theorem Rack.modUnit_headers (n : Nat) (f : VehicleUnit → VehicleUnit) : (r.modUnit n f).headers = r.headers := (rfl)
@[simp] theorem Rack.modUnit_bays (n : Nat) (f : VehicleUnit → VehicleUnit) : (r.modUnit n f).bays = r.bays := (rfl)
@[simp] theorem Rack.modUnit_panels (n : Nat) (f : VehicleUnit → VehicleUnit) : (r.modUnit n f).panels = r.panels := (rfl)
@[simp] theorem Rack.modUnit_noteCounter (n : Nat) (f : VehicleUnit → VehicleUnit) : (r.modUnit n f).noteCounter = r.noteCounter := (rfl)
@[simp] theorem Rack.modUnit_notes (n : Nat) (f : VehicleUnit → VehicleUnit) : (r.modUnit n f).notes = r.notes := (rfl)
@[simp] theorem Rack.modUnit_arm_of (n : Nat) (f : VehicleUnit → VehicleUnit) (b : ArmId) :
    (r.modUnit n f).arm b = r.arm b := (rfl)
@[simp] theorem Rack.modUnit_channel_of (n : Nat) (f : VehicleUnit → VehicleUnit) (b : ArmId) :
    (r.modUnit n f).channel b = r.channel b := (rfl)
@[simp] theorem Rack.modUnit_injector_of (n : Nat) (f : VehicleUnit → VehicleUnit) (b : ArmId) (t : SlotId) :
    (r.modUnit n f).injector b t = r.injector b t := (rfl)
@[simp] theorem Rack.modUnit_header_of (n : Nat) (f : VehicleUnit → VehicleUnit) (g : HeaderId) :
    (r.modUnit n f).header g = r.header g := (rfl)
@[simp] theorem Rack.modUnit_additive_of (n : Nat) (f : VehicleUnit → VehicleUnit) (y : AdditiveId) :
    (r.modUnit n f).additive y = r.additive y := (rfl)
@[simp] theorem Rack.modUnit_bay_of (n : Nat) (f : VehicleUnit → VehicleUnit) (c : BayId) :
    (r.modUnit n f).bay c = r.bay c := (rfl)
@[simp] theorem Rack.modUnit_panel_of (n : Nat) (f : VehicleUnit → VehicleUnit) (c : BayId) :
    (r.modUnit n f).panel c = r.panel c := (rfl)
@[simp] theorem Rack.modUnit_permit_of (n : Nat) (f : VehicleUnit → VehicleUnit) (k : Nat) :
    (r.modUnit n f).permit? k = r.permit? k := (rfl)
@[simp] theorem Rack.modUnit_account_of (n : Nat) (f : VehicleUnit → VehicleUnit) (k : Nat) :
    (r.modUnit n f).account? k = r.account? k := (rfl)
@[simp] theorem Rack.modUnit_order_of (n : Nat) (f : VehicleUnit → VehicleUnit) (k : Nat) :
    (r.modUnit n f).order? k = r.order? k := (rfl)
@[simp] theorem Rack.modUnit_line_of (n : Nat) (f : VehicleUnit → VehicleUnit) (k l : Nat) :
    (r.modUnit n f).line? k l = r.line? k l := (rfl)
@[simp] theorem Rack.modUnit_headerOf_of (n : Nat) (f : VehicleUnit → VehicleUnit) (b : ArmId) :
    (r.modUnit n f).headerOf b = r.headerOf b := (rfl)
@[simp] theorem Rack.modUnit_slotConfig_of (n : Nat) (f : VehicleUnit → VehicleUnit) (b : ArmId) (t : SlotId) :
    (r.modUnit n f).slotConfig b t = r.slotConfig b t := (rfl)
@[simp] theorem Rack.modUnit_currentLine_of (n : Nat) (f : VehicleUnit → VehicleUnit) (b : ArmId) :
    (r.modUnit n f).currentLine b = r.currentLine b := (rfl)

@[simp] theorem Rack.modAccount_permits (n : Nat) (f : Account → Account) : (r.modAccount n f).permits = r.permits := (rfl)
@[simp] theorem Rack.modAccount_units (n : Nat) (f : Account → Account) : (r.modAccount n f).units = r.units := (rfl)
@[simp] theorem Rack.modAccount_additives (n : Nat) (f : Account → Account) : (r.modAccount n f).additives = r.additives := (rfl)
@[simp] theorem Rack.modAccount_orders (n : Nat) (f : Account → Account) : (r.modAccount n f).orders = r.orders := (rfl)
@[simp] theorem Rack.modAccount_channels (n : Nat) (f : Account → Account) : (r.modAccount n f).channels = r.channels := (rfl)
@[simp] theorem Rack.modAccount_arms (n : Nat) (f : Account → Account) : (r.modAccount n f).arms = r.arms := (rfl)
@[simp] theorem Rack.modAccount_injectors (n : Nat) (f : Account → Account) : (r.modAccount n f).injectors = r.injectors := (rfl)
@[simp] theorem Rack.modAccount_headers (n : Nat) (f : Account → Account) : (r.modAccount n f).headers = r.headers := (rfl)
@[simp] theorem Rack.modAccount_bays (n : Nat) (f : Account → Account) : (r.modAccount n f).bays = r.bays := (rfl)
@[simp] theorem Rack.modAccount_panels (n : Nat) (f : Account → Account) : (r.modAccount n f).panels = r.panels := (rfl)
@[simp] theorem Rack.modAccount_noteCounter (n : Nat) (f : Account → Account) : (r.modAccount n f).noteCounter = r.noteCounter := (rfl)
@[simp] theorem Rack.modAccount_notes (n : Nat) (f : Account → Account) : (r.modAccount n f).notes = r.notes := (rfl)
@[simp] theorem Rack.modAccount_arm_of (n : Nat) (f : Account → Account) (b : ArmId) :
    (r.modAccount n f).arm b = r.arm b := (rfl)
@[simp] theorem Rack.modAccount_channel_of (n : Nat) (f : Account → Account) (b : ArmId) :
    (r.modAccount n f).channel b = r.channel b := (rfl)
@[simp] theorem Rack.modAccount_injector_of (n : Nat) (f : Account → Account) (b : ArmId) (t : SlotId) :
    (r.modAccount n f).injector b t = r.injector b t := (rfl)
@[simp] theorem Rack.modAccount_header_of (n : Nat) (f : Account → Account) (g : HeaderId) :
    (r.modAccount n f).header g = r.header g := (rfl)
@[simp] theorem Rack.modAccount_additive_of (n : Nat) (f : Account → Account) (y : AdditiveId) :
    (r.modAccount n f).additive y = r.additive y := (rfl)
@[simp] theorem Rack.modAccount_bay_of (n : Nat) (f : Account → Account) (c : BayId) :
    (r.modAccount n f).bay c = r.bay c := (rfl)
@[simp] theorem Rack.modAccount_panel_of (n : Nat) (f : Account → Account) (c : BayId) :
    (r.modAccount n f).panel c = r.panel c := (rfl)
@[simp] theorem Rack.modAccount_permit_of (n : Nat) (f : Account → Account) (k : Nat) :
    (r.modAccount n f).permit? k = r.permit? k := (rfl)
@[simp] theorem Rack.modAccount_unit_of (n : Nat) (f : Account → Account) (k : Nat) :
    (r.modAccount n f).unit? k = r.unit? k := (rfl)
@[simp] theorem Rack.modAccount_order_of (n : Nat) (f : Account → Account) (k : Nat) :
    (r.modAccount n f).order? k = r.order? k := (rfl)
@[simp] theorem Rack.modAccount_line_of (n : Nat) (f : Account → Account) (k l : Nat) :
    (r.modAccount n f).line? k l = r.line? k l := (rfl)
@[simp] theorem Rack.modAccount_headerOf_of (n : Nat) (f : Account → Account) (b : ArmId) :
    (r.modAccount n f).headerOf b = r.headerOf b := (rfl)
@[simp] theorem Rack.modAccount_slotConfig_of (n : Nat) (f : Account → Account) (b : ArmId) (t : SlotId) :
    (r.modAccount n f).slotConfig b t = r.slotConfig b t := (rfl)
@[simp] theorem Rack.modAccount_currentLine_of (n : Nat) (f : Account → Account) (b : ArmId) :
    (r.modAccount n f).currentLine b = r.currentLine b := (rfl)

@[simp] theorem Rack.modOrder_permits (n : Nat) (f : Order → Order) : (r.modOrder n f).permits = r.permits := (rfl)
@[simp] theorem Rack.modOrder_units (n : Nat) (f : Order → Order) : (r.modOrder n f).units = r.units := (rfl)
@[simp] theorem Rack.modOrder_accounts (n : Nat) (f : Order → Order) : (r.modOrder n f).accounts = r.accounts := (rfl)
@[simp] theorem Rack.modOrder_additives (n : Nat) (f : Order → Order) : (r.modOrder n f).additives = r.additives := (rfl)
@[simp] theorem Rack.modOrder_channels (n : Nat) (f : Order → Order) : (r.modOrder n f).channels = r.channels := (rfl)
@[simp] theorem Rack.modOrder_arms (n : Nat) (f : Order → Order) : (r.modOrder n f).arms = r.arms := (rfl)
@[simp] theorem Rack.modOrder_injectors (n : Nat) (f : Order → Order) : (r.modOrder n f).injectors = r.injectors := (rfl)
@[simp] theorem Rack.modOrder_headers (n : Nat) (f : Order → Order) : (r.modOrder n f).headers = r.headers := (rfl)
@[simp] theorem Rack.modOrder_bays (n : Nat) (f : Order → Order) : (r.modOrder n f).bays = r.bays := (rfl)
@[simp] theorem Rack.modOrder_panels (n : Nat) (f : Order → Order) : (r.modOrder n f).panels = r.panels := (rfl)
@[simp] theorem Rack.modOrder_noteCounter (n : Nat) (f : Order → Order) : (r.modOrder n f).noteCounter = r.noteCounter := (rfl)
@[simp] theorem Rack.modOrder_notes (n : Nat) (f : Order → Order) : (r.modOrder n f).notes = r.notes := (rfl)
@[simp] theorem Rack.modOrder_arm_of (n : Nat) (f : Order → Order) (b : ArmId) :
    (r.modOrder n f).arm b = r.arm b := (rfl)
@[simp] theorem Rack.modOrder_channel_of (n : Nat) (f : Order → Order) (b : ArmId) :
    (r.modOrder n f).channel b = r.channel b := (rfl)
@[simp] theorem Rack.modOrder_injector_of (n : Nat) (f : Order → Order) (b : ArmId) (t : SlotId) :
    (r.modOrder n f).injector b t = r.injector b t := (rfl)
@[simp] theorem Rack.modOrder_header_of (n : Nat) (f : Order → Order) (g : HeaderId) :
    (r.modOrder n f).header g = r.header g := (rfl)
@[simp] theorem Rack.modOrder_additive_of (n : Nat) (f : Order → Order) (y : AdditiveId) :
    (r.modOrder n f).additive y = r.additive y := (rfl)
@[simp] theorem Rack.modOrder_bay_of (n : Nat) (f : Order → Order) (c : BayId) :
    (r.modOrder n f).bay c = r.bay c := (rfl)
@[simp] theorem Rack.modOrder_panel_of (n : Nat) (f : Order → Order) (c : BayId) :
    (r.modOrder n f).panel c = r.panel c := (rfl)
@[simp] theorem Rack.modOrder_permit_of (n : Nat) (f : Order → Order) (k : Nat) :
    (r.modOrder n f).permit? k = r.permit? k := (rfl)
@[simp] theorem Rack.modOrder_unit_of (n : Nat) (f : Order → Order) (k : Nat) :
    (r.modOrder n f).unit? k = r.unit? k := (rfl)
@[simp] theorem Rack.modOrder_account_of (n : Nat) (f : Order → Order) (k : Nat) :
    (r.modOrder n f).account? k = r.account? k := (rfl)
@[simp] theorem Rack.modOrder_headerOf_of (n : Nat) (f : Order → Order) (b : ArmId) :
    (r.modOrder n f).headerOf b = r.headerOf b := (rfl)
@[simp] theorem Rack.modOrder_slotConfig_of (n : Nat) (f : Order → Order) (b : ArmId) (t : SlotId) :
    (r.modOrder n f).slotConfig b t = r.slotConfig b t := (rfl)

@[simp] theorem Rack.modLine_permits (n m : Nat) (f : Line → Line) : (r.modLine n m f).permits = r.permits := (rfl)
@[simp] theorem Rack.modLine_units (n m : Nat) (f : Line → Line) : (r.modLine n m f).units = r.units := (rfl)
@[simp] theorem Rack.modLine_accounts (n m : Nat) (f : Line → Line) : (r.modLine n m f).accounts = r.accounts := (rfl)
@[simp] theorem Rack.modLine_additives (n m : Nat) (f : Line → Line) : (r.modLine n m f).additives = r.additives := (rfl)
@[simp] theorem Rack.modLine_channels (n m : Nat) (f : Line → Line) : (r.modLine n m f).channels = r.channels := (rfl)
@[simp] theorem Rack.modLine_arms (n m : Nat) (f : Line → Line) : (r.modLine n m f).arms = r.arms := (rfl)
@[simp] theorem Rack.modLine_injectors (n m : Nat) (f : Line → Line) : (r.modLine n m f).injectors = r.injectors := (rfl)
@[simp] theorem Rack.modLine_headers (n m : Nat) (f : Line → Line) : (r.modLine n m f).headers = r.headers := (rfl)
@[simp] theorem Rack.modLine_bays (n m : Nat) (f : Line → Line) : (r.modLine n m f).bays = r.bays := (rfl)
@[simp] theorem Rack.modLine_panels (n m : Nat) (f : Line → Line) : (r.modLine n m f).panels = r.panels := (rfl)
@[simp] theorem Rack.modLine_noteCounter (n m : Nat) (f : Line → Line) : (r.modLine n m f).noteCounter = r.noteCounter := (rfl)
@[simp] theorem Rack.modLine_notes (n m : Nat) (f : Line → Line) : (r.modLine n m f).notes = r.notes := (rfl)
@[simp] theorem Rack.modLine_arm_of (n m : Nat) (f : Line → Line) (b : ArmId) :
    (r.modLine n m f).arm b = r.arm b := (rfl)
@[simp] theorem Rack.modLine_channel_of (n m : Nat) (f : Line → Line) (b : ArmId) :
    (r.modLine n m f).channel b = r.channel b := (rfl)
@[simp] theorem Rack.modLine_injector_of (n m : Nat) (f : Line → Line) (b : ArmId) (t : SlotId) :
    (r.modLine n m f).injector b t = r.injector b t := (rfl)
@[simp] theorem Rack.modLine_header_of (n m : Nat) (f : Line → Line) (g : HeaderId) :
    (r.modLine n m f).header g = r.header g := (rfl)
@[simp] theorem Rack.modLine_additive_of (n m : Nat) (f : Line → Line) (y : AdditiveId) :
    (r.modLine n m f).additive y = r.additive y := (rfl)
@[simp] theorem Rack.modLine_bay_of (n m : Nat) (f : Line → Line) (c : BayId) :
    (r.modLine n m f).bay c = r.bay c := (rfl)
@[simp] theorem Rack.modLine_panel_of (n m : Nat) (f : Line → Line) (c : BayId) :
    (r.modLine n m f).panel c = r.panel c := (rfl)
@[simp] theorem Rack.modLine_permit_of (n m : Nat) (f : Line → Line) (k : Nat) :
    (r.modLine n m f).permit? k = r.permit? k := (rfl)
@[simp] theorem Rack.modLine_unit_of (n m : Nat) (f : Line → Line) (k : Nat) :
    (r.modLine n m f).unit? k = r.unit? k := (rfl)
@[simp] theorem Rack.modLine_account_of (n m : Nat) (f : Line → Line) (k : Nat) :
    (r.modLine n m f).account? k = r.account? k := (rfl)
@[simp] theorem Rack.modLine_headerOf_of (n m : Nat) (f : Line → Line) (b : ArmId) :
    (r.modLine n m f).headerOf b = r.headerOf b := (rfl)
@[simp] theorem Rack.modLine_slotConfig_of (n m : Nat) (f : Line → Line) (b : ArmId) (t : SlotId) :
    (r.modLine n m f).slotConfig b t = r.slotConfig b t := (rfl)

@[simp] theorem Rack.modPanel_permits (w : BayId) (f : Panel → Panel) : (r.modPanel w f).permits = r.permits := (rfl)
@[simp] theorem Rack.modPanel_units (w : BayId) (f : Panel → Panel) : (r.modPanel w f).units = r.units := (rfl)
@[simp] theorem Rack.modPanel_accounts (w : BayId) (f : Panel → Panel) : (r.modPanel w f).accounts = r.accounts := (rfl)
@[simp] theorem Rack.modPanel_additives (w : BayId) (f : Panel → Panel) : (r.modPanel w f).additives = r.additives := (rfl)
@[simp] theorem Rack.modPanel_orders (w : BayId) (f : Panel → Panel) : (r.modPanel w f).orders = r.orders := (rfl)
@[simp] theorem Rack.modPanel_channels (w : BayId) (f : Panel → Panel) : (r.modPanel w f).channels = r.channels := (rfl)
@[simp] theorem Rack.modPanel_arms (w : BayId) (f : Panel → Panel) : (r.modPanel w f).arms = r.arms := (rfl)
@[simp] theorem Rack.modPanel_injectors (w : BayId) (f : Panel → Panel) : (r.modPanel w f).injectors = r.injectors := (rfl)
@[simp] theorem Rack.modPanel_headers (w : BayId) (f : Panel → Panel) : (r.modPanel w f).headers = r.headers := (rfl)
@[simp] theorem Rack.modPanel_bays (w : BayId) (f : Panel → Panel) : (r.modPanel w f).bays = r.bays := (rfl)
@[simp] theorem Rack.modPanel_noteCounter (w : BayId) (f : Panel → Panel) : (r.modPanel w f).noteCounter = r.noteCounter := (rfl)
@[simp] theorem Rack.modPanel_notes (w : BayId) (f : Panel → Panel) : (r.modPanel w f).notes = r.notes := (rfl)
@[simp] theorem Rack.modPanel_arm_of (w : BayId) (f : Panel → Panel) (b : ArmId) :
    (r.modPanel w f).arm b = r.arm b := (rfl)
@[simp] theorem Rack.modPanel_channel_of (w : BayId) (f : Panel → Panel) (b : ArmId) :
    (r.modPanel w f).channel b = r.channel b := (rfl)
@[simp] theorem Rack.modPanel_injector_of (w : BayId) (f : Panel → Panel) (b : ArmId) (t : SlotId) :
    (r.modPanel w f).injector b t = r.injector b t := (rfl)
@[simp] theorem Rack.modPanel_header_of (w : BayId) (f : Panel → Panel) (g : HeaderId) :
    (r.modPanel w f).header g = r.header g := (rfl)
@[simp] theorem Rack.modPanel_additive_of (w : BayId) (f : Panel → Panel) (y : AdditiveId) :
    (r.modPanel w f).additive y = r.additive y := (rfl)
@[simp] theorem Rack.modPanel_bay_of (w : BayId) (f : Panel → Panel) (c : BayId) :
    (r.modPanel w f).bay c = r.bay c := (rfl)
@[simp] theorem Rack.modPanel_permit_of (w : BayId) (f : Panel → Panel) (k : Nat) :
    (r.modPanel w f).permit? k = r.permit? k := (rfl)
@[simp] theorem Rack.modPanel_unit_of (w : BayId) (f : Panel → Panel) (k : Nat) :
    (r.modPanel w f).unit? k = r.unit? k := (rfl)
@[simp] theorem Rack.modPanel_account_of (w : BayId) (f : Panel → Panel) (k : Nat) :
    (r.modPanel w f).account? k = r.account? k := (rfl)
@[simp] theorem Rack.modPanel_order_of (w : BayId) (f : Panel → Panel) (k : Nat) :
    (r.modPanel w f).order? k = r.order? k := (rfl)
@[simp] theorem Rack.modPanel_line_of (w : BayId) (f : Panel → Panel) (k l : Nat) :
    (r.modPanel w f).line? k l = r.line? k l := (rfl)
@[simp] theorem Rack.modPanel_headerOf_of (w : BayId) (f : Panel → Panel) (b : ArmId) :
    (r.modPanel w f).headerOf b = r.headerOf b := (rfl)
@[simp] theorem Rack.modPanel_slotConfig_of (w : BayId) (f : Panel → Panel) (b : ArmId) (t : SlotId) :
    (r.modPanel w f).slotConfig b t = r.slotConfig b t := (rfl)
@[simp] theorem Rack.modPanel_currentLine_of (w : BayId) (f : Panel → Panel) (b : ArmId) :
    (r.modPanel w f).currentLine b = r.currentLine b := (rfl)

@[simp] theorem Rack.callBay_permits (w : BayId) : (r.callBay w).permits = r.permits := (rfl)
@[simp] theorem Rack.callBay_units (w : BayId) : (r.callBay w).units = r.units := (rfl)
@[simp] theorem Rack.callBay_accounts (w : BayId) : (r.callBay w).accounts = r.accounts := (rfl)
@[simp] theorem Rack.callBay_additives (w : BayId) : (r.callBay w).additives = r.additives := (rfl)
@[simp] theorem Rack.callBay_orders (w : BayId) : (r.callBay w).orders = r.orders := (rfl)
@[simp] theorem Rack.callBay_channels (w : BayId) : (r.callBay w).channels = r.channels := (rfl)
@[simp] theorem Rack.callBay_arms (w : BayId) : (r.callBay w).arms = r.arms := (rfl)
@[simp] theorem Rack.callBay_injectors (w : BayId) : (r.callBay w).injectors = r.injectors := (rfl)
@[simp] theorem Rack.callBay_headers (w : BayId) : (r.callBay w).headers = r.headers := (rfl)
@[simp] theorem Rack.callBay_bays (w : BayId) : (r.callBay w).bays = r.bays := (rfl)
@[simp] theorem Rack.callBay_noteCounter (w : BayId) : (r.callBay w).noteCounter = r.noteCounter := (rfl)
@[simp] theorem Rack.callBay_notes (w : BayId) : (r.callBay w).notes = r.notes := (rfl)
@[simp] theorem Rack.callBay_arm_of (w : BayId) (b : ArmId) :
    (r.callBay w).arm b = r.arm b := (rfl)
@[simp] theorem Rack.callBay_channel_of (w : BayId) (b : ArmId) :
    (r.callBay w).channel b = r.channel b := (rfl)
@[simp] theorem Rack.callBay_injector_of (w : BayId) (b : ArmId) (t : SlotId) :
    (r.callBay w).injector b t = r.injector b t := (rfl)
@[simp] theorem Rack.callBay_header_of (w : BayId) (g : HeaderId) :
    (r.callBay w).header g = r.header g := (rfl)
@[simp] theorem Rack.callBay_additive_of (w : BayId) (y : AdditiveId) :
    (r.callBay w).additive y = r.additive y := (rfl)
@[simp] theorem Rack.callBay_bay_of (w : BayId) (c : BayId) :
    (r.callBay w).bay c = r.bay c := (rfl)
@[simp] theorem Rack.callBay_permit_of (w : BayId) (k : Nat) :
    (r.callBay w).permit? k = r.permit? k := (rfl)
@[simp] theorem Rack.callBay_unit_of (w : BayId) (k : Nat) :
    (r.callBay w).unit? k = r.unit? k := (rfl)
@[simp] theorem Rack.callBay_account_of (w : BayId) (k : Nat) :
    (r.callBay w).account? k = r.account? k := (rfl)
@[simp] theorem Rack.callBay_order_of (w : BayId) (k : Nat) :
    (r.callBay w).order? k = r.order? k := (rfl)
@[simp] theorem Rack.callBay_line_of (w : BayId) (k l : Nat) :
    (r.callBay w).line? k l = r.line? k l := (rfl)
@[simp] theorem Rack.callBay_headerOf_of (w : BayId) (b : ArmId) :
    (r.callBay w).headerOf b = r.headerOf b := (rfl)
@[simp] theorem Rack.callBay_slotConfig_of (w : BayId) (b : ArmId) (t : SlotId) :
    (r.callBay w).slotConfig b t = r.slotConfig b t := (rfl)
@[simp] theorem Rack.callBay_currentLine_of (w : BayId) (b : ArmId) :
    (r.callBay w).currentLine b = r.currentLine b := (rfl)

@[simp] theorem Rack.callArm_permits (a : ArmId) : (r.callArm a).permits = r.permits := (rfl)
@[simp] theorem Rack.callArm_units (a : ArmId) : (r.callArm a).units = r.units := (rfl)
@[simp] theorem Rack.callArm_accounts (a : ArmId) : (r.callArm a).accounts = r.accounts := (rfl)
@[simp] theorem Rack.callArm_additives (a : ArmId) : (r.callArm a).additives = r.additives := (rfl)
@[simp] theorem Rack.callArm_orders (a : ArmId) : (r.callArm a).orders = r.orders := (rfl)
@[simp] theorem Rack.callArm_channels (a : ArmId) : (r.callArm a).channels = r.channels := (rfl)
@[simp] theorem Rack.callArm_arms (a : ArmId) : (r.callArm a).arms = r.arms := (rfl)
@[simp] theorem Rack.callArm_injectors (a : ArmId) : (r.callArm a).injectors = r.injectors := (rfl)
@[simp] theorem Rack.callArm_headers (a : ArmId) : (r.callArm a).headers = r.headers := (rfl)
@[simp] theorem Rack.callArm_bays (a : ArmId) : (r.callArm a).bays = r.bays := (rfl)
@[simp] theorem Rack.callArm_noteCounter (a : ArmId) : (r.callArm a).noteCounter = r.noteCounter := (rfl)
@[simp] theorem Rack.callArm_notes (a : ArmId) : (r.callArm a).notes = r.notes := (rfl)
@[simp] theorem Rack.callArm_arm_of (a : ArmId) (b : ArmId) :
    (r.callArm a).arm b = r.arm b := (rfl)
@[simp] theorem Rack.callArm_channel_of (a : ArmId) (b : ArmId) :
    (r.callArm a).channel b = r.channel b := (rfl)
@[simp] theorem Rack.callArm_injector_of (a : ArmId) (b : ArmId) (t : SlotId) :
    (r.callArm a).injector b t = r.injector b t := (rfl)
@[simp] theorem Rack.callArm_header_of (a : ArmId) (g : HeaderId) :
    (r.callArm a).header g = r.header g := (rfl)
@[simp] theorem Rack.callArm_additive_of (a : ArmId) (y : AdditiveId) :
    (r.callArm a).additive y = r.additive y := (rfl)
@[simp] theorem Rack.callArm_bay_of (a : ArmId) (c : BayId) :
    (r.callArm a).bay c = r.bay c := (rfl)
@[simp] theorem Rack.callArm_permit_of (a : ArmId) (k : Nat) :
    (r.callArm a).permit? k = r.permit? k := (rfl)
@[simp] theorem Rack.callArm_unit_of (a : ArmId) (k : Nat) :
    (r.callArm a).unit? k = r.unit? k := (rfl)
@[simp] theorem Rack.callArm_account_of (a : ArmId) (k : Nat) :
    (r.callArm a).account? k = r.account? k := (rfl)
@[simp] theorem Rack.callArm_order_of (a : ArmId) (k : Nat) :
    (r.callArm a).order? k = r.order? k := (rfl)
@[simp] theorem Rack.callArm_line_of (a : ArmId) (k l : Nat) :
    (r.callArm a).line? k l = r.line? k l := (rfl)
@[simp] theorem Rack.callArm_headerOf_of (a : ArmId) (b : ArmId) :
    (r.callArm a).headerOf b = r.headerOf b := (rfl)
@[simp] theorem Rack.callArm_slotConfig_of (a : ArmId) (b : ArmId) (t : SlotId) :
    (r.callArm a).slotConfig b t = r.slotConfig b t := (rfl)
@[simp] theorem Rack.callArm_currentLine_of (a : ArmId) (b : ArmId) :
    (r.callArm a).currentLine b = r.currentLine b := (rfl)

end Sys2Proof.Machine
end

