-- ==== Sys2Proof/Laws/Tables.lean ====
section
/-! SUPPORT. Reading a record after an update of the same table: the record updated, or any other left as it was. -/

namespace Sys2Proof.Machine

variable (r : Rack)

/-! ### Numbered parts -/

@[simp] theorem Rack.setArm_arm (a b : ArmId) (x : Arm) : (r.setArm a x).arm b = if a = b then x else r.arm b := by
  simp [Rack.setArm, Rack.arm, Vector.getElem_set, Fin.ext_iff]

@[simp] theorem Rack.modArm_arm (a b : ArmId) (f : Arm → Arm) :
    (r.modArm a f).arm b = if a = b then f (r.arm a) else r.arm b := by
  simp [Rack.modArm]

@[simp] theorem Rack.modChannel_channel (a b : ArmId) (f : Channel → Channel) :
    (r.modChannel a f).channel b = if a = b then f (r.channel a) else r.channel b := by
  simp [Rack.modChannel, Rack.channel, Vector.getElem_set, Fin.ext_iff]

@[simp] theorem Rack.modInjector_injector (a b : ArmId) (s t : SlotId) (f : Injector → Injector) :
    (r.modInjector a s f).injector b t = if a = b ∧ s = t then f (r.injector a s) else r.injector b t := by
  simp only [Rack.modInjector, Rack.injector, Fin.getElem_fin, Vector.getElem_set, Fin.ext_iff]
  by_cases h : a.val = b.val
  · simp only [h, if_true, true_and, Vector.getElem_set]
  · simp [h]

@[simp] theorem Rack.modInjectors_injector (a b : ArmId) (t : SlotId) (f : Injector → Injector) :
    (r.modInjectors a f).injector b t = if a = b then f (r.injector b t) else r.injector b t := by
  simp only [Rack.modInjectors, Rack.injector, Fin.getElem_fin, Vector.getElem_set, Fin.ext_iff]
  by_cases h : a.val = b.val
  · have : a = b := Fin.ext h
    subst this
    simp
  · simp [h]

@[simp] theorem Rack.modHeader_header (h g : HeaderId) (f : Header → Header) :
    (r.modHeader h f).header g = if h = g then f (r.header h) else r.header g := by
  simp [Rack.modHeader, Rack.header, Vector.getElem_set, Fin.ext_iff]

@[simp] theorem Rack.modAdditive_additive (x y : AdditiveId) (f : Additive → Additive) :
    (r.modAdditive x f).additive y = if x = y then f (r.additive x) else r.additive y := by
  simp [Rack.modAdditive, Rack.additive, Vector.getElem_set, Fin.ext_iff]

@[simp] theorem Rack.modBay_bay (b c : BayId) (f : Bay → Bay) :
    (r.modBay b f).bay c = if b = c then f (r.bay b) else r.bay c := by
  simp [Rack.modBay, Rack.bay, Vector.getElem_set, Fin.ext_iff]

@[simp] theorem Rack.modPanel_panel (b c : BayId) (f : Panel → Panel) :
    (r.modPanel b f).panel c = if b = c then f (r.panel b) else r.panel c := by
  simp [Rack.modPanel, Rack.panel, Vector.getElem_set, Fin.ext_iff]

/-! ### Records found by a key -/

/-- Changing the records of one key, the key kept, changes what is found under that key and nothing else. -/
theorem find_map_key {α : Type} (key : α → Nat) (n k : Nat) (f : α → α) (hf : ∀ x, key (f x) = key x) (xs : List α) :
    (xs.map (fun x => if key x = n then f x else x)).find? (fun x => decide (key x = k)) =
      if n = k then (xs.find? (fun x => decide (key x = k))).map f else xs.find? (fun x => decide (key x = k)) := by
  induction xs with
  | nil => simp
  | cons y ys ih =>
    simp only [List.map_cons, List.find?_cons]
    by_cases hy : key y = n
    · rw [if_pos hy, hf, hy]
      by_cases hk : n = k
      · simp [hk]
      · simp only [hk, decide_false, if_false] at ih ⊢
        exact ih
    · rw [if_neg hy]
      by_cases hk : key y = k
      · have : n ≠ k := fun h => hy (hk.trans h.symm)
        simp [hk, this]
      · simp only [hk, decide_false]
        exact ih

theorem Rack.modPermit_permit (n k : Nat) (f : Permit → Permit) (hf : ∀ x, (f x).number = x.number) :
    (r.modPermit n f).permit? k = if n = k then (r.permit? k).map f else r.permit? k :=
  find_map_key Permit.number n k f hf r.permits

theorem Rack.modUnit_unit (n k : Nat) (f : VehicleUnit → VehicleUnit) (hf : ∀ x, (f x).number = x.number) :
    (r.modUnit n f).unit? k = if n = k then (r.unit? k).map f else r.unit? k :=
  find_map_key VehicleUnit.number n k f hf r.units

theorem Rack.modAccount_account (n k : Nat) (f : Account → Account) (hf : ∀ x, (f x).number = x.number) :
    (r.modAccount n f).account? k = if n = k then (r.account? k).map f else r.account? k :=
  find_map_key Account.number n k f hf r.accounts

theorem Rack.modOrder_order (n k : Nat) (f : Order → Order) (hf : ∀ x, (f x).number = x.number) :
    (r.modOrder n f).order? k = if n = k then (r.order? k).map f else r.order? k :=
  find_map_key Order.number n k f hf r.orders

theorem Order.modLine_line (o : Order) (n k : Nat) (f : Line → Line) (hf : ∀ x, (f x).number = x.number) :
    (o.modLine n f).line? k = if n = k then (o.line? k).map f else o.line? k :=
  find_map_key Line.number n k f hf o.lines

/-- A line read after a line of the order table is changed: the changed line, or another left as it was. -/
theorem Rack.modLine_line (n m k l : Nat) (f : Line → Line) (hf : ∀ x, (f x).number = x.number) :
    (r.modLine n m f).line? k l = if n = k ∧ m = l then (r.line? k l).map f else r.line? k l := by
  simp only [Rack.modLine, Rack.line?]
  rw [Rack.modOrder_order r n k (fun o => o.modLine m f) (fun _ => rfl)]
  by_cases h : n = k
  · simp only [h, true_and, if_true]
    cases r.order? k with
    | none => simp
    | some o => simp [Order.modLine_line o m l f hf]
  · simp [h]

end Sys2Proof.Machine
end

