-- ==== Sys2Proof/Laws/Frames.lean ====
section
/-! SUPPORT. What the shared operations of arms, headers, panel lines, lines and doses leave as it was, one lemma per field. -/

namespace Sys2Proof.Machine

variable (r : Rack)

@[simp] theorem Rack.modCurrentLine_permits (a : ArmId) (f : Line → Line) : (r.modCurrentLine a f).permits = r.permits := by
  unfold Rack.modCurrentLine; split <;> simp
@[simp] theorem Rack.modCurrentLine_units (a : ArmId) (f : Line → Line) : (r.modCurrentLine a f).units = r.units := by
  unfold Rack.modCurrentLine; split <;> simp
@[simp] theorem Rack.modCurrentLine_accounts (a : ArmId) (f : Line → Line) : (r.modCurrentLine a f).accounts = r.accounts := by
  unfold Rack.modCurrentLine; split <;> simp
@[simp] theorem Rack.modCurrentLine_additives (a : ArmId) (f : Line → Line) : (r.modCurrentLine a f).additives = r.additives := by
  unfold Rack.modCurrentLine; split <;> simp
@[simp] theorem Rack.modCurrentLine_channels (a : ArmId) (f : Line → Line) : (r.modCurrentLine a f).channels = r.channels := by
  unfold Rack.modCurrentLine; split <;> simp
@[simp] theorem Rack.modCurrentLine_arms (a : ArmId) (f : Line → Line) : (r.modCurrentLine a f).arms = r.arms := by
  unfold Rack.modCurrentLine; split <;> simp
@[simp] theorem Rack.modCurrentLine_injectors (a : ArmId) (f : Line → Line) : (r.modCurrentLine a f).injectors = r.injectors := by
  unfold Rack.modCurrentLine; split <;> simp
@[simp] theorem Rack.modCurrentLine_headers (a : ArmId) (f : Line → Line) : (r.modCurrentLine a f).headers = r.headers := by
  unfold Rack.modCurrentLine; split <;> simp
@[simp] theorem Rack.modCurrentLine_bays (a : ArmId) (f : Line → Line) : (r.modCurrentLine a f).bays = r.bays := by
  unfold Rack.modCurrentLine; split <;> simp
@[simp] theorem Rack.modCurrentLine_panels (a : ArmId) (f : Line → Line) : (r.modCurrentLine a f).panels = r.panels := by
  unfold Rack.modCurrentLine; split <;> simp
@[simp] theorem Rack.modCurrentLine_noteCounter (a : ArmId) (f : Line → Line) : (r.modCurrentLine a f).noteCounter = r.noteCounter := by
  unfold Rack.modCurrentLine; split <;> simp
@[simp] theorem Rack.modCurrentLine_notes (a : ArmId) (f : Line → Line) : (r.modCurrentLine a f).notes = r.notes := by
  unfold Rack.modCurrentLine; split <;> simp

@[simp] theorem Rack.modDose_permits (a : ArmId) (k : Nat) (f : DoseRecord → DoseRecord) : (r.modDose a k f).permits = r.permits := by simp [Rack.modDose]
@[simp] theorem Rack.modDose_units (a : ArmId) (k : Nat) (f : DoseRecord → DoseRecord) : (r.modDose a k f).units = r.units := by simp [Rack.modDose]
@[simp] theorem Rack.modDose_accounts (a : ArmId) (k : Nat) (f : DoseRecord → DoseRecord) : (r.modDose a k f).accounts = r.accounts := by simp [Rack.modDose]
@[simp] theorem Rack.modDose_additives (a : ArmId) (k : Nat) (f : DoseRecord → DoseRecord) : (r.modDose a k f).additives = r.additives := by simp [Rack.modDose]
@[simp] theorem Rack.modDose_channels (a : ArmId) (k : Nat) (f : DoseRecord → DoseRecord) : (r.modDose a k f).channels = r.channels := by simp [Rack.modDose]
@[simp] theorem Rack.modDose_arms (a : ArmId) (k : Nat) (f : DoseRecord → DoseRecord) : (r.modDose a k f).arms = r.arms := by simp [Rack.modDose]
@[simp] theorem Rack.modDose_injectors (a : ArmId) (k : Nat) (f : DoseRecord → DoseRecord) : (r.modDose a k f).injectors = r.injectors := by simp [Rack.modDose]
@[simp] theorem Rack.modDose_headers (a : ArmId) (k : Nat) (f : DoseRecord → DoseRecord) : (r.modDose a k f).headers = r.headers := by simp [Rack.modDose]
@[simp] theorem Rack.modDose_bays (a : ArmId) (k : Nat) (f : DoseRecord → DoseRecord) : (r.modDose a k f).bays = r.bays := by simp [Rack.modDose]
@[simp] theorem Rack.modDose_panels (a : ArmId) (k : Nat) (f : DoseRecord → DoseRecord) : (r.modDose a k f).panels = r.panels := by simp [Rack.modDose]
@[simp] theorem Rack.modDose_noteCounter (a : ArmId) (k : Nat) (f : DoseRecord → DoseRecord) : (r.modDose a k f).noteCounter = r.noteCounter := by simp [Rack.modDose]
@[simp] theorem Rack.modDose_notes (a : ArmId) (k : Nat) (f : DoseRecord → DoseRecord) : (r.modDose a k f).notes = r.notes := by simp [Rack.modDose]

@[simp] theorem Rack.setState_permits (c : Conditions) (a : ArmId) (new : ArmState) : (r.setState c a new).permits = r.permits := by
  unfold Rack.setState; split <;> simp
@[simp] theorem Rack.setState_units (c : Conditions) (a : ArmId) (new : ArmState) : (r.setState c a new).units = r.units := by
  unfold Rack.setState; split <;> simp
@[simp] theorem Rack.setState_accounts (c : Conditions) (a : ArmId) (new : ArmState) : (r.setState c a new).accounts = r.accounts := by
  unfold Rack.setState; split <;> simp
@[simp] theorem Rack.setState_additives (c : Conditions) (a : ArmId) (new : ArmState) : (r.setState c a new).additives = r.additives := by
  unfold Rack.setState; split <;> simp
@[simp] theorem Rack.setState_orders (c : Conditions) (a : ArmId) (new : ArmState) : (r.setState c a new).orders = r.orders := by
  unfold Rack.setState; split <;> simp
@[simp] theorem Rack.setState_channels (c : Conditions) (a : ArmId) (new : ArmState) : (r.setState c a new).channels = r.channels := by
  unfold Rack.setState; split <;> simp
@[simp] theorem Rack.setState_injectors (c : Conditions) (a : ArmId) (new : ArmState) : (r.setState c a new).injectors = r.injectors := by
  unfold Rack.setState; split <;> simp
@[simp] theorem Rack.setState_headers (c : Conditions) (a : ArmId) (new : ArmState) : (r.setState c a new).headers = r.headers := by
  unfold Rack.setState; split <;> simp
@[simp] theorem Rack.setState_bays (c : Conditions) (a : ArmId) (new : ArmState) : (r.setState c a new).bays = r.bays := by
  unfold Rack.setState; split <;> simp
@[simp] theorem Rack.setState_noteCounter (c : Conditions) (a : ArmId) (new : ArmState) : (r.setState c a new).noteCounter = r.noteCounter := by
  unfold Rack.setState; split <;> simp
@[simp] theorem Rack.setState_notes (c : Conditions) (a : ArmId) (new : ArmState) : (r.setState c a new).notes = r.notes := by
  unfold Rack.setState; split <;> simp

@[simp] theorem Rack.grantTo_permits (c : Conditions) (h : HeaderId) (a : ArmId)  : (r.grantTo c h a).permits = r.permits := by
  unfold Rack.grantTo; dsimp only; split <;> simp
@[simp] theorem Rack.grantTo_units (c : Conditions) (h : HeaderId) (a : ArmId)  : (r.grantTo c h a).units = r.units := by
  unfold Rack.grantTo; dsimp only; split <;> simp
@[simp] theorem Rack.grantTo_accounts (c : Conditions) (h : HeaderId) (a : ArmId)  : (r.grantTo c h a).accounts = r.accounts := by
  unfold Rack.grantTo; dsimp only; split <;> simp
@[simp] theorem Rack.grantTo_additives (c : Conditions) (h : HeaderId) (a : ArmId)  : (r.grantTo c h a).additives = r.additives := by
  unfold Rack.grantTo; dsimp only; split <;> simp
@[simp] theorem Rack.grantTo_orders (c : Conditions) (h : HeaderId) (a : ArmId)  : (r.grantTo c h a).orders = r.orders := by
  unfold Rack.grantTo; dsimp only; split <;> simp
@[simp] theorem Rack.grantTo_channels (c : Conditions) (h : HeaderId) (a : ArmId)  : (r.grantTo c h a).channels = r.channels := by
  unfold Rack.grantTo; dsimp only; split <;> simp
@[simp] theorem Rack.grantTo_injectors (c : Conditions) (h : HeaderId) (a : ArmId)  : (r.grantTo c h a).injectors = r.injectors := by
  unfold Rack.grantTo; dsimp only; split <;> simp
@[simp] theorem Rack.grantTo_bays (c : Conditions) (h : HeaderId) (a : ArmId)  : (r.grantTo c h a).bays = r.bays := by
  unfold Rack.grantTo; dsimp only; split <;> simp
@[simp] theorem Rack.grantTo_noteCounter (c : Conditions) (h : HeaderId) (a : ArmId)  : (r.grantTo c h a).noteCounter = r.noteCounter := by
  unfold Rack.grantTo; dsimp only; split <;> simp
@[simp] theorem Rack.grantTo_notes (c : Conditions) (h : HeaderId) (a : ArmId)  : (r.grantTo c h a).notes = r.notes := by
  unfold Rack.grantTo; dsimp only; split <;> simp

@[simp] theorem grantHeads_permits (c : Conditions) (h : HeaderId) (n : Nat) : (grantHeads c h n r).1.permits = r.permits := by
  induction n generalizing r with
  | zero => rfl
  | succ n ih =>
    unfold grantHeads
    repeat' split
    all_goals simp [ih]
@[simp] theorem grantTest_permits (c : Conditions) (h : HeaderId) : (grantTest c h r).1.permits = r.permits := by
  simp [grantTest]
@[simp] theorem grantHeads_units (c : Conditions) (h : HeaderId) (n : Nat) : (grantHeads c h n r).1.units = r.units := by
  induction n generalizing r with
  | zero => rfl
  | succ n ih =>
    unfold grantHeads
    repeat' split
    all_goals simp [ih]
@[simp] theorem grantTest_units (c : Conditions) (h : HeaderId) : (grantTest c h r).1.units = r.units := by
  simp [grantTest]
@[simp] theorem grantHeads_accounts (c : Conditions) (h : HeaderId) (n : Nat) : (grantHeads c h n r).1.accounts = r.accounts := by
  induction n generalizing r with
  | zero => rfl
  | succ n ih =>
    unfold grantHeads
    repeat' split
    all_goals simp [ih]
@[simp] theorem grantTest_accounts (c : Conditions) (h : HeaderId) : (grantTest c h r).1.accounts = r.accounts := by
  simp [grantTest]
@[simp] theorem grantHeads_additives (c : Conditions) (h : HeaderId) (n : Nat) : (grantHeads c h n r).1.additives = r.additives := by
  induction n generalizing r with
  | zero => rfl
  | succ n ih =>
    unfold grantHeads
    repeat' split
    all_goals simp [ih]
@[simp] theorem grantTest_additives (c : Conditions) (h : HeaderId) : (grantTest c h r).1.additives = r.additives := by
  simp [grantTest]
@[simp] theorem grantHeads_orders (c : Conditions) (h : HeaderId) (n : Nat) : (grantHeads c h n r).1.orders = r.orders := by
  induction n generalizing r with
  | zero => rfl
  | succ n ih =>
    unfold grantHeads
    repeat' split
    all_goals simp [ih]
@[simp] theorem grantTest_orders (c : Conditions) (h : HeaderId) : (grantTest c h r).1.orders = r.orders := by
  simp [grantTest]
@[simp] theorem grantHeads_channels (c : Conditions) (h : HeaderId) (n : Nat) : (grantHeads c h n r).1.channels = r.channels := by
  induction n generalizing r with
  | zero => rfl
  | succ n ih =>
    unfold grantHeads
    repeat' split
    all_goals simp [ih]
@[simp] theorem grantTest_channels (c : Conditions) (h : HeaderId) : (grantTest c h r).1.channels = r.channels := by
  simp [grantTest]
@[simp] theorem grantHeads_injectors (c : Conditions) (h : HeaderId) (n : Nat) : (grantHeads c h n r).1.injectors = r.injectors := by
  induction n generalizing r with
  | zero => rfl
  | succ n ih =>
    unfold grantHeads
    repeat' split
    all_goals simp [ih]
@[simp] theorem grantTest_injectors (c : Conditions) (h : HeaderId) : (grantTest c h r).1.injectors = r.injectors := by
  simp [grantTest]
@[simp] theorem grantHeads_bays (c : Conditions) (h : HeaderId) (n : Nat) : (grantHeads c h n r).1.bays = r.bays := by
  induction n generalizing r with
  | zero => rfl
  | succ n ih =>
    unfold grantHeads
    repeat' split
    all_goals simp [ih]
@[simp] theorem grantTest_bays (c : Conditions) (h : HeaderId) : (grantTest c h r).1.bays = r.bays := by
  simp [grantTest]
@[simp] theorem grantHeads_noteCounter (c : Conditions) (h : HeaderId) (n : Nat) : (grantHeads c h n r).1.noteCounter = r.noteCounter := by
  induction n generalizing r with
  | zero => rfl
  | succ n ih =>
    unfold grantHeads
    repeat' split
    all_goals simp [ih]
@[simp] theorem grantTest_noteCounter (c : Conditions) (h : HeaderId) : (grantTest c h r).1.noteCounter = r.noteCounter := by
  simp [grantTest]
@[simp] theorem grantHeads_notes (c : Conditions) (h : HeaderId) (n : Nat) : (grantHeads c h n r).1.notes = r.notes := by
  induction n generalizing r with
  | zero => rfl
  | succ n ih =>
    unfold grantHeads
    repeat' split
    all_goals simp [ih]
@[simp] theorem grantTest_notes (c : Conditions) (h : HeaderId) : (grantTest c h r).1.notes = r.notes := by
  simp [grantTest]

@[simp] theorem Rack.releaseGrant_permits (c : Conditions) (a : ArmId)  : (r.releaseGrant c a).permits = r.permits := by
  unfold Rack.releaseGrant; split <;> simp
@[simp] theorem Rack.releaseGrant_units (c : Conditions) (a : ArmId)  : (r.releaseGrant c a).units = r.units := by
  unfold Rack.releaseGrant; split <;> simp
@[simp] theorem Rack.releaseGrant_accounts (c : Conditions) (a : ArmId)  : (r.releaseGrant c a).accounts = r.accounts := by
  unfold Rack.releaseGrant; split <;> simp
@[simp] theorem Rack.releaseGrant_additives (c : Conditions) (a : ArmId)  : (r.releaseGrant c a).additives = r.additives := by
  unfold Rack.releaseGrant; split <;> simp
@[simp] theorem Rack.releaseGrant_orders (c : Conditions) (a : ArmId)  : (r.releaseGrant c a).orders = r.orders := by
  unfold Rack.releaseGrant; split <;> simp
@[simp] theorem Rack.releaseGrant_channels (c : Conditions) (a : ArmId)  : (r.releaseGrant c a).channels = r.channels := by
  unfold Rack.releaseGrant; split <;> simp
@[simp] theorem Rack.releaseGrant_injectors (c : Conditions) (a : ArmId)  : (r.releaseGrant c a).injectors = r.injectors := by
  unfold Rack.releaseGrant; split <;> simp
@[simp] theorem Rack.releaseGrant_bays (c : Conditions) (a : ArmId)  : (r.releaseGrant c a).bays = r.bays := by
  unfold Rack.releaseGrant; split <;> simp
@[simp] theorem Rack.releaseGrant_noteCounter (c : Conditions) (a : ArmId)  : (r.releaseGrant c a).noteCounter = r.noteCounter := by
  unfold Rack.releaseGrant; split <;> simp
@[simp] theorem Rack.releaseGrant_notes (c : Conditions) (a : ArmId)  : (r.releaseGrant c a).notes = r.notes := by
  unfold Rack.releaseGrant; split <;> simp

@[simp] theorem Rack.withdraw_permits (a : ArmId)  : (r.withdraw a).permits = r.permits := by
  unfold Rack.withdraw; split <;> simp
@[simp] theorem Rack.withdraw_units (a : ArmId)  : (r.withdraw a).units = r.units := by
  unfold Rack.withdraw; split <;> simp
@[simp] theorem Rack.withdraw_accounts (a : ArmId)  : (r.withdraw a).accounts = r.accounts := by
  unfold Rack.withdraw; split <;> simp
@[simp] theorem Rack.withdraw_additives (a : ArmId)  : (r.withdraw a).additives = r.additives := by
  unfold Rack.withdraw; split <;> simp
@[simp] theorem Rack.withdraw_orders (a : ArmId)  : (r.withdraw a).orders = r.orders := by
  unfold Rack.withdraw; split <;> simp
@[simp] theorem Rack.withdraw_channels (a : ArmId)  : (r.withdraw a).channels = r.channels := by
  unfold Rack.withdraw; split <;> simp
@[simp] theorem Rack.withdraw_arms (a : ArmId)  : (r.withdraw a).arms = r.arms := by
  unfold Rack.withdraw; split <;> simp
@[simp] theorem Rack.withdraw_injectors (a : ArmId)  : (r.withdraw a).injectors = r.injectors := by
  unfold Rack.withdraw; split <;> simp
@[simp] theorem Rack.withdraw_bays (a : ArmId)  : (r.withdraw a).bays = r.bays := by
  unfold Rack.withdraw; split <;> simp
@[simp] theorem Rack.withdraw_panels (a : ArmId)  : (r.withdraw a).panels = r.panels := by
  unfold Rack.withdraw; split <;> simp
@[simp] theorem Rack.withdraw_noteCounter (a : ArmId)  : (r.withdraw a).noteCounter = r.noteCounter := by
  unfold Rack.withdraw; split <;> simp
@[simp] theorem Rack.withdraw_notes (a : ArmId)  : (r.withdraw a).notes = r.notes := by
  unfold Rack.withdraw; split <;> simp

@[simp] theorem Rack.joinWaiting_permits (c : Conditions) (a : ArmId)  : (r.joinWaiting c a).permits = r.permits := by
  unfold Rack.joinWaiting; split <;> simp
@[simp] theorem Rack.joinWaiting_units (c : Conditions) (a : ArmId)  : (r.joinWaiting c a).units = r.units := by
  unfold Rack.joinWaiting; split <;> simp
@[simp] theorem Rack.joinWaiting_accounts (c : Conditions) (a : ArmId)  : (r.joinWaiting c a).accounts = r.accounts := by
  unfold Rack.joinWaiting; split <;> simp
@[simp] theorem Rack.joinWaiting_additives (c : Conditions) (a : ArmId)  : (r.joinWaiting c a).additives = r.additives := by
  unfold Rack.joinWaiting; split <;> simp
@[simp] theorem Rack.joinWaiting_orders (c : Conditions) (a : ArmId)  : (r.joinWaiting c a).orders = r.orders := by
  unfold Rack.joinWaiting; split <;> simp
@[simp] theorem Rack.joinWaiting_channels (c : Conditions) (a : ArmId)  : (r.joinWaiting c a).channels = r.channels := by
  unfold Rack.joinWaiting; split <;> simp
@[simp] theorem Rack.joinWaiting_injectors (c : Conditions) (a : ArmId)  : (r.joinWaiting c a).injectors = r.injectors := by
  unfold Rack.joinWaiting; split <;> simp
@[simp] theorem Rack.joinWaiting_bays (c : Conditions) (a : ArmId)  : (r.joinWaiting c a).bays = r.bays := by
  unfold Rack.joinWaiting; split <;> simp
@[simp] theorem Rack.joinWaiting_noteCounter (c : Conditions) (a : ArmId)  : (r.joinWaiting c a).noteCounter = r.noteCounter := by
  unfold Rack.joinWaiting; split <;> simp
@[simp] theorem Rack.joinWaiting_notes (c : Conditions) (a : ArmId)  : (r.joinWaiting c a).notes = r.notes := by
  unfold Rack.joinWaiting; split <;> simp

@[simp] theorem Rack.afterLeaving_permits (c : Conditions) (a : ArmId) (old : ArmState) : (r.afterLeaving c a old).permits = r.permits := by
  unfold Rack.afterLeaving; repeat' split
  all_goals simp
@[simp] theorem Rack.afterLeaving_units (c : Conditions) (a : ArmId) (old : ArmState) : (r.afterLeaving c a old).units = r.units := by
  unfold Rack.afterLeaving; repeat' split
  all_goals simp
@[simp] theorem Rack.afterLeaving_accounts (c : Conditions) (a : ArmId) (old : ArmState) : (r.afterLeaving c a old).accounts = r.accounts := by
  unfold Rack.afterLeaving; repeat' split
  all_goals simp
@[simp] theorem Rack.afterLeaving_additives (c : Conditions) (a : ArmId) (old : ArmState) : (r.afterLeaving c a old).additives = r.additives := by
  unfold Rack.afterLeaving; repeat' split
  all_goals simp
@[simp] theorem Rack.afterLeaving_orders (c : Conditions) (a : ArmId) (old : ArmState) : (r.afterLeaving c a old).orders = r.orders := by
  unfold Rack.afterLeaving; repeat' split
  all_goals simp
@[simp] theorem Rack.afterLeaving_channels (c : Conditions) (a : ArmId) (old : ArmState) : (r.afterLeaving c a old).channels = r.channels := by
  unfold Rack.afterLeaving; repeat' split
  all_goals simp
@[simp] theorem Rack.afterLeaving_injectors (c : Conditions) (a : ArmId) (old : ArmState) : (r.afterLeaving c a old).injectors = r.injectors := by
  unfold Rack.afterLeaving; repeat' split
  all_goals simp
@[simp] theorem Rack.afterLeaving_bays (c : Conditions) (a : ArmId) (old : ArmState) : (r.afterLeaving c a old).bays = r.bays := by
  unfold Rack.afterLeaving; repeat' split
  all_goals simp
@[simp] theorem Rack.afterLeaving_noteCounter (c : Conditions) (a : ArmId) (old : ArmState) : (r.afterLeaving c a old).noteCounter = r.noteCounter := by
  unfold Rack.afterLeaving; repeat' split
  all_goals simp
@[simp] theorem Rack.afterLeaving_notes (c : Conditions) (a : ArmId) (old : ArmState) : (r.afterLeaving c a old).notes = r.notes := by
  unfold Rack.afterLeaving; repeat' split
  all_goals simp

@[simp] theorem Rack.enterClosing_permits (c : Conditions) (a : ArmId) (intent : Intent) : (r.enterClosing c a intent).permits = r.permits := by simp [Rack.enterClosing]
@[simp] theorem Rack.enterClosing_units (c : Conditions) (a : ArmId) (intent : Intent) : (r.enterClosing c a intent).units = r.units := by simp [Rack.enterClosing]
@[simp] theorem Rack.enterClosing_accounts (c : Conditions) (a : ArmId) (intent : Intent) : (r.enterClosing c a intent).accounts = r.accounts := by simp [Rack.enterClosing]
@[simp] theorem Rack.enterClosing_additives (c : Conditions) (a : ArmId) (intent : Intent) : (r.enterClosing c a intent).additives = r.additives := by simp [Rack.enterClosing]
@[simp] theorem Rack.enterClosing_orders (c : Conditions) (a : ArmId) (intent : Intent) : (r.enterClosing c a intent).orders = r.orders := by simp [Rack.enterClosing]
@[simp] theorem Rack.enterClosing_channels (c : Conditions) (a : ArmId) (intent : Intent) : (r.enterClosing c a intent).channels = r.channels := by simp [Rack.enterClosing]
@[simp] theorem Rack.enterClosing_injectors (c : Conditions) (a : ArmId) (intent : Intent) : (r.enterClosing c a intent).injectors = r.injectors := by simp [Rack.enterClosing]
@[simp] theorem Rack.enterClosing_bays (c : Conditions) (a : ArmId) (intent : Intent) : (r.enterClosing c a intent).bays = r.bays := by simp [Rack.enterClosing]
@[simp] theorem Rack.enterClosing_noteCounter (c : Conditions) (a : ArmId) (intent : Intent) : (r.enterClosing c a intent).noteCounter = r.noteCounter := by simp [Rack.enterClosing]
@[simp] theorem Rack.enterClosing_notes (c : Conditions) (a : ArmId) (intent : Intent) : (r.enterClosing c a intent).notes = r.notes := by simp [Rack.enterClosing]

@[simp] theorem Rack.raiseCause_permits (c : Conditions) (a : ArmId) (cause : Cause) : (r.raiseCause c a cause).permits = r.permits := by
  unfold Rack.raiseCause; repeat' split
  all_goals simp
@[simp] theorem Rack.raiseCause_units (c : Conditions) (a : ArmId) (cause : Cause) : (r.raiseCause c a cause).units = r.units := by
  unfold Rack.raiseCause; repeat' split
  all_goals simp
@[simp] theorem Rack.raiseCause_accounts (c : Conditions) (a : ArmId) (cause : Cause) : (r.raiseCause c a cause).accounts = r.accounts := by
  unfold Rack.raiseCause; repeat' split
  all_goals simp
@[simp] theorem Rack.raiseCause_additives (c : Conditions) (a : ArmId) (cause : Cause) : (r.raiseCause c a cause).additives = r.additives := by
  unfold Rack.raiseCause; repeat' split
  all_goals simp
@[simp] theorem Rack.raiseCause_channels (c : Conditions) (a : ArmId) (cause : Cause) : (r.raiseCause c a cause).channels = r.channels := by
  unfold Rack.raiseCause; repeat' split
  all_goals simp
@[simp] theorem Rack.raiseCause_injectors (c : Conditions) (a : ArmId) (cause : Cause) : (r.raiseCause c a cause).injectors = r.injectors := by
  unfold Rack.raiseCause; repeat' split
  all_goals simp
@[simp] theorem Rack.raiseCause_bays (c : Conditions) (a : ArmId) (cause : Cause) : (r.raiseCause c a cause).bays = r.bays := by
  unfold Rack.raiseCause; repeat' split
  all_goals simp
@[simp] theorem Rack.raiseCause_noteCounter (c : Conditions) (a : ArmId) (cause : Cause) : (r.raiseCause c a cause).noteCounter = r.noteCounter := by
  unfold Rack.raiseCause; repeat' split
  all_goals simp
@[simp] theorem Rack.raiseCause_notes (c : Conditions) (a : ArmId) (cause : Cause) : (r.raiseCause c a cause).notes = r.notes := by
  unfold Rack.raiseCause; repeat' split
  all_goals simp

@[simp] theorem Rack.enterIdle_permits (c : Conditions) (a : ArmId)  : (r.enterIdle c a).permits = r.permits := by
  unfold Rack.enterIdle; dsimp only; split <;> simp
@[simp] theorem Rack.enterIdle_units (c : Conditions) (a : ArmId)  : (r.enterIdle c a).units = r.units := by
  unfold Rack.enterIdle; dsimp only; split <;> simp
@[simp] theorem Rack.enterIdle_accounts (c : Conditions) (a : ArmId)  : (r.enterIdle c a).accounts = r.accounts := by
  unfold Rack.enterIdle; dsimp only; split <;> simp
@[simp] theorem Rack.enterIdle_additives (c : Conditions) (a : ArmId)  : (r.enterIdle c a).additives = r.additives := by
  unfold Rack.enterIdle; dsimp only; split <;> simp
@[simp] theorem Rack.enterIdle_orders (c : Conditions) (a : ArmId)  : (r.enterIdle c a).orders = r.orders := by
  unfold Rack.enterIdle; dsimp only; split <;> simp
@[simp] theorem Rack.enterIdle_channels (c : Conditions) (a : ArmId)  : (r.enterIdle c a).channels = r.channels := by
  unfold Rack.enterIdle; dsimp only; split <;> simp
@[simp] theorem Rack.enterIdle_injectors (c : Conditions) (a : ArmId)  : (r.enterIdle c a).injectors = r.injectors := by
  unfold Rack.enterIdle; dsimp only; split <;> simp
@[simp] theorem Rack.enterIdle_headers (c : Conditions) (a : ArmId)  : (r.enterIdle c a).headers = r.headers := by
  unfold Rack.enterIdle; dsimp only; split <;> simp
@[simp] theorem Rack.enterIdle_bays (c : Conditions) (a : ArmId)  : (r.enterIdle c a).bays = r.bays := by
  unfold Rack.enterIdle; dsimp only; split <;> simp
@[simp] theorem Rack.enterIdle_noteCounter (c : Conditions) (a : ArmId)  : (r.enterIdle c a).noteCounter = r.noteCounter := by
  unfold Rack.enterIdle; dsimp only; split <;> simp
@[simp] theorem Rack.enterIdle_notes (c : Conditions) (a : ArmId)  : (r.enterIdle c a).notes = r.notes := by
  unfold Rack.enterIdle; dsimp only; split <;> simp

@[simp] theorem Rack.takeHead_permits (c : Conditions) (a : ArmId)  : (r.takeHead c a).permits = r.permits := by
  unfold Rack.takeHead; split <;> simp
@[simp] theorem Rack.takeHead_units (c : Conditions) (a : ArmId)  : (r.takeHead c a).units = r.units := by
  unfold Rack.takeHead; split <;> simp
@[simp] theorem Rack.takeHead_accounts (c : Conditions) (a : ArmId)  : (r.takeHead c a).accounts = r.accounts := by
  unfold Rack.takeHead; split <;> simp
@[simp] theorem Rack.takeHead_additives (c : Conditions) (a : ArmId)  : (r.takeHead c a).additives = r.additives := by
  unfold Rack.takeHead; split <;> simp
@[simp] theorem Rack.takeHead_orders (c : Conditions) (a : ArmId)  : (r.takeHead c a).orders = r.orders := by
  unfold Rack.takeHead; split <;> simp
@[simp] theorem Rack.takeHead_channels (c : Conditions) (a : ArmId)  : (r.takeHead c a).channels = r.channels := by
  unfold Rack.takeHead; split <;> simp
@[simp] theorem Rack.takeHead_injectors (c : Conditions) (a : ArmId)  : (r.takeHead c a).injectors = r.injectors := by
  unfold Rack.takeHead; split <;> simp
@[simp] theorem Rack.takeHead_headers (c : Conditions) (a : ArmId)  : (r.takeHead c a).headers = r.headers := by
  unfold Rack.takeHead; split <;> simp
@[simp] theorem Rack.takeHead_bays (c : Conditions) (a : ArmId)  : (r.takeHead c a).bays = r.bays := by
  unfold Rack.takeHead; split <;> simp
@[simp] theorem Rack.takeHead_noteCounter (c : Conditions) (a : ArmId)  : (r.takeHead c a).noteCounter = r.noteCounter := by
  unfold Rack.takeHead; split <;> simp
@[simp] theorem Rack.takeHead_notes (c : Conditions) (a : ArmId)  : (r.takeHead c a).notes = r.notes := by
  unfold Rack.takeHead; split <;> simp

@[simp] theorem Rack.dropQueued_permits (c : Conditions) (a : ArmId) (order line : Nat) : (r.dropQueued c a order line).permits = r.permits := by
  unfold Rack.dropQueued; repeat' split
  all_goals simp
@[simp] theorem Rack.dropQueued_units (c : Conditions) (a : ArmId) (order line : Nat) : (r.dropQueued c a order line).units = r.units := by
  unfold Rack.dropQueued; repeat' split
  all_goals simp
@[simp] theorem Rack.dropQueued_accounts (c : Conditions) (a : ArmId) (order line : Nat) : (r.dropQueued c a order line).accounts = r.accounts := by
  unfold Rack.dropQueued; repeat' split
  all_goals simp
@[simp] theorem Rack.dropQueued_additives (c : Conditions) (a : ArmId) (order line : Nat) : (r.dropQueued c a order line).additives = r.additives := by
  unfold Rack.dropQueued; repeat' split
  all_goals simp
@[simp] theorem Rack.dropQueued_orders (c : Conditions) (a : ArmId) (order line : Nat) : (r.dropQueued c a order line).orders = r.orders := by
  unfold Rack.dropQueued; repeat' split
  all_goals simp
@[simp] theorem Rack.dropQueued_channels (c : Conditions) (a : ArmId) (order line : Nat) : (r.dropQueued c a order line).channels = r.channels := by
  unfold Rack.dropQueued; repeat' split
  all_goals simp
@[simp] theorem Rack.dropQueued_injectors (c : Conditions) (a : ArmId) (order line : Nat) : (r.dropQueued c a order line).injectors = r.injectors := by
  unfold Rack.dropQueued; repeat' split
  all_goals simp
@[simp] theorem Rack.dropQueued_headers (c : Conditions) (a : ArmId) (order line : Nat) : (r.dropQueued c a order line).headers = r.headers := by
  unfold Rack.dropQueued; repeat' split
  all_goals simp
@[simp] theorem Rack.dropQueued_bays (c : Conditions) (a : ArmId) (order line : Nat) : (r.dropQueued c a order line).bays = r.bays := by
  unfold Rack.dropQueued; repeat' split
  all_goals simp
@[simp] theorem Rack.dropQueued_noteCounter (c : Conditions) (a : ArmId) (order line : Nat) : (r.dropQueued c a order line).noteCounter = r.noteCounter := by
  unfold Rack.dropQueued; repeat' split
  all_goals simp
@[simp] theorem Rack.dropQueued_notes (c : Conditions) (a : ArmId) (order line : Nat) : (r.dropQueued c a order line).notes = r.notes := by
  unfold Rack.dropQueued; repeat' split
  all_goals simp

@[simp] theorem Rack.answerArm_permits (a : ArmId) (reason : Option PanelReason) : (r.answerArm a reason).permits = r.permits := by simp [Rack.answerArm]
@[simp] theorem Rack.answerArm_units (a : ArmId) (reason : Option PanelReason) : (r.answerArm a reason).units = r.units := by simp [Rack.answerArm]
@[simp] theorem Rack.answerArm_accounts (a : ArmId) (reason : Option PanelReason) : (r.answerArm a reason).accounts = r.accounts := by simp [Rack.answerArm]
@[simp] theorem Rack.answerArm_additives (a : ArmId) (reason : Option PanelReason) : (r.answerArm a reason).additives = r.additives := by simp [Rack.answerArm]
@[simp] theorem Rack.answerArm_orders (a : ArmId) (reason : Option PanelReason) : (r.answerArm a reason).orders = r.orders := by simp [Rack.answerArm]
@[simp] theorem Rack.answerArm_channels (a : ArmId) (reason : Option PanelReason) : (r.answerArm a reason).channels = r.channels := by simp [Rack.answerArm]
@[simp] theorem Rack.answerArm_injectors (a : ArmId) (reason : Option PanelReason) : (r.answerArm a reason).injectors = r.injectors := by simp [Rack.answerArm]
@[simp] theorem Rack.answerArm_headers (a : ArmId) (reason : Option PanelReason) : (r.answerArm a reason).headers = r.headers := by simp [Rack.answerArm]
@[simp] theorem Rack.answerArm_bays (a : ArmId) (reason : Option PanelReason) : (r.answerArm a reason).bays = r.bays := by simp [Rack.answerArm]
@[simp] theorem Rack.answerArm_noteCounter (a : ArmId) (reason : Option PanelReason) : (r.answerArm a reason).noteCounter = r.noteCounter := by simp [Rack.answerArm]
@[simp] theorem Rack.answerArm_notes (a : ArmId) (reason : Option PanelReason) : (r.answerArm a reason).notes = r.notes := by simp [Rack.answerArm]

@[simp] theorem Rack.answerBay_permits (b : BayId) (reason : Option PanelReason) : (r.answerBay b reason).permits = r.permits := by simp [Rack.answerBay]
@[simp] theorem Rack.answerBay_units (b : BayId) (reason : Option PanelReason) : (r.answerBay b reason).units = r.units := by simp [Rack.answerBay]
@[simp] theorem Rack.answerBay_accounts (b : BayId) (reason : Option PanelReason) : (r.answerBay b reason).accounts = r.accounts := by simp [Rack.answerBay]
@[simp] theorem Rack.answerBay_additives (b : BayId) (reason : Option PanelReason) : (r.answerBay b reason).additives = r.additives := by simp [Rack.answerBay]
@[simp] theorem Rack.answerBay_orders (b : BayId) (reason : Option PanelReason) : (r.answerBay b reason).orders = r.orders := by simp [Rack.answerBay]
@[simp] theorem Rack.answerBay_channels (b : BayId) (reason : Option PanelReason) : (r.answerBay b reason).channels = r.channels := by simp [Rack.answerBay]
@[simp] theorem Rack.answerBay_arms (b : BayId) (reason : Option PanelReason) : (r.answerBay b reason).arms = r.arms := by simp [Rack.answerBay]
@[simp] theorem Rack.answerBay_injectors (b : BayId) (reason : Option PanelReason) : (r.answerBay b reason).injectors = r.injectors := by simp [Rack.answerBay]
@[simp] theorem Rack.answerBay_headers (b : BayId) (reason : Option PanelReason) : (r.answerBay b reason).headers = r.headers := by simp [Rack.answerBay]
@[simp] theorem Rack.answerBay_noteCounter (b : BayId) (reason : Option PanelReason) : (r.answerBay b reason).noteCounter = r.noteCounter := by simp [Rack.answerBay]
@[simp] theorem Rack.answerBay_notes (b : BayId) (reason : Option PanelReason) : (r.answerBay b reason).notes = r.notes := by simp [Rack.answerBay]

@[simp] theorem Rack.pumpLine_permits (b : BayId) : (r.pumpLine b).permits = r.permits := by
  unfold Rack.pumpLine; split <;> simp
@[simp] theorem Rack.pumpLine_units (b : BayId) : (r.pumpLine b).units = r.units := by
  unfold Rack.pumpLine; split <;> simp
@[simp] theorem Rack.pumpLine_accounts (b : BayId) : (r.pumpLine b).accounts = r.accounts := by
  unfold Rack.pumpLine; split <;> simp
@[simp] theorem Rack.pumpLine_additives (b : BayId) : (r.pumpLine b).additives = r.additives := by
  unfold Rack.pumpLine; split <;> simp
@[simp] theorem Rack.pumpLine_orders (b : BayId) : (r.pumpLine b).orders = r.orders := by
  unfold Rack.pumpLine; split <;> simp
@[simp] theorem Rack.pumpLine_channels (b : BayId) : (r.pumpLine b).channels = r.channels := by
  unfold Rack.pumpLine; split <;> simp
@[simp] theorem Rack.pumpLine_arms (b : BayId) : (r.pumpLine b).arms = r.arms := by
  unfold Rack.pumpLine; split <;> simp
@[simp] theorem Rack.pumpLine_injectors (b : BayId) : (r.pumpLine b).injectors = r.injectors := by
  unfold Rack.pumpLine; split <;> simp
@[simp] theorem Rack.pumpLine_headers (b : BayId) : (r.pumpLine b).headers = r.headers := by
  unfold Rack.pumpLine; split <;> simp
@[simp] theorem Rack.pumpLine_bays (b : BayId) : (r.pumpLine b).bays = r.bays := by
  unfold Rack.pumpLine; split <;> simp
@[simp] theorem Rack.pumpLine_noteCounter (b : BayId) : (r.pumpLine b).noteCounter = r.noteCounter := by
  unfold Rack.pumpLine; split <;> simp
@[simp] theorem Rack.pumpLine_notes (b : BayId) : (r.pumpLine b).notes = r.notes := by
  unfold Rack.pumpLine; split <;> simp

@[simp] theorem Rack.pump_permits : (r.pump).permits = r.permits := by simp [Rack.pump]
@[simp] theorem Rack.pump_units : (r.pump).units = r.units := by simp [Rack.pump]
@[simp] theorem Rack.pump_accounts : (r.pump).accounts = r.accounts := by simp [Rack.pump]
@[simp] theorem Rack.pump_additives : (r.pump).additives = r.additives := by simp [Rack.pump]
@[simp] theorem Rack.pump_orders : (r.pump).orders = r.orders := by simp [Rack.pump]
@[simp] theorem Rack.pump_channels : (r.pump).channels = r.channels := by simp [Rack.pump]
@[simp] theorem Rack.pump_arms : (r.pump).arms = r.arms := by simp [Rack.pump]
@[simp] theorem Rack.pump_injectors : (r.pump).injectors = r.injectors := by simp [Rack.pump]
@[simp] theorem Rack.pump_headers : (r.pump).headers = r.headers := by simp [Rack.pump]
@[simp] theorem Rack.pump_bays : (r.pump).bays = r.bays := by simp [Rack.pump]
@[simp] theorem Rack.pump_noteCounter : (r.pump).noteCounter = r.noteCounter := by simp [Rack.pump]
@[simp] theorem Rack.pump_notes : (r.pump).notes = r.notes := by simp [Rack.pump]

@[simp] theorem Rack.updateLastGroup_permits (o : Order) (l : Line) : (r.updateLastGroup o l).permits = r.permits := by
  unfold Rack.updateLastGroup; repeat' split
  all_goals simp
@[simp] theorem Rack.updateLastGroup_accounts (o : Order) (l : Line) : (r.updateLastGroup o l).accounts = r.accounts := by
  unfold Rack.updateLastGroup; repeat' split
  all_goals simp
@[simp] theorem Rack.updateLastGroup_additives (o : Order) (l : Line) : (r.updateLastGroup o l).additives = r.additives := by
  unfold Rack.updateLastGroup; repeat' split
  all_goals simp
@[simp] theorem Rack.updateLastGroup_orders (o : Order) (l : Line) : (r.updateLastGroup o l).orders = r.orders := by
  unfold Rack.updateLastGroup; repeat' split
  all_goals simp
@[simp] theorem Rack.updateLastGroup_channels (o : Order) (l : Line) : (r.updateLastGroup o l).channels = r.channels := by
  unfold Rack.updateLastGroup; repeat' split
  all_goals simp
@[simp] theorem Rack.updateLastGroup_arms (o : Order) (l : Line) : (r.updateLastGroup o l).arms = r.arms := by
  unfold Rack.updateLastGroup; repeat' split
  all_goals simp
@[simp] theorem Rack.updateLastGroup_injectors (o : Order) (l : Line) : (r.updateLastGroup o l).injectors = r.injectors := by
  unfold Rack.updateLastGroup; repeat' split
  all_goals simp
@[simp] theorem Rack.updateLastGroup_headers (o : Order) (l : Line) : (r.updateLastGroup o l).headers = r.headers := by
  unfold Rack.updateLastGroup; repeat' split
  all_goals simp
@[simp] theorem Rack.updateLastGroup_bays (o : Order) (l : Line) : (r.updateLastGroup o l).bays = r.bays := by
  unfold Rack.updateLastGroup; repeat' split
  all_goals simp
@[simp] theorem Rack.updateLastGroup_panels (o : Order) (l : Line) : (r.updateLastGroup o l).panels = r.panels := by
  unfold Rack.updateLastGroup; repeat' split
  all_goals simp
@[simp] theorem Rack.updateLastGroup_noteCounter (o : Order) (l : Line) : (r.updateLastGroup o l).noteCounter = r.noteCounter := by
  unfold Rack.updateLastGroup; repeat' split
  all_goals simp
@[simp] theorem Rack.updateLastGroup_notes (o : Order) (l : Line) : (r.updateLastGroup o l).notes = r.notes := by
  unfold Rack.updateLastGroup; repeat' split
  all_goals simp

@[simp] theorem releaseAdditives_permits (ds : List DoseRecord) : (releaseAdditives ds r).permits = r.permits := by
  induction ds generalizing r with
  | nil => rfl
  | cons d ds ih => simp [releaseAdditives, ih]
@[simp] theorem releaseAdditives_units (ds : List DoseRecord) : (releaseAdditives ds r).units = r.units := by
  induction ds generalizing r with
  | nil => rfl
  | cons d ds ih => simp [releaseAdditives, ih]
@[simp] theorem releaseAdditives_accounts (ds : List DoseRecord) : (releaseAdditives ds r).accounts = r.accounts := by
  induction ds generalizing r with
  | nil => rfl
  | cons d ds ih => simp [releaseAdditives, ih]
@[simp] theorem releaseAdditives_orders (ds : List DoseRecord) : (releaseAdditives ds r).orders = r.orders := by
  induction ds generalizing r with
  | nil => rfl
  | cons d ds ih => simp [releaseAdditives, ih]
@[simp] theorem releaseAdditives_channels (ds : List DoseRecord) : (releaseAdditives ds r).channels = r.channels := by
  induction ds generalizing r with
  | nil => rfl
  | cons d ds ih => simp [releaseAdditives, ih]
@[simp] theorem releaseAdditives_arms (ds : List DoseRecord) : (releaseAdditives ds r).arms = r.arms := by
  induction ds generalizing r with
  | nil => rfl
  | cons d ds ih => simp [releaseAdditives, ih]
@[simp] theorem releaseAdditives_injectors (ds : List DoseRecord) : (releaseAdditives ds r).injectors = r.injectors := by
  induction ds generalizing r with
  | nil => rfl
  | cons d ds ih => simp [releaseAdditives, ih]
@[simp] theorem releaseAdditives_headers (ds : List DoseRecord) : (releaseAdditives ds r).headers = r.headers := by
  induction ds generalizing r with
  | nil => rfl
  | cons d ds ih => simp [releaseAdditives, ih]
@[simp] theorem releaseAdditives_bays (ds : List DoseRecord) : (releaseAdditives ds r).bays = r.bays := by
  induction ds generalizing r with
  | nil => rfl
  | cons d ds ih => simp [releaseAdditives, ih]
@[simp] theorem releaseAdditives_panels (ds : List DoseRecord) : (releaseAdditives ds r).panels = r.panels := by
  induction ds generalizing r with
  | nil => rfl
  | cons d ds ih => simp [releaseAdditives, ih]
@[simp] theorem releaseAdditives_noteCounter (ds : List DoseRecord) : (releaseAdditives ds r).noteCounter = r.noteCounter := by
  induction ds generalizing r with
  | nil => rfl
  | cons d ds ih => simp [releaseAdditives, ih]
@[simp] theorem releaseAdditives_notes (ds : List DoseRecord) : (releaseAdditives ds r).notes = r.notes := by
  induction ds generalizing r with
  | nil => rfl
  | cons d ds ih => simp [releaseAdditives, ih]

@[simp] theorem Rack.endLineRecord_permits (order line : Nat) (final : LineState) (cause : Option StopCause) : (r.endLineRecord order line final cause).permits = r.permits := by
  unfold Rack.endLineRecord; split <;> simp
@[simp] theorem Rack.endLineRecord_channels (order line : Nat) (final : LineState) (cause : Option StopCause) : (r.endLineRecord order line final cause).channels = r.channels := by
  unfold Rack.endLineRecord; split <;> simp
@[simp] theorem Rack.endLineRecord_arms (order line : Nat) (final : LineState) (cause : Option StopCause) : (r.endLineRecord order line final cause).arms = r.arms := by
  unfold Rack.endLineRecord; split <;> simp
@[simp] theorem Rack.endLineRecord_injectors (order line : Nat) (final : LineState) (cause : Option StopCause) : (r.endLineRecord order line final cause).injectors = r.injectors := by
  unfold Rack.endLineRecord; split <;> simp
@[simp] theorem Rack.endLineRecord_headers (order line : Nat) (final : LineState) (cause : Option StopCause) : (r.endLineRecord order line final cause).headers = r.headers := by
  unfold Rack.endLineRecord; split <;> simp
@[simp] theorem Rack.endLineRecord_bays (order line : Nat) (final : LineState) (cause : Option StopCause) : (r.endLineRecord order line final cause).bays = r.bays := by
  unfold Rack.endLineRecord; split <;> simp
@[simp] theorem Rack.endLineRecord_panels (order line : Nat) (final : LineState) (cause : Option StopCause) : (r.endLineRecord order line final cause).panels = r.panels := by
  unfold Rack.endLineRecord; split <;> simp
@[simp] theorem Rack.endLineRecord_noteCounter (order line : Nat) (final : LineState) (cause : Option StopCause) : (r.endLineRecord order line final cause).noteCounter = r.noteCounter := by
  unfold Rack.endLineRecord; split <;> simp
@[simp] theorem Rack.endLineRecord_notes (order line : Nat) (final : LineState) (cause : Option StopCause) : (r.endLineRecord order line final cause).notes = r.notes := by
  unfold Rack.endLineRecord; split <;> simp

@[simp] theorem Rack.uncommitUnits_permits (o : Order) : (r.uncommitUnits o).permits = r.permits := by
  unfold Rack.uncommitUnits; split <;> rfl
@[simp] theorem Rack.uncommitUnits_accounts (o : Order) : (r.uncommitUnits o).accounts = r.accounts := by
  unfold Rack.uncommitUnits; split <;> rfl
@[simp] theorem Rack.uncommitUnits_additives (o : Order) : (r.uncommitUnits o).additives = r.additives := by
  unfold Rack.uncommitUnits; split <;> rfl
@[simp] theorem Rack.uncommitUnits_orders (o : Order) : (r.uncommitUnits o).orders = r.orders := by
  unfold Rack.uncommitUnits; split <;> rfl
@[simp] theorem Rack.uncommitUnits_channels (o : Order) : (r.uncommitUnits o).channels = r.channels := by
  unfold Rack.uncommitUnits; split <;> rfl
@[simp] theorem Rack.uncommitUnits_arms (o : Order) : (r.uncommitUnits o).arms = r.arms := by
  unfold Rack.uncommitUnits; split <;> rfl
@[simp] theorem Rack.uncommitUnits_injectors (o : Order) : (r.uncommitUnits o).injectors = r.injectors := by
  unfold Rack.uncommitUnits; split <;> rfl
@[simp] theorem Rack.uncommitUnits_headers (o : Order) : (r.uncommitUnits o).headers = r.headers := by
  unfold Rack.uncommitUnits; split <;> rfl
@[simp] theorem Rack.uncommitUnits_bays (o : Order) : (r.uncommitUnits o).bays = r.bays := by
  unfold Rack.uncommitUnits; split <;> rfl
@[simp] theorem Rack.uncommitUnits_panels (o : Order) : (r.uncommitUnits o).panels = r.panels := by
  unfold Rack.uncommitUnits; split <;> rfl
@[simp] theorem Rack.uncommitUnits_noteCounter (o : Order) : (r.uncommitUnits o).noteCounter = r.noteCounter := by
  unfold Rack.uncommitUnits; split <;> rfl
@[simp] theorem Rack.uncommitUnits_notes (o : Order) : (r.uncommitUnits o).notes = r.notes := by
  unfold Rack.uncommitUnits; split <;> rfl

@[simp] theorem Rack.releaseBay_units (b : BayId) (permit : Nat) : (r.releaseBay b permit).units = r.units := by simp [Rack.releaseBay]
@[simp] theorem Rack.releaseBay_accounts (b : BayId) (permit : Nat) : (r.releaseBay b permit).accounts = r.accounts := by simp [Rack.releaseBay]
@[simp] theorem Rack.releaseBay_additives (b : BayId) (permit : Nat) : (r.releaseBay b permit).additives = r.additives := by simp [Rack.releaseBay]
@[simp] theorem Rack.releaseBay_orders (b : BayId) (permit : Nat) : (r.releaseBay b permit).orders = r.orders := by simp [Rack.releaseBay]
@[simp] theorem Rack.releaseBay_channels (b : BayId) (permit : Nat) : (r.releaseBay b permit).channels = r.channels := by simp [Rack.releaseBay]
@[simp] theorem Rack.releaseBay_arms (b : BayId) (permit : Nat) : (r.releaseBay b permit).arms = r.arms := by simp [Rack.releaseBay]
@[simp] theorem Rack.releaseBay_injectors (b : BayId) (permit : Nat) : (r.releaseBay b permit).injectors = r.injectors := by simp [Rack.releaseBay]
@[simp] theorem Rack.releaseBay_headers (b : BayId) (permit : Nat) : (r.releaseBay b permit).headers = r.headers := by simp [Rack.releaseBay]
@[simp] theorem Rack.releaseBay_noteCounter (b : BayId) (permit : Nat) : (r.releaseBay b permit).noteCounter = r.noteCounter := by simp [Rack.releaseBay]
@[simp] theorem Rack.releaseBay_notes (b : BayId) (permit : Nat) : (r.releaseBay b permit).notes = r.notes := by simp [Rack.releaseBay]

@[simp] theorem Rack.releaseBayOf_units (o : Order) : (r.releaseBayOf o).units = r.units := by
  unfold Rack.releaseBayOf; repeat' split
  all_goals simp
@[simp] theorem Rack.releaseBayOf_accounts (o : Order) : (r.releaseBayOf o).accounts = r.accounts := by
  unfold Rack.releaseBayOf; repeat' split
  all_goals simp
@[simp] theorem Rack.releaseBayOf_additives (o : Order) : (r.releaseBayOf o).additives = r.additives := by
  unfold Rack.releaseBayOf; repeat' split
  all_goals simp
@[simp] theorem Rack.releaseBayOf_orders (o : Order) : (r.releaseBayOf o).orders = r.orders := by
  unfold Rack.releaseBayOf; repeat' split
  all_goals simp
@[simp] theorem Rack.releaseBayOf_channels (o : Order) : (r.releaseBayOf o).channels = r.channels := by
  unfold Rack.releaseBayOf; repeat' split
  all_goals simp
@[simp] theorem Rack.releaseBayOf_arms (o : Order) : (r.releaseBayOf o).arms = r.arms := by
  unfold Rack.releaseBayOf; repeat' split
  all_goals simp
@[simp] theorem Rack.releaseBayOf_injectors (o : Order) : (r.releaseBayOf o).injectors = r.injectors := by
  unfold Rack.releaseBayOf; repeat' split
  all_goals simp
@[simp] theorem Rack.releaseBayOf_headers (o : Order) : (r.releaseBayOf o).headers = r.headers := by
  unfold Rack.releaseBayOf; repeat' split
  all_goals simp
@[simp] theorem Rack.releaseBayOf_noteCounter (o : Order) : (r.releaseBayOf o).noteCounter = r.noteCounter := by
  unfold Rack.releaseBayOf; repeat' split
  all_goals simp
@[simp] theorem Rack.releaseBayOf_notes (o : Order) : (r.releaseBayOf o).notes = r.notes := by
  unfold Rack.releaseBayOf; repeat' split
  all_goals simp

@[simp] theorem Rack.completeOrder_accounts (c : Conditions) (o : Order) : (r.completeOrder c o).accounts = r.accounts := by
  unfold Rack.completeOrder; split <;> simp
@[simp] theorem Rack.completeOrder_additives (c : Conditions) (o : Order) : (r.completeOrder c o).additives = r.additives := by
  unfold Rack.completeOrder; split <;> simp
@[simp] theorem Rack.completeOrder_channels (c : Conditions) (o : Order) : (r.completeOrder c o).channels = r.channels := by
  unfold Rack.completeOrder; split <;> simp
@[simp] theorem Rack.completeOrder_arms (c : Conditions) (o : Order) : (r.completeOrder c o).arms = r.arms := by
  unfold Rack.completeOrder; split <;> simp
@[simp] theorem Rack.completeOrder_injectors (c : Conditions) (o : Order) : (r.completeOrder c o).injectors = r.injectors := by
  unfold Rack.completeOrder; split <;> simp
@[simp] theorem Rack.completeOrder_headers (c : Conditions) (o : Order) : (r.completeOrder c o).headers = r.headers := by
  unfold Rack.completeOrder; split <;> simp

@[simp] theorem Rack.returnToBooked_units (o : Order) : (r.returnToBooked o).units = r.units := by simp [Rack.returnToBooked]
@[simp] theorem Rack.returnToBooked_accounts (o : Order) : (r.returnToBooked o).accounts = r.accounts := by simp [Rack.returnToBooked]
@[simp] theorem Rack.returnToBooked_additives (o : Order) : (r.returnToBooked o).additives = r.additives := by simp [Rack.returnToBooked]
@[simp] theorem Rack.returnToBooked_channels (o : Order) : (r.returnToBooked o).channels = r.channels := by simp [Rack.returnToBooked]
@[simp] theorem Rack.returnToBooked_arms (o : Order) : (r.returnToBooked o).arms = r.arms := by simp [Rack.returnToBooked]
@[simp] theorem Rack.returnToBooked_injectors (o : Order) : (r.returnToBooked o).injectors = r.injectors := by simp [Rack.returnToBooked]
@[simp] theorem Rack.returnToBooked_headers (o : Order) : (r.returnToBooked o).headers = r.headers := by simp [Rack.returnToBooked]
@[simp] theorem Rack.returnToBooked_noteCounter (o : Order) : (r.returnToBooked o).noteCounter = r.noteCounter := by simp [Rack.returnToBooked]
@[simp] theorem Rack.returnToBooked_notes (o : Order) : (r.returnToBooked o).notes = r.notes := by simp [Rack.returnToBooked]

@[simp] theorem Rack.testOrder_accounts (c : Conditions) (order : Nat) : (r.testOrder c order).accounts = r.accounts := by
  unfold Rack.testOrder; repeat' split
  all_goals simp
@[simp] theorem Rack.testOrder_additives (c : Conditions) (order : Nat) : (r.testOrder c order).additives = r.additives := by
  unfold Rack.testOrder; repeat' split
  all_goals simp
@[simp] theorem Rack.testOrder_channels (c : Conditions) (order : Nat) : (r.testOrder c order).channels = r.channels := by
  unfold Rack.testOrder; repeat' split
  all_goals simp
@[simp] theorem Rack.testOrder_arms (c : Conditions) (order : Nat) : (r.testOrder c order).arms = r.arms := by
  unfold Rack.testOrder; repeat' split
  all_goals simp
@[simp] theorem Rack.testOrder_injectors (c : Conditions) (order : Nat) : (r.testOrder c order).injectors = r.injectors := by
  unfold Rack.testOrder; repeat' split
  all_goals simp
@[simp] theorem Rack.testOrder_headers (c : Conditions) (order : Nat) : (r.testOrder c order).headers = r.headers := by
  unfold Rack.testOrder; repeat' split
  all_goals simp

@[simp] theorem Rack.endCurrent_permits (c : Conditions) (a : ArmId) (final : LineState) (cause : Option StopCause) : (r.endCurrent c a final cause).permits = r.permits := by
  unfold Rack.endCurrent; split <;> simp
@[simp] theorem Rack.endCurrent_channels (c : Conditions) (a : ArmId) (final : LineState) (cause : Option StopCause) : (r.endCurrent c a final cause).channels = r.channels := by
  unfold Rack.endCurrent; split <;> simp
@[simp] theorem Rack.endCurrent_headers (c : Conditions) (a : ArmId) (final : LineState) (cause : Option StopCause) : (r.endCurrent c a final cause).headers = r.headers := by
  unfold Rack.endCurrent; split <;> simp
@[simp] theorem Rack.endCurrent_bays (c : Conditions) (a : ArmId) (final : LineState) (cause : Option StopCause) : (r.endCurrent c a final cause).bays = r.bays := by
  unfold Rack.endCurrent; split <;> simp
@[simp] theorem Rack.endCurrent_noteCounter (c : Conditions) (a : ArmId) (final : LineState) (cause : Option StopCause) : (r.endCurrent c a final cause).noteCounter = r.noteCounter := by
  unfold Rack.endCurrent; split <;> simp
@[simp] theorem Rack.endCurrent_notes (c : Conditions) (a : ArmId) (final : LineState) (cause : Option StopCause) : (r.endCurrent c a final cause).notes = r.notes := by
  unfold Rack.endCurrent; split <;> simp

@[simp] theorem Rack.endLine_channels (c : Conditions) (a : ArmId) (final : LineState) (cause : Option StopCause) : (r.endLine c a final cause).channels = r.channels := by
  unfold Rack.endLine; split <;> simp
@[simp] theorem Rack.endLine_headers (c : Conditions) (a : ArmId) (final : LineState) (cause : Option StopCause) : (r.endLine c a final cause).headers = r.headers := by
  unfold Rack.endLine; split <;> simp

@[simp] theorem Rack.learn_permits (a : ArmId)  : (r.learn a).permits = r.permits := by
  unfold Rack.learn; split <;> simp
@[simp] theorem Rack.learn_units (a : ArmId)  : (r.learn a).units = r.units := by
  unfold Rack.learn; split <;> simp
@[simp] theorem Rack.learn_accounts (a : ArmId)  : (r.learn a).accounts = r.accounts := by
  unfold Rack.learn; split <;> simp
@[simp] theorem Rack.learn_additives (a : ArmId)  : (r.learn a).additives = r.additives := by
  unfold Rack.learn; split <;> simp
@[simp] theorem Rack.learn_channels (a : ArmId)  : (r.learn a).channels = r.channels := by
  unfold Rack.learn; split <;> simp
@[simp] theorem Rack.learn_injectors (a : ArmId)  : (r.learn a).injectors = r.injectors := by
  unfold Rack.learn; split <;> simp
@[simp] theorem Rack.learn_headers (a : ArmId)  : (r.learn a).headers = r.headers := by
  unfold Rack.learn; split <;> simp
@[simp] theorem Rack.learn_bays (a : ArmId)  : (r.learn a).bays = r.bays := by
  unfold Rack.learn; split <;> simp
@[simp] theorem Rack.learn_panels (a : ArmId)  : (r.learn a).panels = r.panels := by
  unfold Rack.learn; split <;> simp
@[simp] theorem Rack.learn_noteCounter (a : ArmId)  : (r.learn a).noteCounter = r.noteCounter := by
  unfold Rack.learn; split <;> simp
@[simp] theorem Rack.learn_notes (a : ArmId)  : (r.learn a).notes = r.notes := by
  unfold Rack.learn; split <;> simp

@[simp] theorem Rack.addOwed_permits (a : ArmId) (s : SlotId) (stroke amount : Nat) : (r.addOwed a s stroke amount).permits = r.permits := by
  unfold Rack.addOwed; dsimp only; split <;> simp
@[simp] theorem Rack.addOwed_units (a : ArmId) (s : SlotId) (stroke amount : Nat) : (r.addOwed a s stroke amount).units = r.units := by
  unfold Rack.addOwed; dsimp only; split <;> simp
@[simp] theorem Rack.addOwed_accounts (a : ArmId) (s : SlotId) (stroke amount : Nat) : (r.addOwed a s stroke amount).accounts = r.accounts := by
  unfold Rack.addOwed; dsimp only; split <;> simp
@[simp] theorem Rack.addOwed_additives (a : ArmId) (s : SlotId) (stroke amount : Nat) : (r.addOwed a s stroke amount).additives = r.additives := by
  unfold Rack.addOwed; dsimp only; split <;> simp
@[simp] theorem Rack.addOwed_channels (a : ArmId) (s : SlotId) (stroke amount : Nat) : (r.addOwed a s stroke amount).channels = r.channels := by
  unfold Rack.addOwed; dsimp only; split <;> simp
@[simp] theorem Rack.addOwed_arms (a : ArmId) (s : SlotId) (stroke amount : Nat) : (r.addOwed a s stroke amount).arms = r.arms := by
  unfold Rack.addOwed; dsimp only; split <;> simp
@[simp] theorem Rack.addOwed_headers (a : ArmId) (s : SlotId) (stroke amount : Nat) : (r.addOwed a s stroke amount).headers = r.headers := by
  unfold Rack.addOwed; dsimp only; split <;> simp
@[simp] theorem Rack.addOwed_bays (a : ArmId) (s : SlotId) (stroke amount : Nat) : (r.addOwed a s stroke amount).bays = r.bays := by
  unfold Rack.addOwed; dsimp only; split <;> simp
@[simp] theorem Rack.addOwed_panels (a : ArmId) (s : SlotId) (stroke amount : Nat) : (r.addOwed a s stroke amount).panels = r.panels := by
  unfold Rack.addOwed; dsimp only; split <;> simp
@[simp] theorem Rack.addOwed_noteCounter (a : ArmId) (s : SlotId) (stroke amount : Nat) : (r.addOwed a s stroke amount).noteCounter = r.noteCounter := by
  unfold Rack.addOwed; dsimp only; split <;> simp
@[simp] theorem Rack.addOwed_notes (a : ArmId) (s : SlotId) (stroke amount : Nat) : (r.addOwed a s stroke amount).notes = r.notes := by
  unfold Rack.addOwed; dsimp only; split <;> simp

@[simp] theorem Rack.shortStock_permits (c : Conditions) (a : ArmId) (s : SlotId) (x : AdditiveId) : (r.shortStock c a s x).permits = r.permits := by
  unfold Rack.shortStock; repeat' split
  all_goals simp
@[simp] theorem Rack.shortStock_units (c : Conditions) (a : ArmId) (s : SlotId) (x : AdditiveId) : (r.shortStock c a s x).units = r.units := by
  unfold Rack.shortStock; repeat' split
  all_goals simp
@[simp] theorem Rack.shortStock_accounts (c : Conditions) (a : ArmId) (s : SlotId) (x : AdditiveId) : (r.shortStock c a s x).accounts = r.accounts := by
  unfold Rack.shortStock; repeat' split
  all_goals simp
@[simp] theorem Rack.shortStock_additives (c : Conditions) (a : ArmId) (s : SlotId) (x : AdditiveId) : (r.shortStock c a s x).additives = r.additives := by
  unfold Rack.shortStock; repeat' split
  all_goals simp
@[simp] theorem Rack.shortStock_channels (c : Conditions) (a : ArmId) (s : SlotId) (x : AdditiveId) : (r.shortStock c a s x).channels = r.channels := by
  unfold Rack.shortStock; repeat' split
  all_goals simp
@[simp] theorem Rack.shortStock_injectors (c : Conditions) (a : ArmId) (s : SlotId) (x : AdditiveId) : (r.shortStock c a s x).injectors = r.injectors := by
  unfold Rack.shortStock; repeat' split
  all_goals simp
@[simp] theorem Rack.shortStock_bays (c : Conditions) (a : ArmId) (s : SlotId) (x : AdditiveId) : (r.shortStock c a s x).bays = r.bays := by
  unfold Rack.shortStock; repeat' split
  all_goals simp
@[simp] theorem Rack.shortStock_noteCounter (c : Conditions) (a : ArmId) (s : SlotId) (x : AdditiveId) : (r.shortStock c a s x).noteCounter = r.noteCounter := by
  unfold Rack.shortStock; repeat' split
  all_goals simp
@[simp] theorem Rack.shortStock_notes (c : Conditions) (a : ArmId) (s : SlotId) (x : AdditiveId) : (r.shortStock c a s x).notes = r.notes := by
  unfold Rack.shortStock; repeat' split
  all_goals simp

@[simp] theorem Rack.startStroke_permits (c : Conditions) (a : ArmId) (s : SlotId) (k : SlotConfig) : (r.startStroke c a s k).permits = r.permits := by simp [Rack.startStroke]
@[simp] theorem Rack.startStroke_units (c : Conditions) (a : ArmId) (s : SlotId) (k : SlotConfig) : (r.startStroke c a s k).units = r.units := by simp [Rack.startStroke]
@[simp] theorem Rack.startStroke_accounts (c : Conditions) (a : ArmId) (s : SlotId) (k : SlotConfig) : (r.startStroke c a s k).accounts = r.accounts := by simp [Rack.startStroke]
@[simp] theorem Rack.startStroke_orders (c : Conditions) (a : ArmId) (s : SlotId) (k : SlotConfig) : (r.startStroke c a s k).orders = r.orders := by simp [Rack.startStroke]
@[simp] theorem Rack.startStroke_channels (c : Conditions) (a : ArmId) (s : SlotId) (k : SlotConfig) : (r.startStroke c a s k).channels = r.channels := by simp [Rack.startStroke]
@[simp] theorem Rack.startStroke_arms (c : Conditions) (a : ArmId) (s : SlotId) (k : SlotConfig) : (r.startStroke c a s k).arms = r.arms := by simp [Rack.startStroke]
@[simp] theorem Rack.startStroke_headers (c : Conditions) (a : ArmId) (s : SlotId) (k : SlotConfig) : (r.startStroke c a s k).headers = r.headers := by simp [Rack.startStroke]
@[simp] theorem Rack.startStroke_bays (c : Conditions) (a : ArmId) (s : SlotId) (k : SlotConfig) : (r.startStroke c a s k).bays = r.bays := by simp [Rack.startStroke]
@[simp] theorem Rack.startStroke_panels (c : Conditions) (a : ArmId) (s : SlotId) (k : SlotConfig) : (r.startStroke c a s k).panels = r.panels := by simp [Rack.startStroke]
@[simp] theorem Rack.startStroke_noteCounter (c : Conditions) (a : ArmId) (s : SlotId) (k : SlotConfig) : (r.startStroke c a s k).noteCounter = r.noteCounter := by simp [Rack.startStroke]
@[simp] theorem Rack.startStroke_notes (c : Conditions) (a : ArmId) (s : SlotId) (k : SlotConfig) : (r.startStroke c a s k).notes = r.notes := by simp [Rack.startStroke]

@[simp] theorem Rack.strokeTest_permits (c : Conditions) (a : ArmId) (s : SlotId) : (r.strokeTest c a s).permits = r.permits := by
  unfold Rack.strokeTest; repeat' split
  all_goals simp
@[simp] theorem Rack.strokeTest_units (c : Conditions) (a : ArmId) (s : SlotId) : (r.strokeTest c a s).units = r.units := by
  unfold Rack.strokeTest; repeat' split
  all_goals simp
@[simp] theorem Rack.strokeTest_accounts (c : Conditions) (a : ArmId) (s : SlotId) : (r.strokeTest c a s).accounts = r.accounts := by
  unfold Rack.strokeTest; repeat' split
  all_goals simp
@[simp] theorem Rack.strokeTest_channels (c : Conditions) (a : ArmId) (s : SlotId) : (r.strokeTest c a s).channels = r.channels := by
  unfold Rack.strokeTest; repeat' split
  all_goals simp
@[simp] theorem Rack.strokeTest_bays (c : Conditions) (a : ArmId) (s : SlotId) : (r.strokeTest c a s).bays = r.bays := by
  unfold Rack.strokeTest; repeat' split
  all_goals simp
@[simp] theorem Rack.strokeTest_noteCounter (c : Conditions) (a : ArmId) (s : SlotId) : (r.strokeTest c a s).noteCounter = r.noteCounter := by
  unfold Rack.strokeTest; repeat' split
  all_goals simp
@[simp] theorem Rack.strokeTest_notes (c : Conditions) (a : ArmId) (s : SlotId) : (r.strokeTest c a s).notes = r.notes := by
  unfold Rack.strokeTest; repeat' split
  all_goals simp

@[simp] theorem Rack.doseStep_permits (c : Conditions) (a : ArmId) (s : SlotId) : (r.doseStep c a s).permits = r.permits := by
  unfold Rack.doseStep; split <;> simp
@[simp] theorem Rack.doseStep_units (c : Conditions) (a : ArmId) (s : SlotId) : (r.doseStep c a s).units = r.units := by
  unfold Rack.doseStep; split <;> simp
@[simp] theorem Rack.doseStep_accounts (c : Conditions) (a : ArmId) (s : SlotId) : (r.doseStep c a s).accounts = r.accounts := by
  unfold Rack.doseStep; split <;> simp
@[simp] theorem Rack.doseStep_channels (c : Conditions) (a : ArmId) (s : SlotId) : (r.doseStep c a s).channels = r.channels := by
  unfold Rack.doseStep; split <;> simp
@[simp] theorem Rack.doseStep_bays (c : Conditions) (a : ArmId) (s : SlotId) : (r.doseStep c a s).bays = r.bays := by
  unfold Rack.doseStep; split <;> simp
@[simp] theorem Rack.doseStep_noteCounter (c : Conditions) (a : ArmId) (s : SlotId) : (r.doseStep c a s).noteCounter = r.noteCounter := by
  unfold Rack.doseStep; split <;> simp
@[simp] theorem Rack.doseStep_notes (c : Conditions) (a : ArmId) (s : SlotId) : (r.doseStep c a s).notes = r.notes := by
  unfold Rack.doseStep; split <;> simp

@[simp] theorem Rack.endStroke_permits (a : ArmId) (s : SlotId) : (r.endStroke a s).permits = r.permits := by simp [Rack.endStroke]
@[simp] theorem Rack.endStroke_units (a : ArmId) (s : SlotId) : (r.endStroke a s).units = r.units := by simp [Rack.endStroke]
@[simp] theorem Rack.endStroke_accounts (a : ArmId) (s : SlotId) : (r.endStroke a s).accounts = r.accounts := by simp [Rack.endStroke]
@[simp] theorem Rack.endStroke_additives (a : ArmId) (s : SlotId) : (r.endStroke a s).additives = r.additives := by simp [Rack.endStroke]
@[simp] theorem Rack.endStroke_orders (a : ArmId) (s : SlotId) : (r.endStroke a s).orders = r.orders := by simp [Rack.endStroke]
@[simp] theorem Rack.endStroke_channels (a : ArmId) (s : SlotId) : (r.endStroke a s).channels = r.channels := by simp [Rack.endStroke]
@[simp] theorem Rack.endStroke_arms (a : ArmId) (s : SlotId) : (r.endStroke a s).arms = r.arms := by simp [Rack.endStroke]
@[simp] theorem Rack.endStroke_headers (a : ArmId) (s : SlotId) : (r.endStroke a s).headers = r.headers := by simp [Rack.endStroke]
@[simp] theorem Rack.endStroke_bays (a : ArmId) (s : SlotId) : (r.endStroke a s).bays = r.bays := by simp [Rack.endStroke]
@[simp] theorem Rack.endStroke_panels (a : ArmId) (s : SlotId) : (r.endStroke a s).panels = r.panels := by simp [Rack.endStroke]
@[simp] theorem Rack.endStroke_noteCounter (a : ArmId) (s : SlotId) : (r.endStroke a s).noteCounter = r.noteCounter := by simp [Rack.endStroke]
@[simp] theorem Rack.endStroke_notes (a : ArmId) (s : SlotId) : (r.endStroke a s).notes = r.notes := by simp [Rack.endStroke]

@[simp] theorem Rack.goodStroke_permits (a : ArmId) (s : SlotId) (k : SlotConfig) : (r.goodStroke a s k).permits = r.permits := by
  unfold Rack.goodStroke; split <;> simp
@[simp] theorem Rack.goodStroke_units (a : ArmId) (s : SlotId) (k : SlotConfig) : (r.goodStroke a s k).units = r.units := by
  unfold Rack.goodStroke; split <;> simp
@[simp] theorem Rack.goodStroke_accounts (a : ArmId) (s : SlotId) (k : SlotConfig) : (r.goodStroke a s k).accounts = r.accounts := by
  unfold Rack.goodStroke; split <;> simp
@[simp] theorem Rack.goodStroke_channels (a : ArmId) (s : SlotId) (k : SlotConfig) : (r.goodStroke a s k).channels = r.channels := by
  unfold Rack.goodStroke; split <;> simp
@[simp] theorem Rack.goodStroke_arms (a : ArmId) (s : SlotId) (k : SlotConfig) : (r.goodStroke a s k).arms = r.arms := by
  unfold Rack.goodStroke; split <;> simp
@[simp] theorem Rack.goodStroke_headers (a : ArmId) (s : SlotId) (k : SlotConfig) : (r.goodStroke a s k).headers = r.headers := by
  unfold Rack.goodStroke; split <;> simp
@[simp] theorem Rack.goodStroke_bays (a : ArmId) (s : SlotId) (k : SlotConfig) : (r.goodStroke a s k).bays = r.bays := by
  unfold Rack.goodStroke; split <;> simp
@[simp] theorem Rack.goodStroke_panels (a : ArmId) (s : SlotId) (k : SlotConfig) : (r.goodStroke a s k).panels = r.panels := by
  unfold Rack.goodStroke; split <;> simp
@[simp] theorem Rack.goodStroke_noteCounter (a : ArmId) (s : SlotId) (k : SlotConfig) : (r.goodStroke a s k).noteCounter = r.noteCounter := by
  unfold Rack.goodStroke; split <;> simp
@[simp] theorem Rack.goodStroke_notes (a : ArmId) (s : SlotId) (k : SlotConfig) : (r.goodStroke a s k).notes = r.notes := by
  unfold Rack.goodStroke; split <;> simp

@[simp] theorem Rack.missStroke_permits (c : Conditions) (a : ArmId) (s : SlotId) (k : SlotConfig) : (r.missStroke c a s k).permits = r.permits := by
  unfold Rack.missStroke; dsimp only; repeat' split
  all_goals simp
@[simp] theorem Rack.missStroke_units (c : Conditions) (a : ArmId) (s : SlotId) (k : SlotConfig) : (r.missStroke c a s k).units = r.units := by
  unfold Rack.missStroke; dsimp only; repeat' split
  all_goals simp
@[simp] theorem Rack.missStroke_accounts (c : Conditions) (a : ArmId) (s : SlotId) (k : SlotConfig) : (r.missStroke c a s k).accounts = r.accounts := by
  unfold Rack.missStroke; dsimp only; repeat' split
  all_goals simp
@[simp] theorem Rack.missStroke_channels (c : Conditions) (a : ArmId) (s : SlotId) (k : SlotConfig) : (r.missStroke c a s k).channels = r.channels := by
  unfold Rack.missStroke; dsimp only; repeat' split
  all_goals simp
@[simp] theorem Rack.missStroke_bays (c : Conditions) (a : ArmId) (s : SlotId) (k : SlotConfig) : (r.missStroke c a s k).bays = r.bays := by
  unfold Rack.missStroke; dsimp only; repeat' split
  all_goals simp
@[simp] theorem Rack.missStroke_noteCounter (c : Conditions) (a : ArmId) (s : SlotId) (k : SlotConfig) : (r.missStroke c a s k).noteCounter = r.noteCounter := by
  unfold Rack.missStroke; dsimp only; repeat' split
  all_goals simp
@[simp] theorem Rack.missStroke_notes (c : Conditions) (a : ArmId) (s : SlotId) (k : SlotConfig) : (r.missStroke c a s k).notes = r.notes := by
  unfold Rack.missStroke; dsimp only; repeat' split
  all_goals simp

@[simp] theorem Rack.testThresholds_permits (c : Conditions) (a : ArmId)  : (r.testThresholds c a).permits = r.permits := by
  unfold Rack.testThresholds; repeat' split
  all_goals simp
@[simp] theorem Rack.testThresholds_units (c : Conditions) (a : ArmId)  : (r.testThresholds c a).units = r.units := by
  unfold Rack.testThresholds; repeat' split
  all_goals simp
@[simp] theorem Rack.testThresholds_accounts (c : Conditions) (a : ArmId)  : (r.testThresholds c a).accounts = r.accounts := by
  unfold Rack.testThresholds; repeat' split
  all_goals simp
@[simp] theorem Rack.testThresholds_additives (c : Conditions) (a : ArmId)  : (r.testThresholds c a).additives = r.additives := by
  unfold Rack.testThresholds; repeat' split
  all_goals simp
@[simp] theorem Rack.testThresholds_orders (c : Conditions) (a : ArmId)  : (r.testThresholds c a).orders = r.orders := by
  unfold Rack.testThresholds; repeat' split
  all_goals simp
@[simp] theorem Rack.testThresholds_channels (c : Conditions) (a : ArmId)  : (r.testThresholds c a).channels = r.channels := by
  unfold Rack.testThresholds; repeat' split
  all_goals simp
@[simp] theorem Rack.testThresholds_injectors (c : Conditions) (a : ArmId)  : (r.testThresholds c a).injectors = r.injectors := by
  unfold Rack.testThresholds; repeat' split
  all_goals simp
@[simp] theorem Rack.testThresholds_bays (c : Conditions) (a : ArmId)  : (r.testThresholds c a).bays = r.bays := by
  unfold Rack.testThresholds; repeat' split
  all_goals simp
@[simp] theorem Rack.testThresholds_noteCounter (c : Conditions) (a : ArmId)  : (r.testThresholds c a).noteCounter = r.noteCounter := by
  unfold Rack.testThresholds; repeat' split
  all_goals simp
@[simp] theorem Rack.testThresholds_notes (c : Conditions) (a : ArmId)  : (r.testThresholds c a).notes = r.notes := by
  unfold Rack.testThresholds; repeat' split
  all_goals simp

@[simp] theorem Rack.armStep_permits (c : Conditions) (a : ArmId)  : (r.armStep c a).permits = r.permits := by
  unfold Rack.armStep; split <;> simp
@[simp] theorem Rack.armStep_units (c : Conditions) (a : ArmId)  : (r.armStep c a).units = r.units := by
  unfold Rack.armStep; split <;> simp
@[simp] theorem Rack.armStep_accounts (c : Conditions) (a : ArmId)  : (r.armStep c a).accounts = r.accounts := by
  unfold Rack.armStep; split <;> simp
@[simp] theorem Rack.armStep_additives (c : Conditions) (a : ArmId)  : (r.armStep c a).additives = r.additives := by
  unfold Rack.armStep; split <;> simp
@[simp] theorem Rack.armStep_orders (c : Conditions) (a : ArmId)  : (r.armStep c a).orders = r.orders := by
  unfold Rack.armStep; split <;> simp
@[simp] theorem Rack.armStep_channels (c : Conditions) (a : ArmId)  : (r.armStep c a).channels = r.channels := by
  unfold Rack.armStep; split <;> simp
@[simp] theorem Rack.armStep_injectors (c : Conditions) (a : ArmId)  : (r.armStep c a).injectors = r.injectors := by
  unfold Rack.armStep; split <;> simp
@[simp] theorem Rack.armStep_bays (c : Conditions) (a : ArmId)  : (r.armStep c a).bays = r.bays := by
  unfold Rack.armStep; split <;> simp
@[simp] theorem Rack.armStep_noteCounter (c : Conditions) (a : ArmId)  : (r.armStep c a).noteCounter = r.noteCounter := by
  unfold Rack.armStep; split <;> simp
@[simp] theorem Rack.armStep_notes (c : Conditions) (a : ArmId)  : (r.armStep c a).notes = r.notes := by
  unfold Rack.armStep; split <;> simp

@[simp] theorem Rack.settle_channels (c : Conditions) (a : ArmId)  : (r.settle c a).channels = r.channels := by
  unfold Rack.settle; repeat' split
  all_goals simp
@[simp] theorem Rack.settle_headers (c : Conditions) (a : ArmId)  : (r.settle c a).headers = r.headers := by
  unfold Rack.settle; repeat' split
  all_goals simp

@[simp] theorem Rack.settleIfStill_channels (c : Conditions) (a : ArmId)  : (r.settleIfStill c a).channels = r.channels := by
  unfold Rack.settleIfStill; split <;> simp
@[simp] theorem Rack.settleIfStill_headers (c : Conditions) (a : ArmId)  : (r.settleIfStill c a).headers = r.headers := by
  unfold Rack.settleIfStill; split <;> simp

@[simp] theorem Rack.stopArm_channels (c : Conditions) (a : ArmId) (cause : StopCause) : (r.stopArm c a cause).channels = r.channels := by
  unfold Rack.stopArm; repeat' split
  all_goals simp

end Sys2Proof.Machine
end

