-- ==== Sys2Proof/Laws/Arms.lean ====
section
/-! SUPPORT. All that a change of arm state, a grant, an entry to CLOSING and a suspension cause can do to the arms (chapters 6 and 7). -/

namespace Sys2Proof.Machine

variable (c : Conditions) (r : Rack)

/-! ### Panel lines leave every reading of an arm -/

theorem Rack.arm_eq {r s : Rack} (h : r.arms = s.arms) (a : ArmId) : r.arm a = s.arm a := by
  simp [Rack.arm, h]

theorem Rack.header_eq {r s : Rack} (h : r.headers = s.headers) (g : HeaderId) : r.header g = s.header g := by
  simp [Rack.header, h]

theorem Rack.channel_eq {r s : Rack} (h : r.channels = s.channels) (a : ArmId) : r.channel a = s.channel a := by
  simp [Rack.channel, h]

theorem Rack.order_eq {r s : Rack} (h : r.orders = s.orders) (n : Nat) : r.order? n = s.order? n := by
  simp [Rack.order?, h]

theorem Rack.line_eq {r s : Rack} (h : r.orders = s.orders) (n m : Nat) : r.line? n m = s.line? n m := by
  simp [Rack.line?, Rack.order?, h]

@[simp] theorem Rack.pump_arm (a : ArmId) : r.pump.arm a = r.arm a := Rack.arm_eq (Rack.pump_arms r) a
@[simp] theorem Rack.pump_channel (a : ArmId) : r.pump.channel a = r.channel a := Rack.channel_eq (Rack.pump_channels r) a
@[simp] theorem Rack.pump_header (g : HeaderId) : r.pump.header g = r.header g := Rack.header_eq (Rack.pump_headers r) g
@[simp] theorem Rack.pump_order (n : Nat) : r.pump.order? n = r.order? n := Rack.order_eq (Rack.pump_orders r) n
@[simp] theorem Rack.pump_line (n m : Nat) : r.pump.line? n m = r.line? n m := Rack.line_eq (Rack.pump_orders r) n m

/-! ### Changes of state (R100, R188, R189) -/

/-- A change of state touches one arm: state, panel reason and SHOW repeat timer. -/
theorem Rack.setState_arm (a b : ArmId) (new : ArmState) :
    (r.setState c a new).arm b =
      if a = b ∧ (r.arm a).state ≠ new then
        { r.arm a with state := new, reason := none, repeatTimer := repeatAfter c (r.arm a).state new (r.arm a).repeatTimer }
      else r.arm b := by
  unfold Rack.setState
  split <;> rename_i h
  · simp [h]
  · by_cases hb : a = b <;> simp [hb, h]
    subst hb; simp [h]

@[simp] theorem Rack.setState_state (a : ArmId) (new : ArmState) : ((r.setState c a new).arm a).state = new := by
  rw [Rack.setState_arm]
  split <;> rename_i h
  · rfl
  · simpa using h

@[simp] theorem Rack.setState_config (a b : ArmId) (new : ArmState) : ((r.setState c a new).arm b).config = (r.arm b).config := by
  rw [Rack.setState_arm]
  split <;> rename_i h
  · rw [h.1]
  · rfl

@[simp] theorem Rack.setState_queue (a b : ArmId) (new : ArmState) : ((r.setState c a new).arm b).queue = (r.arm b).queue := by
  rw [Rack.setState_arm]
  split <;> rename_i h
  · rw [h.1]
  · rfl

@[simp] theorem Rack.setState_current (a b : ArmId) (new : ArmState) :
    ((r.setState c a new).arm b).current = (r.arm b).current := by
  rw [Rack.setState_arm]
  split <;> rename_i h
  · rw [h.1]
  · rfl

@[simp] theorem Rack.setState_headerOf (a b : ArmId) (new : ArmState) : (r.setState c a new).headerOf b = r.headerOf b := by
  simp [Rack.headerOf]

@[simp] theorem Rack.setState_line (a : ArmId) (new : ArmState) (n m : Nat) : (r.setState c a new).line? n m = r.line? n m :=
  Rack.line_eq (Rack.setState_orders r c a new) n m

@[simp] theorem Rack.setState_currentLine (a b : ArmId) (new : ArmState) :
    (r.setState c a new).currentLine b = r.currentLine b := by
  simp [Rack.currentLine]

/-! ### Grants (R109, R127) -/

/-- Arms differ at most by grants: an arm is as it was, or has gone from WAIT_GRANT to HIGH, its panel reason emptied. -/
def OnlyGrants (r s : Rack) : Prop :=
  ∀ b, s.arm b = r.arm b ∨ ((r.arm b).state = .waitGrant ∧ s.arm b = { r.arm b with state := .high, reason := none })

theorem OnlyGrants.refl : OnlyGrants r r := fun _ => .inl rfl

theorem OnlyGrants.of_arms {r s : Rack} (h : s.arms = r.arms) : OnlyGrants r s := fun b => .inl (Rack.arm_eq h b)

theorem OnlyGrants.trans {r s t : Rack} (h : OnlyGrants r s) (g : OnlyGrants s t) : OnlyGrants r t := by
  intro b
  rcases h b with h1 | ⟨h1, h2⟩
  · rcases g b with g1 | ⟨g1, g2⟩
    · exact .inl (g1.trans h1)
    · exact .inr ⟨h1 ▸ g1, by rw [g2, h1]⟩
  · rcases g b with g1 | ⟨g1, g2⟩
    · exact .inr ⟨h1, g1.trans h2⟩
    · rw [h2] at g1; exact absurd g1 (by simp)

/-- What an arm keeps when arms differ at most by grants. -/
theorem OnlyGrants.same {r s : Rack} (h : OnlyGrants r s) {b : ArmId} (hb : (r.arm b).state ≠ .waitGrant) : s.arm b = r.arm b := by
  rcases h b with h1 | ⟨h1, _⟩
  · exact h1
  · exact absurd h1 hb

theorem OnlyGrants.config {r s : Rack} (h : OnlyGrants r s) (b : ArmId) : (s.arm b).config = (r.arm b).config := by
  rcases h b with h1 | ⟨_, h1⟩ <;> rw [h1]

theorem OnlyGrants.current {r s : Rack} (h : OnlyGrants r s) (b : ArmId) : (s.arm b).current = (r.arm b).current := by
  rcases h b with h1 | ⟨_, h1⟩ <;> rw [h1]

theorem OnlyGrants.queue {r s : Rack} (h : OnlyGrants r s) (b : ArmId) : (s.arm b).queue = (r.arm b).queue := by
  rcases h b with h1 | ⟨_, h1⟩ <;> rw [h1]

theorem OnlyGrants.isFlow {r s : Rack} (h : OnlyGrants r s) (b : ArmId) :
    (s.arm b).state.isFlow = (r.arm b).state.isFlow := by
  rcases h b with h1 | ⟨h0, h1⟩
  · rw [h1]
  · rw [h1, h0]; rfl

theorem OnlyGrants.state {r s : Rack} (h : OnlyGrants r s) (b : ArmId) :
    (s.arm b).state = (r.arm b).state ∨ ((r.arm b).state = .waitGrant ∧ (s.arm b).state = .high) := by
  rcases h b with h1 | ⟨h0, h1⟩
  · exact .inl (by rw [h1])
  · exact .inr ⟨h0, by rw [h1]⟩

theorem Rack.grantTo_grants (h : HeaderId) (a : ArmId) : OnlyGrants r (r.grantTo c h a) := by
  intro b
  unfold Rack.grantTo
  dsimp only
  split <;> rename_i hs
  · by_cases hb : a = b
    · subst hb
      simp only [Rack.modHeader_arm_of] at hs
      refine .inr ⟨hs, ?_⟩
      rw [Rack.setState_arm]
      simp [hs, repeatAfter, ArmState.isRunning, ArmState.isFlow]
    · left
      rw [Rack.setState_arm]
      simp [hb]
  · left; simp

theorem grantHeads_grants (h : HeaderId) (n : Nat) : OnlyGrants r (grantHeads c h n r).1 := by
  induction n generalizing r with
  | zero => exact OnlyGrants.refl r
  | succ n ih =>
    unfold grantHeads
    split
    · exact OnlyGrants.refl r
    · split
      · exact (Rack.grantTo_grants c r h _).trans (ih _)
      · exact OnlyGrants.refl r

theorem grantTest_grants (h : HeaderId) : OnlyGrants r (grantTest c h r).1 := grantHeads_grants c r h _

theorem Rack.releaseGrant_grants (a : ArmId) : OnlyGrants r (r.releaseGrant c a) := by
  unfold Rack.releaseGrant
  split
  · exact (OnlyGrants.of_arms (by simp)).trans (grantTest_grants c _ _)
  · exact OnlyGrants.refl r

theorem Rack.afterLeaving_grants (a : ArmId) (old : ArmState) : OnlyGrants r (r.afterLeaving c a old) := by
  unfold Rack.afterLeaving
  split
  · exact Rack.releaseGrant_grants c r a
  · split
    · exact OnlyGrants.of_arms (by simp)
    · exact OnlyGrants.refl r

/-- After a grant test the list is empty or the set has reached the capacity (R127). -/
theorem grantHeads_full (h : HeaderId) (n : Nat) (hn : (r.header h).waiting.length ≤ n) :
    ((grantHeads c h n r).1.header h).waiting = [] ∨
      ((grantHeads c h n r).1.header h).capacity ≤ ((grantHeads c h n r).1.header h).held.length := by
  induction n generalizing r with
  | zero => exact .inl (List.length_eq_zero_iff.1 (Nat.le_zero.1 hn))
  | succ n ih =>
    unfold grantHeads
    split <;> rename_i hw
    · exact .inl hw
    · rename_i w rest
      split <;> rename_i hc
      · refine ih _ ?_
        have hh : ((r.grantTo c h w.arm).header h).waiting =
            (r.header h).waiting.filter (fun v => decide (v.arm ≠ w.arm)) := by
          unfold Rack.grantTo
          dsimp only
          split
          · rw [Rack.header_eq (Rack.setState_headers _ _ _ _)]; simp
          · simp
        rw [hh, hw]
        rw [hw] at hn
        simp only [List.length_cons] at hn
        have := List.length_filter_le (fun v : Waiter => decide (v.arm ≠ w.arm)) rest
        simp at this ⊢
        omega
      · exact .inr (by simpa using hc)

theorem grantTest_full (h : HeaderId) :
    ((grantTest c h r).1.header h).waiting = [] ∨
      ((grantTest c h r).1.header h).capacity ≤ ((grantTest c h r).1.header h).held.length :=
  grantHeads_full c r h _ (le_refl _)

/-! ### Entry to CLOSING and suspension causes (R111 to R113) -/

/-- An arm as it enters CLOSING from another state. -/
def Arm.closed (x : Arm) (intent : Intent) : Arm :=
  { x with state := .closing, reason := none, repeatTimer := repeatAfter c x.state .closing x.repeatTimer, intent := some intent
           noFlowTimer := none, settleTimer := some c.stamp, quiet := false }

theorem Rack.enterClosing_arm (a : ArmId) (intent : Intent) (h : (r.arm a).state ≠ .closing) :
    (r.enterClosing c a intent).arm a = Arm.closed c (r.arm a) intent := by
  unfold Rack.enterClosing
  rw [(Rack.afterLeaving_grants c _ a _).same (by simp)]
  simp only [Rack.modArm_arm, if_true]
  rw [Rack.setState_arm]
  simp [h, Arm.closed]

/-- The other arms meet at most the grants that a release makes. -/
theorem Rack.enterClosing_other (a b : ArmId) (intent : Intent) (h : b ≠ a) :
    (r.enterClosing c a intent).arm b = r.arm b ∨
      ((r.arm b).state = .waitGrant ∧ (r.enterClosing c a intent).arm b = { r.arm b with state := .high, reason := none }) := by
  unfold Rack.enterClosing
  have hb : ((r.setState c a .closing).modArm a (fun x =>
      { x with intent := some intent, noFlowTimer := none, settleTimer := some c.stamp, quiet := false })).arm b = r.arm b := by
    rw [Rack.modArm_arm, if_neg (Ne.symm h), Rack.setState_arm]
    simp [Ne.symm h]
  have := Rack.afterLeaving_grants c ((r.setState c a .closing).modArm a (fun x =>
      { x with intent := some intent, noFlowTimer := none, settleTimer := some c.stamp, quiet := false })) a (r.arm a).state b
  rwa [hb] at this

/-- A cause in a flow state begins a suspending close with that cause alone. -/
theorem Rack.raiseCause_flow (a : ArmId) (cause : Cause) (h : (r.arm a).state.isFlow = true) :
    (r.raiseCause c a cause).arm a =
      Arm.closed c { r.arm a with causes := [cause], probeRefreshed := refreshedAfter cause (r.arm a).probeRefreshed } .suspend := by
  unfold Rack.raiseCause
  rw [if_pos h, Rack.enterClosing_arm]
  · simp
  · intro h2
    simp only [Rack.modArm_arm, if_true] at h2
    rw [h2] at h
    exact absurd h (by decide)

/-- A cause reaches no arm that is neither in a flow state nor in CLOSING. -/
theorem Rack.raiseCause_still (a : ArmId) (cause : Cause) (h : (r.arm a).state.isRunning = false) : r.raiseCause c a cause = r := by
  simp only [ArmState.isRunning, Bool.or_eq_false_iff, decide_eq_false_iff_not] at h
  unfold Rack.raiseCause
  simp [h.1, h.2]

/-- The other arms meet at most grants when a cause reaches an arm. -/
theorem Rack.raiseCause_other (a b : ArmId) (cause : Cause) (h : b ≠ a) :
    (r.raiseCause c a cause).arm b = r.arm b ∨
      ((r.arm b).state = .waitGrant ∧ (r.raiseCause c a cause).arm b = { r.arm b with state := .high, reason := none }) := by
  unfold Rack.raiseCause
  split
  · have := Rack.enterClosing_other c (r.modArm a (fun x =>
        { x with causes := [cause], probeRefreshed := refreshedAfter cause x.probeRefreshed })) a b .suspend h
    simpa [Ne.symm h] using this
  · split
    · split
      · left; simp [Ne.symm h]
      · split
        · left; exact Rack.arm_eq (by simp) b
        · left; simp [Ne.symm h]
    · exact .inl rfl

/-- No cause brings an arm into flow or takes another arm out of it. -/
theorem Rack.raiseCause_noFlow (a : ArmId) (cause : Cause) : ((r.raiseCause c a cause).arm a).state.isFlow = false := by
  by_cases h : (r.arm a).state.isFlow = true
  · rw [Rack.raiseCause_flow c r a cause h]; rfl
  · unfold Rack.raiseCause
    rw [if_neg h]
    split
    · split
      · simpa using h
      · split
        · rw [Rack.arm_eq (Rack.modCurrentLine_arms r a _) a]; simpa using h
        · simpa using h
    · simpa using h

end Sys2Proof.Machine
end

