-- ==== Sys2Proof/Laws/Causes.lean ====
section
/-! SUPPORT. A cause that reaches several arms one after the other, in whatever order (R157, R161; assumption 3). -/

namespace Sys2Proof.Machine

/-! ### The free order is an order of the same arms -/

theorem insertByKey_perm (draw : Nat) (a : ArmId) (xs : List ArmId) : (insertByKey draw a xs).Perm (a :: xs) := by
  induction xs with
  | nil => exact List.Perm.refl _
  | cons b rest ih =>
    unfold insertByKey
    split
    · exact List.Perm.refl _
    · exact (ih.cons b).trans (List.Perm.swap a b rest)

theorem inFreeOrder_perm (draw : Nat) (xs : List ArmId) : (inFreeOrder draw xs).Perm xs := by
  induction xs with
  | nil => exact List.Perm.refl _
  | cons a rest ih => exact (insertByKey_perm draw a _).trans (ih.cons a)

theorem mem_armsOfBay (a : ArmId) (b : BayId) : a ∈ armsOfBay b ↔ bayOf a = b := by
  revert a b; decide

theorem armsOfBay_nodup (b : BayId) : (armsOfBay b).Nodup := by
  revert b; decide

theorem mem_allArms (a : ArmId) : a ∈ allArms := by
  revert a; decide

theorem allArms_nodup : allArms.Nodup := by decide

/-! ### What each arm meets -/

variable (c : Conditions) (cause : Cause)

/-- An arm the cause does not reach meets at most a grant. -/
theorem raiseCauses_other (xs : List ArmId) (r : Rack) (b : ArmId) (h : b ∉ xs) :
    (raiseCauses c cause xs r).arm b = r.arm b ∨
      ((r.arm b).state = .waitGrant ∧ (raiseCauses c cause xs r).arm b = { r.arm b with state := .high, reason := none }) := by
  induction xs generalizing r with
  | nil => exact .inl rfl
  | cons a rest ih =>
    simp only [List.mem_cons, not_or] at h
    have h2 := ih (r.raiseCause c a cause) h.2
    simp only [raiseCauses]
    rcases Rack.raiseCause_other c r a b cause h.1 with h1 | ⟨h1, h1'⟩
    · rw [h1] at h2; exact h2
    · rw [h1'] at h2
      rcases h2 with h2 | ⟨h2, _⟩
      · exact .inr ⟨h1, h2⟩
      · exact absurd h2 (by simp)

/-- An arm in flow that the cause reaches suspends for it. -/
theorem raiseCauses_flow (xs : List ArmId) (r : Rack) (b : ArmId) (hb : b ∈ xs) (hn : xs.Nodup)
    (hf : (r.arm b).state.isFlow = true) : suspendingFor (raiseCauses c cause xs r) b cause := by
  induction xs generalizing r with
  | nil => simp at hb
  | cons a rest ih =>
    simp only [raiseCauses]
    rw [List.nodup_cons] at hn
    by_cases hab : b = a
    · subst hab
      have h2 := raiseCauses_other c cause rest (r.raiseCause c b cause) b hn.1
      rw [Rack.raiseCause_flow c r b cause hf] at h2
      rcases h2 with h2 | ⟨h2, _⟩
      · unfold suspendingFor; rw [h2]; simp [Arm.closed]
      · exact absurd h2 (by simp [Arm.closed])
    · refine ih _ (by simpa [hab] using hb) hn.2 ?_
      rcases Rack.raiseCause_other c r a b cause hab with h | ⟨_, h⟩
      · rw [h]; exact hf
      · rw [h]; rfl

/-- An arm neither in flow nor in CLOSING is untouched. -/
theorem raiseCauses_still (xs : List ArmId) (r : Rack) (b : ArmId) (h : (r.arm b).state.isRunning = false) :
    (raiseCauses c cause xs r).arm b = r.arm b := by
  induction xs generalizing r with
  | nil => rfl
  | cons a rest ih =>
    have h1 : (r.raiseCause c a cause).arm b = r.arm b := by
      by_cases hab : b = a
      · subst hab; rw [Rack.raiseCause_still c r b cause h]
      · rcases Rack.raiseCause_other c r a b cause hab with h1 | ⟨h1, _⟩
        · exact h1
        · rw [h1] at h; exact absurd h (by decide)
    simp only [raiseCauses]
    rw [ih _ (by rw [h1]; exact h), h1]

/-- No arm the cause reaches is left in flow. -/
theorem raiseCauses_noFlow (xs : List ArmId) (r : Rack) (b : ArmId) (hb : b ∈ xs) :
    ((raiseCauses c cause xs r).arm b).state.isFlow = false := by
  have keep : ∀ (ys : List ArmId) (s : Rack), (s.arm b).state.isFlow = false →
      ((raiseCauses c cause ys s).arm b).state.isFlow = false := by
    intro ys
    induction ys with
    | nil => intro s h; exact h
    | cons a rest ih =>
      intro s h
      refine ih _ ?_
      by_cases hab : b = a
      · subst hab; exact Rack.raiseCause_noFlow c s b cause
      · rcases Rack.raiseCause_other c s a b cause hab with h1 | ⟨h1, _⟩
        · rw [h1]; exact h
        · rw [h1] at h; exact absurd h (by decide)
  induction xs generalizing r with
  | nil => simp at hb
  | cons a rest ih =>
    simp only [raiseCauses]
    by_cases hab : b = a
    · subst hab
      exact keep rest _ (Rack.raiseCause_noFlow c r b cause)
    · exact ih _ (by simpa [hab] using hb)

/-! ### What the tables keep -/

theorem raiseCauses_tables (xs : List ArmId) (r : Rack) :
    (raiseCauses c cause xs r).permits = r.permits ∧ (raiseCauses c cause xs r).units = r.units ∧
      (raiseCauses c cause xs r).accounts = r.accounts ∧ (raiseCauses c cause xs r).additives = r.additives ∧
      (raiseCauses c cause xs r).channels = r.channels ∧ (raiseCauses c cause xs r).injectors = r.injectors ∧
      (raiseCauses c cause xs r).bays = r.bays ∧ (raiseCauses c cause xs r).notes = r.notes ∧
      (raiseCauses c cause xs r).noteCounter = r.noteCounter := by
  induction xs generalizing r with
  | nil => simp [raiseCauses]
  | cons a rest ih => simpa [raiseCauses] using ih (r.raiseCause c a cause)

/-- Only PERMISSIVE can mark a line (R157). -/
theorem raiseCauses_orders (h : cause ≠ .permissive) (xs : List ArmId) (r : Rack) :
    (raiseCauses c cause xs r).orders = r.orders := by
  induction xs generalizing r with
  | nil => rfl
  | cons a rest ih =>
    simp only [raiseCauses]
    rw [ih]
    unfold Rack.raiseCause
    repeat' split
    all_goals first | rfl | simp

end Sys2Proof.Machine
end

