-- ==== Sys2Proof/Laws/Lines.lean ====
section
/-! SUPPORT. What reaches a line of the order table: a change of the current line, its end, the tests of its order (chapters 5 and 6). -/

namespace Sys2Proof.Machine

variable (c : Conditions) (r : Rack)

/-! ### The current line -/

theorem Rack.currentLine_some {r : Rack} {a : ArmId} {l : Line} (h : r.currentLine a = some l) :
    ∃ e o, (r.arm a).current = some e ∧ r.order? e.order = some o ∧ r.line? e.order e.line = some l := by
  unfold Rack.currentLine at h
  cases he : (r.arm a).current with
  | none => simp [he] at h
  | some e =>
    rw [he] at h
    have hl : r.line? e.order e.line = some l := h
    cases ho : r.order? e.order with
    | none => simp [Rack.line?, ho] at hl
    | some o => exact ⟨e, o, rfl, ho, hl⟩

theorem Rack.currentLine_eq {r s : Rack} (ho : s.orders = r.orders) {a : ArmId} (ha : (s.arm a).current = (r.arm a).current) :
    s.currentLine a = r.currentLine a := by
  unfold Rack.currentLine
  rw [ha]
  simp [Rack.line_eq ho]

/-- A line read after the current line of an arm is changed. -/
theorem Rack.modCurrentLine_line {a : ArmId} {e : QueueEntry} (he : (r.arm a).current = some e) (f : Line → Line)
    (hf : ∀ x, (f x).number = x.number) (n m : Nat) :
    (r.modCurrentLine a f).line? n m = if e.order = n ∧ e.line = m then (r.line? n m).map f else r.line? n m := by
  unfold Rack.modCurrentLine
  rw [he]
  exact Rack.modLine_line r e.order e.line n m f hf

theorem Rack.modCurrentLine_arm (a b : ArmId) (f : Line → Line) : (r.modCurrentLine a f).arm b = r.arm b :=
  Rack.arm_eq (Rack.modCurrentLine_arms r a f) b

theorem Rack.modCurrentLine_currentLine (a : ArmId) (f : Line → Line) (hf : ∀ x, (f x).number = x.number) :
    (r.modCurrentLine a f).currentLine a = (r.currentLine a).map f := by
  unfold Rack.currentLine
  rw [Rack.modCurrentLine_arm]
  cases he : (r.arm a).current with
  | none => rfl
  | some e => simp [Rack.modCurrentLine_line r he f hf]

/-! ### The tests of an order leave every line as it was -/

theorem Rack.modOrder_line (n k m : Nat) (f : Order → Order) (hf : ∀ x, (f x).number = x.number)
    (hl : ∀ x, (f x).lines = x.lines) : (r.modOrder n f).line? k m = r.line? k m := by
  unfold Rack.line?
  rw [Rack.modOrder_order r n k f hf]
  split
  · cases r.order? k with
    | none => rfl
    | some o => simp [Order.line?, hl]
  · rfl

theorem Rack.completeOrder_line (o : Order) (k m : Nat) : (r.completeOrder c o).line? k m = r.line? k m := by
  unfold Rack.completeOrder
  dsimp only
  split
  · refine Eq.trans (Rack.modOrder_line _ _ _ _ (fun x => { x with state := _, day := _, note := _ }) (fun _ => rfl)
      (fun _ => rfl)) (Rack.line_eq (by simp) _ _)
  · refine Eq.trans (Rack.modOrder_line _ _ _ _ (fun x => { x with state := _, day := _ }) (fun _ => rfl) (fun _ => rfl))
      (Rack.line_eq (by simp) _ _)

theorem Rack.testOrder_line (n k m : Nat) : (r.testOrder c n).line? k m = r.line? k m := by
  unfold Rack.testOrder
  repeat' split
  · exact Rack.completeOrder_line c r _ k m
  · exact Eq.trans (Rack.modOrder_line _ _ _ _ (fun x => { x with state := _ }) (fun _ => rfl) (fun _ => rfl))
      (Rack.line_eq (by simp) _ _)
  all_goals rfl

/-! ### The end of a line (R76) -/

/-- The record of a line that ends is finished, and every other line stays. -/
theorem Rack.endLineRecord_line {n m : Nat} {o : Order} {l : Line} (ho : r.order? n = some o) (hl : r.line? n m = some l)
    (final : LineState) (cause : Option StopCause) (k j : Nat) :
    (r.endLineRecord n m final cause).line? k j =
      if n = k ∧ m = j then
        some (l.finish final cause (fun s => (l.arm.bind (fun a => r.slotConfig a s)).map (fun x => x.stroke)))
      else r.line? k j := by
  unfold Rack.endLineRecord
  simp only [ho, hl]
  rw [Rack.line_eq (Rack.updateLastGroup_orders _ _ _)]
  simp only [Rack.modAccount_line_of]
  rw [Rack.line_eq (releaseAdditives_orders _ _)]
  have hf : ∀ (f : SlotId → Option Nat) (x : Line), (x.finish final cause f).number = x.number := fun _ _ => rfl
  rw [Rack.modLine_line _ _ _ _ _ _ (hf _)]
  split <;> rename_i h
  · rw [← h.1, ← h.2, hl]; rfl
  · rfl

/-- The account of a line that ends is settled (R65). -/
theorem Rack.endLineRecord_account {n m : Nat} {o : Order} {l : Line} (ho : r.order? n = some o) (hl : r.line? n m = some l)
    (final : LineState) (cause : Option StopCause) (k : Nat) :
    (r.endLineRecord n m final cause).account? k =
      if l.account = k then (r.account? k).map (Account.settle l.preset (roundLitres l.standard)) else r.account? k := by
  unfold Rack.endLineRecord
  simp only [ho, hl]
  have hk : ∀ x : Rack, ∀ y : Rack, x.accounts = y.accounts → x.account? k = y.account? k := by
    intro x y h; simp [Rack.account?, h]
  have hf : ∀ x, (Account.settle l.preset (roundLitres l.standard) x).number = x.number := fun _ => rfl
  rw [hk _ _ (Rack.updateLastGroup_accounts _ _ _), Rack.modAccount_account _ _ _ _ hf,
    hk _ _ (releaseAdditives_accounts _ _)]
  rfl

/-! ### The head of a queue (R103) -/

theorem lowestAddr_mem {es : List QueueEntry} {e : QueueEntry} (h : lowestAddr es = some e) : e ∈ es := by
  induction es generalizing e with
  | nil => simp [lowestAddr] at h
  | cons x xs ih =>
    simp only [lowestAddr] at h
    split at h
    · rename_i f hf
      split at h
      · cases h; exact List.mem_cons_of_mem _ (ih hf)
      · cases h; exact List.mem_cons_self ..
    · cases h; exact List.mem_cons_self ..

theorem earliestJoined_mem {es : List QueueEntry} {e : QueueEntry} (h : earliestJoined es = some e) : e ∈ es := by
  induction es generalizing e with
  | nil => simp [earliestJoined] at h
  | cons x xs ih =>
    simp only [earliestJoined] at h
    split at h
    · rename_i f hf
      split at h
      · cases h; exact List.mem_cons_of_mem _ (ih hf)
      · cases h; exact List.mem_cons_self ..
    · cases h; exact List.mem_cons_self ..

theorem lowestAddr_isSome {es : List QueueEntry} (h : es ≠ []) : (lowestAddr es).isSome = true := by
  cases es with
  | nil => exact absurd rfl h
  | cons x xs =>
    simp only [lowestAddr]
    repeat' split
    all_goals rfl

theorem earliestJoined_isSome {es : List QueueEntry} (h : es ≠ []) : (earliestJoined es).isSome = true := by
  cases es with
  | nil => exact absurd rfl h
  | cons x xs =>
    simp only [earliestJoined]
    repeat' split
    all_goals rfl

theorem Arm.head_mem {x : Arm} {e : QueueEntry} (h : x.head = some e) : e ∈ x.queue := by
  unfold Arm.head at h
  repeat' split at h
  · exact lowestAddr_mem h
  · exact earliestJoined_mem h
  · exact earliestJoined_mem h

theorem Arm.head_isSome {x : Arm} (h : x.queue ≠ []) : x.head.isSome = true := by
  unfold Arm.head
  repeat' split
  · exact lowestAddr_isSome h
  · exact earliestJoined_isSome h
  · exact earliestJoined_isSome h

/-- An arm that enters IDLE is IDLE, or in ALARM at once, and serves no line (R22, R103). -/
theorem Rack.enterIdle_state (a : ArmId) :
    ((r.enterIdle c a).arm a).state = if 20 ≤ (r.channel a).unassigned then .alarm else .idle := by
  unfold Rack.enterIdle
  dsimp only
  rw [Rack.channel_eq (Rack.setState_channels _ _ _ _)]
  simp only [Rack.modArm_channel_of]
  split <;> simp

theorem Rack.enterIdle_other (a b : ArmId) (h : b ≠ a) : (r.enterIdle c a).arm b = r.arm b := by
  have h' : a ≠ b := Ne.symm h
  unfold Rack.enterIdle
  dsimp only
  split <;> simp [Rack.setState_arm, h']

theorem Rack.enterIdle_queue (a : ArmId) : ((r.enterIdle c a).arm a).queue = (r.arm a).queue := by
  unfold Rack.enterIdle
  dsimp only
  split <;> simp

/-- An arm that takes its head is READY, IDLE or in ALARM. -/
theorem Rack.takeHead_state (a : ArmId) :
    ((r.takeHead c a).arm a).state = .ready ∨ ((r.takeHead c a).arm a).state = .idle ∨
      ((r.takeHead c a).arm a).state = .alarm := by
  unfold Rack.takeHead
  split
  · left; simp
  · rw [Rack.enterIdle_state]
    split <;> simp

theorem Rack.takeHead_other (a b : ArmId) (h : b ≠ a) : (r.takeHead c a).arm b = r.arm b := by
  have h' : a ≠ b := Ne.symm h
  unfold Rack.takeHead
  split
  · simp [Rack.setState_arm, h']
  · exact Rack.enterIdle_other c r a b h

theorem Rack.takeHead_queue (a : ArmId) : ((r.takeHead c a).arm a).queue = (r.arm a).queue := by
  unfold Rack.takeHead
  split
  · simp
  · exact Rack.enterIdle_queue c r a

/-! ### The entry a channel serves -/

/-- A channel serves an entry exactly when its slot is configured and its place in the current line's list holds that entry. -/
theorem Rack.serves_iff {r : Rack} {a : ArmId} {n : SlotId} {k : SlotConfig} {d : DoseRecord} :
    r.serves a n k d ↔ r.slotConfig a n = some k ∧ r.servedDose a n = some d := by
  simp [Rack.serves, Rack.servedDose, Option.bind_eq_some_iff]

end Sys2Proof.Machine
end

