-- ==== Sys2Proof/Laws/PerInstr.lean ====
section
/-! SUPPORT. One lemma per constructor of Instr: a request's name leads back to its command (R181). -/

namespace Sys2Proof.Laws.Named

/-- The name a request frame opens with, and its fields, lead back to the command (R181). -/
def Statement (i : Instr) : Prop :=
  ∀ name, i.requestName = some name → commandNamed name i.requestFields = i

/-- A command that is no request has no name to lead back from. -/
theorem of_none {i : Instr} (h : i.requestName = none) : Statement i := by
  intro name hn
  rw [h] at hn
  cases hn

/-- A request whose name is found leads back to itself. -/
theorem of_some {i : Instr} {n : Text} (h : i.requestName = some n) (hi : commandNamed n i.requestFields = i) : Statement i := by
  intro name hn
  rw [h] at hn
  cases hn
  exact hi

theorem powerOn (inputs : InputLevels) : Statement (.powerOn inputs) := of_none rfl

theorem timebaseTick : Statement (.timebaseTick) := of_none rfl

theorem meterPulse (arm : ArmId) : Statement (.meterPulse arm) := of_none rfl

theorem rateWindowExpiry (arm : ArmId) : Statement (.rateWindowExpiry arm) := of_none rfl

theorem probeReading (arm : ArmId) (reading : Reading) : Statement (.probeReading arm reading) := of_none rfl

theorem stalenessExpiry (arm : ArmId) : Statement (.stalenessExpiry arm) := of_none rfl

theorem noFlowTimerExpiry (arm : ArmId) : Statement (.noFlowTimerExpiry arm) := of_none rfl

theorem settleTimerExpiry (arm : ArmId) : Statement (.settleTimerExpiry arm) := of_none rfl

theorem feedbackRise (arm : ArmId) (slot : SlotId) : Statement (.feedbackRise arm slot) := of_none rfl

theorem feedbackFall (arm : ArmId) (slot : SlotId) : Statement (.feedbackFall arm slot) := of_none rfl

theorem riseTimerExpiry (arm : ArmId) (slot : SlotId) : Statement (.riseTimerExpiry arm slot) := of_none rfl

theorem activeTimerExpiry (arm : ArmId) (slot : SlotId) : Statement (.activeTimerExpiry arm slot) := of_none rfl

theorem permissiveInputChange (bay : BayId) (input : PermissiveInput) (level : Bool) : Statement (.permissiveInputChange bay input level) := of_none rfl

theorem emergencyStopInputChange (active : Bool) : Statement (.emergencyStopInputChange active) := of_none rfl

theorem calSwitchChange (closed : Bool) : Statement (.calSwitchChange closed) := of_none rfl

theorem badFrame (chars : Text) : Statement (.badFrame chars) := of_none rfl

theorem responseSent : Statement (.responseSent) := of_none rfl

theorem unknownRequest (name : Text) (fields : List Text) : Statement (.unknownRequest name fields) := of_none rfl

theorem calWrite (fields : List Text) : Statement (.calWrite fields) := of_some rfl rfl

theorem calRead (fields : List Text) : Statement (.calRead fields) := of_some rfl rfl

theorem calCommit (fields : List Text) : Statement (.calCommit fields) := of_some rfl rfl

theorem permitPut (fields : List Text) : Statement (.permitPut fields) := of_some rfl rfl

theorem permitGet (fields : List Text) : Statement (.permitGet fields) := of_some rfl rfl

theorem permitSuspend (fields : List Text) : Statement (.permitSuspend fields) := of_some rfl rfl

theorem permitReinstate (fields : List Text) : Statement (.permitReinstate fields) := of_some rfl rfl

theorem permitRetire (fields : List Text) : Statement (.permitRetire fields) := of_some rfl rfl

theorem unitPut (fields : List Text) : Statement (.unitPut fields) := of_some rfl rfl

theorem unitGet (fields : List Text) : Statement (.unitGet fields) := of_some rfl rfl

theorem unitClean (fields : List Text) : Statement (.unitClean fields) := of_some rfl rfl

theorem unitRetire (fields : List Text) : Statement (.unitRetire fields) := of_some rfl rfl

theorem accountPut (fields : List Text) : Statement (.accountPut fields) := of_some rfl rfl

theorem accountGet (fields : List Text) : Statement (.accountGet fields) := of_some rfl rfl

theorem accountCredit (fields : List Text) : Statement (.accountCredit fields) := of_some rfl rfl

theorem accountHold (fields : List Text) : Statement (.accountHold fields) := of_some rfl rfl

theorem accountRelease (fields : List Text) : Statement (.accountRelease fields) := of_some rfl rfl

theorem accountClose (fields : List Text) : Statement (.accountClose fields) := of_some rfl rfl

theorem orderBook (fields : List Text) : Statement (.orderBook fields) := of_some rfl rfl

theorem orderGet (fields : List Text) : Statement (.orderGet fields) := of_some rfl rfl

theorem orderAmend (fields : List Text) : Statement (.orderAmend fields) := of_some rfl rfl

theorem orderCancel (fields : List Text) : Statement (.orderCancel fields) := of_some rfl rfl

theorem orderRetire (fields : List Text) : Statement (.orderRetire fields) := of_some rfl rfl

theorem armPut (fields : List Text) : Statement (.armPut fields) := of_some rfl rfl

theorem armService (fields : List Text) : Statement (.armService fields) := of_some rfl rfl

theorem armClear (fields : List Text) : Statement (.armClear fields) := of_some rfl rfl

theorem armGet (fields : List Text) : Statement (.armGet fields) := of_some rfl rfl

theorem rackHeader (fields : List Text) : Statement (.rackHeader fields) := of_some rfl rfl

theorem recipePut (fields : List Text) : Statement (.recipePut fields) := of_some rfl rfl

theorem recipeGet (fields : List Text) : Statement (.recipeGet fields) := of_some rfl rfl

theorem recipeRetire (fields : List Text) : Statement (.recipeRetire fields) := of_some rfl rfl

theorem additivePut (fields : List Text) : Statement (.additivePut fields) := of_some rfl rfl

theorem additiveRefill (fields : List Text) : Statement (.additiveRefill fields) := of_some rfl rfl

theorem additiveGet (fields : List Text) : Statement (.additiveGet fields) := of_some rfl rfl

theorem rackResume (fields : List Text) : Statement (.rackResume fields) := of_some rfl rfl

theorem noteNext (fields : List Text) : Statement (.noteNext fields) := of_some rfl rfl

theorem noteRead (fields : List Text) : Statement (.noteRead fields) := of_some rfl rfl

theorem rackStatus (fields : List Text) : Statement (.rackStatus fields) := of_some rfl rfl

theorem rackSetDay (fields : List Text) : Statement (.rackSetDay fields) := of_some rfl rfl

theorem rackSwitchTable (fields : List Text) : Statement (.rackSwitchTable fields) := of_some rfl rfl

theorem rackNoteFormat (fields : List Text) : Statement (.rackNoteFormat fields) := of_some rfl rfl

theorem rackRestart (fields : List Text) : Statement (.rackRestart fields) := of_some rfl rfl

theorem card (bay : BayId) (permit : Nat) : Statement (.card bay permit) := of_none rfl

theorem start (bay : BayId) (arm : ArmId) : Statement (.start bay arm) := of_none rfl

theorem stop (bay : BayId) (arm : ArmId) : Statement (.stop bay arm) := of_none rfl

theorem panelMessageDiscarded (bay : BayId) (chars : Text) : Statement (.panelMessageDiscarded bay chars) := of_none rfl

theorem showSent (bay : BayId) : Statement (.showSent bay) := of_none rfl

theorem showRepeatTimerExpiry (arm : ArmId) : Statement (.showRepeatTimerExpiry arm) := of_none rfl

end Sys2Proof.Laws.Named
end

