-- ==== Sys2Proof/Laws/Requests.lean ====
section
/-! SUPPORT. All that taking a request can do: it is discarded, or its owner's answer stands with the response in the link (R178, R180,
R182). -/

namespace Sys2Proof.Machine

/-- A request that is taken leaves what its owner makes of the state, the link answering. -/
theorem takeRequest_taken {name : String} {fields : List Text} {answer : Answer} {s t : State} {reply : Reply}
    (h : s.takes name fields)
    (ha : answer { s with link := s.link.toHunt } = ({ t with link := s.link.toHunt }, reply)) (hl : t.link = s.link) :
    takeRequest (txt name) fields answer s = .next (t.answers name reply) := by
  have hp : fitsFrame (txt name) fields = true ∧ s.link.responseOwed = false := h
  unfold takeRequest State.answers
  rw [if_pos hp, ha, hl]

/-- A request that comes while a response is owed, or that no frame can carry, only brings the receiver back to HUNT. -/
theorem takeRequest_discarded {name : Text} {fields : List Text} {answer : Answer} {s : State}
    (h : ¬(fitsFrame name fields = true ∧ s.link.responseOwed = false)) :
    takeRequest name fields answer s = .next { s with link := s.link.toHunt } := by
  unfold takeRequest
  rw [if_neg h]

/-- Whatever is asked, a request leaves a next state: discarded, or the answer's state with the link answering. -/
theorem takeRequest_cases (name : Text) (fields : List Text) (answer : Answer) (s : State) :
    takeRequest name fields answer s = .next { s with link := s.link.toHunt } ∨
      (fitsFrame name fields = true ∧ s.link.responseOwed = false ∧
        takeRequest name fields answer s = .next
          { (answer { s with link := s.link.toHunt }).1 with
            link := s.link.toHunt.respond name (answer { s with link := s.link.toHunt }).2 }) := by
  by_cases h : fitsFrame name fields = true ∧ s.link.responseOwed = false
  · exact .inr ⟨h.1, h.2, by unfold takeRequest; rw [if_pos h]⟩
  · exact .inl (takeRequest_discarded h)

@[simp] theorem Link.toHunt_toHunt (k : Link) : k.toHunt.toHunt = k.toHunt := (rfl)
@[simp] theorem Link.toHunt_responseOwed (k : Link) : k.toHunt.responseOwed = k.responseOwed := (rfl)
@[simp] theorem Link.toHunt_response (k : Link) : k.toHunt.response = k.response := (rfl)

@[simp] theorem Link.respond_rx (k : Link) (name : Text) (reply : Reply) : (k.respond name reply).rx = k.rx := (rfl)
@[simp] theorem Link.respond_responseOwed (k : Link) (name : Text) (reply : Reply) :
    (k.respond name reply).responseOwed = true := (rfl)
/-- The response being sent is the answer and its frame (R179, R182). -/
@[simp] theorem Link.respond_response (k : Link) (name : Text) (reply : Reply) :
    (k.respond name reply).response = some { name := name, reply := reply, frame := responseFrame name reply } := (rfl)

@[simp] theorem withItems_ok (items : List Item) (answer : List Item → Answer) : withItems (.ok items) answer = answer items := (rfl)
@[simp] theorem withItems_error (key : Text) (answer : List Item → Answer) : withItems (.error key) answer = badField key := (rfl)
@[simp] theorem noFields_nil (answer : Answer) : noFields [] answer = answer := (rfl)
@[simp] theorem noFields_cons (t : Text) (rest : List Text) (answer : Answer) :
    noFields (t :: rest) answer = badField (keyOf t) := (rfl)
@[simp] theorem badField_apply (key : Text) (s : State) : badField key s = (s, refusal .badField (.field key)) := (rfl)
@[simp] theorem refuse_apply (status : Status) (named : Named) (s : State) :
    refuse status named s = (s, refusal status named) := (rfl)
@[simp] theorem refuseWith_apply (status : Status) (s : State) : refuseWith status s = (s, refusal status .nothing) := (rfl)
@[simp] theorem answerOk_apply (fields : OkFields) (s : State) : answerOk fields s = (s, .ok fields) := (rfl)
@[simp] theorem okTables_apply (f : Rack → Rack) (fields : OkFields) (s : State) :
    okTables f fields s = ({ s with rack := f s.rack }, .ok fields) := (rfl)
@[simp] theorem okRack_apply (f : Conditions → Rack → Rack) (fields : OkFields) (s : State) :
    okRack f fields s = ({ s with rack := (f s.cond s.rack).pump }, .ok fields) := (rfl)
@[simp] theorem okConditions_apply (f : Conditions → Conditions) (fields : OkFields) (s : State) :
    okConditions f fields s = ({ s with cond := f s.cond }, .ok fields) := (rfl)

end Sys2Proof.Machine
end

