-- ==== Sys2Proof/Tests/Slice0.lean ====
section
/-! SUPPORT. Tests: ill-formed commands are refused, the manual's worked examples, and states that meet the hypotheses of the statements. -/

namespace Sys2Proof.Tests

open Sys2Proof.Machine

/-! ### Helpers -/

/-- The fields of a request as texts. -/
def fieldsOf (xs : List String) : List Text := xs.map txt

/-- The state a command leaves. -/
def after (i : Instr) (s : State) : State :=
  match exec i s with
  | .next t => t
  | .fault _ => s
  | .refused _ => s

/-- What the response being sent answers. -/
def replyTo (i : Instr) (s : State) : Option Reply := (after i s).link.response.map (fun r => r.reply)

/-! ### WellFormed refuses what cannot come -/

theorem test_wf_request : (Instr.permitGet (fieldsOf ["permit=1"])).wellFormed = true := by decide
theorem test_wf_star_in_field : (Instr.permitGet (fieldsOf ["permit=1*"])).wellFormed = false := by decide
theorem test_wf_semicolon_in_field : (Instr.permitGet (fieldsOf ["a;b"])).wellFormed = false := by decide
theorem test_wf_known_name : (Instr.unknownRequest (txt "NOTE.NEXT") []).wellFormed = false := by decide
theorem test_wf_empty_name : (Instr.unknownRequest [] []).wellFormed = false := by decide
theorem test_wf_card_zero : (Instr.card 0 0).wellFormed = false := by decide
theorem test_wf_card_high : (Instr.card 0 100000000).wellFormed = false := by decide
theorem test_wf_wide_character : (Instr.badFrame [Char.ofNat 256]).wellFormed = false := by decide
theorem test_wf_wide_panel_character : (Instr.panelMessageDiscarded 0 [Char.ofNat 300]).wellFormed = false := by decide

/-! ### The manual's arithmetic -/

/-- Section 1.4, the example between two points: 1,800 and 2,160 L/min on a falling curve; 25,200 L/min saturates. -/
theorem test_meter_factor_example :
    windowRate 30000 1000 = 1800 ∧ pageFactor [⟨600, 100150⟩, ⟨2400, 99950⟩] 1800 = 100017 ∧
      windowRate 36000 1000 = 2160 ∧ pageFactor [⟨600, 100150⟩, ⟨2400, 99950⟩] 2160 = 99977 ∧
      windowRate 420000 1000 = 6000 ∧ pageFactor [⟨600, 100150⟩, ⟨2400, 99950⟩] 6000 = 99950 := by decide

/-- Section 1.7, the table of correction factors. -/
theorem test_ctl_table :
    ctl 1200 2740 = 985120 ∧ ctl 1234 2740 = 984698 ∧ ctl 1234 (-1000) = 1030850 ∧ ctl 1001 1450 = 1000501 ∧
      ctl 2000 7000 = 890000 := by decide

/-- Section 1.8, the table of steps: n, the standard gained, the residue. -/
theorem test_step_residues :
    stepProduct 100017 985120 0 = 98528747040 ∧ stepProduct 100017 985120 747040 = 98529494080 ∧
      98529494080 / 1000000 = 98529 ∧ 98529494080 % 1000000 = 494080 := by decide

/-- Section 6.12, the table of learning: lines A, B and C; section 10.5: rounding and the average of line 1. -/
theorem test_learning_and_rounding :
    learnedAllowance 120 6 = 130 ∧ learnedAllowance 130 9 = 150 ∧ learnedAllowance 150 (-3) = 150 ∧
      roundLitres 8006512340 = 8007 ∧ roundLitres 3398740110 = 3399 ∧ roundDiv 19925600000000 (8099812460 * 10) = 246 := by
  decide

/-- Section 8.4: the need of the dosing run; section 8.5: targets of lines A, B and C, and which of them is short. -/
theorem test_dose_figures :
    doseNeed 250 2000 = 50000 ∧ doseTarget 250 2011 = 50275 ∧ doseTarget 250 599 = 14975 ∧ doseTarget 250 35 = 875 ∧
      (DoseRecord.short (fun _ => some 500) 2011 ⟨2, 250, some 0, 50000, none, 0, 0⟩) = false ∧
      (DoseRecord.short (fun _ => some 500) 599 ⟨2, 250, some 0, 13500, none, 0, 36500⟩) = true ∧
      (DoseRecord.short (fun _ => some 500) 35 ⟨2, 250, some 0, 0, none, 0, 50000⟩) = false := by decide

/-- R2: an age is measured across the wrap of the count, and stays at its limit once it has reached it. -/
theorem test_age_wraps :
    ({ State.reset.cond with time := 5#32 }.age { time := 4294967290#32, full := false }) = 11 ∧
      (Stamp.tick 4294967295#32 { time := 0#32, full := false }).full = true := by decide

/-! ### Frames and texts -/

/-- R179: the check digits of the nine digits 1 to 9 under this generator, as it is published for it. -/
theorem test_frame_check : checkDigits (frameCheck (txt "123456789")) = txt "29B1" := by decide +kernel

/-- R178, R181: a frame put together is taken, and its body is the request. -/
theorem test_frame_received :
    (Link.fresh.receiveAll (frameText '>' (txt "PERMIT.GET;permit=12"))).2 = some (txt "PERMIT.GET;permit=12") ∧
      commandOfBody (txt "PERMIT.GET;permit=12") = some (.permitGet (fieldsOf ["permit=12"])) := by decide +kernel

/-- R178: a `>` inside a frame begins a new one, and small letters are digits too. -/
theorem test_frame_restarts :
    (Link.fresh.receiveAll (txt ">PERMIT.G" ++ frameText '>' (txt "RACK.STATUS"))).2 = some (txt "RACK.STATUS") ∧
      (hexNumber (txt "29b1") = hexNumber (txt "29B1")) := by decide +kernel

/-- R180: a frame that begins while a response is owed is not taken. -/
theorem test_frame_unwanted :
    ({ Link.fresh with responseOwed := true }.receiveAll (frameText '>' (txt "RACK.STATUS"))).2 = none := by decide +kernel

/-- R181, section 11.8: leading zeros are read; a repetition, an unknown field and a value out of range are named. -/
theorem test_fields :
    (permitItems (fieldsOf ["permit=007"])).toOption.map (fun i => natAt i "permit" 0) = some 7 ∧
      permitItems (fieldsOf ["permit=1", "permit=2"]) = .error (txt "permit") ∧
      permitItems (fieldsOf ["permit=1", "name=2"]) = .error (txt "name") ∧
      permitItems (fieldsOf ["permit=100000000"]) = .error (txt "permit") ∧ permitItems [] = .error (txt "permit") := by decide

/-- R28: page points rise; R27: a field repeated is read at its last place. -/
theorem test_points :
    readPoints (txt "600/100150,2400/99950") = some [⟨600, 100150⟩, ⟨2400, 99950⟩] ∧ readPoints (txt "600/100150") = none ∧
      readPoints (txt "600/100150,600/99950") = none ∧ readPoints [] = some [] := by decide

/-! ### A small rack -/

/-- The configuration of the arms of the tests: header 3, and additive 2 in slot 1 as the dosing run of section 8.4 has it. -/
def demoConfig : ArmConfig :=
  { header := 2, lowStart := 500, taper := 200, allow := 120, noFlow := 5, settle := 1, mode := .fifo
    slots := Vector.ofFn (fun s : Fin 4 =>
      if s = 0 then some { additive := 1, stroke := 500, fbMin := 200, fbMax := 1500, missLimit := 3 } else none) }

/-- A line of 2,000 L with one dose entry. -/
def demoLine (state : LineState) : Line :=
  { number := 1, addr := 1, recipe := 4, product := 1, header := 2, group := 1, hazard := 3
    doses := [{ additive := 1, dose := 250, slot := some 0, dispensed := 0, target := none, misses := 0, remaining := 50000 }]
    account := 7, preset := 2000, lowOnly := false, state := state, arm := some 0, bank := some .a, calCount := some 1
    gross := 0, standard := 0, residue := 0, weight := 0, grossLitres := none, standardLitres := none, average := none
    flags := LineFlags.none, stopCause := none }

/-- The order of the line. -/
def demoOrder (state : OrderState) (lines : List Line) : Order :=
  { number := 5, state := state, permit := 3, unit1 := 9, unit2 := none, bay := none, lastBay := some 0, priority := 2, remark := []
    counted := true, note := none, day := none, lines := lines }

/-- The entry of the line in its arm's queue. -/
def demoEntry : QueueEntry := { order := 5, line := 1, addr := 1, position := 1 }

/-- The permit of the order. -/
def demoPermit : Permit :=
  { number := 3, level := 7, endorsements := Vector.replicate 8 true, expiry := 100, dailyLimit := 2, loadsToday := 0
    suspended := false, admittedBay := none }

/-- The unit of the order. -/
def demoUnit : VehicleUnit := { number := 9, expiry := 100, compartments := [⟨8000, none⟩, ⟨6000, none⟩], committed := some 5 }

/-- The account of the line. -/
def demoAccount : Account := { number := 7, group := 1, balance := 50000, overdraft := 0, reserved := 2000, held := false }

/-- The recipe of the line. -/
def demoRecipe : Recipe := { number := 4, product := 1, header := 2, group := 1, hazard := 3, doses := [⟨1, 250⟩] }

/-- An arm in a state, serving the line. -/
def demoArm (state : ArmState) : Arm :=
  { Arm.fresh with
    state := state, config := some demoConfig, allowance := some 120, queue := [demoEntry], current := some demoEntry
    startMark := some 50000000 }

/-- A bank in which every meter has 1,000 pulses per litre and the curve of page 0, which is 100,000 throughout. -/
def demoBank : Bank :=
  { Bank.zero with meters := Vector.replicate 8 ⟨1000, 0⟩, pages := Bank.zero.pages.set 0 [⟨0, 100000⟩, ⟨6000, 100000⟩] }

/-- A NORMAL rack, every bay PERMITTED, the switch CLOSED, with one order whose line stands at arm 1. -/
def demo (arm : ArmState) (line : LineState) : State :=
  { State.reset with
    cond := { State.reset.cond with
      calClosed := true, cal := { CalStore.factory with bankA := demoBank, bankB := demoBank, count := 1 }
      ground := Vector.replicate 4 true, overfill := Vector.replicate 4 true, recipes := [demoRecipe] }
    rack := { State.reset.rack with
      permits := [demoPermit], units := [demoUnit], accounts := [demoAccount]
      additives := State.reset.rack.additives.set 1 { stock := 1200000, reserved := 50000, inFlight := 0, lowMark := 0 }
      orders := [demoOrder .admitted [demoLine line]]
      channels := State.reset.rack.channels.set 0
        { Channel.fresh 100000 0 0 with temperature := some { value := 1500, arrived := .zero, stale := false } }
      arms := State.reset.rack.arms.set 0 (demoArm arm) } }

/-- The demonstration with its rack changed. -/
def demoWith (arm : ArmState) (line : LineState) (f : Rack → Rack) : State :=
  { demo arm line with rack := f (demo arm line).rack }

/-- The demonstration at a later time. -/
def later (ms : Nat) (s : State) : State := { s with cond := { s.cond with time := BitVec.ofNat 32 ms } }

/-- A stroke in a phase on the first channel of arm 1, since the time 0. -/
def stroke (phase : StrokePhase) (owed : Nat) : Injector :=
  { served := some 0, owed := owed, phase := phase, opened := if phase = .waitRise then some .zero else none
    riseTime := if phase = .feedbackActive then some .zero else none, misses := 0
    feedback := decide (phase = .feedbackActive) }

/-- The demonstration with a stroke of 500 in flight on the first channel of arm 1. -/
def demoStroke (phase : StrokePhase) (owed : Nat) : State :=
  demoWith .high .active (fun r =>
    (r.modInjector 0 0 (fun _ => stroke phase owed)).modAdditive 1 (fun x => { x with inFlight := 500 }))

/-! ### One command at a time -/

/-- Section 8.4: the rise timer runs out at 1,500 ms; 17,500 owed stay owed, the next stroke is in flight, one miss stands. -/
theorem test_no_feedback_repeats :
    ((after (.riseTimerExpiry 0 0) (later 1500 (demoStroke .waitRise 17500))).rack.injector 0 0) =
      { served := some 0, owed := 17500, phase := .waitRise, opened := some ⟨1500#32, false⟩, riseTime := none, misses := 1
        feedback := false } := by decide

/-- Section 8.4: a fall 310 ms after the rise is GOOD: 500 leave stock, reserved and remaining, 500 are dispensed. -/
theorem test_good_stroke :
    ((after (.feedbackFall 0 0) (later 310 (demoStroke .feedbackActive 15000))).rack.additive 1) =
        { stock := 1199500, reserved := 49500, inFlight := 0, lowMark := 0 } ∧
      ((after (.feedbackFall 0 0) (later 310 (demoStroke .feedbackActive 15000))).rack.currentLine 0).map
        (fun l => l.doses.map (fun d => (d.dispensed, d.remaining))) = some [(500, 49500)] := by decide

/-- Section 8.4: a fall 120 ms after the rise is SHORT and the next stroke starts. -/
theorem test_short_stroke :
    ((after (.feedbackFall 0 0) (later 120 (demoStroke .feedbackActive 25000))).rack.injector 0 0).owed = 25000 ∧
      ((after (.feedbackFall 0 0) (later 120 (demoStroke .feedbackActive 25000))).rack.injector 0 0).misses = 1 := by decide

/-- R178, R182: an unknown name is refused and echoed. -/
theorem test_unknown_request :
    replyTo (.unknownRequest (txt "NO.SUCH") []) State.reset = some (refusal .unknownRequest (.text (txt "NO.SUCH"))) := by decide

/-- R27, section 2.3: a write at an OPEN switch is refused with SEALED before its fields are judged. -/
theorem test_sealed : replyTo (.calWrite (fieldsOf ["nonsense"])) State.reset = some (refusal .sealed .nothing) := by decide

/-- R26, R32: at an OPEN switch a commit is refused with SEALED whatever its frame carries. -/
theorem test_commit_sealed : replyTo (.calCommit (fieldsOf ["x=1"])) State.reset = some (refusal .sealed .nothing) := by decide

/-- R32: a commit that would leave an arm in service without a K-factor names the arm. -/
theorem test_commit_bad_bank :
    replyTo (.calCommit []) { demo .idle .pending with cond := { (demo .idle .pending).cond with
      cal := { (demo .idle .pending).cond.cal with bankB := .zero } } } = some (refusal .badBank (.armK 0)) := by decide

/-- Section 5.4: a preset above the safe fill is refused with CAPACITY naming the line. -/
theorem test_booking_capacity :
    replyTo (.orderBook (fieldsOf ["order=6", "permit=3", "unit1=9", "bay=ANY", "prio=0", "addr.1=2", "recipe.1=4", "account.1=7",
      "preset.1=6500"])) (demoWith .idle .pending (fun r => r.modUnit 9 (fun u => { u with committed := none }))) =
      some (refusal .capacity (.line 1)) := by decide

/-- R122: an arm never configured is refused with NOT_CONFIGURED. -/
theorem test_service_not_configured :
    replyTo (.armService (fieldsOf ["arm=2", "dir=IN"])) (demo .idle .pending) = some (refusal .notConfigured .nothing) := by decide

/-- R164: a resumption while the emergency stop is ACTIVE. -/
theorem test_resume_active :
    replyTo (.rackResume []) (after (.emergencyStopInputChange true) State.reset) = some (refusal .esdActive .nothing) := by decide

/-- R111, R12: a PROBE raised in a close with intent FINISH clears probe refreshed. -/
theorem test_probe_clears_refreshed :
    ((after (.stalenessExpiry 0) (later 30001 (demoWith .closing .active (fun r => r.modArm 0 (fun x =>
      { x with intent := some .finish, probeRefreshed := true }))))).rack.arm 0).probeRefreshed = false := by decide

/-- R179, R182: the frame of a refusal; its check worked out by hand with the generator of R179. -/
theorem test_refusal_frame :
    (after (.rackResume (fieldsOf ["x=1"])) State.reset).link.response.map (fun r => r.frame) =
      some (txt "<RACK.RESUME;BAD_FIELD;field=x*87A7" ++ [charCR, charLF]) := by decide +kernel

/-- R179, R182: the frame of an accepted request. -/
theorem test_ok_frame :
    (after (.rackResume []) State.reset).link.response.map (fun r => r.frame) =
      some (txt "<RACK.RESUME;OK;changed=NO*6091" ++ [charCR, charLF]) := by decide +kernel

/-- Section 1.9: at the 20th unassigned step an IDLE arm enters ALARM. -/
theorem test_unassigned_alarm :
    ((after (.meterPulse 0) (demoWith .idle .pending (fun r =>
      r.modChannel 0 (fun x => { x with pulses := 99, unassigned := 19 })))).rack.arm 0).state = .alarm := by decide

/-- Section 11.8: line 1 of the note of order 3,318,506. -/
theorem test_note_line_text :
    noteLineText { number := 1, addr := 2, unit := 710225, compartment := 2, recipe := 7, product := 2, preset := 8000, gross := 8100
                   standard := 8007, average := some 246, state := .full, flags := LineFlags.none, stopCause := none
                   bank := some .b, calCount := some 12, additives := [(1, 202000, 202500)] } =
      txt "2/710225/2/7/3/8000/8100/8007/+24.6/FULL///B/12/2:202000:202500" := by decide

/-- Section 11.8: line 2 of the same note, with its flag and its stop cause. -/
theorem test_note_line_flags :
    noteLineText { number := 2, addr := 8, unit := 710688, compartment := 2, recipe := 9, product := 4, preset := 6000, gross := 3412
                   standard := 3399, average := some 183, state := .stopped
                   flags := { LineFlags.none with probeHeld := true }, stopCause := some .panel, bank := some .b
                   calCount := some 12, additives := [(1, 85000, 85300)] } =
      txt "8/710688/2/9/5/6000/3412/3399/+18.3/STOPPED/PROBE_HELD/PANEL/B/12/2:85000:85300" := by decide

/-- R173: the remark of 37 characters under widths of 32 and 48. -/
theorem test_remark_width :
    fitRemark 32 (txt "DELIVER TO NORTH YARD BEFORE 0600 HRS") = txt "DELIVER TO NORTH YARD BEFORE 060" ∧
      fitRemark 48 (txt "DELIVER TO NORTH YARD BEFORE 0600 HRS") = txt "DELIVER TO NORTH YARD BEFORE 0600 HRS           " ∧
      fitRemark 0 (txt "DELIVER") = [] := by decide

/-! ### Refusals -/

/-- The demonstration's fields at fault: a missing field, a value out of range, a second occurrence. -/
theorem test_refused_fields :
    permitItems [] = .error (txt "permit") ∧ unitItems (fieldsOf ["unit=0"]) = .error (txt "unit") ∧
      accountItems (fieldsOf ["account=1", "account=2"]) = .error (txt "account") ∧
      recipeItems (fieldsOf ["recipe=33"]) = .error (txt "recipe") ∧ additiveItems (fieldsOf ["additive=9"]) = .error (txt "additive") ∧
      orderItems (fieldsOf ["x=1"]) = .error (txt "x") ∧ armItems (fieldsOf ["arm=9"]) = .error (txt "arm") ∧
      serviceItems (fieldsOf ["arm=1"]) = .error (txt "dir") ∧ amendItems (fieldsOf ["order=5", "line=13"]) = .error (txt "line") ∧
      noteNextItems (fieldsOf ["after=0"]) = .error (txt "after") ∧ headerItems (fieldsOf ["header=7"]) = .error (txt "header") ∧
      switchItems (fieldsOf ["row.0=ALLOW"]) = .error (txt "row.0") ∧ bookItems [] = .error (txt "order") ∧
      permitPutItems [] = .error (txt "permit") ∧ armPutItems [] = .error (txt "arm") ∧
      checkForm calReadForms false (fun _ _ => false) calReadNeeds [] = .error (txt "bank") := by decide

/-! ### States that meet the hypotheses of the statements

One theorem for each statement that has hypotheses; where clauses ask for different states, each is met. -/

/-- The items of a form check that passes. -/
def itemsOf (checked : Except Text (List Item)) : List Item := checked.toOption.getD []

/-- A waiting command is taken: a step answers a next state. -/
def steps (s : State) : Bool :=
  match step s with
  | .next _ => true
  | .fault _ => false
  | .refused _ => false

/-- The demonstration with arm 1 IDLE and empty, and its order booked, not admitted. -/
def demoBooked : State :=
  demoWith .idle .pending (fun r =>
    { (r.modArm 0 (fun x => { x with queue := [], current := none })) with
      orders := [{ demoOrder .booked [{ demoLine .pending with arm := none, bank := none, calCount := none }] with
        lastBay := none, counted := false }] })

/-- Its order. -/
def demoBookedOrder : Order :=
  { demoOrder .booked [{ demoLine .pending with arm := none, bank := none, calCount := none }] with lastBay := none, counted := false }

/-- The demonstration without orders and with nothing committed or reserved. -/
def demoEmpty : State :=
  demoWith .idle .pending (fun r =>
    { r with orders := [], units := [{ demoUnit with committed := none }], accounts := [{ demoAccount with reserved := 0 }]
             arms := State.reset.rack.arms })

theorem test_meets_front : { demo .high .active with pending := [.timebaseTick] }.pending = .timebaseTick :: [] ∧
    (demo .high .active).pending = [] := by decide

theorem test_meets_next : steps { demo .high .active with pending := [.timebaseTick] } = true := by decide

theorem test_meets_pulse :
    (effectiveBank State.reset.cond State.reset.rack 0).kFactor 0 = 0 ∧
      (effectiveBank (demo .high .active).cond (demo .high .active).rack 0).kFactor 0 = 1000 ∧
      ((demo .high .active).rack.channel 0).pulses + 1 < 1000 / 10 := by decide

/-- The demonstration one pulse before a step. -/
def atStep (arm : ArmState) (line : LineState) : State := demoWith arm line (fun r => r.modChannel 0 (fun x => { x with pulses := 99 }))

theorem test_meets_unassigned :
    (effectiveBank (atStep .idle .pending).cond (atStep .idle .pending).rack 0).kFactor 0 = 1000 ∧
      1000 / 10 ≤ ((atStep .idle .pending).rack.channel 0).pulses + 1 ∧
      ((atStep .idle .pending).rack.arm 0).state.isRunning = false ∧
      ((atStep .outOfService .pending).rack.arm 0).state.isRunning = false := by decide

theorem test_meets_assigned :
    (effectiveBank (atStep .high .active).cond (atStep .high .active).rack 0).kFactor 0 = 1000 ∧
      1000 / 10 ≤ ((atStep .high .active).rack.channel 0).pulses + 1 ∧
      ((atStep .high .active).rack.arm 0).state.isRunning = true ∧ ((atStep .closing .active).rack.arm 0).state.isRunning = true ∧
      ((atStep .high .active).rack.arm 0).current = some demoEntry ∧
      (atStep .high .active).rack.currentLine 0 = some (demoLine .active) := by decide

/-- The demonstration one step before the close point of 1,988.0 L. -/
def atClose : State :=
  demoWith .high .active (fun r => { (r.modChannel 0 (fun x => { x with pulses := 99 })) with
    orders := [demoOrder .admitted [{ demoLine .active with standard := 1987900000 }]] })

theorem test_meets_close_point :
    (effectiveBank atClose.cond atClose.rack 0).kFactor 0 = 1000 ∧ 1000 / 10 ≤ (atClose.rack.channel 0).pulses + 1 ∧
      (atClose.rack.arm 0).state.isFlow = true ∧ (atClose.rack.arm 0).config = some demoConfig ∧
      atClose.rack.currentLine 0 = some { demoLine .active with standard := 1987900000 } ∧
      (2000 : Int) * 1000000 - (((atClose.rack.arm 0).allowance.getD 0 : Nat) : Int) * 100000 =
        (({ demoLine .active with standard := 1987900000 }.addStep (atClose.rack.channel 0)
          (stepCtl atClose.cond atClose.rack 0 (demoLine .active))).standard : Int) := by decide

theorem test_meets_window :
    1000 ≤ (later 1000 (demo .high .active)).cond.age ((later 1000 (demo .high .active)).rack.channel 0).windowStart := by decide

theorem test_meets_reading : (-5000 : Int) ≤ 10000 ∧ (10000 : Int) < 10001 ∧ (-5001 : Int) < -5000 := by decide

theorem test_meets_stale :
    ((later 30001 (demo .high .active)).rack.channel 0).temperature = some { value := 1500, arrived := .zero, stale := false } ∧
      30000 < (later 30001 (demo .high .active)).cond.age .zero ∧ ((demo .high .active).rack.arm 0).state.isFlow = true ∧
      ((demo .idle .pending).rack.arm 0).state.isRunning = false := by decide

/-- R12: in a close that is no suspension a stale temperature leaves no cause and clears probe refreshed. -/
theorem test_meets_stale_close :
    ∀ intent ∈ [Intent.finish, .suspend],
      ((later 30001 (demoWith .closing .active (fun r => r.modArm 0 (fun x =>
        { x with intent := some intent, probeRefreshed := true })))).rack.arm 0).state = .closing ∧
      ((after (.stalenessExpiry 0) (later 30001 (demoWith .closing .active (fun r => r.modArm 0 (fun x =>
        { x with intent := some intent, probeRefreshed := true }))))).rack.arm 0).causes =
          (if intent = .suspend then [.probe] else []) := by decide

/-- The demonstration bank with page 5 as the page of every meter, its points these. -/
def ownPage (points : List CurvePoint) : Bank :=
  { demoBank with meters := Vector.replicate 8 ⟨1000, 5⟩, pages := demoBank.pages.set 5 points }

/-- R7: the meter's own page with 2 points; page 0 behind an empty page of its own; neither, at the factory's bank. -/
theorem test_lookup_page :
    (ownPage [⟨0, 99000⟩, ⟨6000, 99000⟩]).factorAt 7 6000 = 99000 ∧ (ownPage []).factorAt 7 6000 = 100000 ∧
      Bank.zero.factorAt 0 0 = 100000 := by decide

theorem test_meets_lookup :
    2 ≤ ((ownPage [⟨0, 99000⟩, ⟨6000, 99000⟩]).pages[(ownPage [⟨0, 99000⟩, ⟨6000, 99000⟩]).meters[7].page]).length ∧
      ((ownPage []).pages[(ownPage []).meters[7].page]).length < 2 ∧ 2 ≤ ((ownPage []).pages[(0 : PageId)]).length ∧
      (Bank.zero.pages[Bank.zero.meters[0].page]).length < 2 ∧ (Bank.zero.pages[(0 : PageId)]).length < 2 ∧
      steps { demo .high .active with pending := [.rateWindowExpiry 0] } = true ∧
      (after (.calCommit []) (demo .idle .pending)).cond.cal.active ≠ (demo .idle .pending).cond.cal.active ∧
      ((demo .idle .pending).rack.arm 0).inService = true := by decide

/-- Banks with the demonstration's K-factors and other curves. -/
def otherCurves : CalStore := { (demo .outOfService .full).cond.cal with bankA := ownPage [], bankB := ownPage [] }

theorem test_meets_lookup_service :
    otherCurves.active = (demo .outOfService .full).cond.cal.active ∧
      (∀ k ∈ [BankId.a, .b], ∀ a : ArmId, (otherCurves.bank k).kFactor a = ((demo .outOfService .full).cond.cal.bank k).kFactor a) ∧
      steps { demo .outOfService .full with pending := [.armService (fieldsOf ["arm=1", "dir=IN"])] } = true := by decide

theorem test_meets_page :
    risingRates ([⟨600, 100150⟩, ⟨2400, 99950⟩] : List CurvePoint) = true ∧ ([] ++ [⟨600, 100150⟩] : List CurvePoint) ≠ [] ∧
      (600 : Nat) ≤ 600 ∧ (600 : Nat) < 2400 ∧ (90000 : Nat) ≤ 99950 ∧ (100150 : Nat) ≤ 110000 := by decide

theorem test_meets_ctl : (2000 : Nat) ≤ 2000 ∧ (-4000 : Int) ≤ -4000 ∧ (7000 : Int) ≤ 7000 := by decide

theorem test_meets_residue : (0 : Int) ≤ ctl 1200 2740 := by decide

theorem test_meets_cal_write :
    (demo .idle .pending).takes "CAL.WRITE" (fieldsOf ["copy=ACTIVE", "k.1=9990", "curve.8=15", "points.0=", "beta.16=2000"]) ∧
      (demo .idle .pending).cond.calClosed = true ∧
      checkForm calWriteForms true (fun _ _ => false) (fun _ => [])
        (fieldsOf ["copy=ACTIVE", "k.1=9990", "curve.8=15", "points.0=", "beta.16=2000"]) =
        .ok (itemsOf (checkForm calWriteForms true (fun _ _ => false) (fun _ => [])
          (fieldsOf ["copy=ACTIVE", "k.1=9990", "curve.8=15", "points.0=", "beta.16=2000"]))) ∧
      (demo .idle .pending).rack.bankUsers (demo .idle .pending).cond.cal.active.other = 0 := by decide

/-- R27: of a k given twice the later one is written, and a page not named is kept. -/
theorem test_cal_write :
    ((after (.calWrite (fieldsOf ["k.8=20", "k.8=9990", "points.15=0/90000,1/110000", "beta.16=7"])) (demo .idle .pending)).cond.cal.bankB).meters[
        (7 : ArmId)] = ⟨9990, 0⟩ ∧
      ((after (.calWrite (fieldsOf ["k.8=20", "k.8=9990", "points.15=0/90000,1/110000", "beta.16=7"])) (demo .idle .pending)).cond.cal.bankB).pages[
        (0 : PageId)] = [⟨0, 100000⟩, ⟨6000, 100000⟩] := by decide +kernel

/-- R31: the in-use number and the usable curves are those of the bank that is read. -/
theorem test_cal_read :
    replyTo (.calRead (fieldsOf ["bank=A", "part=PAGE", "page=0"])) (demo .high .active) = some (.ok (.calRead
      { part := .page [⟨0, 100000⟩, ⟨6000, 100000⟩], active := .a, count := 1, switchClosed := true, inUse := 1
        usable := Vector.replicate 8 true })) ∧
      wordAt (itemsOf (checkForm calReadForms false (fun _ _ => false) calReadNeeds (fieldsOf ["bank=B", "part=METERS"]))) "bank" = txt "B" := by
  decide +kernel

theorem test_meets_cal_read :
    (demo .idle .pending).takes "CAL.READ" (fieldsOf ["bank=A", "part=PAGE", "page=15"]) ∧
      checkForm calReadForms false (fun _ _ => false) calReadNeeds (fieldsOf ["bank=A", "part=PAGE", "page=15"]) =
        .ok (itemsOf (checkForm calReadForms false (fun _ _ => false) calReadNeeds (fieldsOf ["bank=A", "part=PAGE", "page=15"]))) := by
  decide

theorem test_meets_cal_commit :
    (demo .idle .pending).takes "CAL.COMMIT" [] ∧ (demo .idle .pending).cond.calClosed = true ∧
      ∀ a : ArmId, ((demo .idle .pending).rack.arm a).inService = true →
        ((demo .idle .pending).cond.cal.bank (demo .idle .pending).cond.cal.active.other).kFactor a ≠ 0 ∧
          ((demo .idle .pending).cond.cal.bank (demo .idle .pending).cond.cal.active.other).curveUsable a = true := by decide

theorem test_meets_sealed : State.reset.cond.calClosed = false ∧ steps { State.reset with pending := [.calWrite []] } = true := by
  decide

theorem test_meets_bank_in_use :
    0 < (demo .high .active).rack.bankUsers .a ∧ steps { demo .high .active with pending := [.calCommit []] } = true := by decide

theorem test_meets_in_range : (demo .high .active).calInRange := ⟨by decide, nofun⟩

theorem test_meets_permit_put :
    (demo .idle .pending).takes "PERMIT.PUT" (fieldsOf ["permit=4", "level=7", "endorse=", "expiry=65535", "limit=255"]) ∧
      permitPutItems (fieldsOf ["permit=4", "level=7", "endorse=", "expiry=65535", "limit=255"]) =
        .ok (itemsOf (permitPutItems (fieldsOf ["permit=4", "level=7", "endorse=", "expiry=65535", "limit=255"]))) ∧
      (demo .idle .pending).rack.permit? 4 = none ∧ (demo .idle .pending).rack.permit? 3 = some demoPermit ∧
      (permitPutItems (fieldsOf ["permit=3", "level=0", "endorse=1,2", "expiry=0", "limit=1"])).toOption.isSome = true := by decide

theorem test_meets_permit_others :
    (demo .idle .pending).takes "PERMIT.GET" (fieldsOf ["permit=3"]) ∧ (demo .idle .pending).takes "PERMIT.SUSPEND" (fieldsOf ["permit=3"]) ∧
      (demo .idle .pending).takes "PERMIT.REINSTATE" (fieldsOf ["permit=3"]) ∧ demoEmpty.takes "PERMIT.RETIRE" (fieldsOf ["permit=3"]) ∧
      permitItems (fieldsOf ["permit=3"]) = .ok (itemsOf (permitItems (fieldsOf ["permit=3"]))) ∧
      natAt (itemsOf (permitItems (fieldsOf ["permit=3"]))) "permit" 0 = 3 ∧
      (demo .idle .pending).rack.permit? 3 = some demoPermit ∧ demoPermit.suspended = false ∧ demoPermit.admittedBay = none ∧
      demoEmpty.rack.permit? 3 = some demoPermit ∧ demoEmpty.rack.orders = [] ∧
      permitItems (fieldsOf ["permit=0"]) = .error (txt "permit") := by decide

theorem test_meets_unit_put :
    demoEmpty.takes "UNIT.PUT" (fieldsOf ["unit=10", "expiry=9", "cap.1=8000"]) ∧
      unitPutItems (fieldsOf ["unit=10", "expiry=9", "cap.1=8000"]) =
        .ok (itemsOf (unitPutItems (fieldsOf ["unit=10", "expiry=9", "cap.1=8000"]))) ∧
      demoEmpty.rack.unit? 10 = none ∧ demoEmpty.rack.unit? 9 = some { demoUnit with committed := none } ∧
      (unitPutItems (fieldsOf ["unit=9", "expiry=9", "cap.1=8000"])).toOption.isSome = true := by decide

/-- R50: the last group given, the one kept, and CLEAN for a compartment the record had not. -/
theorem test_unit_put :
    ((unitPutItems (fieldsOf ["unit=9", "expiry=9", "cap.1=500", "cap.2=600", "cap.3=700", "last.1=7", "last.1=CLEAN"])).toOption.map
      (fun items => newCompartments items [⟨8000, some 3⟩, ⟨6000, some 4⟩])) = some [⟨500, none⟩, ⟨600, some 4⟩, ⟨700, none⟩] := by decide

theorem test_meets_unit_others :
    demoEmpty.takes "UNIT.GET" (fieldsOf ["unit=9"]) ∧ demoEmpty.takes "UNIT.CLEAN" (fieldsOf ["unit=9"]) ∧
      demoEmpty.takes "UNIT.RETIRE" (fieldsOf ["unit=9"]) ∧
      unitItems (fieldsOf ["unit=9"]) = .ok (itemsOf (unitItems (fieldsOf ["unit=9"]))) ∧
      demoEmpty.rack.unit? (natAt (itemsOf (unitItems (fieldsOf ["unit=9"]))) "unit" 0) = some { demoUnit with committed := none } ∧
      demoEmpty.rack.orders = [] := by decide

theorem test_meets_account_put :
    demoEmpty.takes "ACCOUNT.PUT" (fieldsOf ["account=8", "group=7", "overdraft=0"]) ∧
      accountPutItems (fieldsOf ["account=8", "group=7", "overdraft=0"]) =
        .ok (itemsOf (accountPutItems (fieldsOf ["account=8", "group=7", "overdraft=0"]))) ∧
      demoEmpty.rack.account? 8 = none ∧ demoEmpty.rack.account? 7 = some { demoAccount with reserved := 0 } ∧
      (accountPutItems (fieldsOf ["account=7", "group=2", "overdraft=0"])).toOption.isSome = true := by decide

theorem test_meets_account_others :
    demoEmpty.takes "ACCOUNT.GET" (fieldsOf ["account=7"]) ∧ demoEmpty.takes "ACCOUNT.HOLD" (fieldsOf ["account=7"]) ∧
      demoEmpty.takes "ACCOUNT.RELEASE" (fieldsOf ["account=7"]) ∧ demoEmpty.takes "ACCOUNT.CLOSE" (fieldsOf ["account=7"]) ∧
      accountItems (fieldsOf ["account=7"]) = .ok (itemsOf (accountItems (fieldsOf ["account=7"]))) ∧
      demoEmpty.rack.account? (natAt (itemsOf (accountItems (fieldsOf ["account=7"]))) "account" 0) =
        some { demoAccount with reserved := 0 } := by decide

theorem test_meets_credit :
    demoEmpty.takes "ACCOUNT.CREDIT" (fieldsOf ["account=7", "amount=-999999999"]) ∧
      creditItems (fieldsOf ["account=7", "amount=-999999999"]) =
        .ok (itemsOf (creditItems (fieldsOf ["account=7", "amount=-999999999"]))) ∧
      demoEmpty.rack.account? (natAt (itemsOf (creditItems (fieldsOf ["account=7", "amount=-999999999"]))) "account" 0) =
        some { demoAccount with reserved := 0 } := by decide

/-- R42, R47, R48, R50 to R53, R69 to R73: a number without a record, and records that the demonstration's order names. -/
theorem test_refused_tables :
    replyTo (.permitGet (fieldsOf ["permit=4"])) demoEmpty = some (refusal .notFound .nothing) ∧
      replyTo (.permitRetire (fieldsOf ["permit=3"])) (demo .idle .pending) = some (refusal .referenced .nothing) ∧
      replyTo (.unitGet (fieldsOf ["unit=8"])) demoEmpty = some (refusal .notFound .nothing) ∧
      replyTo (.unitClean (fieldsOf ["unit=9"])) (demo .idle .pending) = some (refusal .referenced .nothing) ∧
      replyTo (.unitRetire (fieldsOf ["unit=9"])) (demo .idle .pending) = some (refusal .referenced .nothing) ∧
      replyTo (.unitPut (fieldsOf ["unit=9", "expiry=9", "cap.1=8000"])) (demo .idle .pending) =
        some (refusal .referenced .nothing) := by decide

theorem test_refused_accounts :
    replyTo (.accountHold (fieldsOf ["account=8"])) demoEmpty = some (refusal .notFound .nothing) ∧
      replyTo (.accountCredit (fieldsOf ["account=8", "amount=1"])) demoEmpty = some (refusal .notFound .nothing) ∧
      replyTo (.accountClose (fieldsOf ["account=7"])) (demo .idle .pending) = some (refusal .referenced .nothing) ∧
      replyTo (.accountPut (fieldsOf ["account=7", "group=2", "overdraft=0"])) (demo .idle .pending) =
        some (refusal .referenced .nothing) ∧
      replyTo (.recipeGet (fieldsOf ["recipe=5"])) demoEmpty = some (refusal .notFound .nothing) ∧
      replyTo (.recipeRetire (fieldsOf ["recipe=4"])) (demo .idle .pending) = some (refusal .referenced .nothing) := by decide

/-- R41, R50, R69: full tables and a number that none of their records has. -/
theorem test_meets_full_tables :
    (demoWith .idle .pending (fun r => { r with permits := List.replicate 512 demoPermit })).rack.permit? 4 = none ∧
      512 ≤ (List.replicate 512 demoPermit).length ∧
      (demoWith .idle .pending (fun r => { r with units := List.replicate 256 demoUnit })).rack.unit? 10 = none ∧
      256 ≤ (List.replicate 256 demoUnit).length ∧
      (demoWith .idle .pending (fun r => { r with accounts := List.replicate 128 demoAccount })).rack.account? 8 = none ∧
      128 ≤ (List.replicate 128 demoAccount).length := by decide +kernel

theorem test_meets_recipe :
    demoEmpty.takes "RECIPE.PUT" (fieldsOf ["recipe=32", "product=16", "header=6", "group=0", "hazard=7", "add.1=8", "dose.1=0"]) ∧
      recipePutItems (fieldsOf ["recipe=32", "product=16", "header=6", "group=0", "hazard=7", "add.1=8", "dose.1=0"]) =
        .ok (itemsOf (recipePutItems
          (fieldsOf ["recipe=32", "product=16", "header=6", "group=0", "hazard=7", "add.1=8", "dose.1=0"]))) ∧
      demoEmpty.takes "RECIPE.GET" (fieldsOf ["recipe=4"]) ∧ demoEmpty.takes "RECIPE.RETIRE" (fieldsOf ["recipe=4"]) ∧
      recipeItems (fieldsOf ["recipe=4"]) = .ok (itemsOf (recipeItems (fieldsOf ["recipe=4"]))) ∧
      demoEmpty.cond.recipe? (natAt (itemsOf (recipeItems (fieldsOf ["recipe=4"]))) "recipe" 0) = some demoRecipe ∧
      demoEmpty.rack.allLines = [] := by decide

theorem test_meets_additive :
    demoEmpty.takes "ADDITIVE.PUT" (fieldsOf ["additive=8", "low=999999999"]) ∧
      (checkPlain [plainField "additive" (.nat 1 8), plainField "low" (.nat 0 999999999)] ["additive", "low"]
        (fieldsOf ["additive=8", "low=999999999"])).toOption.isSome = true ∧
      checkPlain [plainField "additive" (.nat 1 8), plainField "low" (.nat 0 999999999)] ["additive", "low"]
        (fieldsOf ["additive=9", "low=0"]) = .error (txt "additive") ∧
      demoEmpty.takes "ADDITIVE.REFILL" (fieldsOf ["additive=2", "amount=999999999"]) ∧
      (refillItems (fieldsOf ["additive=2", "amount=999999999"])).toOption.isSome = true ∧
      demoEmpty.takes "ADDITIVE.GET" (fieldsOf ["additive=1"]) ∧ (additiveItems (fieldsOf ["additive=1"])).toOption.isSome = true := by
  decide

theorem test_meets_resume :
    (demo .high .active).takes "RACK.RESUME" (fieldsOf ["x=1"]) ∧ (demo .high .active).takes "RACK.RESUME" [] ∧
      (demo .high .active).cond.emergencyStop = false ∧
      (after (.emergencyStopInputChange true) (demo .high .active)).takes "RACK.RESUME" [] ∧
      (after (.emergencyStopInputChange true) State.reset).cond.emergencyStop = true := by decide

theorem test_meets_note_format :
    (demo .high .active).takes "RACK.NOTEFORMAT" [] ∧ (demo .high .active).takes "RACK.NOTEFORMAT" [txt "width=" ++ txt "064"] ∧
      readNat (txt "064") = some 64 ∧ readNat (txt "33") = some 33 ∧ 33 ∉ [0, 16, 32, 48, 64] := by
  decide

theorem test_meets_set_day :
    (demo .high .active).takes "RACK.SETDAY" (fieldsOf ["day=65535"]) ∧
      setDayItems (fieldsOf ["day=65535"]) = .ok (itemsOf (setDayItems (fieldsOf ["day=65535"]))) ∧
      (demo .high .active).cond.day < natAt (itemsOf (setDayItems (fieldsOf ["day=65535"]))) "day" 0 ∧
      natAt (itemsOf (setDayItems (fieldsOf ["day=0"]))) "day" 0 ≤ (demo .high .active).cond.day ∧
      setDayItems (fieldsOf ["day=65536"]) = .error (txt "day") := by decide

/-- Nine rows of a switch-load table. -/
def switchRows : List Text :=
  ["row.0", "row.1", "row.2", "row.3", "row.4", "row.5", "row.6", "row.7", "row.CLEAN"].map (fun k =>
    txt k ++ txt "=ALLOW,FORBID,LOW_ONLY,ALLOW,ALLOW,ALLOW,ALLOW,ALLOW")

theorem test_meets_switch_table :
    (demo .high .active).takes "RACK.SWITCHTABLE" switchRows ∧ switchRows ≠ [] ∧ (switchItems switchRows).toOption.isSome = true ∧
      (demo .high .active).takes "RACK.SWITCHTABLE" [] ∧ (demo .high .active).takes "RACK.STATUS" [] := by decide +kernel

/-- R56: the row CLEAN is the last, and a column is a place in its row. -/
theorem test_switch_table :
    ((switchTableOf (itemsOf (switchItems switchRows))).rows[(8 : Fin 9)]).toList.take 3 = [.allow, .forbid, .lowOnly] ∧
      txt "row.CLEAN" ++ '=' :: txt "ALLOW,FORBID,LOW_ONLY,ALLOW,ALLOW,ALLOW,ALLOW,ALLOW" ∈ switchRows := by decide +kernel

/-- Arm 1 waits at header 3, whose capacity 1 arm 5 has taken. -/
def demoWaiting : State :=
  demoWith .waitGrant .active (fun r => r.modHeader 2 (fun _ =>
    { capacity := 1, held := [4], waiting := [{ arm := 0, priority := 2, position := 1 }] }))

theorem test_meets_header :
    demoWaiting.takes "RACK.HEADER" (fieldsOf ["header=3"]) ∧ (headerItems (fieldsOf ["header=3"])).toOption.isSome = true ∧
      natAt? (itemsOf (headerItems (fieldsOf ["header=3"]))) "cap" 0 = none ∧
      natAt? (itemsOf (headerItems (fieldsOf ["header=3", "cap=1"]))) "cap" 0 = some 1 ∧
      natAt? (itemsOf (headerItems (fieldsOf ["header=3", "cap=2"]))) "cap" 0 = some 2 ∧
      demoWaiting.takes "RACK.HEADER" (fieldsOf ["header=3", "cap=2"]) ∧
      (demoWaiting.rack.header 2).capacity < 2 ∧ ((demoWaiting.rack.header 2).waiting.map (fun w => w.arm)).Nodup ∧
      (∀ w ∈ (demoWaiting.rack.header 2).waiting, (demoWaiting.rack.arm w.arm).state = .waitGrant ∧ w.arm ∉ (demoWaiting.rack.header 2).held) ∧
      1 = min (demoWaiting.rack.header 2).waiting.length (2 - (demoWaiting.rack.header 2).held.length) := by decide

theorem test_meets_number_field : (txt "permit").contains '=' = false ∧ (txt "permit").contains '.' = false := by decide

/-- A booking of one line on the empty demonstration. -/
def bookFields : List Text :=
  fieldsOf ["order=6", "permit=3", "unit1=9", "bay=ANY", "prio=7", "addr.1=2", "recipe.1=4", "account.1=7", "preset.1=6000"]

theorem test_meets_booking :
    demoEmpty.takes "ORDER.BOOK" bookFields ∧ bookItems bookFields = .ok (itemsOf (bookItems bookFields)) ∧
      bookRefusal demoEmpty.cond demoEmpty.rack (bookingOf (itemsOf (bookItems bookFields))) = none := by decide

theorem test_meets_booking_refused :
    bookRefusal { demoEmpty.cond with day := 101 } demoEmpty.rack (bookingOf (itemsOf (bookItems bookFields))) =
        some { status := .expired, named := .unit 9 } ∧
      (demoWith .idle .pending (fun r => r.modOrder 5 (fun o => { o with number := 6 }))).rack.order? 6 ≠ none ∧
      (demoWith .idle .pending (fun r => { r with orders := List.replicate 64 (demoOrder .booked []) })).rack.order? 6 = none ∧
      64 ≤ (demoWith .idle .pending (fun r => { r with orders := List.replicate 64 (demoOrder .booked []) })).rack.orders.length := by
  decide +kernel

/-- The booking of these fields. -/
def demoBooking : Booking :=
  { order := 6, permit := 3, unit1 := 9, unit2 := none, bay := none, priority := 7, remark := [], lines := [⟨1, 2, 4, 7, 6000⟩] }

theorem test_booking_of : bookingOf (itemsOf (bookItems bookFields)) = demoBooking := by decide

set_option synthInstance.maxSize 1000 in
/-- The booking passes every check; each of the changes below fails one with those before it passed. -/
theorem test_meets_checks : demoBooking.passesTo demoEmpty.cond demoEmpty.rack 15 := by decide

set_option synthInstance.maxSize 1000 in
theorem test_meets_failing_unit :
    (∀ c r, r = demoEmpty.rack → c = { demoEmpty.cond with day := 101 } →
      demoBooking.passesTo c r 5 ∧ firstFailing demoBooking.units (demoBooking.unitPasses c r 6) 9) ∧
    (∀ r, r = { demoEmpty.rack with units := [] } →
      demoBooking.passesTo demoEmpty.cond r 4 ∧ firstFailing demoBooking.units (demoBooking.unitPasses demoEmpty.cond r 5) 9) ∧
    ∀ r, r = { demoEmpty.rack with units := [demoUnit] } →
      demoBooking.passesTo demoEmpty.cond r 6 ∧ firstFailing demoBooking.units (demoBooking.unitPasses demoEmpty.cond r 7) 9 := by
  refine ⟨?_, ?_, ?_⟩
  · rintro c r rfl rfl; exact ⟨by decide, [], [], by decide, by decide, by decide⟩
  · rintro r rfl; exact ⟨by decide, [], [], by decide, by decide, by decide⟩
  · rintro r rfl; exact ⟨by decide, [], [], by decide, by decide, by decide⟩

set_option synthInstance.maxSize 1000 in
/-- Checks 9 to 14 each fail at the one line of a booking changed in one place, or at the booking in a rack changed so. -/
theorem test_meets_failing_line :
    (∀ check (k : Booking) (l : BookLine), (check, k, l) ∈
        [(9, { demoBooking with lines := [⟨1, 2, 5, 7, 6000⟩] }, ⟨1, 2, 5, 7, 6000⟩),
         (10, { demoBooking with lines := [⟨1, 2, 4, 7, 6001⟩] }, ⟨1, 2, 4, 7, 6001⟩),
         (12, { demoBooking with lines := [⟨1, 2, 4, 8, 6000⟩] }, (⟨1, 2, 4, 8, 6000⟩ : BookLine))] →
      k.passesTo demoEmpty.cond demoEmpty.rack (check - 1) ∧ k.lines = [l] ∧ ¬k.linePasses demoEmpty.cond demoEmpty.rack check l) ∧
    ∀ (check : Nat) (r : Rack), (check, r) ∈
        [(11, { demoEmpty.rack with units := [{ demoUnit with committed := none, compartments := [⟨8000, none⟩, ⟨6000, some 2⟩] }] }),
         (13, { demoEmpty.rack with accounts := [{ demoAccount with reserved := 0, group := 2 }] }),
         (14, { demoEmpty.rack with accounts := [{ demoAccount with reserved := 44001 }] })] →
      demoBooking.passesTo demoEmpty.cond r (check - 1) ∧ ¬demoBooking.linePasses demoEmpty.cond r check ⟨1, 2, 4, 7, 6000⟩ := by
  constructor
  · intro check k l h
    simp only [List.mem_cons, Prod.mk.injEq, List.not_mem_nil, or_false] at h
    obtain ⟨rfl, rfl, rfl⟩ | ⟨rfl, rfl, rfl⟩ | ⟨rfl, rfl, rfl⟩ := h <;> decide
  · intro check r h
    simp only [List.mem_cons, Prod.mk.injEq, List.not_mem_nil, or_false] at h
    obtain ⟨rfl, rfl⟩ | ⟨rfl, rfl⟩ | ⟨rfl, rfl⟩ := h <;> decide

/-- R78, R81: the stock one hundredth of a millilitre short of the need refuses at the last check; two lines of one address at the eighth. -/
theorem test_booking_last_checks :
    bookRefusal demoEmpty.cond (demoEmpty.rack.modAdditive 1 (fun x => { x with stock := 199999 })) demoBooking =
        some { status := .noStock, named := .additive 1 } ∧
      bookRefusal demoEmpty.cond demoEmpty.rack { demoBooking with lines := [⟨1, 2, 4, 7, 100⟩, ⟨2, 2, 4, 7, 100⟩] } =
        some { status := .badField, named := .field (txt "addr.2") } ∧
      bookRefusal demoEmpty.cond demoEmpty.rack { demoBooking with unit2 := some 9 } =
        some { status := .badField, named := .field (txt "unit2") } := by decide

theorem test_meets_order_get_retire :
    (demoWith .idle .full (fun r => r.modOrder 5 (fun o => { o with state := .complete }))).takes "ORDER.GET" (fieldsOf ["order=5"]) ∧
      (demoWith .idle .full (fun r => r.modOrder 5 (fun o => { o with state := .complete }))).takes "ORDER.RETIRE"
        (fieldsOf ["order=5"]) ∧
      orderItems (fieldsOf ["order=5"]) = .ok (itemsOf (orderItems (fieldsOf ["order=5"]))) ∧
      natAt (itemsOf (orderItems (fieldsOf ["order=5"]))) "order" 0 = 5 ∧
      ((demoWith .idle .full (fun r => r.modOrder 5 (fun o => { o with state := .complete }))).rack.order? 5) =
        some (demoOrder .complete [demoLine .full]) := by decide

theorem test_meets_amend :
    demoBooked.takes "ORDER.AMEND" (fieldsOf ["order=5", "line=1", "preset=8000"]) ∧
      (amendItems (fieldsOf ["order=5", "line=1", "preset=8000"])).toOption.isSome = true ∧
      (demoBooked.rack.order? 5).isSome = true ∧
      demoBooked.rack.line? 5 1 = some { demoLine .pending with arm := none, bank := none, calCount := none } ∧
      demoBooked.rack.compartment? 9 none 1 = some ⟨8000, none⟩ ∧ demoBooked.rack.account? 7 = some demoAccount ∧
      ((8000 - 2000 : Nat) : Int) ≤ 50000 + 0 - 2000 ∧
      ((doseNeed 250 8000 - doseNeed 250 2000 : Nat) : Int) ≤ ((demoBooked.rack.additive 1).stock : Int) - 50000 := by decide

/-- R90: each check of an amendment, the preset of 8,001 L above the compartment's 8,000 L. -/
theorem test_refused_amend :
    replyTo (.orderAmend (fieldsOf ["order=6", "line=1", "preset=100"])) demoBooked = some (refusal .notFound (.field (txt "order"))) ∧
      replyTo (.orderAmend (fieldsOf ["order=5", "line=2", "preset=100"])) demoBooked =
        some (refusal .notFound (.field (txt "line"))) ∧
      replyTo (.orderAmend (fieldsOf ["order=5", "line=1", "preset=100"])) (demo .high .active) =
        some (refusal .wrongState .nothing) ∧
      replyTo (.orderAmend (fieldsOf ["order=5", "line=1", "preset=8001"])) demoBooked = some (refusal .capacity .nothing) ∧
      replyTo (.orderAmend (fieldsOf ["order=5", "line=1", "preset=99"])) demoBooked = some (refusal .capacity .nothing) := by decide

/-- R90: the checks of a rise: the account held, one litre short, and the additive one unit short. -/
theorem test_refused_rise :
    ∀ (f : Rack → Rack) (why : Reply), (f, why) ∈
      [((fun r => r.modAccount 7 (fun x => { x with held := true })), refusal .held .nothing),
       ((fun r => r.modAccount 7 (fun x => { x with balance := 7999 })), refusal .noCover .nothing),
       ((fun r => r.modAdditive 1 (fun x => { x with stock := 199999 })), refusal .noStock (.additive 1))] →
      replyTo (.orderAmend (fieldsOf ["order=5", "line=1", "preset=8000"])) { demoBooked with rack := f demoBooked.rack } = some why := by
  intro f why h
  simp only [List.mem_cons, Prod.mk.injEq, List.not_mem_nil, or_false] at h
  obtain ⟨rfl, rfl⟩ | ⟨rfl, rfl⟩ | ⟨rfl, rfl⟩ := h <;> decide

/-- R83, R92, R99, R169, R170: no such order or entry, no entry behind the last, and states that do not admit the request. -/
theorem test_refused_orders :
    replyTo (.orderGet (fieldsOf ["order=6"])) (demo .high .active) = some (refusal .notFound .nothing) ∧
      replyTo (.orderCancel (fieldsOf ["order=5"])) (demoWith .idle .full (fun r => r.modOrder 5 (fun o => { o with state := .void }))) =
        some (refusal .wrongState .nothing) ∧
      replyTo (.orderRetire (fieldsOf ["order=5"])) (demo .high .active) = some (refusal .wrongState .nothing) ∧
      replyTo (.noteRead (fieldsOf ["order=5"])) (demo .high .active) = some (refusal .wrongState (.orderState .admitted)) ∧
      replyTo (.noteNext (fieldsOf ["after=5"])) (demoWith .idle .full (fun r => { r with notes := [4, 5] })) =
        some (refusal .notFound .nothing) ∧
      replyTo (.noteNext (fieldsOf ["after=6"])) (demoWith .idle .full (fun r => { r with notes := [4, 5] })) =
        some (refusal .notFound (.field (txt "after"))) := by decide

/-- R83: an order ADMITTED names its bay, and a line in flow shows whole litres truncated. -/
theorem test_order_view :
    (orderView (demo .high .active).rack (demoOrder .admitted [{ demoLine .active with gross := 1999999, standard := 999999 }])).admittedBay =
        some 0 ∧
      ({ demoLine .active with gross := 1999999, standard := 999999 }.view).grossLitres = 1 ∧
      ({ demoLine .full with gross := 1999999, grossLitres := some 2 }.view).grossLitres = 2 := by decide

/-- R124: the taper and close points of a line in flow in 0.1 L, its arm's grant, and the age of the probe reading in whole seconds. -/
theorem test_arm_view :
    ((armView (later 1999 (demo .high .active)).cond (demo .high .active).rack 0).run.map (fun x => (x.taperPoint, x.closePoint))) = some (19800, 19880) ∧
      (armView (later 1999 (demo .high .active)).cond (demo .high .active).rack 0).temperature = some (1500, 1) ∧
      (armView (demo .ready .queued).cond (demo .ready .queued).rack 0).run = none := by decide

theorem test_meets_cancel :
    demoBooked.takes "ORDER.CANCEL" (fieldsOf ["order=5"]) ∧ (demoBooked.rack.order? 5).map (fun o => o.state) = some .booked ∧
      (demo .ready .queued).takes "ORDER.CANCEL" (fieldsOf ["order=5"]) ∧
      (demo .ready .queued).rack.order? 5 = some (demoOrder .admitted [demoLine .queued]) ∧
      (demo .high .active).rack.order? 5 = some (demoOrder .admitted [demoLine .active]) ∧
      (demo .suspended .suspended).rack.order? 5 = some (demoOrder .admitted [demoLine .suspended]) := by decide

/-- An order of one line stands at its arms: a line QUEUED, ACTIVE in flow or in CLOSING, SUSPENDED. -/
theorem standsAtArms_demo (arm : ArmState) (line : LineState)
    (h : line = .active ∨ line = .suspended → if line = .active then arm.isRunning = true else arm = .suspended) :
    (demoOrder .admitted [demoLine line]).standsAtArms (demo arm line).rack := by
  refine ⟨by simp [demoOrder], fun l hl => ?_⟩
  simp only [demoOrder, List.mem_singleton] at hl
  subst hl
  exact ⟨fun _ => by simp [demoLine], fun hs => ⟨0, demoEntry, rfl, rfl, rfl, rfl, h hs⟩⟩

theorem test_meets_stands :
    (demoOrder .admitted [demoLine .queued]).standsAtArms (demo .ready .queued).rack ∧
      (demoOrder .admitted [demoLine .active]).standsAtArms (demo .high .active).rack ∧
      (demoOrder .admitted [demoLine .active]).standsAtArms (demo .closing .active).rack ∧
      (demoOrder .admitted [demoLine .suspended]).standsAtArms (demo .suspended .suspended).rack :=
  ⟨standsAtArms_demo _ _ (by decide), standsAtArms_demo _ _ (by decide), standsAtArms_demo _ _ (by decide),
    standsAtArms_demo _ _ (by decide)⟩

/-- The demonstration with its permit and its order admitted at bay 1. -/
def demoAdmitted (arm : ArmState) (line : LineState) : State :=
  demoWith arm line (fun r => (r.modPermit 3 (fun p => { p with admittedBay := some 0 })).modBay 0 (fun _ =>
    { admitted := some { permit := 3, order := 5 }, reason := none }))

/-- R45, R46, R182: a suspension that ends the order's last line answers an empty bay; a second one changes nothing. -/
theorem test_suspend_completes :
    replyTo (.permitSuspend (fieldsOf ["permit=3"])) (demoAdmitted .ready .queued) = some (.ok (.permitSuspended true none)) ∧
      replyTo (.permitSuspend (fieldsOf ["permit=3"])) (demoAdmitted .high .active) = some (.ok (.permitSuspended true (some 0))) := by
  decide

theorem test_meets_suspend_admitted :
    (demoAdmitted .ready .queued).takes "PERMIT.SUSPEND" (fieldsOf ["permit=3"]) ∧
      (demoAdmitted .ready .queued).rack.permit? 3 = some { demoPermit with admittedBay := some 0 } ∧
      ((demoAdmitted .ready .queued).rack.bay 0).admitted = some { permit := 3, order := 5 } ∧
      (demoAdmitted .ready .queued).rack.order? 5 = some (demoOrder .admitted [demoLine .queued]) := by decide

/-- The demonstration with two notes waiting. -/
def demoNotes : State :=
  demoWith .idle .full (fun r =>
    { r with orders := [demoOrder .complete [demoLine .full], { demoOrder .complete [demoLine .full] with number := 6 }], notes := [5, 6] })

theorem test_meets_notes :
    demoNotes.takes "NOTE.NEXT" [] ∧ demoNotes.rack.notes = 5 :: [6] ∧ (demoNotes.rack.order? 5).isSome = true ∧
      (demo .idle .full).takes "NOTE.NEXT" [] ∧ (demo .idle .full).rack.notes = [] ∧
      demoNotes.takes "NOTE.NEXT" (fieldsOf ["after=5"]) ∧
      natAt? (itemsOf (noteNextItems (fieldsOf ["after=5"]))) "after" 0 = some 5 ∧ demoNotes.rack.notes = [] ++ 5 :: 6 :: [] ∧
      (demoNotes.rack.order? 6).map (fun o => o.state) = some .complete ∧ demoNotes.takes "NOTE.READ" (fieldsOf ["order=6"]) ∧
      6 ∈ demoNotes.rack.notes := by decide

theorem test_meets_note_width :
    ∀ o : Order, demoNotes.rack.orders.head? = some o →
      replyTo (.noteRead (fieldsOf ["order=5"])) demoNotes = some (.ok (.note (noteOf 32 o) 1 2 none)) ∧
        replyTo (.noteNext []) demoNotes = some (.ok (.note (noteOf 32 o) 1 2 (some 0))) := by
  intro o h
  injection h with h
  subst h
  decide

/-- A COMPLETE order of two lines, 2,000 L on the first unit and a CANCELLED line on the second. -/
def demoDelivered : Order :=
  { demoOrder .complete
      [{ demoLine .full with
          grossLitres := some 2001, standardLitres := some 2000, average := some 152
          doses := [{ additive := 1, dose := 250, slot := some 0, dispensed := 50000, target := some 50025, misses := 0, remaining := 0 }] },
       { demoLine .cancelled with
          number := 2, addr := 12, grossLitres := some 0, standardLitres := some 0
          doses := [{ additive := 0, dose := 0, slot := none, dispensed := 0, target := some 0, misses := 0, remaining := 0 }] }] with
    unit2 := some 8, note := some 3, day := some 65535 }

/-- R172, R174 to R176: header, the compartments of both units, the sums of the lines, both additives in order. -/
theorem test_note_content :
    (noteOf 0 demoDelivered).note = 3 ∧ (noteOf 0 demoDelivered).day = 65535 ∧
      (noteOf 0 demoDelivered).lines.map (fun x => x.unit) = [9, 8] ∧ (noteOf 0 demoDelivered).lines.map (fun x => x.compartment) = [1, 6] ∧
      (noteOf 0 demoDelivered).lines.map (fun x => x.gross) = [2001, 0] ∧
      (noteOf 0 demoDelivered).lines.flatMap (fun x => x.additives.map (fun y => y.2.2)) = [50025, 0] ∧
      (noteOf 0 demoDelivered).grossTotal = 2001 ∧ (noteOf 0 demoDelivered).standardTotal = 2000 ∧
      (noteOf 0 demoDelivered).additiveTotals.map (fun x => x.1) = [0, 1] ∧
      (noteOf 0 demoDelivered).additiveTotals.map (fun x => x.2) = [0, 50000] := by decide

theorem test_meets_note_number :
    ([1] : List Nat).length ≤ 1 ∧ 1 < 999999 ∧ 999999 ≤ 999999 ∧ freeNote [1, 3, 2] 3 999999 = 4 := by decide

/-- The fields of an ARM.PUT with one slot. -/
def armFields : List Text :=
  fieldsOf ["arm=1", "header=3", "lowstart=500", "taper=200", "allow=0", "noflow=5", "settle=10", "mode=SEQUENCE", "add.1=2",
    "stroke.1=500", "fbmin.1=200", "fbmax.1=1500", "misses.1=3", "add.2=NONE", "add.3=NONE", "add.4=NONE"]

theorem test_meets_arm_put :
    demoEmpty.takes "ARM.PUT" armFields ∧ armPutItems armFields = .ok (itemsOf (armPutItems armFields)) ∧
      armOf (itemsOf (armPutItems armFields)) = 0 ∧ (demoEmpty.rack.arm 0).state = .outOfService ∧
      ∀ n m : SlotId, n ≠ m → ((armConfigOf (itemsOf (armPutItems armFields))).slots[n]).isSome = true →
        ((armConfigOf (itemsOf (armPutItems armFields))).slots[m]).isNone = true := by decide +kernel

/-- An ARM.PUT of arm 1 with two slots, their additives and the times of the second given. -/
def twoSlots (add fbmin fbmax : String) : List Text :=
  (armFields.filter (fun t => decide (t ≠ txt "add.2=NONE"))) ++
    [txt add, txt "stroke.2=500", txt fbmin, txt fbmax, txt "misses.2=15"]

/-- R101: equal times are at fault, 1 ms more is not; an additive in two slots; an arm that is READY. -/
theorem test_refused_arm_put :
    replyTo (.armPut (twoSlots "add.2=3" "fbmin.2=2000" "fbmax.2=2000")) demoEmpty = some (refusal .badField (.field (txt "fbmax.2"))) ∧
      replyTo (.armPut (twoSlots "add.2=2" "fbmin.2=2000" "fbmax.2=2001")) demoEmpty = some (refusal .badField (.field (txt "add.2"))) ∧
      replyTo (.armPut (twoSlots "add.2=3" "fbmin.2=2000" "fbmax.2=2001")) (demo .ready .queued) =
        some (refusal .wrongState .nothing) := by decide +kernel

/-- R122, R123: IN at an arm that is in service, without a K-factor; CLEAR at a READY arm. -/
theorem test_refused_arms :
    replyTo (.armService (fieldsOf ["arm=1", "dir=IN"])) (demo .idle .full) = some (refusal .wrongState .nothing) ∧
      replyTo (.armService (fieldsOf ["arm=1", "dir=IN"])) { demo .outOfService .full with cond :=
        { (demo .outOfService .full).cond with cal := CalStore.factory } } = some (refusal .notCalibrated .nothing) ∧
      replyTo (.armClear (fieldsOf ["arm=1"])) (demo .ready .queued) = some (refusal .wrongState .nothing) := by decide

/-- R27, R30, R32: a write without fields, with a field at fault, to a bank in use; a commit of a bank without a usable curve. -/
theorem test_refused_calibration :
    replyTo (.calWrite []) (demo .idle .pending) = some (refusal .badField .nothing) ∧
      replyTo (.calWrite (fieldsOf ["k.1=10"])) (demo .idle .pending) = some (refusal .badField (.field (txt "k.1"))) ∧
      replyTo (.calWrite (fieldsOf ["k.1=20"])) (demoWith .high .active (fun r => r.modLine 5 1 (fun l => { l with bank := some .b }))) =
        some (refusal .bankInUse .nothing) ∧
      replyTo (.calCommit (fieldsOf ["x=1"])) (demo .idle .pending) = some (refusal .badField (.field (txt "x"))) ∧
      replyTo (.calCommit []) { demo .idle .pending with cond := { (demo .idle .pending).cond with
        cal := { (demo .idle .pending).cond.cal with bankB := { demoBank with pages := Bank.zero.pages } } } } =
          some (refusal .badBank (.armCurve 0)) := by decide

theorem test_refused_rack :
    replyTo (.rackStatus (fieldsOf ["x=1"])) State.reset = some (refusal .badField (.field (txt "x"))) ∧
      replyTo (.rackRestart (fieldsOf ["y"])) State.reset = some (refusal .badField (.field (txt "y"))) := by decide

theorem test_meets_arm_service :
    (demo .outOfService .full).takes "ARM.SERVICE" (fieldsOf ["arm=1", "dir=IN"]) ∧
      wordAt (itemsOf (serviceItems (fieldsOf ["arm=1", "dir=IN"]))) "dir" = txt "IN" ∧
      ((demo .outOfService .full).rack.arm 0).state = .outOfService ∧ ((demo .outOfService .full).rack.arm 0).config ≠ none ∧
      ((demo .outOfService .full).cond.cal.bank (demo .outOfService .full).cond.cal.active).kFactor 0 ≠ 0 ∧
      (demo .idle .full).takes "ARM.SERVICE" (fieldsOf ["arm=1", "dir=OUT"]) ∧
      wordAt (itemsOf (serviceItems (fieldsOf ["arm=1", "dir=OUT"]))) "dir" = txt "OUT" ∧
      ((demo .idle .full).rack.arm 0).state = .idle ∧ ((demo .alarm .full).rack.arm 0).state = .alarm := by decide

theorem test_meets_arm_clear_get :
    (demo .idle .full).takes "ARM.CLEAR" (fieldsOf ["arm=1"]) ∧ (demo .idle .full).takes "ARM.GET" (fieldsOf ["arm=1"]) ∧
      armItems (fieldsOf ["arm=1"]) = .ok (itemsOf (armItems (fieldsOf ["arm=1"]))) ∧
      armOf (itemsOf (armItems (fieldsOf ["arm=1"]))) = 0 ∧ ((demo .idle .full).rack.arm 0).state = .idle ∧
      ((demoWith .alarm .full (fun r => r.modArm 0 (fun x => { x with returnState := some .idle }))).rack.arm 0).returnState =
        some .idle := by decide

theorem armFits_demoBooked : demoBooked.rack.armFits 0 (demoLine .pending) :=
  ⟨by decide, demoConfig, by decide, by decide, fun d h =>
    ⟨0, { additive := 1, stroke := 500, fbMin := 200, fbMax := 1500, missLimit := 3 }, by decide, by
      simp only [demoLine, List.mem_singleton] at h; subst h; rfl⟩⟩

theorem chosenFor_demoBooked (given : List (Nat × ArmId)) : demoBooked.rack.chosenFor 0 (demoLine .pending) given 0 :=
  ⟨rfl, armFits_demoBooked, fun c hb hc h => absurd h.1 (by revert c; decide)⟩

theorem test_meets_card :
    demoBooked.rack.earliestFor 0 3 demoBookedOrder ∧
      demoBooked.rack.assigns 0 (demoBookedOrder.lines.filter (fun l => decide (l.state = .pending))) [(1, 0)] ∧
      (demoBooked.rack.bay 0).admitted = none ∧ demoBooked.rack.permit? 3 = some demoPermit ∧ demoPermit.suspended = false ∧
      demoBooked.cond.day ≤ demoPermit.expiry ∧ demoPermit.admittedBay = none ∧ demoPermit.loadsToday < demoPermit.dailyLimit ∧
      (∀ l ∈ demoBookedOrder.lines, l.hazard ≤ demoPermit.level ∧ demoPermit.endorsements[l.group] = true) ∧
      demoBooked.rack.unit? 9 = some demoUnit ∧ demoBooked.cond.day ≤ demoUnit.expiry ∧
      demoBooked.rack.order? 5 = some demoBookedOrder ∧ (demoBookedOrder.lines.map (fun l => l.number)).Nodup := by
  refine ⟨⟨by decide, [], [], rfl, by simp⟩, ⟨rfl, fun i n a l hx hl => ?_⟩, by decide⟩
  match i with
  | 0 =>
    obtain ⟨rfl, rfl⟩ : 1 = n ∧ (0 : ArmId) = a := by simpa using hx
    obtain rfl : { demoLine .pending with arm := none, bank := none, calCount := none } = l := by
      simpa [demoBookedOrder, demoOrder, demoLine] using hl
    exact ⟨chosenFor_demoBooked [], by decide⟩
  | i + 1 => simp at hx

theorem test_meets_start_refusals :
    bayOf 0 ≠ 1 ∧ ((demo .ready .queued).rack.arm 0).state = .ready ∧ ((demo .high .active).rack.arm 0).state.isRunning = true ∧
      ((demo .idle .full).rack.arm 0).state = .idle ∧ State.reset.cond.permitted 0 = false ∧ (demo .ready .queued).cond.permitted 0 = true ∧
      (after (.emergencyStopInputChange true) (demo .ready .queued)).cond.mode = .halted ∧
      ((demo .ready .queued).rack.channel 1).temperature = none ∧
      Cause.probe ∈ ((demoWith .suspended .suspended (fun r => r.modArm 0 (fun x => { x with causes := [.probe] }))).rack.arm 0).causes ∧
      ((demo .suspended .suspended).rack.arm 0).probeRefreshed = false := by decide

theorem test_meets_card_refusals :
    ((demoAdmitted .ready .queued).rack.bay 0).admitted ≠ none ∧ demoEmpty.rack.orders = [] ∧ (demoEmpty.rack.bay 0).admitted = none ∧
      { demoPermit with suspended := true }.suspended = true ∧
      { demoPermit with expiry := 0 }.expiry < { demoBooked.cond with day := 1 }.day ∧
      { demoPermit with loadsToday := 2 }.dailyLimit ≤ 2 ∧ (demoBooked.rack.order? 5).map (fun o => o.counted) = some false := by decide

/-- The permit of the demonstration once its day, its admissions and its limit pass. -/
def demoLowPermit : Permit := { demoPermit with level := 2, endorsements := Vector.replicate 8 false }

theorem test_meets_card_line_checks :
    (∃ l ∈ [demoLine .pending], l.state = .pending ∧ demoLowPermit.level < l.hazard) ∧
      (∀ l ∈ [demoLine .pending], l.state = .pending → l.hazard ≤ demoPermit.level) ∧
      (∃ l ∈ [demoLine .pending], l.state = .pending ∧ demoLowPermit.endorsements[l.group] = false) ∧
      (∀ l ∈ [demoLine .pending], l.state = .pending → demoPermit.endorsements[l.group] = true) ∧
      demoBooked.rack.unit? 9 = some demoUnit ∧ demoUnit.expiry < 101 ∧ demoBooked.cond.day ≤ demoUnit.expiry ∧
      demoPermit.loadsToday < demoPermit.dailyLimit := by decide

theorem test_meets_no_arm :
    (∀ a, bayOf a = 1 → ¬demoBooked.rack.armFits a (demoLine .pending)) ∧ demoBooked.rack.assigns 1 [] [] ∧
      [demoLine .pending].filter (fun l => decide (l.state = .pending)) = [] ++ demoLine .pending :: [] :=
  ⟨fun a _ h => absurd h.1 (by revert a; decide), ⟨rfl, by simp⟩, rfl⟩

/-- R87: of nine lines that one arm alone can take, the ninth finds it full. -/
theorem test_meets_queue_full :
    demoBooked.rack.assigns 0 (List.replicate 8 (demoLine .pending)) (List.replicate 8 (1, 0)) ∧
      demoBooked.rack.chosenFor 0 (demoLine .pending) (List.replicate 8 (1, 0)) 0 ∧
      8 ≤ demoBooked.rack.loadWith (List.replicate 8 (1, 0)) 0 := by
  refine ⟨⟨rfl, fun i n a l hx hl => ?_⟩, chosenFor_demoBooked _, by decide⟩
  obtain ⟨hi, rfl, rfl⟩ : i < 8 ∧ 1 = n ∧ (0 : ArmId) = a := by
    rw [List.getElem?_replicate] at hx; simpa using hx
  obtain ⟨-, rfl⟩ : i < 8 ∧ demoLine .pending = l := by rw [List.getElem?_replicate] at hl; simpa using hl
  exact ⟨chosenFor_demoBooked _, by interval_cases i <;> decide⟩

theorem test_meets_stock_refusal :
    Cause.additiveStock 1 0 ∈ ((demoWith .suspended .suspended (fun r => (r.modArm 0 (fun x =>
        { x with causes := [.additiveStock 1 0] })).modAdditive 1 (fun x => { x with stock := 499 }))).rack.arm 0).causes ∧
      (demo .suspended .suspended).rack.slotConfig 0 0 =
        some { additive := 1, stroke := 500, fbMin := 200, fbMax := 1500, missLimit := 3 } ∧ (499 : Nat) < 500 := by decide

theorem test_meets_start :
    bayOf 0 = 0 ∧ ((demo .ready .queued).rack.arm 0).state = .ready ∧ (demo .ready .queued).cond.permitted 0 = true ∧
      (demo .ready .queued).cond.mode = .normal ∧
      ((later 30000 (demo .ready .queued)).rack.channel 0).temperature = some { value := 1500, arrived := .zero, stale := false } ∧
      (later 30000 (demo .ready .queued)).cond.age .zero ≤ 30000 ∧ ((demo .ready .queued).rack.arm 0).current = some demoEntry ∧
      (demo .ready .queued).rack.currentLine 0 = some (demoLine .queued) ∧
      ((demo .ready .queued).rack.arm 0).config = some demoConfig := by decide

/-- R12, R105: a held temperature of 30,001 ms closes the arm at the start, and at the resumption. -/
theorem test_stale_start :
    ((later 30001 (demo .ready .queued)).rack.channel 0).temperature = some { value := 1500, arrived := .zero, stale := false } ∧
      30000 < (later 30001 (demo .ready .queued)).cond.age .zero ∧
      ((after (.start 0 0) (later 30001 (demo .ready .queued))).rack.arm 0).causes = [.probe] ∧
      ((after (.start 0 0) (later 30001 (demo .suspended .suspended))).rack.arm 0).intent = some .suspend := by decide +kernel

/-- The demonstration one step before the start mark of 50.0 L, no slot serving. -/
def atMark : State :=
  demoWith .lowStart .active (fun r => { (r.modChannel 0 (fun x => { x with pulses := 99 })) with
    orders := [demoOrder .admitted [{ demoLine .active with standard := 49900000 }]] })

theorem test_meets_start_mark :
    (effectiveBank atMark.cond atMark.rack 0).kFactor 0 = 1000 ∧ (atMark.rack.arm 0).state = .lowStart ∧
      atMark.rack.currentLine 0 = some { demoLine .active with standard := 49900000 } ∧
      (atMark.rack.arm 0).config = some demoConfig ∧
      ({ demoLine .active with standard := 49900000 }.addStep (atMark.rack.channel 0)
        (stepCtl atMark.cond atMark.rack 0 (demoLine .active))).standard = 50000000 ∧
      (atMark.rack.arm 0).startMark = some 50000000 ∧ (∀ n, (atMark.rack.injector 0 n).served = none) ∧
      (atMark.rack.header 2).waiting = [] ∧ (atMark.rack.header 2).held.length < (atMark.rack.header 2).capacity ∧
      (demoWaiting.rack.header 2).capacity ≤ (demoWaiting.rack.header 2).held.length := by decide

theorem test_meets_resume_line :
    ((demo .suspended .suspended).rack.arm 0).state = .suspended ∧
      (demo .suspended .suspended).cond.permitted 0 = true ∧ (demo .suspended .suspended).cond.mode = .normal ∧
      ((demo .suspended .suspended).rack.arm 0).causes = [] ∧ (demo .suspended .suspended).rack.currentLine 0 = some (demoLine .suspended) ∧
      ((demo .suspended .suspended).rack.injector 0 0).owed < 100 * 500 ∧
      ((demo .suspended .suspended).cond.age .zero ≤ 30000) := by decide

/-- The demonstration in SUSPENDED with a stroke due on its first channel, its additive with a stock. -/
def demoDue (stock : Nat) : State :=
  demoWith .suspended .suspended (fun r => (r.modInjector 0 0 (fun _ => stroke .none 50000)).modAdditive 1 (fun x => { x with stock := stock }))

theorem test_meets_resume_due :
    (demoDue 499).rack.serves 0 0 { additive := 1, stroke := 500, fbMin := 200, fbMax := 1500, missLimit := 3 }
      { additive := 1, dose := 250, slot := some 0, dispensed := 0, target := none, misses := 0, remaining := 50000 } ∧
    100 * 500 ≤ ((demoDue 500).rack.injector 0 0).owed ∧ ((demoDue 500).rack.injector 0 0).phase = .none ∧
      ((demoDue 500).rack.arm 0).quiet = false ∧ demoConfig.slotsDiffer ∧ ((demoDue 500).rack.additive 1).inFlight + 500 ≤ 500 ∧
      (demoDue 500).rack.shortSlots 0 (fun n => ((demoDue 500).rack.injector 0 n).owed) = [] ∧
      (demoDue 499).rack.shortSlots 0 (fun n => ((demoDue 499).rack.injector 0 n).owed) = [(1, 0)] :=
  ⟨Rack.serves_iff.2 (by decide), by decide⟩

/-- R106: a PROBE refreshed and a stock at the stroke volume let the line resume, and both causes go. -/
theorem test_resume_with_causes :
    ((after (.start 0 0) { demoDue 500 with rack := (demoDue 500).rack.modArm 0 (fun x =>
      { x with causes := [.probe, .additiveStock 1 0], probeRefreshed := true }) }).rack.arm 0).causes = [] := by decide +kernel

/-- R146: a stroke due at the resumption starts, and with stock short by one suspends the line again. -/
theorem test_resume_due :
    ((after (.start 0 0) (demoDue 500)).rack.injector 0 0).phase = .waitRise ∧
      ((after (.start 0 0) (demoDue 499)).rack.arm 0).causes = [.additiveStock 1 0] ∧
      ((after (.start 0 0) (later 30001 (demoDue 499))).rack.arm 0).causes = [.probe, .additiveStock 1 0] := by decide +kernel

theorem test_meets_stop :
    ((demo .high .active).rack.arm 0).state.isFlow = true ∧
      ((demoWith .closing .active (fun r => r.modArm 0 (fun x => { x with intent := some .suspend }))).rack.arm 0).intent =
        some .suspend ∧
      ((demo .suspended .suspended).rack.arm 0).current = some demoEntry ∧
      (demo .suspended .suspended).rack.currentLine 0 = some (demoLine .suspended) ∧
      ((demo .closing .active).rack.arm 0).intent ≠ some .suspend := by decide

theorem test_meets_no_flow :
    ((demoWith .high .active (fun r => r.modArm 0 (fun x => { x with noFlowTimer := some .zero }))).rack.arm 0).noFlowTimer =
        some .zero ∧
      demoConfig.noFlow * 1000 ≤ (later 5000 (demo .high .active)).cond.age .zero ∧
      (later 4999 (demo .high .active)).cond.age .zero < demoConfig.noFlow * 1000 := by decide

/-- The demonstration in a close with intent FINISH, its settle timer run out. -/
def demoSettling : State :=
  later 1000 (demoWith .closing .active (fun r => r.modArm 0 (fun x => { x with intent := some .finish, settleTimer := some .zero })))

theorem test_meets_settle_intents :
    (∀ intent ∈ [Intent.suspend, .stop, .interrupt],
      ({ demoSettling with rack := demoSettling.rack.modArm 0 (fun x => { x with intent := some intent }) }.rack.arm 0).intent =
        some intent) ∧
      (demoSettling.rack.arm 0).restartPending = false ∧
      ({ demoSettling with rack := demoSettling.rack.modArm 0 (fun x => { x with restartPending := true }) }.rack.arm 0).restartPending =
        true := by decide

theorem test_meets_settle :
    (demoSettling.rack.arm 0).config = some demoConfig ∧ (demoSettling.rack.arm 0).settleTimer = some .zero ∧
      demoConfig.settle * 1000 ≤ demoSettling.cond.age .zero ∧ (demoSettling.rack.arm 0).state = .closing ∧
      (demoSettling.rack.arm 0).intent = some .finish ∧ demoSettling.rack.currentLine 0 = some (demoLine .active) ∧
      (∀ n, (demoSettling.rack.injector 0 n).phase = .none) ∧ ((demoStroke .waitRise 0).rack.injector 0 0).phase ≠ .none := by decide

/-- The demonstration before the settle of its order's last line, 2,000 L delivered or none. -/
def demoLast (standard : Nat) : State :=
  let s := demoAdmitted .closing .active
  later 1000 { s with rack := { s.rack.modArm 0 (fun x => { x with intent := some .finish, settleTimer := some .zero }) with
    orders := [demoOrder .admitted [{ demoLine .active with gross := standard, standard := standard }]] } }

theorem test_meets_completion :
    ((demoLast 2000000000).rack.arm 0).settleTimer = some .zero ∧ ((demoLast 2000000000).rack.arm 0).current = some demoEntry ∧
      (((demoLast 2000000000).rack.order? 5).bind (fun o => o.line? 1)).map (fun l => (l.standard + 500000) / 1000000) = some 2000 ∧
      (((demoLast 0).rack.order? 5).map (fun o => decide (o.state = .admitted ∧ o.lastBay = some 0))) = some true ∧
      1 = freeNote ((demoLast 0).rack.orders.filterMap (fun q => q.note)) (demoLast 0).rack.orders.length (demoLast 0).rack.noteCounter := by
  decide

/-- R95, R96, R58: 2,000 L complete the order with note 1 and leave the line's group in its compartment; 0 L make it VOID. -/
theorem test_completion :
    ((after (.settleTimerExpiry 0) (demoLast 2000000000)).rack.order? 5).map (fun o => (o.state, o.note)) = some (.complete, some 1) ∧
      ((after (.settleTimerExpiry 0) (demoLast 2000000000)).rack.unit? 9).map (fun u => (u.committed, u.compartments.map (fun c => c.lastGroup))) =
        some (none, [some 1, none]) ∧
      ((after (.settleTimerExpiry 0) (demoLast 0)).rack.order? 5).map (fun o => (o.state, o.note)) = some (.void, none) := by decide +kernel

theorem test_meets_show :
    (State.reset.rack.panel 0).sending = some (.ofBay 0 false none none) ∧ (State.reset.rack.panel 0).sendList = [.lower, .upper] ∧
      ((after (.showSent 0) (after (.showSent 0) State.reset)).rack.panel 0).sendList = [] ∧
      ((after (.showSent 0) (after (.showSent 0) (after (.showSent 0) State.reset))).rack.panel 0).sending = none := by decide

/-- R189: litres truncated, the primary cause in a suspending close alone; R188: a subject in the list keeps its place. -/
theorem test_show :
    ((demoWith .closing .active (fun r => (r.modArm 0 (fun x => { x with intent := some .suspend, causes := [.halt, .probe] })).modCurrentLine 0
      (fun l => { l with standard := 1999999 }))).rack.showArm 0) = .ofArm 0 .closing (some 1) (some 2000) (some 1) (some .halt) none ∧
      (({ sendList := [.lower, .bay], sending := none } : Panel).call .lower).sendList = [.lower, .bay] ∧
      (({ sendList := [.lower], sending := none } : Panel).call .bay).sendList = [.lower, .bay] := by decide

theorem test_meets_show_repeat :
    ((demoWith .high .active (fun r => r.modArm 0 (fun x => { x with repeatTimer := some .zero }))).rack.arm 0).repeatTimer =
        some .zero ∧
      1000 ≤ (later 1000 (demo .high .active)).cond.age .zero ∧ (later 999 (demo .high .active)).cond.age .zero < 1000 := by decide

theorem test_meets_good_stroke :
    ((demoStroke .waitRise 0).rack.injector 0 0).feedback = false ∧ ((demo .high .active).rack.injector 0 0).phase = .none ∧
      ((demoStroke .feedbackActive 49999).rack.injector 0 0).feedback = true ∧
      ((demoStroke .feedbackActive 49999).rack.injector 0 0).riseTime = some .zero ∧
      ((demoStroke .feedbackActive 49999).rack.slotConfig 0 0).map (fun k => k.stroke) = some 500 ∧
      200 ≤ (later 200 (demoStroke .feedbackActive 49999)).cond.age .zero ∧
      ((demoStroke .feedbackActive 49999).rack.injector 0 0).served = some 0 ∧
      (demoStroke .feedbackActive 49999).rack.currentLine 0 = some (demoLine .active) ∧
      ((demoStroke .feedbackActive 49999).rack.injector 0 0).owed < 100 * 500 ∧
      ((demoStroke .feedbackActive 49999).rack.arm 0).quiet = false := by decide

/-- R146, R149: behind a good stroke the next one that is due starts in the same step, and the stock is less by the one alone. -/
theorem test_next_stroke :
    ((after (.feedbackFall 0 0) (later 310 (demoStroke .feedbackActive 50000))).rack.injector 0 0).phase = .waitRise ∧
      ((after (.feedbackFall 0 0) (later 310 (demoStroke .feedbackActive 50000))).rack.additive 1).stock = 1199500 ∧
      ((after (.feedbackFall 0 0) (later 310 (demoStroke .feedbackActive 50000))).rack.additive 1).inFlight = 500 := by decide

/-- R146: with no stock behind the good stroke the line in flow is suspended. -/
theorem test_next_stroke_short :
    100 * 500 ≤ ((demoStroke .feedbackActive 50000).rack.injector 0 0).owed ∧
      ((after (.feedbackFall 0 0) (later 310 { demoStroke .feedbackActive 50000 with
        rack := (demoStroke .feedbackActive 50000).rack.modAdditive 1 (fun x => { x with stock := 999 }) })).rack.arm 0).causes =
        [.additiveStock 1 0] := by decide

/-- The configuration of the tests with a second additive, 4, in slot 3. -/
def twoSlotConfig : ArmConfig :=
  { demoConfig with slots := demoConfig.slots.set 2 (some { additive := 3, stroke := 500, fbMin := 200, fbMax := 1500, missLimit := 3 }) }

/-- The demonstration one pulse before a step, its first channel serving with an owed count, its additive with a stock. -/
def atDose (arm : ArmState) (owed stock : Nat) : State :=
  demoWith arm .active (fun r => ((r.modChannel 0 (fun x => { x with pulses := 99 })).modInjector 0 0 (fun _ => stroke .none owed)).modAdditive
    1 (fun x => { x with stock := stock }))

/-- The demonstration one pulse before a step, two of its channels serving entries of 250 and 1,000 at these owed counts, additive 2 with 500
and additive 4 with a stock. -/
def atTwoDoses (arm : ArmState) (first second stock : Nat) : State :=
  { atDose arm first 500 with rack :=
    ((((atDose arm first 500).rack.modArm 0 (fun x => { x with config := some twoSlotConfig })).modCurrentLine 0 (fun l =>
      { l with doses := l.doses ++ [{ additive := 3, dose := 1000, slot := some 2, dispensed := 0, target := none, misses := 0, remaining := 9 }]
      })).modInjector 0 2 (fun _ => { stroke .none second with served := some 1 })).modAdditive 3 (fun x => { x with stock := stock }) }

/-- The owed counts of the channels of arm 1 after the step. -/
def owedAfter (s : State) (n : SlotId) : Nat :=
  min 999999999 ((s.rack.injector 0 n).owed + ((s.rack.servedDose 0 n).map (fun d => d.dose)).getD 0)

theorem test_meets_owed (s : State) (n : SlotId) (k : SlotConfig) (d : DoseRecord) (h : s.rack.serves 0 n k d) :
    owedAfter s n = min 999999999 ((s.rack.injector 0 n).owed + d.dose) := by
  simp [owedAfter, (Rack.serves_iff.1 h).2]

theorem test_meets_dose :
    (effectiveBank (atDose .high 49750 500).cond (atDose .high 49750 500).rack 0).kFactor 0 = 1000 ∧
      1000 / 10 ≤ ((atDose .high 49750 500).rack.channel 0).pulses + 1 ∧
      ((atDose .high 49750 500).rack.arm 0).state.isRunning = true ∧ ((atDose .high 49750 500).rack.arm 0).quiet = false ∧
      (atDose .high 49750 500).rack.currentLine 0 = some (demoLine .active) ∧
      ((atDose .high 49750 500).rack.arm 0).config = some demoConfig ∧ demoConfig.slotsDiffer ∧ twoSlotConfig.slotsDiffer ∧
      ((atTwoDoses .high 49750 49000 499).rack.arm 0).config = some twoSlotConfig ∧
      (atDose .high 49750 500).rack.shortSlots 0 (owedAfter (atDose .high 49750 500)) = [] ∧
      (atDose .closing 49749 499).rack.shortSlots 0 (owedAfter (atDose .closing 49749 499)) = [] ∧
      (atDose .closing 49750 499).rack.shortSlots 0 (owedAfter (atDose .closing 49750 499)) = [(1, 0)] ∧
      (atTwoDoses .high 49750 49000 500).rack.shortSlots 0 (owedAfter (atTwoDoses .high 49750 49000 500)) = [] ∧
      (atTwoDoses .high 49750 49000 499).rack.shortSlots 0 (owedAfter (atTwoDoses .high 49750 49000 499)) = [(3, 2)] := by
  decide +kernel

/-- R145, R146: both channels owe their doses at one step; both strokes start, or the higher slot alone finds its stock short. -/
theorem test_two_doses :
    ((after (.meterPulse 0) (atTwoDoses .high 49749 199000 500)).rack.injectors[(0 : ArmId)]).toList.map (fun i => (i.owed, i.phase)) =
        [(49999, .none), (0, .none), (150000, .waitRise), (0, .none)] ∧
      ((after (.meterPulse 0) (atTwoDoses .high 49749 199000 500)).rack.currentLine 0).map (fun l => l.flags.doseLimited) = some true ∧
      ((after (.meterPulse 0) (atTwoDoses .high 49750 49000 499)).rack.injector 0 0).phase = .waitRise ∧
      ((after (.meterPulse 0) (atTwoDoses .high 49750 49000 499)).rack.arm 0).causes = [.additiveStock 3 2] := by decide +kernel

/-- R146: with stock short by one hundredth of a millilitre the line is suspended with ADDITIVE_STOCK; with enough the stroke starts. -/
theorem test_short_stock :
    ((after (.meterPulse 0) (atDose .high 49750 499)).rack.arm 0).causes = [.additiveStock 1 0] ∧
      ((after (.meterPulse 0) (atDose .high 49750 500)).rack.injector 0 0).phase = .waitRise := by decide

theorem test_meets_missed_stroke :
    ((demoStroke .waitRise 0).rack.injector 0 0).opened = some .zero ∧
      ((demoStroke .feedbackActive 0).rack.injector 0 0).riseTime = some .zero ∧
      ((demoStroke .waitRise 0).rack.arm 0).state.isFlow = true ∧ 500 ≤ ((demoStroke .waitRise 0).rack.additive 1).inFlight ∧
      1500 ≤ (later 1500 (demoStroke .waitRise 0)).cond.age .zero ∧ (later 1499 (demoStroke .waitRise 0)).cond.age .zero < 1500 ∧
      min 255 (((demoStroke .waitRise 0).rack.injector 0 0).misses + 1) < 3 ∧ 3 ≤ min 255 (2 + 1) ∧
      ((demoStroke .waitRise 0).rack.additive 1).inFlight ≤ ((demoStroke .waitRise 0).rack.additive 1).stock := by decide

/-- A close that has gone quiet with strokes in flight on two channels. -/
def demoQuiet : State :=
  { demoStroke .waitRise 0 with rack := ((demoStroke .waitRise 0).rack.modInjector 0 1 (fun _ => stroke .waitRise 0)).modArm 0 (fun x =>
      { x with state := .closing, intent := some .suspend, quiet := true }) }

theorem test_meets_missed_in_close :
    (later 199 (demoStroke .feedbackActive 0)).cond.age .zero < 200 ∧ ((demoStroke .feedbackActive 0).rack.injector 0 0).feedback = true ∧
      (demoQuiet.rack.arm 0).state = .closing ∧ (demoQuiet.rack.arm 0).quiet = true ∧ (demoQuiet.rack.injector 0 1).phase ≠ .none ∧
      (demoStroke .waitRise 0).rack.slotConfig 0 0 =
        some { additive := 1, stroke := 500, fbMin := 200, fbMax := 1500, missLimit := 3 } := by decide

/-- A close that has gone quiet with its last stroke in flight. -/
def demoStill (phase : StrokePhase) (intent : Intent) : State :=
  { demoStroke phase 0 with rack := (demoStroke phase 0).rack.modArm 0 (fun x =>
      { x with state := .closing, intent := some intent, quiet := true }) }

theorem test_meets_quiet : ∀ intent ∈ [Intent.finish, .suspend, .stop, .interrupt],
    ((demoStill .waitRise intent).rack.arm 0).quiet = true ∧ ((demoStill .feedbackActive intent).rack.arm 0).intent = some intent ∧
      ((demoStill .waitRise intent).rack.injector 0 0).opened = some .zero ∧
      ((demoStill .feedbackActive intent).rack.injector 0 0).riseTime = some .zero ∧
      (∀ m, m ≠ 0 → ((demoStill .waitRise intent).rack.injector 0 m).phase = .none) ∧
      ((demoStill .waitRise intent).rack.injector 0 0).served = some 0 ∧
      (demoStill .waitRise intent).rack.currentLine 0 = some (demoLine .active) ∧
      ((demoStill .waitRise intent).rack.arm 0).current = some demoEntry := by decide

/-- R114: a quiet close settles at the outcome of its last stroke, GOOD or a miss. -/
theorem test_quiet_settles :
    ((after (.feedbackFall 0 0) (later 200 (demoStill .feedbackActive .suspend))).rack.arm 0).state = .suspended ∧
      ((after (.riseTimerExpiry 0 0) (later 1500 (demoStill .waitRise .suspend))).rack.arm 0).state = .suspended ∧
      ((after (.riseTimerExpiry 0 0) (later 1500 (demoStill .waitRise .stop))).rack.line? 5 1).map (fun l => l.state) =
        some .stopped := by decide +kernel

/-- R150, R146: a miss in a quiet close is owed again and starts no stroke. -/
theorem test_miss_quiet :
    ((after (.riseTimerExpiry 0 0) (later 1500 demoQuiet)).rack.injector 0 0).phase = .none ∧
      ((after (.riseTimerExpiry 0 0) (later 1500 demoQuiet)).rack.injector 0 0).owed = 50000 ∧
      ((after (.riseTimerExpiry 0 0) (later 1500 demoQuiet)).rack.arm 0).state = .closing := by decide +kernel

theorem test_meets_permissive_close :
    ∀ intent ∈ [Intent.finish, .suspend, .stop, .interrupt],
      ((demoWith .closing .active (fun r => r.modArm 0 (fun x => { x with intent := some intent }))).rack.arm 0).state = .closing ∧
      (demoWith .closing .active (fun r => r.modArm 0 (fun x => { x with intent := some intent }))).rack.currentLine 0 =
        some (demoLine .active) := by decide

theorem test_meets_permissive :
    (demo .high .active).cond.inputLevel 0 .ground ≠ false ∧ (demo .high .active).cond.permitted 0 = true ∧
      { (demo .high .active).cond with ground := (demo .high .active).cond.ground.set 0 false }.permitted 0 = false ∧
      State.reset.cond.inputLevel 3 .overfill ≠ true ∧ State.reset.cond.permitted 3 = false := by decide

theorem test_meets_emergency_stop :
    (demo .high .active).cond.emergencyStop = false ∧ (demo .high .active).cond.mode = .normal ∧
      (after (.emergencyStopInputChange true) State.reset).cond.mode = .halted ∧
      steps { (after (.emergencyStopInputChange true) State.reset) with pending := [.timebaseTick] } = true := by decide

theorem test_meets_link :
    fitsFrame (txt "NO.SUCH") [] = true ∧ (∀ r ∈ knownRequests, r.1 ≠ txt "NO.SUCH") ∧
      (Instr.rackStatus []).requestName = some (txt "RACK.STATUS") ∧
      { Link.fresh with responseOwed := true }.responseOwed = true ∧ State.reset.link.rx = .hunt := by decide

theorem test_meets_link_chars :
    (∀ ch ∈ txt "RACK.STATUS", bodyChar ch = true) ∧ (∀ ch ∈ txt "0000", (hexValue ch).isSome = true) ∧
      ∀ ch ∈ txt "noise", ch ≠ '>' :=
  ⟨List.all_eq_true.mp (by decide), List.all_eq_true.mp (by decide), by simp [txt]⟩

theorem test_meets_link_check : hexNumber (txt "0000") ≠ (frameCheck (txt "RACK.STATUS")).toNat := by decide +kernel

theorem test_meets_panel_discarded :
    (State.reset.panelRx[(0 : BayId)]).state = .hunt ∧ (∀ ch ∈ txt "HELLO*", printable ch = true ∧ ch ≠ '>') ∧
      (splitBody (txt "HELLO*")).1 ∉ [txt "CARD", txt "START", txt "STOP"] ∧
      ∀ body ∈ fieldsOf ["CARD", "CARD;permit=", "CARD;permit=100000000", "START;arm=0", "STOP;arm=1;x=2"],
        ∀ ch ∈ body, printable ch = true ∧ ch ≠ '>' :=
  ⟨by decide, by simp [txt, printable], by decide, by simp [fieldsOf, txt, printable]⟩

/-- R187: a field that is missing, malformed, out of range or one too many; the last of each range is taken. -/
theorem test_panel_fields :
    (["CARD", "CARD;permit=", "CARD;permit=0", "CARD;permit=100000000", "CARD;permit=1;permit=1"].map (fun x =>
      (checkPlain [plainField "permit" longNumber] ["permit"] (splitBody (txt x)).2).toOption.isSome)) = [false, false, false, false, false] ∧
      (["STOP", "START;arm=x", "STOP;arm=9", "START;arm=1;x=2", "START;arm=8"].map (fun x =>
        (checkPlain [plainField "arm" (.nat 1 8)] ["arm"] (splitBody (txt x)).2).toOption.isSome)) = [false, false, false, false, true] := by
  decide

theorem test_meets_refusal :
    isRequest (.rackResume (fieldsOf ["x=1"])) ∧
      replyTo (.rackResume (fieldsOf ["x=1"])) State.reset = some (refusal .badField (.field (txt "x"))) :=
  ⟨.inl ⟨_, rfl⟩, by decide⟩

theorem test_meets_flow : flowPermitted (demo .high .active).cond (demo .high .active).rack := by decide

/-- The demonstration with arm 1 in HIGH holding its grant and arm 2 waiting behind it. -/
def demoGrants : State :=
  demoWith .high .active (fun r => (r.setArm 1 { demoArm .waitGrant with queue := [], current := none }).modHeader 2 (fun _ =>
    { capacity := 1, held := [0], waiting := [{ arm := 1, priority := 2, position := 1 }] }))

/-- The demonstration with grants one step of 0.1 L before V reaches a volume in µL. -/
def demoTaper (s : State) (v : Nat) : State :=
  { s with rack := { (s.rack.modChannel 0 (fun x => { x with pulses := 99 })) with
    orders := [demoOrder .admitted [{ demoLine .active with standard := v - 100000 }]] } }

/-- The taper point of 1,980.0 L lies below the close point of 1,988.0 L; arm 1 in HIGH, with arm 2 waiting and without, and in WAIT_GRANT. -/
theorem test_meets_taper :
    taperPoint demoConfig (demoLine .active) = 1980000000 ∧ closePoint (demoArm .high) (demoLine .active) = 1988000000 ∧
      (∀ s ∈ [demoGrants, demo .high .active, demoWaiting, demo .lowRun .active],
        ((demoTaper s 1980000000).rack.currentLine 0).map (fun l =>
          (l.addStep ((demoTaper s 1980000000).rack.channel 0) (stepCtl (demoTaper s 1980000000).cond (demoTaper s 1980000000).rack 0 l)).standard) =
            some 1980000000 ∧
        ∀ n, ((demoTaper s 1980000000).rack.injector 0 n).served = none) ∧
      (demoGrants.rack.header 2).waiting.map (fun w => w.arm) = [1] ∧
      ((demoGrants.rack.header 2).held.filter (fun b => decide (b ≠ 0))).length + 1 = (demoGrants.rack.header 2).capacity ∧
      (demoGrants.rack.arm 1).state = .waitGrant ∧ ((demo .high .active).rack.header 2).waiting = [] ∧
      (demoWaiting.rack.arm 0).state = .waitGrant := by decide +kernel

/-- R108, R128, R129: at the taper point the grant of arm 1 passes to arm 2, and a waiting arm leaves the list; 0.1 L below it neither moves. -/
theorem test_taper :
    ((after (.meterPulse 0) (demoTaper demoGrants 1980000000)).rack.arm 0).state = .lowRun ∧
      ((after (.meterPulse 0) (demoTaper demoGrants 1980000000)).rack.arm 1).state = .high ∧
      ((after (.meterPulse 0) (demoTaper demoGrants 1980000000)).rack.header 2).held = [1] ∧
      ((after (.meterPulse 0) (demoTaper demoWaiting 1980000000)).rack.header 2).waiting = [] ∧
      ((after (.meterPulse 0) (demoTaper demoGrants 1979900000)).rack.arm 0).state = .high := by decide +kernel

theorem test_meets_grants : demoGrants.rack.grantsMatch ∧ steps { demoGrants with pending := [.meterPulse 0] } = true := by decide

theorem queuesMatch_admitted (arm : ArmState) (line : LineState)
    (h : (arm, line) ∈ [(.high, .active), (.closing, .active), (.ready, .queued), (.suspended, .suspended)]) :
    (demoAdmitted arm line).rack.queuesMatch := by
  simp only [List.mem_cons, Prod.mk.injEq, List.not_mem_nil, or_false] at h
  obtain ⟨rfl, rfl⟩ | ⟨rfl, rfl⟩ | ⟨rfl, rfl⟩ | ⟨rfl, rfl⟩ := h <;> exact ⟨by decide, by decide, by decide⟩

theorem test_meets_queues : (demoAdmitted .high .active).rack.queuesMatch ∧ (demoAdmitted .high .active).rack.baysMatch ∧
    steps { demoAdmitted .high .active with pending := [.meterPulse 0] } = true :=
  ⟨queuesMatch_admitted _ _ (by decide), by decide, by decide⟩

theorem test_meets_restart : ∀ x ∈ [(ArmState.high, LineState.active), (.ready, .queued), (.suspended, .suspended)],
    (demoAdmitted x.1 x.2).takes "RACK.RESTART" [] ∧ (demoAdmitted x.1 x.2).rack.baysMatch ∧
      ((demoAdmitted x.1 x.2).rack.bay 0).admitted = some { permit := 3, order := 5 } ∧
      demoEntry ∈ ((demoAdmitted x.1 x.2).rack.arm 0).queue ∧
      (demoAdmitted x.1 x.2).rack.line? 5 1 = some (demoLine x.2) := by decide

theorem test_meets_note_orders :
    (demoWith .idle .full (fun r => { r with
      orders := [{ demoOrder .complete [demoLine .full] with note := some 3, day := some 2 }], notes := [5], noteCounter := 3 })).rack.notesMatch :=
  by decide

theorem test_meets_additives : (demoStroke .waitRise 0).rack.additivesMatch ∧ (demoStroke .waitRise 0).rack.queuesMatch :=
  ⟨⟨by decide, by decide⟩, ⟨by decide, by decide, by decide⟩⟩

theorem test_meets_reserved : (demo .high .active).rack.reservedMatches := by
  intro n
  by_cases h : n = 7
  · subst h; decide
  · simp [demo, Rack.account?, Rack.presetsOf, Rack.allLines, demoAccount, demoOrder, demoLine, Ne.symm h]

theorem test_meets_response :
    State.reset.link.response = none ∧ ((after (.unknownRequest (txt "NO.SUCH") []) State.reset).link.response).isSome = true := by decide

theorem test_meets_frame :
    (Instr.permitGet (fieldsOf ["permit=1"])).wellFormed = true ∧
      bodyOfCommand (.permitGet (fieldsOf ["permit=1"])) = some (txt "PERMIT.GET;permit=1") ∧ Link.fresh.responseOwed = false := by decide

end Sys2Proof.Tests
end

section
/-! PROOF. The meter factor on a curve page (R8): which points a rate is looked up between, and the range of the result. -/

namespace Sys2Proof.Machine

/-! ### Strictly rising rates (R28) -/

/-- Strictly rising rates, said of every pair of points and not of neighbours alone. -/
theorem risingRates_iff_pairwise (ps : List CurvePoint) :
    risingRates ps = true ↔ ps.Pairwise (fun p q => p.rate < q.rate) := by
  induction ps with
  | nil => simp [risingRates]
  | cons p rest ih =>
    cases rest with
    | nil => simp [risingRates]
    | cons q qs =>
      simp only [risingRates, Bool.and_eq_true, decide_eq_true_eq, ih, List.pairwise_cons, List.forall_mem_cons]
      constructor
      · rintro ⟨hpq, hq, hqs⟩
        exact ⟨⟨hpq, fun x hx => hpq.trans (hq x hx)⟩, hq, hqs⟩
      · rintro ⟨⟨hpq, -⟩, hq, hqs⟩
        exact ⟨hpq, hq, hqs⟩

/-- Every point of a page of rising rates stands below each point behind it. -/
theorem rate_lt_of_risingRates_append {ps qs : List CurvePoint} (h : risingRates (ps ++ qs) = true) {p q : CurvePoint}
    (hp : p ∈ ps) (hq : q ∈ qs) : p.rate < q.rate :=
  (List.pairwise_append.1 ((risingRates_iff_pairwise _).1 h)).2.2 p hp q hq

/-- What stands behind some points of a page of rising rates rises too. -/
theorem risingRates_of_append {ps qs : List CurvePoint} (h : risingRates (ps ++ qs) = true) : risingRates qs = true :=
  (risingRates_iff_pairwise _).2 (List.pairwise_append.1 ((risingRates_iff_pairwise _).1 h)).2.1

/-! ### Between two points -/

/-- At the lower of two points the interpolation gives that point's factor. -/
@[simp] theorem interpolate_left (p q : CurvePoint) : interpolate p q p.rate = p.factor := by
  simp [interpolate]

/-- A rise over part of a distance, truncated, lies between nothing and the whole rise. -/
theorem tdiv_part_of_rise {rise part whole : Int} (hr : 0 ≤ rise) (h0 : 0 ≤ part) (h1 : part < whole) :
    0 ≤ (rise * part).tdiv whole ∧ (rise * part).tdiv whole ≤ rise := by
  have hw : 0 < whole := h0.trans_lt h1
  rw [Int.tdiv_eq_ediv_of_nonneg (Int.mul_nonneg hr h0)]
  refine ⟨Int.ediv_nonneg (Int.mul_nonneg hr h0) hw.le, Int.ediv_le_of_le_mul hw ?_⟩
  exact Int.mul_le_mul_of_nonneg_left h1.le hr

/-- Between two points the interpolation stays within any bounds of their two factors: a falling curve is a rising one negated,
since the division truncates toward zero. -/
theorem interpolate_within {p q : CurvePoint} {rate lo hi : Nat} (hp : p.rate ≤ rate) (hq : rate < q.rate)
    (hpf : lo ≤ p.factor ∧ p.factor ≤ hi) (hqf : lo ≤ q.factor ∧ q.factor ≤ hi) :
    lo ≤ interpolate p q rate ∧ interpolate p q rate ≤ hi := by
  have h0 : (0 : Int) ≤ (rate : Int) - p.rate := by omega
  have h1 : (rate : Int) - p.rate < (q.rate : Int) - p.rate := by omega
  unfold interpolate
  rcases le_total p.factor q.factor with hrise | hfall
  · have := tdiv_part_of_rise (rise := (q.factor : Int) - p.factor) (by omega) h0 h1
    omega
  · have := tdiv_part_of_rise (rise := (p.factor : Int) - q.factor) (by omega) h0 h1
    have hneg : ((q.factor : Int) - p.factor) * ((rate : Int) - p.rate) =
        -(((p.factor : Int) - q.factor) * ((rate : Int) - p.rate)) := by
      ring
    rw [hneg, Int.neg_tdiv]
    omega

/-! ### Which points a rate is looked up between -/

/-- The lookup passes over every point at or below the rate. -/
theorem factorFrom_append (p q : CurvePoint) (ps qs : List CurvePoint) (rate : Nat) (hps : ∀ x ∈ ps, x.rate ≤ rate)
    (hq : q.rate ≤ rate) : factorFrom p (ps ++ q :: qs) rate = factorFrom q qs rate := by
  induction ps generalizing p with
  | nil => simp [factorFrom, hq]
  | cons x xs ih =>
    rw [List.forall_mem_cons] at hps
    obtain ⟨hx, hxs⟩ := hps
    simp [factorFrom, hx, ih x hxs]

/-- At a point's own rate the factor is that point's. -/
theorem factorFrom_at_rate (p : CurvePoint) (rest : List CurvePoint) (h : risingRates (p :: rest) = true) :
    factorFrom p rest p.rate = p.factor := by
  cases rest with
  | nil => rfl
  | cons q qs =>
    have hpq : p.rate < q.rate := rate_lt_of_risingRates_append (ps := [p]) h (by simp) (by simp)
    simp [factorFrom, hpq]

/-- At or above a point's rate, the points before it play no part. -/
theorem pageFactor_append (ps qs : List CurvePoint) (p : CurvePoint) (rate : Nat) (h : risingRates (ps ++ p :: qs) = true)
    (hp : p.rate ≤ rate) : pageFactor (ps ++ p :: qs) rate = factorFrom p qs rate := by
  have below : ∀ x ∈ ps, x.rate < rate := fun x hx =>
    (rate_lt_of_risingRates_append h hx (List.mem_cons_self ..)).trans_le hp
  cases ps with
  | nil =>
    simp only [List.nil_append, pageFactor]
    split
    · have hr : rate = p.rate := by omega
      rw [hr, factorFrom_at_rate p qs h]
    · rfl
  | cons x xs =>
    rw [List.forall_mem_cons] at below
    obtain ⟨hx, hxs⟩ := below
    simp only [List.cons_append, pageFactor]
    rw [if_neg (by omega), factorFrom_append x p xs qs rate (fun y hy => (hxs y hy).le) hp]

/-! ### The range of the factor -/

/-- From a point at or below the rate on, the factor stays within any bounds of the points' factors. -/
theorem factorFrom_within (p : CurvePoint) (rest : List CurvePoint) {rate lo hi : Nat} (hp : p.rate ≤ rate)
    (hf : ∀ x ∈ p :: rest, lo ≤ x.factor ∧ x.factor ≤ hi) :
    lo ≤ factorFrom p rest rate ∧ factorFrom p rest rate ≤ hi := by
  induction rest generalizing p with
  | nil => exact hf p (by simp)
  | cons q qs ih =>
    simp only [factorFrom]
    split
    · exact interpolate_within hp ‹_› (hf p (by simp)) (hf q (by simp))
    · exact ih q (by omega) (fun x hx => hf x (List.mem_cons_of_mem p hx))

/-- The factor on a page that has points stays within any bounds of their factors. -/
theorem pageFactor_within (p : CurvePoint) (rest : List CurvePoint) {rate lo hi : Nat}
    (hf : ∀ x ∈ p :: rest, lo ≤ x.factor ∧ x.factor ≤ hi) :
    lo ≤ pageFactor (p :: rest) rate ∧ pageFactor (p :: rest) rate ≤ hi := by
  simp only [pageFactor]
  split
  · exact hf p (by simp)
  · exact factorFrom_within p rest (by omega) hf

/-- Settles O13: the points before the one at or below the rate drop out, and an interpolation stays between its two factors. -/
theorem pageFactorFollowsCurve : Obligations.PageFactorFollowsCurve := by
  unfold Obligations.PageFactorFollowsCurve
  refine ⟨?first, ?last, ?between, ?atPoint, ?range⟩
  case first =>
    intro p rest rate h
    simp [pageFactor, h]
  case last =>
    intro ps q rate h hq
    rw [pageFactor_append ps [] q rate h hq]
    rfl
  case between =>
    intro ps qs p q rate h hp hq
    rw [pageFactor_append ps (q :: qs) p rate h hp, factorFrom, if_pos hq]
    rfl
  case atPoint =>
    intro ps qs p h
    rw [pageFactor_append ps qs p p.rate h le_rfl, factorFrom_at_rate p qs (risingRates_of_append h)]
  case range =>
    intro ps rate _ hf
    cases ps with
    | nil => simp [pageFactor]
    | cons p rest => exact pageFactor_within p rest hf

end Sys2Proof.Machine
end

section
/-! PROOF. What the operations of loading, of dosing, of orders and of requests leave of the meter channels: all of them. -/

namespace Sys2Proof.Machine

variable (c : Conditions) (r : Rack)

/-! ### Arms, causes, strokes -/

/-- What each slot's operation leaves of the channels, the four together leave. -/
theorem overSlots_channels (f : SlotId → Rack → Rack) (hf : ∀ s r, (f s r).channels = r.channels) :
    (overSlots f r).channels = r.channels := by
  simp [overSlots, hf]

@[simp] theorem raiseCauses_channels (cause : Cause) (arms : List ArmId) :
    (raiseCauses c cause arms r).channels = r.channels := by
  induction arms generalizing r with
  | nil => rfl
  | cons a rest ih => simp [raiseCauses, ih]

@[simp] theorem Rack.noFlow_channels (a : ArmId) : (r.noFlow c a).channels = r.channels := by
  simp [Rack.noFlow]

@[simp] theorem Rack.becomeQuiet_channels (a : ArmId) : (r.becomeQuiet c a).channels = r.channels := by
  simp [Rack.becomeQuiet]

@[simp] theorem Rack.repeatShow_channels (a : ArmId) : (r.repeatShow c a).channels = r.channels := by
  simp [Rack.repeatShow]

@[simp] theorem Rack.strokeOutcome_channels (a : ArmId) (s : SlotId) (good : Bool) :
    (r.strokeOutcome c a s good).channels = r.channels := by
  cases good <;> unfold Rack.strokeOutcome <;> split <;> simp

@[simp] theorem Rack.feedbackFall_channels (a : ArmId) (s : SlotId) : (r.feedbackFall c a s).channels = r.channels := by
  unfold Rack.feedbackFall
  dsimp only
  split <;> simp

@[simp] theorem Rack.beginInjectors_channels (a : ArmId) (l : Line) : (r.beginInjectors a l).channels = r.channels :=
  overSlots_channels r _ (fun _ _ => rfl)

@[simp] theorem Rack.stopFromPanel_channels (a : ArmId) : (r.stopFromPanel c a).channels = r.channels := by
  simp [Rack.stopFromPanel]

/-! ### Lines and orders that are stopped -/

@[simp] theorem Rack.stopLine_channels (order line : Nat) (cause : StopCause) (pendingToo : Bool) :
    (r.stopLine c order line cause pendingToo).channels = r.channels := by
  unfold Rack.stopLine
  repeat' split
  all_goals simp

@[simp] theorem stopLines_channels (order : Nat) (cause : StopCause) (pendingToo : Bool) (lines : List Nat) :
    (stopLines c order cause pendingToo lines r).channels = r.channels := by
  induction lines generalizing r with
  | nil => rfl
  | cons n rest ih => simp [stopLines, ih]

@[simp] theorem Rack.cancelOrder_channels (o : Order) : (r.cancelOrder c o).channels = r.channels := by
  simp [Rack.cancelOrder]

@[simp] theorem Rack.suspendAdmitted_channels (b : BayId) : (r.suspendAdmitted c b).channels = r.channels := by
  unfold Rack.suspendAdmitted
  repeat' split
  all_goals simp

@[simp] theorem Rack.suspendPermit_channels (p : Permit) : (r.suspendPermit c p).channels = r.channels := by
  unfold Rack.suspendPermit
  dsimp only
  split <;> simp

/-! ### A rack restart (R120) -/

@[simp] theorem returnLines_channels (es : List QueueEntry) : (returnLines es r).channels = r.channels := by
  induction es generalizing r with
  | nil => rfl
  | cons e rest ih => simp [returnLines, ih]

@[simp] theorem Rack.returnBehind_channels (a : ArmId) : (r.returnBehind a).channels = r.channels := by
  simp [Rack.returnBehind]

@[simp] theorem Rack.returnAll_channels (a : ArmId) : (r.returnAll c a).channels = r.channels := by
  simp [Rack.returnAll]

@[simp] theorem Rack.restartArm_channels (a : ArmId) : (r.restartArm c a).channels = r.channels := by
  unfold Rack.restartArm
  split <;> simp

@[simp] theorem restartArms_channels (arms : List ArmId) : (restartArms c arms r).channels = r.channels := by
  induction arms generalizing r with
  | nil => rfl
  | cons a rest ih => simp [restartArms, ih]

@[simp] theorem Rack.testOrderAt_channels (a : ArmId) : (r.testOrderAt c a).channels = r.channels := by
  unfold Rack.testOrderAt
  split <;> simp

@[simp] theorem testOrdersAt_channels (arms : List ArmId) : (testOrdersAt c arms r).channels = r.channels := by
  induction arms generalizing r with
  | nil => rfl
  | cons a rest ih => simp [testOrdersAt, ih]

@[simp] theorem Rack.emptyHeaders_channels : r.emptyHeaders.channels = r.channels := (rfl)

@[simp] theorem Rack.restart_channels (order : List ArmId) : (r.restart c order).channels = r.channels := by
  simp [Rack.restart]

/-! ### Card admission (R88) -/

@[simp] theorem queueLines_channels (order : Nat) (xs : List (Nat × ArmId)) : (queueLines order xs r).channels = r.channels := by
  induction xs generalizing r with
  | nil => rfl
  | cons x rest ih =>
    obtain ⟨n, a⟩ := x
    simp [queueLines, ih]

@[simp] theorem Rack.readyIfGiven_channels (xs : List (Nat × ArmId)) (a : ArmId) :
    (r.readyIfGiven c xs a).channels = r.channels := by
  unfold Rack.readyIfGiven
  split <;> simp

@[simp] theorem Rack.admitOrder_channels (b : BayId) (p : Permit) (o : Order) (xs : List (Nat × ArmId)) :
    (r.admitOrder c b p o xs).channels = r.channels := by
  simp [Rack.admitOrder]

@[simp] theorem Rack.cardAt_channels (b : BayId) (permit : Nat) : (r.cardAt c b permit).channels = r.channels := by
  unfold Rack.cardAt
  repeat' split
  all_goals simp

/-! ### Requests -/

@[simp] theorem moveAdditives_channels (new : Nat) (ds : List DoseRecord) : (moveAdditives new ds r).channels = r.channels := by
  induction ds generalizing r with
  | nil => rfl
  | cons d rest ih => simp [moveAdditives, ih]

@[simp] theorem Rack.amend_channels (o : Order) (l : Line) (new : Nat) : (r.amend o l new).channels = r.channels := by
  simp [Rack.amend]

@[simp] theorem setCapacity_channels (h : HeaderId) (cap : Nat) : (setCapacity c h cap r).1.channels = r.channels := by
  unfold setCapacity
  dsimp only
  split <;> simp

end Sys2Proof.Machine
end

section
/-! PROOF. The held factors of the meter channels (R5, R6, R7, R23): which operations leave them, and where they are looked up. -/

namespace Sys2Proof.Machine

/-! ### Racks that hold the same factors -/

/-- Two racks hold the same meter factors. -/
def SameFactors (r t : Rack) : Prop := ∀ a, (t.channel a).factor = (r.channel a).factor

theorem SameFactors.of_channels {r t : Rack} (h : t.channels = r.channels) : SameFactors r t :=
  fun a => by rw [Rack.channel_eq h]

theorem SameFactors.trans {r s t : Rack} (h : SameFactors r s) (g : SameFactors s t) : SameFactors r t :=
  fun a => (g a).trans (h a)

/-- A change behind which the channels stand as they were. -/
theorem SameFactors.then_channels {r s t : Rack} (h : SameFactors r s) (g : t.channels = s.channels) : SameFactors r t :=
  h.trans (.of_channels g)

/-- A change of a channel that keeps its factor. -/
theorem SameFactors.modChannel (r : Rack) (a : ArmId) {f : Channel → Channel} (hf : ∀ x, (f x).factor = x.factor) :
    SameFactors r (r.modChannel a f) := by
  intro b
  rw [Rack.modChannel_channel]
  split
  · subst b; exact hf _
  · rfl

variable (c : Conditions) (r : Rack)

/-! ### Steps, readings and time keep the factors -/

theorem Channel.advance_factor (gross standard : Nat) (x : Channel) : (x.advance gross standard).factor = x.factor := (rfl)

theorem Rack.assignedStep_sameFactors (a : ArmId) : SameFactors r (r.assignedStep c a) := by
  have dosed (t : Rack) : (overSlots (fun s r => r.doseStep c a s) (t.armStep c a)).channels = t.channels :=
    (overSlots_channels _ _ (fun s r => Rack.doseStep_channels r c a s)).trans (Rack.armStep_channels t c a)
  unfold Rack.assignedStep
  split
  · dsimp only
    refine SameFactors.then_channels ?_ (dosed _)
    exact (SameFactors.of_channels (Rack.modCurrentLine_channels r a _)).trans (.modChannel _ a (Channel.advance_factor _ _))
  · exact .of_channels rfl

theorem Rack.unassignedStep_sameFactors (a : ArmId) : SameFactors r (r.unassignedStep c a) := by
  have counted := SameFactors.modChannel r a (f := fun x =>
    { x.advance x.factor x.factor with unassigned := satAdd 65535 x.unassigned 1 })
    (fun x => Channel.advance_factor x.factor x.factor x)
  refine counted.then_channels ?_
  unfold Rack.unassignedStep
  dsimp only
  repeat' split
  all_goals simp

theorem Rack.step_sameFactors (a : ArmId) : SameFactors r (r.step c a) := by
  unfold Rack.step
  split
  · exact r.assignedStep_sameFactors c a
  · exact r.unassignedStep_sameFactors c a

theorem Rack.pulse_sameFactors (a : ArmId) : SameFactors r (r.pulse c a) := by
  have counted := SameFactors.modChannel r a (f := fun x => { x with window := satAdd 9999999 x.window 1 }) (fun _ => rfl)
  unfold Rack.pulse
  dsimp only
  split
  · exact counted
  · split
    · refine SameFactors.trans ?_ (Rack.step_sameFactors c _ a)
      exact counted.trans (.modChannel _ a (fun _ => rfl))
    · exact counted.trans (.modChannel _ a (fun _ => rfl))

theorem Rack.reading_sameFactors (a : ArmId) (x : Reading) : SameFactors r (r.reading c a x) := by
  unfold Rack.reading
  split
  · exact (SameFactors.modChannel r a (f := Channel.hold c _) (fun _ => rfl)).then_channels (Rack.modArm_channels _ a _)
  · exact .modChannel r a (fun _ => rfl)

theorem Rack.staleness_sameFactors (a : ArmId) : SameFactors r (r.staleness c a) :=
  SameFactors.then_channels (s := r.modChannel a (fun x =>
    { x with temperature := x.temperature.map (fun t => { t with stale := true }) }))
    (.modChannel r a (fun _ => rfl)) (Rack.raiseCause_channels _ c a .probe)

theorem Rack.clearArm_sameFactors (a : ArmId) : SameFactors r (r.clearArm c a) := by
  have cleared := SameFactors.modChannel r a (f := fun x => { x with unassigned := 0 }) (fun _ => rfl)
  unfold Rack.clearArm
  dsimp only
  split
  · exact cleared.then_channels (by simp)
  · exact cleared

theorem Rack.tick_sameFactors (now : Millis) : SameFactors r (r.tick now) := by
  intro a
  simp [Rack.tick, Rack.channel, Channel.tick]

/-! ### Factors held before or looked up -/

/-- Every factor of a rack is the one another rack holds, or one looked up in a calibration store. -/
def FactorsHeldOrLookedUp (cal : CalStore) (r t : Rack) : Prop :=
  ∀ a, (t.channel a).factor = (r.channel a).factor ∨
    ∃ (k : BankId) (rate : Nat), (t.channel a).factor = (cal.bank k).factorAt a rate

theorem SameFactors.heldOrLookedUp {r t : Rack} (h : SameFactors r t) (cal : CalStore) : FactorsHeldOrLookedUp cal r t :=
  fun a => .inl (h a)

theorem FactorsHeldOrLookedUp.of_channels {r t : Rack} (cal : CalStore) (h : t.channels = r.channels) :
    FactorsHeldOrLookedUp cal r t :=
  (SameFactors.of_channels h).heldOrLookedUp cal

theorem FactorsHeldOrLookedUp.trans {cal : CalStore} {r s t : Rack} (h : FactorsHeldOrLookedUp cal r s)
    (g : FactorsHeldOrLookedUp cal s t) : FactorsHeldOrLookedUp cal r t := by
  intro a
  rcases g a with held | lookedUp
  · rw [held]; exact h a
  · exact .inr lookedUp

theorem FactorsHeldOrLookedUp.then_channels {cal : CalStore} {r s t : Rack} (h : FactorsHeldOrLookedUp cal r s)
    (g : t.channels = s.channels) : FactorsHeldOrLookedUp cal r t :=
  h.trans (.of_channels cal g)

/-- A change of a channel that looks its factor up in the bank in effect. -/
theorem FactorsHeldOrLookedUp.modChannel {a : ArmId} {rate : Nat} {f : Channel → Channel}
    (hf : (f (r.channel a)).factor = (effectiveBank c r a).factorAt a rate) :
    FactorsHeldOrLookedUp c.cal r (r.modChannel a f) := by
  intro b
  rw [Rack.modChannel_channel]
  split
  · subst b; exact .inr ⟨bankInEffect c r a, rate, hf⟩
  · exact .inl rfl

/-! ### The lookups: entry to LOW_START (R5), the end of a window (R6), power-on (R23) -/

theorem Rack.enterLowStart_factors (a : ArmId) (k : ArmConfig) (v : Nat) :
    FactorsHeldOrLookedUp c.cal r (r.enterLowStart c a k v) := by
  refine FactorsHeldOrLookedUp.then_channels (FactorsHeldOrLookedUp.modChannel c r (a := a) (rate := 0)
    (f := Channel.restart c ((effectiveBank c r a).factorAt a 0)) rfl) ?_
  unfold Rack.enterLowStart
  dsimp only
  split <;> simp

theorem Rack.firstStart_factors (a : ArmId) : FactorsHeldOrLookedUp c.cal r (r.firstStart c a) := by
  unfold Rack.firstStart
  split
  · exact (FactorsHeldOrLookedUp.of_channels c.cal (by simp)).trans (Rack.enterLowStart_factors c _ a _ 0)
  · exact .of_channels c.cal rfl

theorem strokeTests_channels (a : ArmId) : (overSlots (fun s r => r.strokeTest c a s) r).channels = r.channels :=
  overSlots_channels r _ (fun s t => Rack.strokeTest_channels t c a s)

theorem Rack.resume_factors (a : ArmId) : FactorsHeldOrLookedUp c.cal r (r.resume c a) := by
  unfold Rack.resume
  split
  · dsimp only
    refine FactorsHeldOrLookedUp.then_channels ?_ (strokeTests_channels c _ a)
    split
    · exact .of_channels c.cal (by simp)
    · exact (FactorsHeldOrLookedUp.of_channels c.cal (by simp)).trans (Rack.enterLowStart_factors c _ a _ _)
  · exact .of_channels c.cal rfl

theorem Rack.startArm_factors (a : ArmId) : FactorsHeldOrLookedUp c.cal r (r.startArm c a) := by
  have answered (reason : Option PanelReason) : FactorsHeldOrLookedUp c.cal r (r.answerArm a reason) :=
    .of_channels c.cal (by simp)
  unfold Rack.startArm
  split
  case h_1 =>
    split
    · exact answered _
    · exact (r.firstStart_factors c a).then_channels (by simp)
  case h_2 =>
    split
    · exact answered _
    · exact (r.resume_factors c a).then_channels (by simp)
  all_goals exact answered _

theorem Rack.endWindow_factors (a : ArmId) :
    FactorsHeldOrLookedUp c.cal r (r.modChannel a (Channel.endWindow c (effectiveBank c r a) a)) :=
  .modChannel c r rfl

theorem Rack.powerOn_factors (inputs : InputLevels) (cal : CalStore) :
    FactorsHeldOrLookedUp cal r (r.powerOn inputs cal) :=
  fun a => .inr ⟨cal.active, 0, by simp [Rack.powerOn, Rack.channel, Channel.fresh]⟩

/-! ### Panel messages (R187) -/

theorem State.moveRack_factors (s : State) {f : Conditions → Rack → Rack}
    (h : FactorsHeldOrLookedUp s.cond.cal s.rack (f s.cond s.rack)) :
    FactorsHeldOrLookedUp s.cond.cal s.rack (s.moveRack f).rack :=
  h.then_channels (Rack.pump_channels _)

/-- A step that leaves the conditions, and whose factors are held or looked up: what a panel message is. -/
def PanelMove (s t : State) : Prop := t.cond = s.cond ∧ FactorsHeldOrLookedUp s.cond.cal s.rack t.rack

theorem PanelMove.of_rack {s t : State} (hc : t.cond = s.cond) (hr : t.rack = s.rack) : PanelMove s t :=
  ⟨hc, .of_channels _ (by rw [hr])⟩

theorem PanelMove.trans {s t u : State} (h : PanelMove s t) (g : PanelMove t u) : PanelMove s u := by
  obtain ⟨hc, hf⟩ := h
  obtain ⟨gc, gf⟩ := g
  rw [hc] at gf
  exact ⟨gc.trans hc, hf.trans gf⟩

theorem State.card_move (s : State) (b : BayId) (permit : Nat) : PanelMove s (s.card b permit) :=
  ⟨rfl, s.moveRack_factors (.of_channels _ (by simp))⟩

theorem State.pressStart_move (s : State) (b : BayId) (a : ArmId) : PanelMove s (s.pressStart b a) := by
  refine ⟨rfl, s.moveRack_factors ?_⟩
  split
  · exact s.rack.startArm_factors s.cond a
  · exact .of_channels _ (by simp)

theorem State.pressStop_move (s : State) (b : BayId) (a : ArmId) : PanelMove s (s.pressStop b a) := by
  refine ⟨rfl, s.moveRack_factors (.of_channels _ ?_)⟩
  split <;> simp

theorem State.panelMessage_move (s : State) (b : BayId) (body : Text) : PanelMove s (s.panelMessage b body) := by
  unfold State.panelMessage
  repeat' split
  · exact s.card_move b _
  · exact .of_rack rfl rfl
  · exact s.pressStart_move b _
  · exact .of_rack rfl rfl
  · exact s.pressStop_move b _
  · exact .of_rack rfl rfl
  · exact .of_rack rfl rfl

theorem panelCharacters_move (b : BayId) (chars : Text) (s : State) : PanelMove s (panelCharacters b chars s) := by
  induction chars generalizing s with
  | nil => exact .of_rack rfl rfl
  | cons ch rest ih =>
    have received (x : PanelRx) : PanelMove s (s.setPanelRx b x) := .of_rack rfl rfl
    unfold panelCharacters
    split
    · exact ((received _).trans (State.panelMessage_move _ b _)).trans (ih _)
    · exact (received _).trans (ih _)

end Sys2Proof.Machine
end

section
/-! PROOF. No request moves a held factor: one lemma per owner's answer (R181), and then for the request of any name. -/

namespace Sys2Proof.Machine

/-- An owner's answer leaves every held factor as it was. -/
def KeepsFactors (answer : Answer) : Prop := ∀ s, SameFactors s.rack (answer s).1.rack

/-! ### The common answers -/

theorem KeepsFactors.of_channels {answer : Answer} (h : ∀ s, (answer s).1.rack.channels = s.rack.channels) :
    KeepsFactors answer :=
  fun s => .of_channels (h s)

theorem refuse_keepsFactors (status : Status) (named : Named) : KeepsFactors (refuse status named) :=
  .of_channels (fun _ => rfl)

theorem answerOk_keepsFactors (fields : OkFields) : KeepsFactors (answerOk fields) := .of_channels (fun _ => rfl)

theorem okTables_keepsFactors {f : Rack → Rack} {fields : OkFields} (hf : ∀ r, (f r).channels = r.channels) :
    KeepsFactors (okTables f fields) :=
  .of_channels (fun s => hf s.rack)

theorem okConditions_keepsFactors (f : Conditions → Conditions) (fields : OkFields) : KeepsFactors (okConditions f fields) :=
  .of_channels (fun _ => rfl)

theorem okStore_keepsFactors (f : CalStore → CalStore) (fields : OkFields) : KeepsFactors (okStore f fields) :=
  .of_channels (fun _ => rfl)

theorem okRack_keepsFactors {f : Conditions → Rack → Rack} {fields : OkFields} (hf : ∀ c r, SameFactors r (f c r)) :
    KeepsFactors (okRack f fields) :=
  fun s => (hf s.cond s.rack).then_channels (Rack.pump_channels _)

theorem withItems_keepsFactors (checked : Except Text (List Item)) {answer : List Item → Answer}
    (h : ∀ items, KeepsFactors (answer items)) : KeepsFactors (withItems checked answer) := by
  cases checked with
  | error key => exact refuse_keepsFactors _ _
  | ok items => exact h items

theorem noFields_keepsFactors (fields : List Text) {answer : Answer} (h : KeepsFactors answer) :
    KeepsFactors (noFields fields answer) := by
  cases fields with
  | nil => exact h
  | cons t rest => exact refuse_keepsFactors _ _

/-! ### Calibration (chapter 2) -/

theorem answerCalWrite_keepsFactors (fields : List Text) : KeepsFactors (answerCalWrite fields) := by
  intro s
  unfold answerCalWrite
  split
  · exact refuse_keepsFactors _ _ s
  · split
    · exact refuse_keepsFactors _ _ s
    · refine withItems_keepsFactors _ (fun items => ?_) s
      split
      · exact refuse_keepsFactors _ _
      · exact okStore_keepsFactors _ _

theorem answerCalRead_keepsFactors (fields : List Text) : KeepsFactors (answerCalRead fields) :=
  fun s => withItems_keepsFactors _ (fun _ => answerOk_keepsFactors _) s

theorem calCommit_keepsFactors : KeepsFactors calCommit := by
  intro s
  unfold calCommit
  split
  · exact refuse_keepsFactors _ _ s
  · exact okStore_keepsFactors _ _ s

theorem answerCalCommit_keepsFactors (fields : List Text) : KeepsFactors (answerCalCommit fields) := by
  intro s
  unfold answerCalCommit
  split
  · exact refuse_keepsFactors _ _ s
  · exact noFields_keepsFactors fields calCommit_keepsFactors s

/-! ### Permits, units, accounts (chapters 3 and 4) -/

theorem onPermit_keepsFactors (fields : List Text) {answer : Permit → Answer} (h : ∀ p, KeepsFactors (answer p)) :
    KeepsFactors (onPermit fields answer) := by
  refine withItems_keepsFactors _ (fun items s => ?_)
  split
  · exact h _ s
  · exact refuse_keepsFactors _ _ s

theorem permitPut_keepsFactors (items : List Item) : KeepsFactors (permitPut items) := by
  intro s
  unfold permitPut
  split
  · exact .of_channels rfl
  · split
    · exact refuse_keepsFactors _ _ s
    · exact .of_channels rfl

theorem permitSuspend_keepsFactors (p : Permit) : KeepsFactors (permitSuspend p) := by
  intro s
  unfold permitSuspend
  split
  · exact answerOk_keepsFactors _ s
  · exact okRack_keepsFactors (fun c r => .of_channels (r.suspendPermit_channels c p)) s

theorem permitRetire_keepsFactors (p : Permit) : KeepsFactors (permitRetire p) := by
  intro s
  unfold permitRetire
  split
  · exact refuse_keepsFactors _ _ s
  · exact .of_channels rfl

theorem onUnit_keepsFactors (fields : List Text) {answer : VehicleUnit → Answer} (h : ∀ u, KeepsFactors (answer u)) :
    KeepsFactors (onUnit fields answer) := by
  refine withItems_keepsFactors _ (fun items s => ?_)
  split
  · exact h _ s
  · exact refuse_keepsFactors _ _ s

theorem unitPut_keepsFactors (items : List Item) : KeepsFactors (unitPut items) := by
  refine .of_channels (fun s => ?_)
  unfold unitPut
  repeat' split
  all_goals rfl

theorem unitClean_keepsFactors (u : VehicleUnit) : KeepsFactors (unitClean u) := by
  unfold unitClean
  split
  · exact refuse_keepsFactors _ _
  · exact okTables_keepsFactors (fun _ => rfl)

theorem unitRetire_keepsFactors (u : VehicleUnit) : KeepsFactors (unitRetire u) := by
  intro s
  unfold unitRetire
  split
  · exact refuse_keepsFactors _ _ s
  · exact .of_channels rfl

theorem onAccountOf_keepsFactors (items : List Item) {answer : Account → Answer} (h : ∀ x, KeepsFactors (answer x)) :
    KeepsFactors (onAccountOf items answer) := by
  intro s
  unfold onAccountOf
  split
  · exact h _ s
  · exact refuse_keepsFactors _ _ s

theorem onAccount_keepsFactors (fields : List Text) {answer : Account → Answer} (h : ∀ x, KeepsFactors (answer x)) :
    KeepsFactors (onAccount fields answer) :=
  withItems_keepsFactors _ (fun items => onAccountOf_keepsFactors items h)

theorem accountPut_keepsFactors (items : List Item) : KeepsFactors (accountPut items) := by
  refine .of_channels (fun s => ?_)
  unfold accountPut
  repeat' split
  all_goals rfl

theorem accountSetHeld_keepsFactors (held : Bool) (x : Account) : KeepsFactors (accountSetHeld held x) :=
  okTables_keepsFactors (fun _ => rfl)

theorem accountClose_keepsFactors (x : Account) : KeepsFactors (accountClose x) := by
  unfold accountClose
  split
  · exact refuse_keepsFactors _ _
  · exact okTables_keepsFactors (fun _ => rfl)

/-! ### Orders and notes (chapters 5 and 10) -/

theorem onOrder_keepsFactors (fields : List Text) {answer : Order → Answer} (h : ∀ o, KeepsFactors (answer o)) :
    KeepsFactors (onOrder fields answer) := by
  refine withItems_keepsFactors _ (fun items s => ?_)
  split
  · exact h _ s
  · exact refuse_keepsFactors _ _ s

theorem orderBook_keepsFactors (k : Booking) : KeepsFactors (orderBook k) := by
  intro s
  unfold orderBook
  split
  · exact .of_channels rfl
  · exact .of_channels rfl

theorem orderAmend_keepsFactors (items : List Item) : KeepsFactors (orderAmend items) := by
  refine .of_channels (fun s => ?_)
  unfold orderAmend
  repeat' split
  all_goals simp

theorem orderCancel_keepsFactors (o : Order) : KeepsFactors (orderCancel o) := by
  unfold orderCancel
  split
  · exact refuse_keepsFactors _ _
  · exact refuse_keepsFactors _ _
  · exact okRack_keepsFactors (fun c r => .of_channels (by simp))
  · exact okRack_keepsFactors (fun c r => .of_channels (r.cancelOrder_channels c o))

theorem orderRetire_keepsFactors (o : Order) : KeepsFactors (orderRetire o) := by
  unfold orderRetire
  split
  · exact refuse_keepsFactors _ _
  · exact refuse_keepsFactors _ _
  · exact okTables_keepsFactors (fun _ => rfl)
  · exact okTables_keepsFactors (fun _ => rfl)

theorem noteAnswer_keepsFactors (counter : Option Nat) (o : Order) : KeepsFactors (noteAnswer counter o) :=
  fun s => answerOk_keepsFactors _ s

theorem noteNext_keepsFactors (items : List Item) : KeepsFactors (noteNext items) := by
  intro s
  unfold noteNext
  split
  · exact refuse_keepsFactors _ _ s
  · split
    · exact noteAnswer_keepsFactors _ _ s
    · exact refuse_keepsFactors _ _ s

theorem noteRead_keepsFactors (o : Order) : KeepsFactors (noteRead o) := by
  unfold noteRead
  split
  · exact noteAnswer_keepsFactors _ _
  all_goals exact refuse_keepsFactors _ _

/-! ### Arms and headers (chapters 6 and 7) -/

theorem armPut_keepsFactors (items : List Item) : KeepsFactors (armPut items) := by
  refine .of_channels (fun s => ?_)
  unfold armPut
  repeat' split
  all_goals rfl

theorem serviceOut_keepsFactors (a : ArmId) : KeepsFactors (serviceOut a) := by
  intro s
  unfold serviceOut
  split
  case h_1 => exact okRack_keepsFactors (fun c r => .of_channels (r.setState_channels c a _)) s
  case h_2 => exact .of_channels rfl
  case h_3 => exact answerOk_keepsFactors _ s
  all_goals exact refuse_keepsFactors _ _ s

theorem serviceIn_keepsFactors (a : ArmId) : KeepsFactors (serviceIn a) := by
  refine .of_channels (fun s => ?_)
  unfold serviceIn
  repeat' split
  all_goals simp

theorem armService_keepsFactors (items : List Item) : KeepsFactors (armService items) := by
  unfold armService
  split
  · exact serviceIn_keepsFactors _
  · exact serviceOut_keepsFactors _

theorem armClear_keepsFactors (a : ArmId) : KeepsFactors (armClear a) := by
  intro s
  unfold armClear
  split
  · exact okRack_keepsFactors (fun c r => r.clearArm_sameFactors c a) s
  · exact refuse_keepsFactors _ _ s

theorem rackHeader_keepsFactors (items : List Item) : KeepsFactors (rackHeader items) := by
  intro s
  unfold rackHeader
  split
  · exact okRack_keepsFactors (fun c r => .of_channels (setCapacity_channels c r _ _)) s
  · exact answerOk_keepsFactors _ s

/-! ### Recipes and the rack (chapters 8, 9, 11) -/

theorem onRecipe_keepsFactors (fields : List Text) {answer : Recipe → Answer} (h : ∀ x, KeepsFactors (answer x)) :
    KeepsFactors (onRecipe fields answer) := by
  refine withItems_keepsFactors _ (fun items s => ?_)
  split
  · exact h _ s
  · exact refuse_keepsFactors _ _ s

theorem recipeRetire_keepsFactors (x : Recipe) : KeepsFactors (recipeRetire x) := by
  intro s
  unfold recipeRetire
  split
  · exact refuse_keepsFactors _ _ s
  · exact okConditions_keepsFactors _ _ s

theorem rackResume_keepsFactors : KeepsFactors rackResume := by
  intro s
  unfold rackResume
  split
  · exact refuse_keepsFactors _ _ s
  · exact okConditions_keepsFactors _ _ s

theorem rackSetDay_keepsFactors (day : Nat) : KeepsFactors (rackSetDay day) := by
  refine .of_channels (fun s => ?_)
  unfold rackSetDay
  dsimp only
  split <;> rfl

theorem answerRackSwitchTable_keepsFactors (fields : List Text) : KeepsFactors (answerRackSwitchTable fields) := by
  intro s
  unfold answerRackSwitchTable
  split
  · exact answerOk_keepsFactors _ s
  · exact withItems_keepsFactors _ (fun _ => okConditions_keepsFactors _ _) s

theorem rackNoteFormat_keepsFactors (items : List Item) : KeepsFactors (rackNoteFormat items) := by
  intro s
  unfold rackNoteFormat
  split
  · exact okConditions_keepsFactors _ _ s
  · exact answerOk_keepsFactors _ s

theorem rackRestart_keepsFactors : KeepsFactors rackRestart :=
  .of_channels (fun s => by simp [rackRestart, restartedRack])

/-! ### Every owner -/

theorem owners_keepFactors : ∀ x ∈ owners, ∀ fields, KeepsFactors (x.2 fields) := by
  simp only [owners, List.forall_mem_append, List.forall_mem_cons]
  refine ⟨⟨⟨⟨?calWrite, ?calRead, ?calCommit, ?permitPut, ?permitGet, ?permitSuspend, ?permitReinstate, ?permitRetire, ?unitPut,
      ?unitGet, ?unitClean, ?unitRetire, ?nil⟩, ?accountPut, ?accountGet, ?accountCredit, ?accountHold, ?accountRelease,
      ?accountClose, ?orderBook, ?orderGet, ?orderAmend, ?orderCancel, ?orderRetire, ?nil⟩, ?armPut, ?armService, ?armClear,
      ?armGet, ?rackHeader, ?recipePut, ?recipeGet, ?recipeRetire, ?additivePut, ?additiveRefill, ?additiveGet, ?rackResume,
      ?nil⟩, ?noteNext, ?noteRead, ?rackStatus, ?rackSetDay, ?rackSwitchTable, ?rackNoteFormat, ?rackRestart, ?nil⟩
  case nil => exact fun x hx => absurd hx List.not_mem_nil
  case calWrite => exact answerCalWrite_keepsFactors
  case calRead => exact answerCalRead_keepsFactors
  case calCommit => exact answerCalCommit_keepsFactors
  case permitPut => exact fun _ => withItems_keepsFactors _ permitPut_keepsFactors
  case permitGet => exact fun fields => onPermit_keepsFactors fields (fun _ s => answerOk_keepsFactors _ s)
  case permitSuspend => exact fun fields => onPermit_keepsFactors fields permitSuspend_keepsFactors
  case permitReinstate => exact fun fields => onPermit_keepsFactors fields (fun _ => okTables_keepsFactors (fun _ => rfl))
  case permitRetire => exact fun fields => onPermit_keepsFactors fields permitRetire_keepsFactors
  case unitPut => exact fun _ => withItems_keepsFactors _ unitPut_keepsFactors
  case unitGet => exact fun fields => onUnit_keepsFactors fields (fun _ s => answerOk_keepsFactors _ s)
  case unitClean => exact fun fields => onUnit_keepsFactors fields unitClean_keepsFactors
  case unitRetire => exact fun fields => onUnit_keepsFactors fields unitRetire_keepsFactors
  case accountPut => exact fun _ => withItems_keepsFactors _ accountPut_keepsFactors
  case accountGet => exact fun fields => onAccount_keepsFactors fields (fun _ s => answerOk_keepsFactors _ s)
  case accountCredit =>
    exact fun _ => withItems_keepsFactors _ (fun items =>
      onAccountOf_keepsFactors items (fun _ => okTables_keepsFactors (fun _ => rfl)))
  case accountHold => exact fun fields => onAccount_keepsFactors fields (accountSetHeld_keepsFactors true)
  case accountRelease => exact fun fields => onAccount_keepsFactors fields (accountSetHeld_keepsFactors false)
  case accountClose => exact fun fields => onAccount_keepsFactors fields accountClose_keepsFactors
  case orderBook => exact fun _ => withItems_keepsFactors _ (fun _ => orderBook_keepsFactors _)
  case orderGet => exact fun fields => onOrder_keepsFactors fields (fun _ s => answerOk_keepsFactors _ s)
  case orderAmend => exact fun _ => withItems_keepsFactors _ orderAmend_keepsFactors
  case orderCancel => exact fun fields => onOrder_keepsFactors fields orderCancel_keepsFactors
  case orderRetire => exact fun fields => onOrder_keepsFactors fields orderRetire_keepsFactors
  case armPut => exact fun _ => withItems_keepsFactors _ armPut_keepsFactors
  case armService => exact fun _ => withItems_keepsFactors _ armService_keepsFactors
  case armClear => exact fun _ => withItems_keepsFactors _ (fun _ => armClear_keepsFactors _)
  case armGet => exact fun _ => withItems_keepsFactors _ (fun _ s => answerOk_keepsFactors _ s)
  case rackHeader => exact fun _ => withItems_keepsFactors _ rackHeader_keepsFactors
  case recipePut => exact fun _ => withItems_keepsFactors _ (fun _ s => okConditions_keepsFactors _ _ s)
  case recipeGet => exact fun fields => onRecipe_keepsFactors fields (fun _ s => answerOk_keepsFactors _ s)
  case recipeRetire => exact fun fields => onRecipe_keepsFactors fields recipeRetire_keepsFactors
  case additivePut => exact fun _ => withItems_keepsFactors _ (fun _ _ => .of_channels rfl)
  case additiveRefill => exact fun _ => withItems_keepsFactors _ (fun _ _ => .of_channels rfl)
  case additiveGet => exact fun _ => withItems_keepsFactors _ (fun _ s => answerOk_keepsFactors _ s)
  case rackResume => exact fun fields => noFields_keepsFactors fields rackResume_keepsFactors
  case noteNext => exact fun _ => withItems_keepsFactors _ noteNext_keepsFactors
  case noteRead => exact fun fields => onOrder_keepsFactors fields noteRead_keepsFactors
  case rackStatus => exact fun fields => noFields_keepsFactors fields (fun s => answerOk_keepsFactors _ s)
  case rackSetDay => exact fun _ => withItems_keepsFactors _ (fun _ => rackSetDay_keepsFactors _)
  case rackSwitchTable => exact answerRackSwitchTable_keepsFactors
  case rackNoteFormat => exact fun _ => withItems_keepsFactors _ rackNoteFormat_keepsFactors
  case rackRestart => exact fun fields => noFields_keepsFactors fields rackRestart_keepsFactors

/-- A request of any name, known or not. -/
theorem answerNamed_keepsFactors (name : Text) (fields : List Text) : KeepsFactors (answerNamed name fields) := by
  unfold answerNamed
  split
  · exact owners_keepFactors _ (List.mem_of_find?_eq_some ‹_›) fields
  · exact refuse_keepsFactors _ _

/-! ### Requests as commands -/

/-- What a request command does is what the owner of its name answers (R181). The table lists the owners in the order of the request
constructors, which stand behind the 18 commands that are no known request. -/
theorem exec_owner {i : Instr} {name : Text} (h : i.requestName = some name) :
    ∃ x ∈ owners, x.1 = name ∧ ∀ s, exec i s = takeRequest name i.requestFields (x.2 i.requestFields) s := by
  have ⟨x, place, owner⟩ : ∃ x, owners[i.ctorIdx - 18]? = some x ∧ x.1 = name ∧
      ∀ s, exec i s = takeRequest name i.requestFields (x.2 i.requestFields) s := by
    cases i <;> cases h <;> exact ⟨_, rfl, rfl, fun _ => rfl⟩
  exact ⟨x, List.mem_of_getElem? place, owner⟩

theorem takeRequest_sameFactors {name : Text} {fields : List Text} {answer : Answer} {s t : State} (ha : KeepsFactors answer)
    (h : takeRequest name fields answer s = .next t) : SameFactors s.rack t.rack := by
  rcases takeRequest_cases name fields answer s with discarded | ⟨-, -, taken⟩
  · rw [discarded] at h
    cases h
    exact .of_channels rfl
  · rw [taken] at h
    cases h
    exact ha { s with link := s.link.toHunt }

end Sys2Proof.Machine
end

section
/-! PROOF. The page of a lookup, the steps at which a factor is looked up, and what CAL.COMMIT and ARM.SERVICE ask of a curve (R7,
R32, R122). -/

namespace Sys2Proof.Machine

/-! ### The page of a lookup (R7) -/

theorem Bank.pageUsable_iff {k : Bank} {p : PageId} : k.pageUsable p = true ↔ 2 ≤ (k.pages[p]).length :=
  decide_eq_true_iff

/-- A meter's own page comes first. -/
theorem Bank.factorAt_own {k : Bank} {a : ArmId} (own : 2 ≤ (k.pages[k.meters[a].page]).length) (rate : Nat) :
    k.factorAt a rate = pageFactor k.pages[k.meters[a].page] rate := by
  unfold Bank.factorAt Bank.curve
  rw [if_pos (Bank.pageUsable_iff.2 own)]

/-- Page 0 stands in for a meter's own page. -/
theorem Bank.factorAt_pageZero {k : Bank} {a : ArmId} (own : (k.pages[k.meters[a].page]).length < 2)
    (zero : 2 ≤ (k.pages[(0 : PageId)]).length) (rate : Nat) : k.factorAt a rate = pageFactor k.pages[(0 : PageId)] rate := by
  unfold Bank.factorAt Bank.curve
  rw [if_neg (mt Bank.pageUsable_iff.1 own.not_ge), if_pos (Bank.pageUsable_iff.2 zero)]

/-- A meter without a usable curve is measured uncorrected. -/
theorem Bank.factorAt_uncorrected {k : Bank} {a : ArmId} (own : (k.pages[k.meters[a].page]).length < 2)
    (zero : (k.pages[(0 : PageId)]).length < 2) (rate : Nat) : k.factorAt a rate = 100000 := by
  unfold Bank.factorAt Bank.curve
  rw [if_neg (mt Bank.pageUsable_iff.1 own.not_ge), if_neg (mt Bank.pageUsable_iff.1 zero.not_ge)]

theorem Bank.curveUsable_iff {k : Bank} {a : ArmId} :
    k.curveUsable a = true ↔ 2 ≤ (k.pages[k.meters[a].page]).length ∨ 2 ≤ (k.pages[(0 : PageId)]).length := by
  simp only [Bank.curveUsable, Bool.or_eq_true, Bank.pageUsable_iff]

/-! ### A window ends (R6) -/

theorem execRateWindowExpiry_due {a : ArmId} {s : State} (h : windowLength ≤ s.cond.age (s.rack.channel a).windowStart) :
    execRateWindowExpiry a s = .next (s.moveRack (fun c r => r.modChannel a (Channel.endWindow c (effectiveBank c r a) a))) := by
  unfold execRateWindowExpiry
  rw [if_pos h]

/-! ### No step gives any other factor -/

/-- From one state to another: every factor the second holds was held by the first or is looked up in the second's store. -/
def LooksUpOrHolds (s t : State) : Prop := FactorsHeldOrLookedUp t.cond.cal s.rack t.rack

theorem LooksUpOrHolds.of_channels {s t : State} (h : t.rack.channels = s.rack.channels) : LooksUpOrHolds s t :=
  FactorsHeldOrLookedUp.of_channels _ h

theorem State.moveRack_factors_of_same (s : State) {f : Conditions → Rack → Rack} (h : SameFactors s.rack (f s.cond s.rack)) :
    LooksUpOrHolds s (s.moveRack f) :=
  s.moveRack_factors (h.heldOrLookedUp _)

theorem State.moveRack_factors_of_channels (s : State) {f : Conditions → Rack → Rack}
    (h : (f s.cond s.rack).channels = s.rack.channels) : LooksUpOrHolds s (s.moveRack f) :=
  s.moveRack_factors_of_same (.of_channels h)

theorem State.raiseToArms_channels (s : State) (cause : Cause) (arms : List ArmId) :
    (s.raiseToArms cause arms).rack.channels = s.rack.channels := by
  simp [State.raiseToArms, State.moveRack]

/-- An expiry that is due moves the rack; one that is not leaves the state (assumption 5). -/
theorem LooksUpOrHolds.of_due {p : Prop} [Decidable p] {f : Conditions → Rack → Rack} {s t : State}
    (h : (if p then .next (s.moveRack f) else .next s : Result) = .next t)
    (hf : FactorsHeldOrLookedUp s.cond.cal s.rack (f s.cond s.rack)) : LooksUpOrHolds s t := by
  split at h <;> cases h
  · exact s.moveRack_factors hf
  · exact .of_channels rfl

theorem execPermissiveInputChange_factors {b : BayId} {input : PermissiveInput} {level : Bool} {s t : State}
    (h : execPermissiveInputChange b input level s = .next t) : LooksUpOrHolds s t := by
  unfold execPermissiveInputChange at h
  dsimp only at h
  repeat' split at h
  all_goals cases h
  · exact .of_channels rfl
  · exact .of_channels (State.raiseToArms_channels _ _ _)
  · exact .of_channels rfl

theorem execEmergencyStopInputChange_factors {active : Bool} {s t : State}
    (h : execEmergencyStopInputChange active s = .next t) : LooksUpOrHolds s t := by
  unfold execEmergencyStopInputChange at h
  repeat' split at h
  all_goals cases h
  · exact .of_channels rfl
  · exact .of_channels (State.raiseToArms_channels _ _ _)
  · exact .of_channels rfl

theorem execBadFrame_factors {chars : Text} {s t : State} (h : execBadFrame chars s = .next t) : LooksUpOrHolds s t := by
  unfold execBadFrame at h
  split at h <;> cases h
  · exact .of_channels rfl
  · exact SameFactors.heldOrLookedUp (answerNamed_keepsFactors _ _ { s with link := _ }) _

theorem PanelMove.looksUpOrHolds {s t : State} (h : PanelMove s t) : LooksUpOrHolds s t := by
  obtain ⟨hc, hf⟩ := h
  unfold LooksUpOrHolds
  rw [hc]
  exact hf

theorem execCard_factors {b : BayId} {permit : Nat} {s t : State} (h : execCard b permit s = .next t) :
    LooksUpOrHolds s t := by
  have received : PanelMove s (s.setPanelRx b .fresh) := .of_rack rfl rfl
  unfold execCard at h
  split at h <;> cases h
  · exact (received.trans (State.card_move _ b permit)).looksUpOrHolds
  · exact received.looksUpOrHolds

/-- A request command moves no factor, whatever its owner answers. -/
theorem exec_request_factors {i : Instr} {name : Text} (hn : i.requestName = some name) {s t : State}
    (h : exec i s = .next t) : LooksUpOrHolds s t := by
  obtain ⟨x, hx, -, owner⟩ := exec_owner hn
  rw [owner] at h
  exact (takeRequest_sameFactors (owners_keepFactors x hx _) h).heldOrLookedUp _

/-- One case per event; the requests are one case, through their owners. -/
theorem exec_factors {i : Instr} {s t : State} (h : exec i s = .next t) : LooksUpOrHolds s t := by
  cases i with
  | powerOn inputs => cases h; exact Rack.powerOn_factors s.rack inputs s.retainedCal
  | timebaseTick => cases h; exact (s.rack.tick_sameFactors s.cond.nextTime).heldOrLookedUp _
  | meterPulse a => cases h; exact s.moveRack_factors_of_same (s.rack.pulse_sameFactors s.cond a)
  | rateWindowExpiry a => exact .of_due h (s.rack.endWindow_factors s.cond a)
  | probeReading a x => cases h; exact s.moveRack_factors_of_same (s.rack.reading_sameFactors s.cond a x)
  | stalenessExpiry a => exact .of_due h ((s.rack.staleness_sameFactors s.cond a).heldOrLookedUp _)
  | noFlowTimerExpiry a => exact .of_due h (.of_channels _ (s.rack.noFlow_channels s.cond a))
  | settleTimerExpiry a => exact .of_due h (.of_channels _ (s.rack.becomeQuiet_channels s.cond a))
  | showRepeatTimerExpiry a => exact .of_due h (.of_channels _ (s.rack.repeatShow_channels s.cond a))
  | feedbackFall a slot => exact .of_due h (.of_channels _ (s.rack.feedbackFall_channels s.cond a slot))
  | riseTimerExpiry a slot => exact .of_due h (.of_channels _ (s.rack.strokeOutcome_channels s.cond a slot false))
  | activeTimerExpiry a slot => exact .of_due h (.of_channels _ (s.rack.strokeOutcome_channels s.cond a slot false))
  | feedbackRise a slot =>
    change execFeedbackRise a slot s = _ at h
    unfold execFeedbackRise at h
    split at h <;> cases h
    · exact .of_channels rfl
    · exact s.moveRack_factors_of_channels rfl
  | permissiveInputChange b input level => exact execPermissiveInputChange_factors h
  | emergencyStopInputChange active => exact execEmergencyStopInputChange_factors h
  | calSwitchChange closed => cases h; exact .of_channels rfl
  | badFrame chars => exact execBadFrame_factors h
  | responseSent => cases h; exact .of_channels rfl
  | unknownRequest name fields =>
    exact (takeRequest_sameFactors (answerNamed_keepsFactors name fields) h).heldOrLookedUp _
  | card b permit => exact execCard_factors h
  | start b a => cases h; exact ((PanelMove.of_rack rfl rfl).trans (State.pressStart_move _ b a)).looksUpOrHolds
  | stop b a => cases h; exact ((PanelMove.of_rack rfl rfl).trans (State.pressStop_move _ b a)).looksUpOrHolds
  | panelMessageDiscarded b chars => cases h; exact (panelCharacters_move b chars s).looksUpOrHolds
  | showSent b =>
    change execShowSent b s = _ at h
    unfold execShowSent at h
    split at h <;> cases h
    · exact .of_channels rfl
    · exact s.moveRack_factors_of_channels rfl
  | _ => exact exec_request_factors rfl h

theorem step_factors {s t : State} (h : step s = .next t) : LooksUpOrHolds s t := by
  unfold step at h
  split at h
  · cases h; exact .of_channels rfl
  · exact (exec_factors h :)

/-! ### CAL.COMMIT asks for a usable curve (R32) -/

theorem commitFault_eq_none_iff {r : Rack} {k : Bank} {a : ArmId} :
    commitFault r k a = none ↔ ((r.arm a).inService = true → k.kFactor a ≠ 0 ∧ k.curveUsable a = true) := by
  unfold commitFault
  split <;> rename_i inService
  · split
    · simp_all
    · split <;> simp_all
  · simp [inService]

/-- A CAL.COMMIT leaves the state, or finds no fault in the standby bank and commits it (R32, R33). -/
theorem answerCalCommit_cases (fields : List Text) (s : State) :
    (answerCalCommit fields s).1 = s ∨
      (∀ a, commitFault s.rack (s.cond.cal.bank s.cond.cal.standby) a = none) ∧
        (answerCalCommit fields s).1.cond.cal = s.cond.cal.commit := by
  unfold answerCalCommit
  split
  · exact .inl rfl
  · cases fields with
    | cons t rest => exact .inl rfl
    | nil =>
      rw [noFields_nil]
      unfold calCommit
      split
      · exact .inl rfl
      · rename_i faultless
        exact .inr ⟨fun a => List.findSome?_eq_none_iff.1 faultless a (mem_allArms a), rfl⟩

/-- A step that commits leaves a usable curve to every arm in service. -/
theorem execCalCommit_curveUsable {fields : List Text} {s t : State} (h : exec (.calCommit fields) s = .next t)
    (committed : t.cond.cal.active ≠ s.cond.cal.active) {a : ArmId} (inService : (s.rack.arm a).inService = true) :
    (t.cond.cal.bank t.cond.cal.active).curveUsable a = true := by
  rcases takeRequest_cases (txt "CAL.COMMIT") fields (answerCalCommit fields) s with discarded | ⟨-, -, taken⟩
  · cases discarded.symm.trans h
    exact absurd rfl committed
  · cases taken.symm.trans h
    rcases answerCalCommit_cases fields { s with link := s.link.toHunt } with same | ⟨faultless, cal⟩
    · exact absurd (by rw [same]) committed
    · dsimp only
      rw [cal]
      exact (commitFault_eq_none_iff.1 (faultless a) inService).2

/-! ### ARM.SERVICE reads the K-factor alone (R122) -/

/-- A state with another calibration store. -/
def State.withCal (s : State) (cal : CalStore) : State := { s with cond := { s.cond with cal := cal } }

/-- A change of arm state reads the time of the conditions and no calibration. -/
theorem Rack.setState_withCal (c : Conditions) (cal : CalStore) (a : ArmId) (new : ArmState) (r : Rack) :
    r.setState { c with cal := cal } a new = r.setState c a new := (rfl)

theorem Rack.enterIdle_withCal (c : Conditions) (cal : CalStore) (a : ArmId) (r : Rack) :
    r.enterIdle { c with cal := cal } a = r.enterIdle c a := by
  unfold Rack.enterIdle
  simp only [Rack.setState_withCal]

theorem okRack_withCal {f : Conditions → Rack → Rack} {s : State} {cal : CalStore} (fields : OkFields)
    (hf : f { s.cond with cal := cal } s.rack = f s.cond s.rack) :
    okRack f fields (s.withCal cal) = ((okRack f fields s).1.withCal cal, (okRack f fields s).2) := by
  simp [State.withCal, hf]

theorem serviceOut_withCal (a : ArmId) (s : State) (cal : CalStore) :
    serviceOut a (s.withCal cal) = ((serviceOut a s).1.withCal cal, (serviceOut a s).2) := by
  have rack : (s.withCal cal).rack = s.rack := rfl
  unfold serviceOut
  rw [rack]
  cases (s.rack.arm a).state
  case idle => exact okRack_withCal _ (Rack.setState_withCal s.cond cal a _ s.rack)
  all_goals rfl

theorem serviceIn_withCal (a : ArmId) (s : State) {cal : CalStore}
    (h : (cal.bank cal.active).kFactor a = (s.cond.cal.bank s.cond.cal.active).kFactor a) :
    serviceIn a (s.withCal cal) = ((serviceIn a s).1.withCal cal, (serviceIn a s).2) := by
  have rack : (s.withCal cal).rack = s.rack := rfl
  have cond : (s.withCal cal).cond = { s.cond with cal := cal } := rfl
  unfold serviceIn
  rw [rack, cond, h, Rack.enterIdle_withCal]
  split
  · rfl
  · split
    · rfl
    · split
      · rfl
      · exact okRack_withCal _ (Rack.enterIdle_withCal s.cond cal a s.rack)

theorem answerArmService_withCal (fields : List Text) (s : State) {cal : CalStore}
    (h : ∀ a, (cal.bank cal.active).kFactor a = (s.cond.cal.bank s.cond.cal.active).kFactor a) :
    answerArmService fields (s.withCal cal) = ((answerArmService fields s).1.withCal cal, (answerArmService fields s).2) := by
  unfold answerArmService
  cases serviceItems fields with
  | error key => rfl
  | ok items =>
    simp only [withItems_ok, armService]
    split
    · exact serviceIn_withCal _ s (h _)
    · exact serviceOut_withCal _ s cal

/-- A request whose owner's answer does not tell two stores apart does the same with either. -/
theorem takeRequest_withCal {name : Text} {fields : List Text} {answer : Answer} {s t : State} {cal : CalStore}
    (ha : answer ({ s with link := s.link.toHunt }.withCal cal) =
      ((answer { s with link := s.link.toHunt }).1.withCal cal, (answer { s with link := s.link.toHunt }).2))
    (h : takeRequest name fields answer s = .next t) :
    takeRequest name fields answer (s.withCal cal) = .next (t.withCal cal) := by
  have link : (s.withCal cal).link = s.link := rfl
  unfold takeRequest at h ⊢
  rw [link]
  split at h <;> cases h
  · rw [if_pos ‹_›]
    have hunted : { s.withCal cal with link := s.link.toHunt } = { s with link := s.link.toHunt }.withCal cal := rfl
    rw [hunted, ha]
    rfl
  · rw [if_neg ‹_›]
    rfl

/-- Settles O12: the cases of `Bank.curve`, the three places where a factor is looked up, and the checks of CAL.COMMIT and
ARM.SERVICE. -/
theorem lookupChoosesPage : Obligations.LookupChoosesPage := by
  unfold Obligations.LookupChoosesPage
  refine ⟨?page, ?window, ?held, ?commit, ?service⟩
  case page =>
    intro k a rate
    exact ⟨fun own => k.factorAt_own own rate, fun own zero => k.factorAt_pageZero own zero rate,
      fun own zero => k.factorAt_uncorrected own zero rate⟩
  case window =>
    intro a s due
    exact ⟨_, execRateWindowExpiry_due due, by simp [State.moveRack, Channel.endWindow]⟩
  case held =>
    intro s t a h
    exact step_factors h a
  case commit =>
    intro s t fields a h committed inService
    exact Bank.curveUsable_iff.1 (execCalCommit_curveUsable h committed inService)
  case service =>
    intro s t fields cal active kFactors h
    exact takeRequest_withCal (answerArmService_withCal fields { s with link := s.link.toHunt }
      (fun a => by rw [active]; exact kFactors _ a)) h

end Sys2Proof.Machine
end

section
/-! PROOF. A frame of one plain field as its form check reads it (R181), the notes read under the width held (R169, R170, R173), and
RACK.NOTEFORMAT (R185). -/

namespace Sys2Proof.Machine

/-! ### A field's text taken apart (R181) -/

theorem before_of_notMem {sep : Char} {t : Text} (h : sep ∉ t) : before sep t = t := by
  rw [before, List.takeWhile_eq_self_iff]
  intro c hc
  exact bne_iff_ne.2 (ne_of_mem_of_not_mem hc h)

theorem before_append_cons {sep : Char} {t : Text} (h : sep ∉ t) (v : Text) : before sep (t ++ sep :: v) = t := by
  have all : ∀ c ∈ t, (c != sep) = true := fun c hc => bne_iff_ne.2 (ne_of_mem_of_not_mem hc h)
  rw [before, List.takeWhile_append_of_pos all]
  simp

theorem behind_of_notMem {sep : Char} {t : Text} (h : sep ∉ t) : behind sep t = none := by
  induction t with
  | nil => rfl
  | cons c cs ih =>
    rw [List.mem_cons, not_or] at h
    obtain ⟨hc, hcs⟩ := h
    rw [behind, if_neg (Ne.symm hc), ih hcs]

theorem behind_append_cons {sep : Char} {t : Text} (h : sep ∉ t) (v : Text) : behind sep (t ++ sep :: v) = some v := by
  induction t with
  | nil => simp [behind]
  | cons c cs ih =>
    rw [List.mem_cons, not_or] at h
    obtain ⟨hc, hcs⟩ := h
    rw [List.cons_append, behind, if_neg (Ne.symm hc), ih hcs]

/-- A key without separators is the name of a field without index. -/
theorem RawField.ofText_plain {key : Text} (he : '=' ∉ key) (hs : '.' ∉ key) (v : Text) :
    RawField.ofText (key ++ '=' :: v) = { key := key, name := key, index := none, value := some v } := by
  simp only [RawField.ofText, before_append_cons he, before_of_notMem hs, behind_of_notMem hs, behind_append_cons he]

/-! ### A request whose frame carries its one plain field -/

section OneField

variable {name : String} {form : ValueForm} {v : Text} (he : '=' ∉ txt name) (hs : '.' ∉ txt name)

/-- A plain field with a value, as an item. -/
def plainItem (name : String) (value : Option FieldValue) : Item :=
  { key := txt name, name := txt name, index := 0, value := value }

theorem natAt?_plainItem (name : String) (n : Nat) : natAt? [plainItem name (some (.nat n))] name 0 = some n := by
  simp [natAt?, itemValue, lastItem, plainItem]

include he hs

theorem readItem_plainField :
    readItem [plainField name form] (txt name ++ '=' :: v) = some (plainItem name (readValue form (some v))) := by
  unfold readItem
  rw [RawField.ofText_plain he hs]
  simp [plainField, plainItem, IndexForm.read]

theorem checkPlain_one_ok {x : FieldValue} (hx : readValue form (some v) = some x) :
    checkPlain [plainField name form] [] [txt name ++ '=' :: v] = .ok [plainItem name (some x)] := by
  have item := readItem_plainField (form := form) (v := v) he hs
  rw [hx] at item
  simp [checkPlain, checkForm, knownItems, firstBad, firstMissing, item, plainItem]

theorem checkPlain_one_error (hx : readValue form (some v) = none) :
    checkPlain [plainField name form] [] [txt name ++ '=' :: v] = .error (txt name) := by
  have item := readItem_plainField (form := form) (v := v) he hs
  rw [hx] at item
  simp [checkPlain, checkForm, firstBad, item, plainItem, keyOf, RawField.ofText_plain he hs]

end OneField

/-! ### Numbers and widths (section 11.8, R185) -/

/-- What is read as digits holds no other character: in a number the `<` of R181 cannot stand. -/
theorem notMem_of_readDigits {acc n : Nat} {t : Text} {c : Char} (hc : digitValue c = none) (h : readDigits acc t = some n) :
    c ∉ t := by
  induction t generalizing acc with
  | nil => simp
  | cons d ds ih =>
    rw [readDigits] at h
    cases hd : digitValue d with
    | none => rw [hd] at h; cases h
    | some k =>
      rw [hd] at h
      have hne : c ≠ d := by
        rintro rfl
        cases hc.symm.trans hd
      exact List.not_mem_cons_of_ne_of_not_mem hne (ih h)

theorem notMem_of_readNat {n : Nat} {t : Text} {c : Char} (hc : digitValue c = none) (h : readNat t = some n) : c ∉ t := by
  unfold readNat at h
  split at h
  · cases h
  · exact notMem_of_readDigits hc h

theorem readValue_width {v : Text} {w : Nat} (hv : readNat v = some w) (hw : w ∈ [0, 16, 32, 48, 64]) :
    readValue .width (some v) = some (.nat w) := by
  have clean : '<' ∉ v := notMem_of_readNat (by decide) hv
  simp only [readValue, ValueForm.read, hv]
  rw [if_neg (by simpa using clean), if_pos hw]

theorem readValue_width_none {v : Text} (h : ∀ w, readNat v = some w → w ∉ [0, 16, 32, 48, 64]) :
    readValue .width (some v) = none := by
  simp only [readValue, ValueForm.read]
  split
  · rfl
  · split
    · rw [if_neg (h _ ‹_›)]
    · rfl

/-! ### What RACK.NOTEFORMAT answers (R185) -/

theorem noteFormatItems_ok {v : Text} {w : Nat} (hv : readNat v = some w) (hw : w ∈ [0, 16, 32, 48, 64]) :
    noteFormatItems [txt "width=" ++ v] = .ok [plainItem "width" (some (.nat w))] :=
  checkPlain_one_ok (name := "width") (by decide) (by decide) (readValue_width hv hw)

theorem noteFormatItems_error {v : Text} (h : ∀ w, readNat v = some w → w ∉ [0, 16, 32, 48, 64]) :
    noteFormatItems [txt "width=" ++ v] = .error (txt "width") :=
  checkPlain_one_error (name := "width") (by decide) (by decide) (readValue_width_none h)

theorem rackNoteFormat_set (w : Nat) (s : State) :
    rackNoteFormat [plainItem "width" (some (.nat w))] s =
      ({ s with cond := { s.cond with noteWidth := w } }, .ok (.widthSet s.cond.noteWidth w)) := by
  simp [rackNoteFormat, natAt?_plainItem]

/-! ### Notes read (R169, R170, R173) -/

/-- The remark of a note is the order's, padded with blanks and cut to the width. -/
theorem fitRemark_eq_take (width : Nat) (remark : Text) :
    fitRemark width remark = (remark ++ List.replicate (width - remark.length) ' ').take width := by
  simp [fitRemark, List.take_append]

theorem noteOf_remark (width : Nat) (o : Order) :
    (noteOf width o).remark = (o.remark ++ List.replicate (width - o.remark.length) ' ').take width :=
  fitRemark_eq_take width o.remark

theorem Rack.mem_orders_of_order? {r : Rack} {n : Nat} {o : Order} (h : r.order? n = some o) : o ∈ r.orders :=
  List.mem_of_find?_eq_some h

/-- Every note an owner answers with is that of an order in the table under the width held. -/
def AnswersNotesHeld (answer : Answer) : Prop :=
  ∀ (s : State) (n : Note) (place count : Nat) (counter : Option Nat),
    (answer s).2 = .ok (.note n place count counter) → ∃ o ∈ s.rack.orders, n = noteOf s.cond.noteWidth o

theorem refuse_notesHeld (status : Status) (named : Named) : AnswersNotesHeld (refuse status named) := by
  intro s n place count counter h
  cases h

theorem noteAnswer_note {counter x : Option Nat} {o : Order} {s : State} {n : Note} {place count : Nat}
    (h : (noteAnswer counter o s).2 = .ok (.note n place count x)) : n = noteOf s.cond.noteWidth o := by
  cases h
  rfl

theorem withItems_notesHeld (checked : Except Text (List Item)) {answer : List Item → Answer}
    (h : ∀ items, AnswersNotesHeld (answer items)) : AnswersNotesHeld (withItems checked answer) := by
  cases checked with
  | error key => exact refuse_notesHeld _ _
  | ok items => exact h items

theorem noteRead_note {o : Order} {s : State} {n : Note} {place count : Nat} {counter : Option Nat}
    (h : (noteRead o s).2 = .ok (.note n place count counter)) : n = noteOf s.cond.noteWidth o := by
  unfold noteRead at h
  cases hs : o.state with
  | complete => rw [hs] at h; exact noteAnswer_note h
  | booked | admitted | void => rw [hs] at h; cases h

theorem answerNoteRead_notesHeld (fields : List Text) : AnswersNotesHeld (answerNoteRead fields) := by
  refine withItems_notesHeld _ (fun items s n place count counter h => ?_)
  cases ho : s.rack.order? (natAt items "order" 0) with
  | none => rw [ho] at h; cases h
  | some o =>
    rw [ho] at h
    exact ⟨o, Rack.mem_orders_of_order? ho, noteRead_note h⟩

theorem answerNoteNext_notesHeld (fields : List Text) : AnswersNotesHeld (answerNoteNext fields) := by
  refine withItems_notesHeld _ (fun items s n place count counter h => ?_)
  unfold noteNext at h
  cases hw : nextWaiting s.rack.notes (natAt? items "after" 0) with
  | error named => rw [hw] at h; cases h
  | ok m =>
    rw [hw] at h
    cases ho : s.rack.order? m with
    | none => simp [ho, refusal] at h
    | some o =>
      simp only [ho] at h
      exact ⟨o, Rack.mem_orders_of_order? ho, noteAnswer_note h⟩

/-- The response that stands in the link is its owner's answer. -/
theorem takeRequest_reply {name : String} {fields : List Text} {answer : Answer} {s : State} {reply : Reply}
    (taken : s.takes name fields) (h : takeRequest (txt name) fields answer s = .next (s.answers name reply)) :
    (answer { s with link := s.link.toHunt }).2 = reply := by
  unfold takeRequest at h
  rw [if_pos taken] at h
  injection h with same
  have response := congrArg (fun t => t.link.response) same
  simp only [State.answers, Link.respond_response, Option.some.injEq, Response.mk.injEq] at response
  obtain ⟨-, replies, -⟩ := response
  exact replies

/-- A note in the response to a request shows the remark in the width held at the read. -/
theorem takeRequest_note {name : String} {fields : List Text} {answer : Answer} (held : AnswersNotesHeld answer) {s : State}
    {n : Note} {place count : Nat} {counter : Option Nat} (taken : s.takes name fields)
    (h : takeRequest (txt name) fields answer s = .next (s.answers name (.ok (.note n place count counter)))) :
    ∃ o ∈ s.rack.orders, n = noteOf s.cond.noteWidth o ∧
      n.remark = (o.remark ++ List.replicate (s.cond.noteWidth - o.remark.length) ' ').take s.cond.noteWidth := by
  obtain ⟨o, ho, rfl⟩ := held _ n place count counter (takeRequest_reply taken h)
  exact ⟨o, ho, rfl, noteOf_remark s.cond.noteWidth o⟩

/-! ### A rack restart leaves the conditions (R185, R186) -/

theorem answerRackRestart_cond (fields : List Text) (s : State) : (answerRackRestart fields s).1.cond = s.cond := by
  cases fields with
  | nil => rfl
  | cons t rest => rfl

theorem execRackRestart_cond {fields : List Text} {s t : State} (h : exec (.rackRestart fields) s = .next t) :
    t.cond = s.cond := by
  rcases takeRequest_cases (txt "RACK.RESTART") fields (answerRackRestart fields) s with discarded | ⟨-, -, taken⟩
  · cases discarded.symm.trans h
    rfl
  · cases taken.symm.trans h
    exact answerRackRestart_cond fields { s with link := s.link.toHunt }

/-- Settles O24: the form check of the one field gives the three answers of RACK.NOTEFORMAT; NOTE.READ and NOTE.NEXT form their note
under the width held. -/
theorem noteFormatSetsWidth : Obligations.NoteFormatSetsWidth := by
  unfold Obligations.NoteFormatSetsWidth
  refine ⟨?read, ?width, ?noteRead, ?noteNext, ?powerOn, ?restart⟩
  case read =>
    intro s taken
    exact takeRequest_taken taken rfl rfl
  case width =>
    intro s v taken
    constructor
    · intro w hv hw
      refine takeRequest_taken taken ?_ rfl
      rw [answerRackNoteFormat, noteFormatItems_ok hv hw, withItems_ok, rackNoteFormat_set]
    · intro bad
      refine takeRequest_taken taken ?_ rfl
      rw [answerRackNoteFormat, noteFormatItems_error bad, withItems_error, badField_apply]
  case noteRead =>
    intro s fields n place count counter taken h
    exact takeRequest_note (answerNoteRead_notesHeld fields) taken h
  case noteNext =>
    intro s fields n place count counter taken h
    exact takeRequest_note (answerNoteNext_notesHeld fields) taken h
  case powerOn =>
    intro inputs s t h
    cases h
    rfl
  case restart =>
    intro s t fields h
    rw [execRackRestart_cond h]

end Sys2Proof.Machine
end

section
/-! PROOF. What a step can do, said once: every command of the table but POWER_ON has one of the effects listed here, and every invariant
of the rack is proved from this list. -/

namespace Sys2Proof.Machine

/-! ### The moves of the rack -/

/-- What one event or one accepted request can do to the rack under the conditions as they stand, with what its checks have made sure
of. -/
inductive RackMove (c : Conditions) : Rack → Rack → Prop
  | same (r : Rack) : RackMove c r r
  | trans {r s t : Rack} : RackMove c r s → RackMove c s t → RackMove c r t
  | pump (r : Rack) : RackMove c r r.pump
  | pulse (r : Rack) (a : ArmId) : RackMove c r (r.pulse c a)
  | endWindow (r : Rack) (a : ArmId) : RackMove c r (r.modChannel a (Channel.endWindow c (effectiveBank c r a) a))
  | reading (r : Rack) (a : ArmId) (x : Reading) : RackMove c r (r.reading c a x)
  | staleness (r : Rack) (a : ArmId) : RackMove c r (r.staleness c a)
  | noFlow (r : Rack) (a : ArmId) : RackMove c r (r.noFlow c a)
  | becomeQuiet (r : Rack) (a : ArmId) : RackMove c r (r.becomeQuiet c a)
  | repeatShow (r : Rack) (a : ArmId) : RackMove c r (r.repeatShow c a)
  | rise (r : Rack) (a : ArmId) (n : SlotId) : RackMove c r (r.modInjector a n (Injector.rise c))
  | fall (r : Rack) (a : ArmId) (n : SlotId) : RackMove c r (r.feedbackFall c a n)
  | missed (r : Rack) (a : ArmId) (n : SlotId) (inFlight : (r.injector a n).phase ≠ .none) :
      RackMove c r (r.strokeOutcome c a n false)
  | answerBay (r : Rack) (b : BayId) (reason : Option PanelReason) : RackMove c r (r.answerBay b reason)
  | startArm (r : Rack) (a : ArmId) : RackMove c r (r.startArm c a)
  | stopFromPanel (r : Rack) (a : ArmId) : RackMove c r (r.stopFromPanel c a)
  | cardAt (r : Rack) (b : BayId) (permit : Nat) : RackMove c r (r.cardAt c b permit)
  | sent (r : Rack) (b : BayId) : RackMove c r (r.modPanel b Panel.sent)
  | permits (r : Rack) (f : Permit → Permit) (kept : ∀ p, (f p).number = p.number ∧ (f p).admittedBay = p.admittedBay) :
      RackMove c r { r with permits := r.permits.map f }
  | newPermit (r : Rack) (p : Permit) (absent : r.permit? p.number = none) (free : p.admittedBay = none) :
      RackMove c r { r with permits := r.permits ++ [p] }
  | retirePermit (r : Rack) (n : Nat) (unnamed : ∀ o ∈ r.orders, o.permit ≠ n) :
      RackMove c r { r with permits := r.permits.filter (fun x => decide (x.number ≠ n)) }
  | suspendAdmitted (r : Rack) (b : BayId) : RackMove c r (r.suspendAdmitted c b)
  | units (r : Rack) (us : List VehicleUnit) : RackMove c r { r with units := us }
  | accounts (r : Rack) (f : Account → Account) (kept : ∀ x, (f x).number = x.number ∧ (f x).reserved = x.reserved) :
      RackMove c r { r with accounts := r.accounts.map f }
  | newAccount (r : Rack) (x : Account) (absent : r.account? x.number = none) (unreserved : x.reserved = 0) :
      RackMove c r { r with accounts := r.accounts ++ [x] }
  | closeAccount (r : Rack) (x : Account) (found : r.account? x.number = some x) (unreserved : x.reserved = 0) :
      RackMove c r { r with accounts := r.accounts.filter (fun y => decide (y.number ≠ x.number)) }
  | lowMark (r : Rack) (x : AdditiveId) (n : Nat) : RackMove c r (r.modAdditive x (Additive.withLow n))
  | refill (r : Rack) (x : AdditiveId) (n : Nat) : RackMove c r (r.modAdditive x (Additive.refill n))
  | book (r : Rack) (k : Booking) (passed : bookRefusal c r k = none) (numbered : (k.lines.map (fun l => l.number)).Nodup) :
      RackMove c r (r.book c k)
  | amend (r : Rack) (o : Order) (l : Line) (new : Nat) (order : r.order? o.number = some o) (line : o.line? l.number = some l)
      (passed : amendRefusal r o l new = none) : RackMove c r (r.amend o l new)
  | cancelOrder (r : Rack) (o : Order) (order : r.order? o.number = some o) (live : o.state = .booked ∨ o.state = .admitted) :
      RackMove c r (r.cancelOrder c o)
  | testOrder (r : Rack) (n : Nat) : RackMove c r (r.testOrder c n)
  | retireOrder (r : Rack) (o : Order) (order : r.order? o.number = some o) (ended : o.state = .complete ∨ o.state = .void) :
      RackMove c r (r.retireOrder o.number)
  | configure (r : Rack) (a : ArmId) (k : ArmConfig) (differ : k.slotsDiffer)
      (still : (r.arm a).state = .idle ∨ (r.arm a).state = .outOfService) : RackMove c r (r.configure a k)
  | serviceOut (r : Rack) (a : ArmId) (still : (r.arm a).state = .idle) : RackMove c r (r.setState c a .outOfService)
  | returnState (r : Rack) (a : ArmId) : RackMove c r (r.modArm a (fun x => { x with returnState := some .outOfService }))
  | serviceIn (r : Rack) (a : ArmId) (still : (r.arm a).state = .outOfService) : RackMove c r (r.enterIdle c a)
  | clearArm (r : Rack) (a : ArmId)
      (still : (r.arm a).state = .alarm ∨ (r.arm a).state = .idle ∨ (r.arm a).state = .outOfService) :
      RackMove c r (r.clearArm c a)
  | setCapacity (r : Rack) (h : HeaderId) (cap : Nat) : RackMove c r (setCapacity c h cap r).1
  | restart (r : Rack) (arms : List ArmId) (all : arms.Perm allArms) : RackMove c r (r.restart c arms)

/-! ### The effects of a command -/

/-- The conditions that flow depends on and the calibration are as they were. -/
def Conditions.SafetyKept (c c' : Conditions) : Prop :=
  c'.cal = c.cal ∧ c'.mode = c.mode ∧ c'.ground = c.ground ∧ c'.overfill = c.overfill

theorem Conditions.SafetyKept.refl (c : Conditions) : c.SafetyKept c := ⟨rfl, rfl, rfl, rfl⟩

/-- What a command other than POWER_ON can do to the conditions, to the calibration a loss of supply may bring back, and to the
rack. -/
inductive Effects (c : Conditions) (before : Option CalStore) (r : Rack) : Conditions → Option CalStore → Rack → Prop
  | moves {c' : Conditions} {before' : Option CalStore} {r' : Rack} (move : RackMove c r r') (kept : c.SafetyKept c')
      (undo : before' = before ∨ before' = none) : Effects c before r c' before' r'
  | tick : Effects c before r { c with time := c.nextTime } before (r.tick c.nextTime)
  | resume (inactive : c.emergencyStop = false) : Effects c before r { c with mode := .normal } before r
  | input (b : BayId) (input : PermissiveInput) (level : Bool)
      (unblocked : c.permitted b = true → (c.setInput b input level).permitted b = true) :
      Effects c before r (c.setInput b input level) before r
  | blocked (b : BayId) (input : PermissiveInput) (level : Bool) (arms : List ArmId) (all : arms.Perm (armsOfBay b)) :
      Effects c before r (c.setInput b input level) before (raiseCauses (c.setInput b input level) .permissive arms r).pump
  | halted (arms : List ArmId) (all : arms.Perm allArms) :
      Effects c before r (c.setEmergencyStop true).halt before (raiseCauses (c.setEmergencyStop true).halt .halt arms r).pump
  | written (fields : List Text) (items : List Item) (closed : c.calClosed = true)
      (formed : checkForm calWriteForms true (fun _ _ => false) (fun _ => []) fields = .ok items)
      (unused : r.bankUsers c.cal.standby = 0) :
      Effects c before r { c with cal := c.cal.writeStandby items } (some c.cal) r
  | committed (closed : c.calClosed = true) : Effects c before r { c with cal := c.cal.commit } (some c.cal) r

/-- From one state to another by one effect. -/
abbrev Effect (s t : State) : Prop := Effects s.cond s.calBefore s.rack t.cond t.calBefore t.rack

theorem Effect.of_move {s t : State} (move : RackMove s.cond s.rack t.rack) (hc : t.cond = s.cond) (hb : t.calBefore = s.calBefore) :
    Effect s t :=
  .moves move (hc ▸ .refl _) (.inl hb)

/-- Conditions, calibration and rack are as they were. -/
theorem Effect.of_same {s t : State} (hc : t.cond = s.cond) (hb : t.calBefore = s.calBefore) (hr : t.rack = s.rack) : Effect s t :=
  .of_move (hr ▸ .same _) hc hb

theorem Effect.moveRack {s : State} {f : Conditions → Rack → Rack} (move : RackMove s.cond s.rack (f s.cond s.rack)) :
    Effect s (s.moveRack f) :=
  .of_move (move.trans (.pump _)) rfl rfl

/-! ### The common answers -/

/-- An owner's answer has one of the effects. -/
def Answer.Acts (answer : Answer) : Prop := ∀ s, Effect s (answer s).1

theorem answer_same_acts {answer : Answer} (h : ∀ s, (answer s).1 = s) : Answer.Acts answer := by
  intro s
  rw [h s]
  exact .of_same rfl rfl rfl

theorem refuse_acts (status : Status) (named : Named) : Answer.Acts (refuse status named) := answer_same_acts (fun _ => rfl)

theorem refuseWith_acts (status : Status) : Answer.Acts (refuseWith status) := refuse_acts status .nothing

theorem answerOk_acts (fields : OkFields) : Answer.Acts (answerOk fields) := answer_same_acts (fun _ => rfl)

theorem okTables_acts {s : State} {f : Rack → Rack} {fields : OkFields} (move : RackMove s.cond s.rack (f s.rack)) :
    Effect s (okTables f fields s).1 :=
  .of_move move rfl rfl

theorem okRack_acts {s : State} {f : Conditions → Rack → Rack} {fields : OkFields} (move : RackMove s.cond s.rack (f s.cond s.rack)) :
    Effect s (okRack f fields s).1 :=
  .moveRack move

theorem okConditions_acts {s : State} {f : Conditions → Conditions} {fields : OkFields} (kept : s.cond.SafetyKept (f s.cond)) :
    Effect s (okConditions f fields s).1 :=
  .moves (.same _) kept (.inl rfl)

theorem withItems_acts (checked : Except Text (List Item)) {answer : List Item → Answer}
    (h : ∀ items, checked = .ok items → (answer items).Acts) : (withItems checked answer).Acts := by
  cases checked with
  | error key => exact refuse_acts _ _
  | ok items => exact h items rfl

theorem noFields_acts (fields : List Text) {answer : Answer} (h : answer.Acts) : (noFields fields answer).Acts := by
  cases fields with
  | nil => exact h
  | cons t rest => exact refuse_acts _ _

/-! ### Records found under their number -/

theorem Rack.permit_number {r : Rack} {n : Nat} {p : Permit} (h : r.permit? n = some p) : p.number = n := by
  simpa using List.find?_some h

theorem Rack.unit_number {r : Rack} {n : Nat} {u : VehicleUnit} (h : r.unit? n = some u) : u.number = n := by
  simpa using List.find?_some h

theorem Rack.account_number {r : Rack} {n : Nat} {x : Account} (h : r.account? n = some x) : x.number = n := by
  simpa using List.find?_some h

theorem Rack.order_number {r : Rack} {n : Nat} {o : Order} (h : r.order? n = some o) : o.number = n := by
  simpa using List.find?_some h

theorem Order.line_number {o : Order} {n : Nat} {l : Line} (h : o.line? n = some l) : l.number = n := by
  simpa using List.find?_some h

/-- Changing the permit of a number keeps numbers and bays when the change does. -/
theorem RackMove.modPermit {c : Conditions} (r : Rack) (n : Nat) (f : Permit → Permit)
    (kept : ∀ p, (f p).number = p.number ∧ (f p).admittedBay = p.admittedBay) : RackMove c r (r.modPermit n f) := by
  refine .permits r _ (fun p => ?_)
  split
  · exact kept p
  · exact ⟨rfl, rfl⟩

theorem RackMove.modAccount {c : Conditions} (r : Rack) (n : Nat) (f : Account → Account)
    (kept : ∀ x, (f x).number = x.number ∧ (f x).reserved = x.reserved) : RackMove c r (r.modAccount n f) := by
  refine .accounts r _ (fun x => ?_)
  split
  · exact kept x
  · exact ⟨rfl, rfl⟩

/-! ### Calibration (chapter 2) -/

theorem answerCalWrite_acts (fields : List Text) : (answerCalWrite fields).Acts := by
  intro s
  unfold answerCalWrite
  split
  · exact refuseWith_acts _ s
  · split
    · exact refuseWith_acts _ s
    · rename_i switch _
      cases formed : checkForm calWriteForms true (fun _ _ => false) (fun _ => []) fields with
      | error key => exact refuse_acts _ _ s
      | ok items =>
        rw [withItems_ok]
        split
        · exact refuseWith_acts _ s
        · rename_i unused
          exact .written fields items (by simpa using switch) formed (by omega)

theorem answerCalRead_acts (fields : List Text) : (answerCalRead fields).Acts :=
  fun s => withItems_acts _ (fun _ _ => answerOk_acts _) s

theorem calCommit_acts {s : State} (closed : s.cond.calClosed = true) : Effect s (calCommit s).1 := by
  unfold calCommit
  split
  · exact refuse_acts _ _ s
  · exact .committed closed

theorem answerCalCommit_acts (fields : List Text) : (answerCalCommit fields).Acts := by
  intro s
  unfold answerCalCommit
  split
  · exact refuseWith_acts _ s
  · rename_i switch
    cases fields with
    | nil => exact calCommit_acts (by simpa using switch)
    | cons t rest => exact refuse_acts _ _ s

/-! ### Permits, units, accounts (chapters 3 and 4) -/

theorem onPermit_acts (fields : List Text) {answer : Permit → Answer}
    (h : ∀ (s : State) (p : Permit), s.rack.permit? p.number = some p → Effect s (answer p s).1) : (onPermit fields answer).Acts := by
  refine withItems_acts _ (fun items _ s => ?_)
  split
  · rename_i p found
    exact h s p (Rack.permit_number found ▸ found)
  · exact refuseWith_acts _ s

theorem permitPut_acts (items : List Item) : (permitPut items).Acts := by
  intro s
  unfold permitPut
  split
  · exact okTables_acts (.modPermit _ _ _ (fun _ => ⟨rfl, rfl⟩))
  · split
    · exact refuseWith_acts _ s
    · exact okTables_acts (.newPermit _ _ ‹_› rfl)

theorem suspendPermit_move (c : Conditions) (p : Permit) (r : Rack) : RackMove c r (r.suspendPermit c p) := by
  have suspended : RackMove c r (r.modPermit p.number (fun x => { x with suspended := true })) :=
    .modPermit _ _ _ (fun _ => ⟨rfl, rfl⟩)
  unfold Rack.suspendPermit
  split
  · exact suspended.trans (.suspendAdmitted _ _)
  · exact suspended

theorem permitSuspend_acts (p : Permit) : (permitSuspend p).Acts := by
  intro s
  unfold permitSuspend
  split
  · exact answerOk_acts _ s
  · exact okRack_acts (suspendPermit_move _ p _)

theorem permitReinstate_acts (p : Permit) : (permitReinstate p).Acts :=
  fun _ => okTables_acts (.modPermit _ _ _ (fun _ => ⟨rfl, rfl⟩))

theorem permitRetire_acts (p : Permit) : (permitRetire p).Acts := by
  intro s
  unfold permitRetire
  split
  · exact refuseWith_acts _ s
  · rename_i unnamed
    refine okTables_acts (.retirePermit _ _ (fun o ho hn => unnamed ?_))
    exact List.length_pos_of_mem (List.mem_filter.mpr ⟨ho, decide_eq_true hn⟩)

theorem onUnit_acts (fields : List Text) {answer : VehicleUnit → Answer} (h : ∀ u, (answer u).Acts) :
    (onUnit fields answer).Acts := by
  refine withItems_acts _ (fun items _ s => ?_)
  split
  · exact h _ s
  · exact refuseWith_acts _ s

theorem unitPut_acts (items : List Item) : (unitPut items).Acts := by
  intro s
  unfold unitPut
  split
  · split
    · exact refuseWith_acts _ s
    · exact okTables_acts (.units _ _)
  · split
    · exact refuseWith_acts _ s
    · exact okTables_acts (.units _ _)

theorem unitClean_acts (u : VehicleUnit) : (unitClean u).Acts := by
  unfold unitClean
  split
  · exact refuseWith_acts _
  · exact fun _ => okTables_acts (.units _ _)

theorem unitRetire_acts (u : VehicleUnit) : (unitRetire u).Acts := by
  intro s
  unfold unitRetire
  split
  · exact refuseWith_acts _ s
  · exact okTables_acts (.units _ _)

theorem onAccountOf_acts (items : List Item) {answer : Account → Answer}
    (h : ∀ (s : State) (x : Account), s.rack.account? x.number = some x → Effect s (answer x s).1) :
    (onAccountOf items answer).Acts := by
  intro s
  unfold onAccountOf
  split
  · rename_i x found
    exact h s x (Rack.account_number found ▸ found)
  · exact refuseWith_acts _ s

theorem onAccount_acts (fields : List Text) {answer : Account → Answer}
    (h : ∀ (s : State) (x : Account), s.rack.account? x.number = some x → Effect s (answer x s).1) :
    (onAccount fields answer).Acts :=
  withItems_acts _ (fun items _ => onAccountOf_acts items h)

theorem accountPut_acts (items : List Item) : (accountPut items).Acts := by
  intro s
  unfold accountPut
  split
  · split
    · exact refuseWith_acts _ s
    · exact okTables_acts (.modAccount _ _ _ (fun _ => ⟨rfl, rfl⟩))
  · split
    · exact refuseWith_acts _ s
    · exact okTables_acts (.newAccount _ _ ‹_› rfl)

theorem accountCredit_acts (amount : Int) (x : Account) : (accountCredit amount x).Acts :=
  fun _ => okTables_acts (.modAccount _ _ _ (fun _ => ⟨rfl, rfl⟩))

theorem accountSetHeld_acts (held : Bool) (x : Account) : (accountSetHeld held x).Acts :=
  fun _ => okTables_acts (.modAccount _ _ _ (fun _ => ⟨rfl, rfl⟩))

theorem accountClose_acts {s : State} {x : Account} (found : s.rack.account? x.number = some x) : Effect s (accountClose x s).1 := by
  unfold accountClose
  split
  · exact refuseWith_acts _ s
  · exact okTables_acts (.closeAccount _ _ found (by omega))

/-! ### Orders (chapter 5) -/

theorem onOrder_acts (fields : List Text) {answer : Order → Answer}
    (h : ∀ (s : State) (o : Order), s.rack.order? o.number = some o → Effect s (answer o s).1) : (onOrder fields answer).Acts := by
  refine withItems_acts _ (fun items _ s => ?_)
  split
  · rename_i o found
    exact h s o (Rack.order_number found ▸ found)
  · exact refuseWith_acts _ s

theorem orderBook_acts {k : Booking} (numbered : (k.lines.map (fun l => l.number)).Nodup) : (orderBook k).Acts := by
  intro s
  unfold orderBook
  split
  · exact .of_same rfl rfl rfl
  · exact okTables_acts (.book _ _ ‹_› numbered)

/-- The lines of a booking are numbered from 1 on. -/
theorem bookingOf_numbered (items : List Item) : ((bookingOf items).lines.map (fun l => l.number)).Nodup := by
  simp only [bookingOf, List.map_map]
  exact List.nodup_range.map (fun _ _ same => Nat.succ.inj same)

theorem orderAmend_acts (items : List Item) : (orderAmend items).Acts := by
  intro s
  unfold orderAmend
  split
  · exact refuse_acts _ _ s
  · rename_i o order
    split
    · exact refuse_acts _ _ s
    · rename_i l line
      split
      · exact .of_same rfl rfl rfl
      · exact okTables_acts
          (.amend _ _ _ _ (Rack.order_number order ▸ order) (Order.line_number line ▸ line) ‹_›)

theorem orderCancel_acts {s : State} {o : Order} (order : s.rack.order? o.number = some o) : Effect s (orderCancel o s).1 := by
  unfold orderCancel
  cases state : o.state with
  | complete => exact refuseWith_acts _ s
  | void => exact refuseWith_acts _ s
  | booked => exact okRack_acts (.trans (.cancelOrder _ o order (.inl state)) (.testOrder _ _))
  | admitted => exact okRack_acts (.cancelOrder _ o order (.inr state))

theorem orderRetire_acts {s : State} {o : Order} (order : s.rack.order? o.number = some o) : Effect s (orderRetire o s).1 := by
  unfold orderRetire
  cases state : o.state with
  | booked => exact refuseWith_acts _ s
  | admitted => exact refuseWith_acts _ s
  | complete => exact okTables_acts (.retireOrder _ o order (.inl state))
  | void => exact okTables_acts (.retireOrder _ o order (.inr state))

theorem noteNext_acts (items : List Item) : (noteNext items).Acts := by
  intro s
  unfold noteNext
  split
  · exact refuse_acts _ _ s
  · split
    · exact answerOk_acts _ s
    · exact refuseWith_acts _ s

theorem noteRead_acts (o : Order) : (noteRead o).Acts := by
  unfold noteRead
  split
  · exact fun s => answerOk_acts _ s
  all_goals exact refuse_acts _ _

/-! ### Arms and headers (chapters 6 and 7) -/

theorem mem_allSlots (n : SlotId) : n ∈ allSlots := by revert n; decide

/-- Check 3 of ARM.PUT passed: no two slots name one additive (R101). -/
theorem slotsDiffer_of_checked {k : ArmConfig} (h : allSlots.findSome? (slotAdditiveBad k) = none) : k.slotsDiffer := by
  have lower : ∀ n m : SlotId, m < n → k.additiveAt n ≠ none → k.additiveAt m ≠ k.additiveAt n := by
    intro n m less named same
    have passed := List.findSome?_eq_none_iff.mp h n (mem_allSlots n)
    have repeated : allSlots.any (fun t => decide (t < n) && decide (k.additiveAt t = k.additiveAt n)) = true :=
      List.any_eq_true.mpr ⟨m, mem_allSlots m, by simp [less, same]⟩
    simp [slotAdditiveBad, repeated, Option.isSome_iff_ne_none, named] at passed
  intro n m differ x hx y hy same
  have hn : k.additiveAt n = some x.additive := by simp [ArmConfig.additiveAt, Option.mem_def.mp hx]
  have hm : k.additiveAt m = some x.additive := by simp [ArmConfig.additiveAt, Option.mem_def.mp hy, same]
  rcases lt_or_gt_of_ne differ with less | less
  · exact lower m n less (by simp [hm]) (by rw [hn, hm])
  · exact lower n m less (by simp [hn]) (by rw [hn, hm])

theorem armPut_acts (items : List Item) : (armPut items).Acts := by
  intro s
  unfold armPut
  split
  · exact refuse_acts _ _ s
  · split
    · exact refuse_acts _ _ s
    · split
      · exact okTables_acts (.configure _ _ _ (slotsDiffer_of_checked ‹_›) ‹_›)
      · exact refuseWith_acts _ s

theorem serviceOut_acts (a : ArmId) : (serviceOut a).Acts := by
  intro s
  unfold serviceOut
  split
  · exact okRack_acts (.serviceOut _ _ ‹_›)
  · exact okTables_acts (.returnState _ _)
  · exact answerOk_acts _ s
  all_goals exact refuseWith_acts _ s

theorem serviceIn_acts (a : ArmId) : (serviceIn a).Acts := by
  intro s
  unfold serviceIn
  split
  · exact refuseWith_acts _ s
  · rename_i still
    split
    · exact refuseWith_acts _ s
    · split
      · exact refuseWith_acts _ s
      · exact okRack_acts (.serviceIn _ _ (not_not.mp still))

theorem armService_acts (items : List Item) : (armService items).Acts := by
  unfold armService
  split
  · exact serviceIn_acts _
  · exact serviceOut_acts _

theorem armClear_acts (a : ArmId) : (armClear a).Acts := by
  intro s
  unfold armClear
  split
  · exact okRack_acts (.clearArm _ _ ‹_›)
  · exact refuseWith_acts _ s

theorem rackHeader_acts (items : List Item) : (rackHeader items).Acts := by
  intro s
  unfold rackHeader
  split
  · exact okRack_acts (.setCapacity _ _ _)
  · exact answerOk_acts _ s

/-! ### Recipes and the rack (chapters 8, 9, 11) -/

theorem onRecipe_acts (fields : List Text) {answer : Recipe → Answer} (h : ∀ x, (answer x).Acts) : (onRecipe fields answer).Acts := by
  refine withItems_acts _ (fun items _ s => ?_)
  split
  · exact h _ s
  · exact refuseWith_acts _ s

theorem recipePut_acts (items : List Item) : (recipePut items).Acts := fun _ => okConditions_acts ⟨rfl, rfl, rfl, rfl⟩

theorem recipeRetire_acts (x : Recipe) : (recipeRetire x).Acts := by
  intro s
  unfold recipeRetire
  split
  · exact refuseWith_acts _ s
  · exact okConditions_acts ⟨rfl, rfl, rfl, rfl⟩

theorem rackResume_acts : rackResume.Acts := by
  intro s
  unfold rackResume
  split
  · exact refuseWith_acts _ s
  · rename_i inactive
    exact .resume (Bool.not_eq_true _ ▸ inactive)

theorem rackSetDay_acts (day : Nat) : (rackSetDay day).Acts := by
  intro s
  refine .moves (?_ : RackMove _ _ (if s.cond.day < day then s.rack.clearLoads else s.rack)) ⟨rfl, rfl, rfl, rfl⟩ (.inl rfl)
  split
  · exact .permits _ _ (fun _ => ⟨rfl, rfl⟩)
  · exact .same _

theorem answerRackSwitchTable_acts (fields : List Text) : (answerRackSwitchTable fields).Acts := by
  intro s
  unfold answerRackSwitchTable
  split
  · exact answerOk_acts _ s
  · exact withItems_acts _ (fun _ _ _ => okConditions_acts ⟨rfl, rfl, rfl, rfl⟩) s

theorem rackNoteFormat_acts (items : List Item) : (rackNoteFormat items).Acts := by
  intro s
  unfold rackNoteFormat
  split
  · exact okConditions_acts ⟨rfl, rfl, rfl, rfl⟩
  · exact answerOk_acts _ s

theorem rackRestart_acts : rackRestart.Acts := by
  intro s
  have restarted : RackMove s.cond s.rack (restartedRack s) :=
    .restart s.rack (inFreeOrder s.choice allArms) (inFreeOrder_perm s.choice allArms)
  have answered : (rackRestart s).1 = { s with choice := s.choice + 1, rack := (restartedRack s).pump } := rfl
  have moved : RackMove s.cond s.rack (restartedRack s).pump := restarted.trans (.pump _)
  rw [answered]
  generalize (restartedRack s).pump = r at moved
  exact .of_move moved rfl rfl

/-! ### Every owner -/

theorem owners_act : ∀ x ∈ owners, ∀ fields, (x.2 fields).Acts := by
  simp only [owners, List.forall_mem_append, List.forall_mem_cons]
  refine ⟨⟨⟨⟨answerCalWrite_acts, answerCalRead_acts, answerCalCommit_acts, ?permitPut, ?permitGet, ?permitSuspend,
      ?permitReinstate, ?permitRetire, ?unitPut, ?unitGet, ?unitClean, ?unitRetire, ?nil⟩, ?accountPut, ?accountGet,
      ?accountCredit, ?accountHold, ?accountRelease, ?accountClose, ?orderBook, ?orderGet, ?orderAmend, ?orderCancel,
      ?orderRetire, ?nil⟩, ?armPut, ?armService, ?armClear, ?armGet, ?rackHeader, ?recipePut, ?recipeGet, ?recipeRetire,
      ?additivePut, ?additiveRefill, ?additiveGet, ?rackResume, ?nil⟩, ?noteNext, ?noteRead, ?rackStatus, ?rackSetDay,
      answerRackSwitchTable_acts, ?rackNoteFormat, ?rackRestart, ?nil⟩
  case nil => exact fun x hx => absurd hx List.not_mem_nil
  case permitPut => exact fun _ => withItems_acts _ (fun items _ => permitPut_acts items)
  case permitGet => exact fun fields => onPermit_acts fields (fun s _ _ => answerOk_acts _ s)
  case permitSuspend => exact fun fields => onPermit_acts fields (fun s p _ => permitSuspend_acts p s)
  case permitReinstate => exact fun fields => onPermit_acts fields (fun s p _ => permitReinstate_acts p s)
  case permitRetire => exact fun fields => onPermit_acts fields (fun s p _ => permitRetire_acts p s)
  case unitPut => exact fun _ => withItems_acts _ (fun items _ => unitPut_acts items)
  case unitGet => exact fun fields => onUnit_acts fields (fun _ s => answerOk_acts _ s)
  case unitClean => exact fun fields => onUnit_acts fields unitClean_acts
  case unitRetire => exact fun fields => onUnit_acts fields unitRetire_acts
  case accountPut => exact fun _ => withItems_acts _ (fun items _ => accountPut_acts items)
  case accountGet => exact fun fields => onAccount_acts fields (fun s _ _ => answerOk_acts _ s)
  case accountCredit =>
    exact fun _ => withItems_acts _ (fun items _ => onAccountOf_acts items (fun s x _ => accountCredit_acts _ x s))
  case accountHold => exact fun fields => onAccount_acts fields (fun s x _ => accountSetHeld_acts true x s)
  case accountRelease => exact fun fields => onAccount_acts fields (fun s x _ => accountSetHeld_acts false x s)
  case accountClose => exact fun fields => onAccount_acts fields (fun _ _ => accountClose_acts)
  case orderBook => exact fun _ => withItems_acts _ (fun items _ => orderBook_acts (bookingOf_numbered items))
  case orderGet => exact fun fields => onOrder_acts fields (fun s _ _ => answerOk_acts _ s)
  case orderAmend => exact fun _ => withItems_acts _ (fun items _ => orderAmend_acts items)
  case orderCancel => exact fun fields => onOrder_acts fields (fun _ _ => orderCancel_acts)
  case orderRetire => exact fun fields => onOrder_acts fields (fun _ _ => orderRetire_acts)
  case armPut => exact fun _ => withItems_acts _ (fun items _ => armPut_acts items)
  case armService => exact fun _ => withItems_acts _ (fun items _ => armService_acts items)
  case armClear => exact fun _ => withItems_acts _ (fun _ _ => armClear_acts _)
  case armGet => exact fun _ => withItems_acts _ (fun _ _ s => answerOk_acts _ s)
  case rackHeader => exact fun _ => withItems_acts _ (fun items _ => rackHeader_acts items)
  case recipePut => exact fun _ => withItems_acts _ (fun items _ => recipePut_acts items)
  case recipeGet => exact fun fields => onRecipe_acts fields (fun _ s => answerOk_acts _ s)
  case recipeRetire => exact fun fields => onRecipe_acts fields recipeRetire_acts
  case additivePut => exact fun _ => withItems_acts _ (fun _ _ _ => okTables_acts (.lowMark _ _ _))
  case additiveRefill => exact fun _ => withItems_acts _ (fun _ _ _ => okTables_acts (.refill _ _ _))
  case additiveGet => exact fun _ => withItems_acts _ (fun _ _ s => answerOk_acts _ s)
  case rackResume => exact fun fields => noFields_acts fields rackResume_acts
  case noteNext => exact fun _ => withItems_acts _ (fun items _ => noteNext_acts items)
  case noteRead => exact fun fields => onOrder_acts fields (fun s o _ => noteRead_acts o s)
  case rackStatus => exact fun fields => noFields_acts fields (fun s => answerOk_acts _ s)
  case rackSetDay => exact fun _ => withItems_acts _ (fun _ _ => rackSetDay_acts _)
  case rackNoteFormat => exact fun _ => withItems_acts _ (fun items _ => rackNoteFormat_acts items)
  case rackRestart => exact fun fields => noFields_acts fields rackRestart_acts

/-- A request of any name, known or not. -/
theorem answerNamed_acts (name : Text) (fields : List Text) : (answerNamed name fields).Acts := by
  unfold answerNamed
  split
  · exact owners_act _ (List.mem_of_find?_eq_some ‹_›) fields
  · exact refuse_acts _ _

theorem takeRequest_effect {name : Text} {fields : List Text} {answer : Answer} {s t : State} (acts : answer.Acts)
    (h : takeRequest name fields answer s = .next t) : Effect s t := by
  rcases takeRequest_cases name fields answer s with discarded | ⟨-, -, taken⟩
  · cases discarded.symm.trans h
    exact .of_same rfl rfl rfl
  · cases taken.symm.trans h
    exact acts { s with link := s.link.toHunt }

/-! ### Panel messages (R187) -/

/-- What panel messages do: the conditions and the calibration stand, the rack moves. -/
def PanelEffect (s t : State) : Prop := t.cond = s.cond ∧ t.calBefore = s.calBefore ∧ RackMove s.cond s.rack t.rack

theorem PanelEffect.trans {s t u : State} (h : PanelEffect s t) (g : PanelEffect t u) : PanelEffect s u := by
  obtain ⟨hc, hb, hr⟩ := h
  obtain ⟨gc, gb, gr⟩ := g
  exact ⟨gc.trans hc, gb.trans hb, hr.trans (hc ▸ gr)⟩

theorem PanelEffect.effect {s t : State} (h : PanelEffect s t) : Effect s t :=
  .of_move h.2.2 h.1 h.2.1

theorem PanelEffect.moveRack {s : State} {f : Conditions → Rack → Rack} (move : RackMove s.cond s.rack (f s.cond s.rack)) :
    PanelEffect s (s.moveRack f) :=
  ⟨rfl, rfl, move.trans (.pump _)⟩

theorem State.setPanelRx_effect (s : State) (b : BayId) (x : PanelRx) : PanelEffect s (s.setPanelRx b x) := ⟨rfl, rfl, .same _⟩

theorem State.card_effect (s : State) (b : BayId) (permit : Nat) : PanelEffect s (s.card b permit) := .moveRack (.cardAt _ _ _)

theorem State.pressStart_effect (s : State) (b : BayId) (a : ArmId) : PanelEffect s (s.pressStart b a) := by
  refine .moveRack ?_
  split
  · exact .startArm _ _
  · exact .answerBay _ _ _

theorem State.pressStop_effect (s : State) (b : BayId) (a : ArmId) : PanelEffect s (s.pressStop b a) := by
  refine .moveRack ?_
  split
  · exact .stopFromPanel _ _
  · exact .answerBay _ _ _

theorem State.panelMessage_effect (s : State) (b : BayId) (body : Text) : PanelEffect s (s.panelMessage b body) := by
  have discarded : PanelEffect s s := ⟨rfl, rfl, .same _⟩
  unfold State.panelMessage
  split
  · split
    · exact s.card_effect b _
    · exact discarded
  · split
    · split
      · exact s.pressStart_effect b _
      · exact discarded
    · split
      · split
        · exact s.pressStop_effect b _
        · exact discarded
      · exact discarded

theorem panelCharacters_effect (b : BayId) (chars : Text) (s : State) : PanelEffect s (panelCharacters b chars s) := by
  induction chars generalizing s with
  | nil => exact ⟨rfl, rfl, .same _⟩
  | cons ch rest ih =>
    unfold panelCharacters
    split
    · exact ((s.setPanelRx_effect b _).trans (State.panelMessage_effect _ b _)).trans (ih _)
    · exact (s.setPanelRx_effect b _).trans (ih _)

/-! ### Every command -/

/-- An expiry or another event that is due moves the rack; one that is not leaves the state (assumption 5). -/
theorem Effect.of_due {p : Prop} [Decidable p] {f : Conditions → Rack → Rack} {s t : State}
    (h : (if p then .next (s.moveRack f) else .next s : Result) = .next t)
    (move : p → RackMove s.cond s.rack (f s.cond s.rack)) : Effect s t := by
  split at h <;> cases h
  · exact .moveRack (move ‹_›)
  · exact .of_same rfl rfl rfl

/-- A cause that reaches arms in the order of one draw, and the panel lines behind it. -/
theorem State.raiseToArms_rack (s : State) (cause : Cause) (arms : List ArmId) :
    (s.raiseToArms cause arms).rack = (raiseCauses s.cond cause (inFreeOrder s.choice arms) s.rack).pump := rfl

theorem execPermissiveInputChange_effect {b : BayId} {input : PermissiveInput} {level : Bool} {s t : State}
    (h : execPermissiveInputChange b input level s = .next t) : Effect s t := by
  unfold execPermissiveInputChange at h
  dsimp only at h
  split at h
  · cases h
    exact .of_same rfl rfl rfl
  · split at h <;> cases h
    · unfold Effect
      rw [State.raiseToArms_rack]
      exact .blocked b input level _ (inFreeOrder_perm s.choice (armsOfBay b))
    · exact .input b input level (by simp_all)

theorem execEmergencyStopInputChange_effect {active : Bool} {s t : State} (h : execEmergencyStopInputChange active s = .next t) :
    Effect s t := by
  unfold execEmergencyStopInputChange at h
  split at h
  · cases h
    exact .of_same rfl rfl rfl
  · split at h <;> cases h
    · rename_i halts
      cases halts.1
      unfold Effect
      rw [State.raiseToArms_rack]
      exact .halted _ (inFreeOrder_perm s.choice allArms)
    · exact .moves (.same _) ⟨rfl, rfl, rfl, rfl⟩ (.inl rfl)

theorem execBadFrame_effect {chars : Text} {s t : State} (h : execBadFrame chars s = .next t) : Effect s t := by
  unfold execBadFrame at h
  split at h <;> cases h
  · exact .of_same rfl rfl rfl
  · rename_i k body _
    exact answerNamed_acts _ _ { s with link := k }

/-- A request command acts as its owner does. -/
theorem exec_request_effect {i : Instr} {name : Text} (hn : i.requestName = some name) {s t : State} (h : exec i s = .next t) :
    Effect s t := by
  obtain ⟨x, hx, -, owner⟩ := exec_owner hn
  rw [owner] at h
  exact takeRequest_effect (owners_act x hx _) h

/-- What a command can do: POWER_ON, or one of the effects. One case per event; the requests are one case, through their owners. -/
theorem exec_effect {i : Instr} {s t : State} (h : exec i s = .next t) :
    (∃ inputs, i = .powerOn inputs ∧ execPowerOn inputs s = .next t) ∨ Effect s t := by
  cases i with
  | powerOn inputs => exact .inl ⟨inputs, rfl, h⟩
  | timebaseTick => cases h; exact .inr .tick
  | meterPulse a => cases h; exact .inr (.moveRack (.pulse _ a))
  | rateWindowExpiry a => exact .inr (.of_due h (fun _ => .endWindow _ a))
  | probeReading a x => cases h; exact .inr (.moveRack (.reading _ a x))
  | stalenessExpiry a => exact .inr (.of_due h (fun _ => .staleness _ a))
  | noFlowTimerExpiry a => exact .inr (.of_due h (fun _ => .noFlow _ a))
  | settleTimerExpiry a => exact .inr (.of_due h (fun _ => .becomeQuiet _ a))
  | showRepeatTimerExpiry a => exact .inr (.of_due h (fun _ => .repeatShow _ a))
  | feedbackRise a n =>
    change execFeedbackRise a n s = _ at h
    unfold execFeedbackRise at h
    split at h <;> cases h
    · exact .inr (.of_same rfl rfl rfl)
    · exact .inr (.moveRack (.rise _ a n))
  | feedbackFall a n => exact .inr (.of_due h (fun _ => .fall _ a n))
  | riseTimerExpiry a n =>
    refine .inr (.of_due h (fun due => .missed _ a n ?_))
    simp only [riseTimedOut, Bool.and_eq_true, decide_eq_true_eq] at due
    simp [due.1]
  | activeTimerExpiry a n =>
    refine .inr (.of_due h (fun due => .missed _ a n ?_))
    simp only [activeTimedOut, Bool.and_eq_true, decide_eq_true_eq] at due
    simp [due.1]
  | permissiveInputChange b input level => exact .inr (execPermissiveInputChange_effect h)
  | emergencyStopInputChange active => exact .inr (execEmergencyStopInputChange_effect h)
  | calSwitchChange closed => cases h; exact .inr (.moves (.same _) ⟨rfl, rfl, rfl, rfl⟩ (.inl rfl))
  | badFrame chars => exact .inr (execBadFrame_effect h)
  | responseSent => cases h; exact .inr (.moves (.same _) (.refl _) (.inr rfl))
  | unknownRequest name fields => exact .inr (takeRequest_effect (answerNamed_acts name fields) h)
  | card b permit =>
    change execCard b permit s = _ at h
    unfold execCard at h
    split at h <;> cases h
    · exact .inr ((s.setPanelRx_effect b _).trans (State.card_effect _ b permit)).effect
    · exact .inr (s.setPanelRx_effect b _).effect
  | start b a => cases h; exact .inr ((s.setPanelRx_effect b _).trans (State.pressStart_effect _ b a)).effect
  | stop b a => cases h; exact .inr ((s.setPanelRx_effect b _).trans (State.pressStop_effect _ b a)).effect
  | panelMessageDiscarded b chars => cases h; exact .inr (panelCharacters_effect b chars s).effect
  | showSent b =>
    change execShowSent b s = _ at h
    unfold execShowSent at h
    split at h <;> cases h
    · exact .inr (.of_same rfl rfl rfl)
    · exact .inr (.moveRack (.sent _ b))
  | _ => exact .inr (exec_request_effect rfl h)

/-- What a step can do: POWER_ON at the front of the queue, or one of the effects. -/
theorem step_effect {s t : State} (h : step s = .next t) :
    (∃ inputs rest, s.pending = .powerOn inputs :: rest ∧ execPowerOn inputs { s with pending := rest } = .next t) ∨ Effect s t := by
  unfold step at h
  split at h
  · cases h
    exact .inr (.of_same rfl rfl rfl)
  · rename_i i rest waiting
    rcases exec_effect h with ⟨inputs, rfl, done⟩ | effect
    · exact .inl ⟨inputs, rest, waiting, done⟩
    · exact .inr effect

/-! ### Invariants of the rack -/

/-- An invariant of the rack that moves, causes raised, time and power-on keep. -/
structure RackInvariant (P : Rack → Prop) : Prop where
  moves : ∀ {c : Conditions} {r r' : Rack}, RackMove c r r' → P r → P r'
  raised : ∀ (c : Conditions) (cause : Cause) (arms : List ArmId) (r : Rack), P r → P (raiseCauses c cause arms r)
  tick : ∀ (now : Millis) (r : Rack), P r → P (r.tick now)
  powerOn : ∀ (inputs : InputLevels) (cal : CalStore) (r : Rack), P r → P (r.powerOn inputs cal)

theorem RackInvariant.effect {P : Rack → Prop} (inv : RackInvariant P) {c c' : Conditions} {b b' : Option CalStore} {r r' : Rack}
    (h : Effects c b r c' b' r') (hp : P r) : P r' := by
  cases h with
  | moves move _ _ => exact inv.moves move hp
  | tick => exact inv.tick _ _ hp
  | blocked _ _ _ _ _ => exact inv.moves (c := c) (.pump _) (inv.raised _ _ _ _ hp)
  | halted _ _ => exact inv.moves (c := c) (.pump _) (inv.raised _ _ _ _ hp)
  | _ => exact hp

/-- Such an invariant is kept by every step. -/
theorem RackInvariant.step {P : Rack → Prop} (inv : RackInvariant P) {s t : State} (h : step s = .next t) (hp : P s.rack) :
    P t.rack := by
  rcases step_effect h with ⟨inputs, rest, -, done⟩ | effect
  · cases done
    exact inv.powerOn _ _ _ hp
  · exact inv.effect effect hp

end Sys2Proof.Machine
end

section
/-! PROOF. The calibration store under every step (R26 to R34, R37): O16, O17, O18. -/

namespace Sys2Proof.Machine

/-! ### What an effect does to the calibration store -/

@[simp] theorem Conditions.setInput_cal (c : Conditions) (b : BayId) (input : PermissiveInput) (level : Bool) :
    (c.setInput b input level).cal = c.cal := by
  cases input <;> rfl

@[simp] theorem Conditions.setInput_mode (c : Conditions) (b : BayId) (input : PermissiveInput) (level : Bool) :
    (c.setInput b input level).mode = c.mode := by
  cases input <;> rfl

/-- An effect leaves the store, or the switch is CLOSED and it writes a standby bank that no line uses, or flips the indicator; what it
keeps to be brought back is nothing, what was kept, or the store before it. -/
theorem Effects.cal_cases {c c' : Conditions} {b b' : Option CalStore} {r r' : Rack} (h : Effects c b r c' b' r') :
    (c'.cal = c.cal ∧ (b' = b ∨ b' = none)) ∨
    (c.calClosed = true ∧ b' = some c.cal ∧ ((∃ fields items,
        checkForm calWriteForms true (fun _ _ => false) (fun _ => []) fields = .ok items ∧ r.bankUsers c.cal.standby = 0 ∧
        c'.cal = c.cal.writeStandby items) ∨ c'.cal = c.cal.commit)) := by
  cases h with
  | moves _ kept undo => exact .inl ⟨kept.1, undo⟩
  | written fields items closed formed unused => exact .inr ⟨closed, rfl, .inl ⟨fields, items, formed, unused, rfl⟩⟩
  | committed closed => exact .inr ⟨closed, rfl, .inr rfl⟩
  | input _ _ _ _ => exact .inl ⟨Conditions.setInput_cal .., .inl rfl⟩
  | blocked _ _ _ _ _ => exact .inl ⟨Conditions.setInput_cal .., .inl rfl⟩
  | _ => exact .inl ⟨rfl, .inl rfl⟩

/-- At power-on the store is the one held, or the one that a loss of supply brings back (R37). -/
theorem State.retainedCal_cases (s : State) : s.retainedCal = s.cond.cal ∨ s.calBefore = some s.retainedCal := by
  unfold State.retainedCal
  split
  · rename_i old before
    split
    · exact .inr before
    · exact .inl rfl
  · exact .inl rfl

/-- A step leaves the store, or is a loss of supply that brings an earlier one back, or writes or commits at a CLOSED switch. -/
theorem step_cal_cases {s t : State} (h : step s = .next t) :
    t.cond.cal = s.cond.cal ∨ (∃ inputs rest, s.pending = .powerOn inputs :: rest ∧ s.calBefore = some t.cond.cal) ∨
      (s.cond.calClosed = true ∧ ((∃ fields items,
        checkForm calWriteForms true (fun _ _ => false) (fun _ => []) fields = .ok items ∧
        s.rack.bankUsers s.cond.cal.standby = 0 ∧ t.cond.cal = s.cond.cal.writeStandby items) ∨
        t.cond.cal = s.cond.cal.commit)) := by
  rcases step_effect h with ⟨inputs, rest, waiting, done⟩ | effect
  · cases done
    rcases State.retainedCal_cases { s with pending := rest } with held | back
    · exact .inl held
    · exact .inr (.inl ⟨inputs, rest, waiting, back⟩)
  · rcases effect.cal_cases with ⟨same, -⟩ | ⟨closed, -, changed⟩
    · exact .inl same
    · exact .inr (.inr ⟨closed, changed⟩)

/-! ### A sealed store (R26) -/

/-- Settles O16: a store changes at a CLOSED switch alone, or when a loss of supply undoes a request. -/
theorem sealedStoreNeverChanges : Obligations.SealedStoreNeverChanges := by
  unfold Obligations.SealedStoreNeverChanges
  intro s t h opened
  rcases step_cal_cases h with same | back | ⟨closed, -⟩
  · exact .inl same
  · exact .inr back
  · simp [opened] at closed

/-! ### Banks in use (R30, R34) -/

@[simp] theorem BankId.other_ne (k : BankId) : k.other ≠ k := by cases k <;> decide

theorem CalStore.setBank_bank (s : CalStore) (id k : BankId) (b : Bank) :
    (s.setBank id b).bank k = if id = k then b else s.bank k := by
  cases id <;> cases k <;> rfl

@[simp] theorem CalStore.commit_bank (s : CalStore) (k : BankId) : s.commit.bank k = s.bank k := by cases k <;> rfl

/-- Settles O17: a write reaches the standby bank while no line uses it, and a commit writes no bank. -/
theorem bankInUseIsNeverWritten : Obligations.BankInUseIsNeverWritten := by
  unfold Obligations.BankInUseIsNeverWritten
  intro s t k h used
  rcases step_cal_cases h with same | back | ⟨-, ⟨fields, items, -, unused, written⟩ | committed⟩
  · exact .inl (by rw [same])
  · exact .inr back
  · have differ : s.cond.cal.standby ≠ k := by
      rintro rfl
      omega
    exact .inl (by rw [written, CalStore.writeStandby, CalStore.setBank_bank, if_neg differ])
  · exact .inl (by rw [committed, CalStore.commit_bank])

/-! ### Items and their forms (R181) -/

/-- The item of a field's text: its name is that of a known form, its index and value are read in that form. -/
theorem readItem_some {forms : List FieldForm} {t : Text} {i : Item} (h : readItem forms t = some i) :
    ∃ f ∈ forms, i.name = f.name ∧ (∃ v, i.value = readValue f.value v) ∧ ∃ x, f.index.read x = some i.index := by
  unfold readItem at h
  dsimp only at h
  split at h
  · rename_i f found
    split at h
    · rename_i index inRange
      cases h
      exact ⟨f, List.mem_of_find?_eq_some found, rfl, ⟨_, rfl⟩, _, inRange⟩
    · cases h
  · cases h

theorem mem_knownItems {forms : List FieldForm} {fields : List Text} {i : Item} (h : i ∈ knownItems forms fields) :
    ∃ f ∈ forms, i.name = f.name ∧ (∃ v, i.value = readValue f.value v) ∧ ∃ x, f.index.read x = some i.index := by
  obtain ⟨t, -, read⟩ := List.mem_filterMap.mp h
  exact readItem_some read

/-- The items of a request whose fields pass the form check are its known items. -/
theorem checkForm_items {forms : List FieldForm} {twice : Bool} {own : List Item → Item → Bool}
    {needs : List Item → List (Text × Nat × Text)} {fields : List Text} {items : List Item}
    (h : checkForm forms twice own needs fields = .ok items) : items = knownItems forms fields := by
  unfold checkForm at h
  dsimp only at h
  split at h
  · cases h
  · split at h
    · cases h
    · cases h
      rfl

theorem readValue_some {f : ValueForm} {v : Option Text} {x : FieldValue} (h : readValue f v = some x) :
    ∃ t, v = some t ∧ f.read t = some x := by
  unfold readValue at h
  split at h
  · split at h
    · cases h
    · exact ⟨_, rfl, h⟩
  · cases h

theorem readRange_some {lo hi n : Nat} {t : Text} (h : readRange lo hi t = some n) : readNat t = some n ∧ lo ≤ n ∧ n ≤ hi := by
  unfold readRange at h
  split at h
  · split at h
    · cases h
      exact ⟨‹_›, ‹_›⟩
    · cases h
  · cases h

/-! ### Values in range (R28) -/

theorem readKFactor_legal {t : Text} {n : Nat} (h : ValueForm.kFactor.read t = some (.nat n)) : legalK n := by
  simp only [ValueForm.read] at h
  split at h
  · split at h
    · cases h
      assumption
    · cases h
  · cases h

theorem readNat_value {lo hi n : Nat} {t : Text} (h : (ValueForm.nat lo hi).read t = some (.nat n)) : lo ≤ n ∧ n ≤ hi := by
  obtain ⟨m, read, same⟩ := Option.map_eq_some_iff.mp h
  cases same
  exact (readRange_some read).2

theorem allSome_forall {α β : Type} {f : α → Option β} {p : β → Prop} (hf : ∀ a b, f a = some b → p b) {xs : List α} {ys : List β}
    (h : allSome f xs = some ys) : ∀ y ∈ ys, p y := by
  induction xs generalizing ys with
  | nil => cases h; simp
  | cons x xs ih =>
    unfold allSome at h
    split at h
    · rename_i b bs first others
      cases h
      intro y hy
      rcases List.mem_cons.mp hy with rfl | hy
      · exact hf x _ first
      · exact ih others y hy
    · cases h

theorem readList_forall {α : Type} {item : Text → Option α} {p : α → Prop} (hi : ∀ t a, item t = some a → p a) {t : Text}
    {xs : List α} (h : readList item t = some xs) : ∀ x ∈ xs, p x := by
  unfold readList at h
  split at h
  · cases h
    simp
  · exact allSome_forall hi h

theorem readPoint_legal (t : Text) (p : CurvePoint) (h : readPoint t = some p) : p.legal := by
  unfold readPoint at h
  split at h
  · split at h
    · rename_i rate factor hr hf
      cases h
      exact ⟨(readRange_some hr).2.2, (readRange_some hf).2⟩
    · cases h
  · cases h

theorem readPoints_legal {t : Text} {ps : List CurvePoint} (h : readPoints t = some ps) : legalPage ps := by
  unfold readPoints at h
  split at h
  · rename_i qs read
    split at h
    · rename_i shape
      cases h
      exact ⟨shape.1, shape.2, readList_forall readPoint_legal read⟩
    · cases h
  · cases h

/-- A value of a CAL.WRITE lies in the range of the field it is written to. -/
def Item.fitsBank (i : Item) : Prop :=
  (∀ n, i.value = some (.nat n) → (i.name = txt "k" → legalK n) ∧ (i.name ≠ txt "k" → i.name ≠ txt "curve" → n ≤ 2000)) ∧
  ∀ ps, i.value = some (.points ps) → legalPage ps

theorem calWriteItem_fits {fields : List Text} {i : Item} (h : i ∈ knownItems calWriteForms fields) : i.fitsBank := by
  obtain ⟨f, hf, name, ⟨v, value⟩, -⟩ := mem_knownItems h
  have read : ∀ x, i.value = some x → ∃ t, f.value.read t = some x := by
    intro x hx
    obtain ⟨t, -, ht⟩ := readValue_some (value ▸ hx)
    exact ⟨t, ht⟩
  simp only [calWriteForms, List.mem_cons, List.not_mem_nil, or_false] at hf
  rcases hf with rfl | rfl | rfl | rfl | rfl
  case inl =>
    constructor
    · intro n hn
      obtain ⟨t, ht⟩ := read _ hn
      simp [plainField, ValueForm.read] at ht
    · intro ps hps
      obtain ⟨t, ht⟩ := read _ hps
      simp [plainField, ValueForm.read] at ht
  case inr.inl =>
    constructor
    · intro n hn
      obtain ⟨t, ht⟩ := read _ hn
      exact ⟨fun _ => readKFactor_legal ht, fun other => absurd name other⟩
    · intro ps hps
      obtain ⟨t, ht⟩ := read _ hps
      simp only [indexedField, ValueForm.read] at ht
      split at ht <;> [(split at ht <;> cases ht); cases ht]
  case inr.inr.inl =>
    constructor
    · intro n _
      exact ⟨fun k => absurd (name.symm.trans k) (by decide), fun _ other => absurd name other⟩
    · intro ps hps
      obtain ⟨t, ht⟩ := read _ hps
      simp [indexedField, ValueForm.read] at ht
  case inr.inr.inr.inl =>
    constructor
    · intro n hn
      obtain ⟨t, ht⟩ := read _ hn
      simp [indexedField, ValueForm.read] at ht
    · intro ps hps
      obtain ⟨t, ht⟩ := read _ hps
      obtain ⟨qs, points, same⟩ := Option.map_eq_some_iff.mp ht
      cases same
      exact readPoints_legal points
  case inr.inr.inr.inr =>
    constructor
    · intro n hn
      obtain ⟨t, ht⟩ := read _ hn
      exact ⟨fun k => absurd (name.symm.trans k) (by decide), fun _ _ => (readNat_value ht).2⟩
    · intro ps hps
      obtain ⟨t, ht⟩ := read _ hps
      simp [indexedField, ValueForm.read] at ht

/-! ### Banks in range (section 2.1) -/

theorem Bank.write_inRange {k : Bank} (hk : k.inRange) {i : Item} (hi : i.fitsBank) : (k.write i).inRange := by
  obtain ⟨hfactor, hpages, hbeta⟩ := hk
  unfold Bank.write
  split
  · rename_i n value
    split
    · rename_i name
      refine ⟨fun a => ?_, hpages, hbeta⟩
      have legal := (hi.1 n value).1 name
      have old := hfactor a
      simp only [Bank.kFactor, Fin.getElem_fin, Vector.getElem_set] at old ⊢
      split
      · exact legal
      · exact old
    · rename_i notK
      split
      · refine ⟨fun a => ?_, hpages, hbeta⟩
        have old := hfactor a
        simp only [Bank.kFactor, Fin.getElem_fin, Vector.getElem_set] at old ⊢
        split
        · rename_i same
          simpa [same] using old
        · exact old
      · rename_i notCurve
        refine ⟨hfactor, hpages, fun q => ?_⟩
        have legal := (hi.1 n value).2 notK notCurve
        have old := hbeta q
        simp only [Fin.getElem_fin, Vector.getElem_set] at old ⊢
        split
        · exact legal
        · exact old
  · rename_i ps value
    refine ⟨hfactor, fun p => ?_, hbeta⟩
    have old := hpages p
    simp only [Fin.getElem_fin, Vector.getElem_set] at old ⊢
    split
    · exact hi.2 ps value
    · exact old
  · exact ⟨hfactor, hpages, hbeta⟩

theorem Bank.writeAll_inRange {k : Bank} (hk : k.inRange) {items : List Item} (hi : ∀ i ∈ items, i.fitsBank) :
    (k.writeAll items).inRange := by
  induction items generalizing k with
  | nil => exact hk
  | cons i rest ih =>
    exact ih (Bank.write_inRange hk (hi i List.mem_cons_self)) (fun j hj => hi j (List.mem_cons_of_mem _ hj))

theorem CalStore.inRange_iff (s : CalStore) : s.inRange ↔ ∀ k, (s.bank k).inRange :=
  ⟨fun h k => by cases k <;> [exact h.1; exact h.2], fun h => ⟨h .a, h .b⟩⟩

theorem CalStore.writeStandby_inRange {s : CalStore} (hs : s.inRange) {items : List Item} (hi : ∀ i ∈ items, i.fitsBank) :
    (s.writeStandby items).inRange := by
  rw [CalStore.inRange_iff] at hs ⊢
  intro k
  rw [CalStore.writeStandby, CalStore.setBank_bank]
  split
  · apply Bank.writeAll_inRange _ hi
    split <;> exact hs _
  · exact hs k

theorem CalStore.commit_inRange {s : CalStore} (hs : s.inRange) : s.commit.inRange := hs

theorem Effects.calInRange {c c' : Conditions} {b b' : Option CalStore} {r r' : Rack} (h : Effects c b r c' b' r')
    (hc : c.cal.inRange) (hb : ∀ old, b = some old → old.inRange) :
    c'.cal.inRange ∧ ∀ old, b' = some old → old.inRange := by
  rcases h.cal_cases with ⟨same, undo⟩ | ⟨-, undo, changed⟩
  · refine ⟨same ▸ hc, ?_⟩
    rcases undo with rfl | rfl
    · exact hb
    · simp
  · refine ⟨?_, fun old hold => ?_⟩
    · rcases changed with ⟨fields, items, formed, -, written⟩ | committed
      · rw [written]
        refine CalStore.writeStandby_inRange hc (fun i hi => ?_)
        rw [checkForm_items formed] at hi
        exact calWriteItem_fits hi
      · rw [committed]
        exact CalStore.commit_inRange hc
    · cases undo.symm.trans hold
      exact hc

/-- Settles O18: every value a CAL.WRITE writes has been judged by its form, and a loss of supply brings back a store that was in range. -/
theorem banksStayInRange : Obligations.BanksStayInRange := by
  unfold Obligations.BanksStayInRange
  intro s t h hs
  obtain ⟨hc, hb⟩ := hs
  rcases step_effect h with ⟨inputs, rest, -, done⟩ | effect
  · cases done
    refine ⟨?_, fun old hold => by cases hold⟩
    change (State.retainedCal { s with pending := rest }).inRange
    rcases State.retainedCal_cases { s with pending := rest } with held | back
    · rw [held]
      exact hc
    · exact hb _ back
  · exact effect.calInRange hc hb

end Sys2Proof.Machine
end

section
/-! PROOF. What no invariant reads: racks that differ in nothing else. A change of measurements, timers, panel lines, flags or owed counts
is settled here once for every invariant. -/

namespace Sys2Proof.Machine

/-! ### Records without what no invariant reads -/

def Permit.erase (p : Permit) : Permit :=
  { number := p.number, level := 0, endorsements := Vector.replicate 8 false, expiry := 0, dailyLimit := 0, loadsToday := 0
    suspended := false, admittedBay := p.admittedBay }

def Account.erase (x : Account) : Account :=
  { number := x.number, group := 0, balance := 0, overdraft := 0, reserved := x.reserved, held := false }

def Additive.erase (x : Additive) : Additive := { x with lowMark := 0 }

def DoseRecord.erase (d : DoseRecord) : DoseRecord :=
  { additive := d.additive, dose := 0, slot := d.slot, dispensed := 0, target := none, misses := 0, remaining := d.remaining }

def Line.erase (l : Line) : Line :=
  { number := l.number, addr := 0, recipe := 0, product := 0, header := 0, group := 0, hazard := 0, doses := l.doses.map DoseRecord.erase
    account := l.account, preset := l.preset, lowOnly := false, state := l.state, arm := l.arm, bank := none, calCount := none
    gross := 0, standard := 0, residue := 0, weight := 0, grossLitres := none, standardLitres := none, average := none
    flags := .none, stopCause := none }

def Order.erase (o : Order) : Order :=
  { number := o.number, state := o.state, permit := o.permit, unit1 := 0, unit2 := none, bay := none, lastBay := o.lastBay
    priority := 0, remark := [], counted := false, note := o.note, day := o.day, lines := o.lines.map Line.erase }

def Arm.erase (x : Arm) : Arm :=
  { Arm.fresh with state := x.state, config := x.config, queue := x.queue, current := x.current }

/-- The two phases of a stroke in flight count as one. -/
def Injector.erase (i : Injector) : Injector :=
  { served := i.served, owed := 0, phase := if i.phase = .none then .none else .waitRise, opened := none, riseTime := none
    misses := 0, feedback := false }

def Bay.erase (b : Bay) : Bay := { b with reason := none }

/-- The rack with nothing but what the invariants of the whole part read. -/
def Rack.erase (r : Rack) : Rack :=
  { permits := r.permits.map Permit.erase, units := [], accounts := r.accounts.map Account.erase
    additives := r.additives.map Additive.erase, orders := r.orders.map Order.erase
    channels := Vector.replicate 8 (.fresh 0 0 0), arms := r.arms.map Arm.erase
    injectors := r.injectors.map (fun v => v.map Injector.erase), headers := r.headers, bays := r.bays.map Bay.erase
    panels := Vector.ofFn Panel.fresh, noteCounter := r.noteCounter, notes := r.notes }

section Readings
variable (r : Rack)

@[simp] theorem Rack.erase_headers : r.erase.headers = r.headers := rfl
@[simp] theorem Rack.erase_header (h : HeaderId) : r.erase.header h = r.header h := rfl
@[simp] theorem Rack.erase_notes : r.erase.notes = r.notes := rfl
@[simp] theorem Rack.erase_noteCounter : r.erase.noteCounter = r.noteCounter := rfl
@[simp] theorem Rack.erase_orders : r.erase.orders = r.orders.map Order.erase := rfl
@[simp] theorem Rack.erase_permits : r.erase.permits = r.permits.map Permit.erase := rfl
@[simp] theorem Rack.erase_accounts : r.erase.accounts = r.accounts.map Account.erase := rfl

@[simp] theorem Rack.erase_arm (a : ArmId) : r.erase.arm a = (r.arm a).erase := by simp [Rack.erase, Rack.arm]
@[simp] theorem Rack.erase_additive (x : AdditiveId) : r.erase.additive x = (r.additive x).erase := by
  simp [Rack.erase, Rack.additive]
@[simp] theorem Rack.erase_bay (b : BayId) : r.erase.bay b = (r.bay b).erase := by simp [Rack.erase, Rack.bay]
@[simp] theorem Rack.erase_injector (a : ArmId) (n : SlotId) : r.erase.injector a n = (r.injector a n).erase := by
  simp [Rack.erase, Rack.injector]

/-- What is found under a number is found in a table whose records keep their numbers. -/
theorem find_map_kept {α : Type} (key : α → Nat) (f : α → α) (hf : ∀ x, key (f x) = key x) (n : Nat) (xs : List α) :
    (xs.map f).find? (fun x => decide (key x = n)) = (xs.find? (fun x => decide (key x = n))).map f := by
  simp only [List.find?_map, Function.comp_def, hf]

@[simp] theorem Rack.erase_order (n : Nat) : r.erase.order? n = (r.order? n).map Order.erase :=
  find_map_kept Order.number Order.erase (fun _ => rfl) n r.orders

@[simp] theorem Rack.erase_account (n : Nat) : r.erase.account? n = (r.account? n).map Account.erase :=
  find_map_kept Account.number Account.erase (fun _ => rfl) n r.accounts

@[simp] theorem Order.erase_line (o : Order) (n : Nat) : o.erase.line? n = (o.line? n).map Line.erase :=
  find_map_kept Line.number Line.erase (fun _ => rfl) n o.lines

@[simp] theorem Rack.erase_line (n m : Nat) : r.erase.line? n m = (r.line? n m).map Line.erase := by
  simp only [Rack.line?, Rack.erase_order]
  cases r.order? n <;> simp

@[simp] theorem Rack.erase_allLines : r.erase.allLines = r.allLines.map Line.erase := by
  simp [Rack.allLines, List.flatMap_map, List.map_flatMap, Order.erase]

@[simp] theorem Arm.erase_state (x : Arm) : x.erase.state = x.state := rfl
@[simp] theorem Arm.erase_config (x : Arm) : x.erase.config = x.config := rfl
@[simp] theorem Arm.erase_queue (x : Arm) : x.erase.queue = x.queue := rfl
@[simp] theorem Arm.erase_current (x : Arm) : x.erase.current = x.current := rfl
@[simp] theorem Bay.erase_admitted (b : Bay) : b.erase.admitted = b.admitted := rfl
@[simp] theorem Injector.erase_served (i : Injector) : i.erase.served = i.served := rfl
@[simp] theorem Injector.erase_phase (i : Injector) : i.erase.phase = .none ↔ i.phase = .none := by
  unfold Injector.erase
  dsimp only
  split <;> simp_all
@[simp] theorem Additive.erase_stock (x : Additive) : x.erase.stock = x.stock := rfl
@[simp] theorem Additive.erase_reserved (x : Additive) : x.erase.reserved = x.reserved := rfl
@[simp] theorem Additive.erase_inFlight (x : Additive) : x.erase.inFlight = x.inFlight := rfl

@[simp] theorem Rack.erase_headerOf (a : ArmId) : r.erase.headerOf a = r.headerOf a := by simp [Rack.headerOf]
@[simp] theorem Rack.erase_slotConfig (a : ArmId) (n : SlotId) : r.erase.slotConfig a n = r.slotConfig a n := by
  simp [Rack.slotConfig]
@[simp] theorem Rack.erase_currentLine (a : ArmId) : r.erase.currentLine a = (r.currentLine a).map Line.erase := by
  simp only [Rack.currentLine, Rack.erase_arm, Arm.erase_current]
  cases (r.arm a).current <;> simp

end Readings

/-! ### Racks that differ in nothing else -/

/-- Two racks differ in nothing that an invariant reads. -/
def Minor (r r' : Rack) : Prop := r'.erase = r.erase

theorem Minor.refl (r : Rack) : Minor r r := rfl

theorem Minor.trans {r s t : Rack} (h : Minor r s) (g : Minor s t) : Minor r t := Eq.trans g h

section Readings
variable {r r' : Rack}

theorem Minor.arm (h : Minor r r') (a : ArmId) : (r'.arm a).erase = (r.arm a).erase := by
  rw [← Rack.erase_arm, ← Rack.erase_arm, h]

theorem Minor.state (h : Minor r r') (a : ArmId) : (r'.arm a).state = (r.arm a).state := by
  simpa using congrArg Arm.state (h.arm a)
theorem Minor.config (h : Minor r r') (a : ArmId) : (r'.arm a).config = (r.arm a).config := by
  simpa using congrArg Arm.config (h.arm a)
theorem Minor.queue (h : Minor r r') (a : ArmId) : (r'.arm a).queue = (r.arm a).queue := by
  simpa using congrArg Arm.queue (h.arm a)
theorem Minor.current (h : Minor r r') (a : ArmId) : (r'.arm a).current = (r.arm a).current := by
  simpa using congrArg Arm.current (h.arm a)
theorem Minor.headers (h : Minor r r') : r'.headers = r.headers := by
  simpa using congrArg Rack.headers h
theorem Minor.header (h : Minor r r') (g : HeaderId) : r'.header g = r.header g := Rack.header_eq h.headers g
theorem Minor.headerOf (h : Minor r r') (a : ArmId) : r'.headerOf a = r.headerOf a := by simp [Rack.headerOf, h.config]

end Readings

/-! ### Changes that are minor -/

theorem Minor.modArm (r : Rack) (a : ArmId) (f : Arm → Arm) (kept : (f (r.arm a)).erase = (r.arm a).erase) :
    Minor r (r.modArm a f) := by
  have arms : (r.modArm a f).arms.map Arm.erase = r.arms.map Arm.erase := by
    ext i hi
    have := Rack.modArm_arm r a ⟨i, hi⟩ f
    simp only [Rack.arm, Fin.getElem_fin] at this
    rw [Vector.getElem_map, Vector.getElem_map, this]
    split
    · rename_i same
      subst same
      exact kept
    · rfl
  unfold Minor Rack.erase
  rw [arms]
  rfl

theorem Minor.modChannel (r : Rack) (a : ArmId) (f : Channel → Channel) : Minor r (r.modChannel a f) := rfl

theorem Minor.modPanel (r : Rack) (b : BayId) (f : Panel → Panel) : Minor r (r.modPanel b f) := rfl

theorem Minor.callArm (r : Rack) (a : ArmId) : Minor r (r.callArm a) := rfl

theorem Minor.callBay (r : Rack) (b : BayId) : Minor r (r.callBay b) := rfl

theorem Minor.pumpLine (r : Rack) (b : BayId) : Minor r (r.pumpLine b) := by
  unfold Rack.pumpLine
  split
  · exact .modPanel _ _ _
  · exact .refl r

theorem Minor.pump (r : Rack) : Minor r r.pump :=
  (((pumpLine r 0).trans (pumpLine _ 1)).trans (pumpLine _ 2)).trans (pumpLine _ 3)

theorem Minor.modBay (r : Rack) (b : BayId) (f : Bay → Bay) (kept : (f (r.bay b)).admitted = (r.bay b).admitted) :
    Minor r (r.modBay b f) := by
  have bays : (r.modBay b f).bays.map Bay.erase = r.bays.map Bay.erase := by
    ext i hi
    have := Rack.modBay_bay r b ⟨i, hi⟩ f
    simp only [Rack.bay, Fin.getElem_fin] at this
    rw [Vector.getElem_map, Vector.getElem_map, this]
    split
    · rename_i same
      subst same
      simp only [Bay.erase, Bay.mk.injEq, and_true]
      exact kept
    · rfl
  unfold Minor Rack.erase
  rw [bays]
  rfl

theorem Minor.modAdditive (r : Rack) (x : AdditiveId) (f : Additive → Additive) (kept : (f (r.additive x)).erase = (r.additive x).erase) :
    Minor r (r.modAdditive x f) := by
  have additives : (r.modAdditive x f).additives.map Additive.erase = r.additives.map Additive.erase := by
    ext i hi
    have := Rack.modAdditive_additive r x ⟨i, hi⟩ f
    simp only [Rack.additive, Fin.getElem_fin] at this
    rw [Vector.getElem_map, Vector.getElem_map, this]
    split
    · rename_i same
      subst same
      exact kept
    · rfl
  unfold Minor Rack.erase
  rw [additives]
  rfl

/-- Injector channels read alike once erased. -/
theorem Minor.of_injectors {r r' : Rack} (same : r' = { r with injectors := r'.injectors })
    (kept : ∀ a n, (r'.injector a n).erase = (r.injector a n).erase) : Minor r r' := by
  have injectors : r'.injectors.map (fun v => v.map Injector.erase) = r.injectors.map (fun v => v.map Injector.erase) := by
    ext i hi j hj
    have := kept ⟨i, hi⟩ ⟨j, hj⟩
    simpa [Rack.injector] using this
  unfold Minor Rack.erase
  rw [injectors, same]

theorem Minor.modInjector (r : Rack) (a : ArmId) (n : SlotId) (f : Injector → Injector)
    (kept : (f (r.injector a n)).erase = (r.injector a n).erase) : Minor r (r.modInjector a n f) := by
  refine .of_injectors rfl (fun b m => ?_)
  rw [Rack.modInjector_injector]
  split
  · rename_i same
    rw [kept, same.1, same.2]
  · rfl

theorem Minor.modInjectors (r : Rack) (a : ArmId) (f : Injector → Injector)
    (kept : ∀ n, (f (r.injector a n)).erase = (r.injector a n).erase) : Minor r (r.modInjectors a f) := by
  refine .of_injectors rfl (fun b m => ?_)
  rw [Rack.modInjectors_injector]
  split
  · rename_i same
    subst same
    exact kept m
  · rfl

theorem Minor.of_orders {r r' : Rack} (same : r' = { r with orders := r'.orders })
    (kept : r'.orders.map Order.erase = r.orders.map Order.erase) : Minor r r' := by
  unfold Minor Rack.erase
  rw [kept, same]

theorem Minor.modOrder (r : Rack) (n : Nat) (f : Order → Order) (kept : ∀ o, (f o).erase = o.erase) : Minor r (r.modOrder n f) := by
  refine .of_orders rfl ?_
  simp only [Rack.modOrder, List.map_map]
  refine List.map_congr_left (fun o _ => ?_)
  simp only [Function.comp_apply]
  split
  · exact kept o
  · rfl

theorem Minor.modLine (r : Rack) (n m : Nat) (f : Line → Line) (kept : ∀ l, (f l).erase = l.erase) : Minor r (r.modLine n m f) := by
  refine .modOrder r n _ (fun o => ?_)
  have lines : (o.modLine m f).lines.map Line.erase = o.lines.map Line.erase := by
    simp only [Order.modLine, List.map_map]
    refine List.map_congr_left (fun l _ => ?_)
    simp only [Function.comp_apply]
    split
    · exact kept l
    · rfl
  unfold Order.erase
  rw [lines]
  rfl

theorem Minor.modCurrentLine (r : Rack) (a : ArmId) (f : Line → Line) (kept : ∀ l, (f l).erase = l.erase) :
    Minor r (r.modCurrentLine a f) := by
  unfold Rack.modCurrentLine
  split
  · exact .modLine r _ _ f kept
  · exact .refl r

/-- What a change at one place of a list does not touch. -/
theorem map_modify_kept {α β : Type} {g : α → β} {f : α → α} (kept : ∀ x, g (f x) = g x) (xs : List α) (i : Nat) :
    (xs.modify i f).map g = xs.map g := by
  refine List.ext_getElem? (fun j => ?_)
  simp only [List.getElem?_map, List.getElem?_modify]
  cases xs[j]? with
  | none => rfl
  | some x =>
    simp only [Option.map_some]
    split <;> simp [kept]

theorem Minor.modDose (r : Rack) (a : ArmId) (k : Nat) (f : DoseRecord → DoseRecord) (kept : ∀ d, (f d).erase = d.erase) :
    Minor r (r.modDose a k f) := by
  refine .modCurrentLine r a _ (fun l => ?_)
  unfold Line.erase
  rw [map_modify_kept kept]

theorem Minor.permits (r : Rack) (f : Permit → Permit) (kept : ∀ p, (f p).number = p.number ∧ (f p).admittedBay = p.admittedBay) :
    Minor r { r with permits := r.permits.map f } := by
  have permits : (r.permits.map f).map Permit.erase = r.permits.map Permit.erase := by
    rw [List.map_map]
    refine List.map_congr_left (fun p _ => ?_)
    simp only [Function.comp_apply, Permit.erase, (kept p).1, (kept p).2]
  unfold Minor Rack.erase
  rw [permits]

theorem Minor.accounts (r : Rack) (f : Account → Account) (kept : ∀ x, (f x).number = x.number ∧ (f x).reserved = x.reserved) :
    Minor r { r with accounts := r.accounts.map f } := by
  have accounts : (r.accounts.map f).map Account.erase = r.accounts.map Account.erase := by
    rw [List.map_map]
    refine List.map_congr_left (fun x _ => ?_)
    simp only [Function.comp_apply, Account.erase, (kept x).1, (kept x).2]
  unfold Minor Rack.erase
  rw [accounts]

theorem Minor.answerArm (r : Rack) (a : ArmId) (reason : Option PanelReason) : Minor r (r.answerArm a reason) :=
  (Minor.modArm r a _ rfl).trans (.callArm _ a)

theorem Minor.answerBay (r : Rack) (b : BayId) (reason : Option PanelReason) : Minor r (r.answerBay b reason) :=
  (Minor.modBay r b _ rfl).trans (.callBay _ b)

theorem Minor.learn (r : Rack) (a : ArmId) : Minor r (r.learn a) := by
  unfold Rack.learn
  split
  · exact (Minor.modArm r a _ rfl).trans (.modCurrentLine _ a _ (fun _ => rfl))
  · exact .refl r

theorem Minor.addOwed (r : Rack) (a : ArmId) (n : SlotId) (stroke amount : Nat) : Minor r (r.addOwed a n stroke amount) := by
  have owed : Minor r (r.modInjector a n (fun i => { i with owed := satAdd owedMax (r.injector a n).owed amount })) :=
    .modInjector r a n _ rfl
  unfold Rack.addOwed
  dsimp only
  split
  · exact owed.trans (.modCurrentLine _ a _ (fun _ => rfl))
  · exact owed

theorem Minor.tick (r : Rack) (now : Millis) : Minor r (r.tick now) := by
  have arms : (r.arms.map (Arm.tick now)).map Arm.erase = r.arms.map Arm.erase := by
    ext i hi
    simp only [Vector.getElem_map]
    rfl
  have injectors : (r.injectors.map (fun v => v.map (Injector.tick now))).map (fun v => v.map Injector.erase) =
      r.injectors.map (fun v => v.map Injector.erase) := by
    ext i hi j hj
    simp only [Vector.getElem_map]
    rfl
  unfold Minor Rack.erase Rack.tick
  dsimp only
  rw [arms, injectors]

/-! ### Changes that carry minor differences on -/

/-- A change of one arm made before or after forgetting. -/
theorem Rack.erase_modArm (r : Rack) (a : ArmId) (f g : Arm → Arm) (commute : (f (r.arm a)).erase = g (r.arm a).erase) :
    (r.modArm a f).erase = r.erase.modArm a g := by
  have arms : (r.modArm a f).erase.arms = (r.erase.modArm a g).arms := by
    ext i hi
    change (r.modArm a f).erase.arm ⟨i, hi⟩ = (r.erase.modArm a g).arm ⟨i, hi⟩
    rw [Rack.erase_arm, Rack.modArm_arm, Rack.modArm_arm, Rack.erase_arm, Rack.erase_arm]
    split
    · exact commute
    · rfl
  exact congrArg (fun v => { r.erase with arms := v }) arms

theorem Rack.erase_setState (c : Conditions) (r : Rack) (a : ArmId) (new : ArmState) :
    (r.setState c a new).erase = r.erase.modArm a (fun x => { x with state := new }) := by
  unfold Rack.setState
  split
  · rename_i same
    refine Eq.trans (Eq.symm (Minor.modArm r a (fun x => { x with state := new }) ?_)) (r.erase_modArm a _ _ rfl)
    rw [← same]
  · exact Eq.trans (Minor.callArm _ a) (r.erase_modArm a _ _ rfl)

/-- Minor differences stay minor under a change of state. -/
theorem Minor.setState {r r' : Rack} (h : Minor r r') (c : Conditions) (a : ArmId) (new : ArmState) :
    Minor (r.setState c a new) (r'.setState c a new) := by
  unfold Minor
  rw [Rack.erase_setState, Rack.erase_setState, h]

end Sys2Proof.Machine
end

section
/-! PROOF. The moves of the rack taken apart: every move but a rack restart is a chain of atoms, each of them small enough for one argument
in each invariant, and a rack restart is such a chain from the rack with its headers emptied. -/

namespace Sys2Proof.Machine

/-- An arm that serves nobody: OUT_OF_SERVICE, IDLE or ALARM. -/
abbrev ArmState.isResting (s : ArmState) : Prop := s = .outOfService ∨ s = .idle ∨ s = .alarm

/-- The smallest moves of the rack, with what each needs to be made. -/
inductive Atom (c : Conditions) : Rack → Rack → Prop
  | minor {r r' : Rack} (h : Minor r r') : Atom c r r'
  | close (r : Rack) (a : ArmId) (intent : Intent) (flow : (r.arm a).state.isFlow = true) : Atom c r (r.enterClosing c a intent)
  | toLowRun (r : Rack) (a : ArmId) (low : (r.arm a).state = .lowStart) : Atom c r (r.setState c a .lowRun)
  | leaveGrant (r : Rack) (a : ArmId) (old : ArmState) (stands : (r.arm a).state = old) (asked : old = .waitGrant ∨ old = .high) :
      Atom c r ((r.setState c a .lowRun).afterLeaving c a old)
  | joinWaiting (r : Rack) (a : ArmId) (low : (r.arm a).state = .lowStart) : Atom c r (r.joinWaiting c a)
  | rest (r : Rack) (a : ArmId) (new : ArmState) (rests : (r.arm a).state.isResting) (still : new.isResting) :
      Atom c r (r.setState c a new)
  | forget (r : Rack) (a : ArmId) (rests : (r.arm a).state.isResting) : Atom c r (r.modArm a (fun x => { x with current := none }))
  | begin (r r1 : Rack) (a : ArmId) (l : Line) (ready : (r.arm a).state = .ready) (line : r.currentLine a = some l)
      (permitted : c.permitted (bayOf a) = true) (normal : c.mode = .normal)
      (started : Minor ((r.modCurrentLine a (Line.firstStart c)).beginInjectors a l) r1) : Atom c r (r1.setState c a .lowStart)
  | resumed (r r1 : Rack) (a : ArmId) (l : Line) (new : ArmState) (suspended : (r.arm a).state = .suspended)
      (line : r.currentLine a = some l) (started : Minor (r.modCurrentLine a (fun l => { l with state := .active })) r1)
      (goes : new = .closing ∨ (new = .lowStart ∧ c.permitted (bayOf a) = true ∧ c.mode = .normal)) :
      Atom c r (r1.setState c a new)
  | suspend (r r1 : Rack) (a : ArmId) (closing : (r.arm a).state = .closing)
      (stopped : Minor (r.modCurrentLine a (fun l => { l with state := .suspended })) r1)
      (still : r.noStroke a = true) : Atom c r (r1.setState c a .suspended)
  | endPending (r : Rack) (n m : Nat) (l : Line) (cause : Option StopCause) (line : r.line? n m = some l)
      (pending : l.state = .pending) : Atom c r (r.endLineRecord n m .cancelled cause)
  | endQueued (r : Rack) (n m : Nat) (l : Line) (a : ArmId) (cause : Option StopCause) (line : r.line? n m = some l)
      (queued : l.state = .queued) (arm : l.arm = some a) :
      Atom c r ((r.endLineRecord n m .cancelled cause).dropQueued c a n m)
  | endCurrent (r : Rack) (a : ArmId) (final : LineState) (cause : Option StopCause)
      (bears : (r.arm a).state = .closing ∨ (r.arm a).state = .suspended) (ended : final.isFinal = true)
      (still : (r.arm a).state = .closing → r.noStroke a = true) : Atom c r (r.endCurrent c a final cause)
  | testOrder (r : Rack) (n : Nat) : Atom c r (r.testOrder c n)
  | returnBehind (r : Rack) (a : ArmId) : Atom c r (r.returnBehind a)
  | returnAll (r : Rack) (a : ArmId) (ready : (r.arm a).state = .ready) : Atom c r (r.returnAll c a)
  | startStroke (r : Rack) (a : ArmId) (n : SlotId) (k : SlotConfig) (slot : r.slotConfig a n = some k)
      (serves : (r.servedDose a n).isSome = true) (idle : (r.injector a n).phase = .none) (running : (r.arm a).state.isRunning = true)
      (covered : (r.additive k.additive).inFlight + k.stroke ≤ (r.additive k.additive).stock) : Atom c r (r.startStroke c a n k)
  | goodStroke (r : Rack) (a : ArmId) (n : SlotId) (k : SlotConfig) (j : Nat) (d : DoseRecord) (slot : r.slotConfig a n = some k)
      (inFlight : (r.injector a n).phase ≠ .none) (place : (r.injector a n).served = some j) (serves : r.servedDose a n = some d) :
      Atom c r (r.goodStroke a n k)
  | strokeLost (r : Rack) (a : ArmId) (n : SlotId) (k : SlotConfig) (slot : r.slotConfig a n = some k)
      (inFlight : (r.injector a n).phase ≠ .none) :
      Atom c r ((r.endStroke a n).modAdditive k.additive (fun x => { x with inFlight := x.inFlight - k.stroke }))
  | dropStroke (r : Rack) (a : ArmId) (n : SlotId) (none : r.servedDose a n = none) : Atom c r (r.endStroke a n)
  | newPermit (r : Rack) (p : Permit) (absent : r.permit? p.number = none) (free : p.admittedBay = none) :
      Atom c r { r with permits := r.permits ++ [p] }
  | retirePermit (r : Rack) (n : Nat) (unnamed : ∀ o ∈ r.orders, o.permit ≠ n) :
      Atom c r { r with permits := r.permits.filter (fun x => decide (x.number ≠ n)) }
  | newAccount (r : Rack) (x : Account) (absent : r.account? x.number = none) (unreserved : x.reserved = 0) :
      Atom c r { r with accounts := r.accounts ++ [x] }
  | closeAccount (r : Rack) (x : Account) (found : r.account? x.number = some x) (unreserved : x.reserved = 0) :
      Atom c r { r with accounts := r.accounts.filter (fun y => decide (y.number ≠ x.number)) }
  | refill (r : Rack) (x : AdditiveId) (n : Nat) : Atom c r (r.modAdditive x (Additive.refill n))
  | book (r : Rack) (k : Booking) (passed : bookRefusal c r k = none) (numbered : (k.lines.map (fun l => l.number)).Nodup) :
      Atom c r (r.book c k)
  | amend (r : Rack) (o : Order) (l : Line) (new : Nat) (order : r.order? o.number = some o) (line : o.line? l.number = some l)
      (passed : amendRefusal r o l new = none) : Atom c r (r.amend o l new)
  | retireOrder (r : Rack) (o : Order) (order : r.order? o.number = some o) (ended : o.state = .complete ∨ o.state = .void) :
      Atom c r (r.retireOrder o.number)
  | admitOrder (r : Rack) (b : BayId) (p : Permit) (o : Order) (xs : List (Nat × ArmId)) (free : (r.bay b).admitted = none)
      (order : r.orderForCard b p.number = some o) (permit : r.permit? p.number = some p) (passed : cardRefusal c r p o = none)
      (assigned : assignment r b o = .ok xs) : Atom c r (r.admitOrder c b p o xs)
  | configure (r : Rack) (a : ArmId) (k : ArmConfig) (differ : k.slotsDiffer)
      (still : (r.arm a).state = .idle ∨ (r.arm a).state = .outOfService) : Atom c r (r.configure a k)
  | setCapacity (r : Rack) (h : HeaderId) (cap : Nat) : Atom c r (setCapacity c h cap r).1

/-- A chain of atoms. -/
def Atoms (c : Conditions) : Rack → Rack → Prop := Relation.ReflTransGen (Atom c)

variable {c : Conditions}

theorem Atoms.refl {r : Rack} : Atoms c r r := Relation.ReflTransGen.refl

theorem Atoms.of {r r' : Rack} (h : Atom c r r') : Atoms c r r' := Relation.ReflTransGen.single h

theorem Atoms.trans {r s t : Rack} (h : Atoms c r s) (g : Atoms c s t) : Atoms c r t := Relation.ReflTransGen.trans h g

theorem Atoms.tail {r s t : Rack} (h : Atoms c r s) (g : Atom c s t) : Atoms c r t := h.trans (.of g)

theorem Atoms.minor {r r' : Rack} (h : Minor r r') : Atoms c r r' := .of (.minor h)

/-! ### Causes -/

theorem Rack.raiseCause_atoms (r : Rack) (a : ArmId) (cause : Cause) : Atoms c r (r.raiseCause c a cause) := by
  unfold Rack.raiseCause
  split
  · rename_i flow
    refine (Atoms.minor (.modArm r a _ ?_)).trans (.of (.close _ a .suspend ?_))
    · rfl
    · simpa using flow
  · split
    · split
      · exact .minor (.modArm r a _ rfl)
      · split
        · exact .minor (.modCurrentLine r a _ (fun _ => rfl))
        · exact .minor (.modArm r a _ rfl)
    · exact .refl

theorem raiseCauses_atoms (cause : Cause) (arms : List ArmId) (r : Rack) : Atoms c r (raiseCauses c cause arms r) := by
  induction arms generalizing r with
  | nil => exact .refl
  | cons a rest ih => exact (r.raiseCause_atoms a cause).trans (ih _)

/-! ### The end of a line -/

theorem Rack.endLine_atoms (r : Rack) (a : ArmId) (final : LineState) (cause : Option StopCause)
    (bears : (r.arm a).state = .closing ∨ (r.arm a).state = .suspended) (ended : final.isFinal = true)
    (still : (r.arm a).state = .closing → r.noStroke a = true) : Atoms c r (r.endLine c a final cause) := by
  unfold Rack.endLine
  split
  · exact (Atoms.of (.endCurrent r a final cause bears ended still)).tail (.testOrder _ _)
  · exact .refl

theorem Rack.learn_noStroke (r : Rack) (a : ArmId) : (r.learn a).noStroke a = r.noStroke a := by
  unfold Rack.noStroke
  rw [Rack.learn_injectors]

theorem Rack.settle_atoms (r : Rack) (a : ArmId) (closing : (r.arm a).state = .closing) (still : r.noStroke a = true) :
    Atoms c r (r.settle c a) := by
  have ended (final : LineState) (cause : Option StopCause) (isFinal : final.isFinal = true) : Atoms c r (r.endLine c a final cause) :=
    r.endLine_atoms a final cause (.inl closing) isFinal (fun _ => still)
  unfold Rack.settle
  split
  · exact (Atoms.minor (.learn r a)).trans (Rack.endLine_atoms _ a _ _ (.inl ((Minor.learn r a).state a ▸ closing)) rfl
      (fun _ => (r.learn_noStroke a).trans still))
  · exact ended _ _ rfl
  · exact ended _ _ rfl
  · split
    · exact ended _ _ rfl
    · exact .of (.suspend r _ a closing (.modArm _ a _ rfl) still)
  · exact .refl

theorem Rack.settleIfStill_atoms (r : Rack) (a : ArmId) : Atoms c r (r.settleIfStill c a) := by
  unfold Rack.settleIfStill
  split
  · rename_i still
    exact r.settle_atoms a still.1 still.2.2
  · exact .refl

theorem Rack.stopArm_atoms (r : Rack) (a : ArmId) (cause : StopCause) : Atoms c r (r.stopArm c a cause) := by
  unfold Rack.stopArm
  split
  · rename_i flow
    refine (Atoms.minor (.modArm r a _ ?_)).trans (.of (.close _ a .stop ?_))
    · rfl
    · simpa using flow
  · split
    · exact .minor ((Minor.modArm r a _ rfl).trans (.callArm _ a))
    · split
      · rename_i suspended
        exact r.endLine_atoms a _ _ (.inr suspended) rfl (fun closing => by simp [suspended] at closing)
      · exact .refl

theorem Rack.stopLine_atoms (r : Rack) (n m : Nat) (cause : StopCause) (pendingToo : Bool) :
    Atoms c r (r.stopLine c n m cause pendingToo) := by
  unfold Rack.stopLine
  split
  · rename_i l line
    cases state : l.state with
    | pending =>
      dsimp only
      split
      · exact (Atoms.of (.endPending r n m l _ line state)).tail (.testOrder _ _)
      · exact .refl
    | queued =>
      dsimp only
      split
      · rename_i a arm
        exact (Atoms.of (.endQueued r n m l a _ line state arm)).tail (.testOrder _ _)
      · exact .refl
    | active =>
      dsimp only
      split
      · exact r.stopArm_atoms _ cause
      · exact .refl
    | suspended =>
      dsimp only
      split
      · exact r.stopArm_atoms _ cause
      · exact .refl
    | full => exact .refl
    | stopped => exact .refl
    | cancelled => exact .refl
    | interrupted => exact .refl
  · exact .refl

theorem stopLines_atoms (n : Nat) (cause : StopCause) (pendingToo : Bool) (lines : List Nat) (r : Rack) :
    Atoms c r (stopLines c n cause pendingToo lines r) := by
  induction lines generalizing r with
  | nil => exact .refl
  | cons m rest ih => exact (r.stopLine_atoms n m cause pendingToo).trans (ih _)

/-! ### Dosing -/

theorem overSlots_atoms {f : SlotId → Rack → Rack} (h : ∀ n r, Atoms c r (f n r)) (r : Rack) : Atoms c r (overSlots f r) :=
  (((h 0 r).trans (h 1 _)).trans (h 2 _)).trans (h 3 _)

theorem Rack.shortStock_atoms (r : Rack) (a : ArmId) (n : SlotId) (x : AdditiveId) : Atoms c r (r.shortStock c a n x) := by
  unfold Rack.shortStock
  split
  · exact r.raiseCause_atoms a _
  · split
    · split
      · exact r.raiseCause_atoms a _
      · exact .minor (.modCurrentLine r a _ (fun _ => rfl))
    · exact .refl

theorem Rack.strokeTest_atoms (r : Rack) (a : ArmId) (n : SlotId) : Atoms c r (r.strokeTest c a n) := by
  unfold Rack.strokeTest
  split
  · rename_i k slot
    split
    · rename_i due
      simp only [Rack.strokeDue, Bool.and_eq_true, decide_eq_true_eq] at due
      obtain ⟨⟨⟨⟨serves, -⟩, idle⟩, running⟩, -⟩ := due
      split
      · rename_i covered
        exact .of (.startStroke r a n k slot serves idle running covered)
      · exact r.shortStock_atoms a n _
    · exact .refl
  · exact .refl

theorem Rack.doseStep_atoms (r : Rack) (a : ArmId) (n : SlotId) : Atoms c r (r.doseStep c a n) := by
  unfold Rack.doseStep
  split
  · exact (Atoms.minor (.addOwed r a n _ _)).trans (Rack.strokeTest_atoms _ a n)
  · exact .refl

theorem Rack.goodStroke_atoms (r : Rack) (a : ArmId) (n : SlotId) (k : SlotConfig) (slot : r.slotConfig a n = some k)
    (inFlight : (r.injector a n).phase ≠ .none) : Atoms c r (r.goodStroke a n k) := by
  cases serves : r.servedDose a n with
  | none =>
    have ends : r.goodStroke a n k = r.endStroke a n := by
      unfold Rack.goodStroke
      simp [serves]
    exact ends ▸ .of (.dropStroke r a n serves)
  | some d =>
    cases place : (r.injector a n).served with
    | none => simp [Rack.servedDose, place] at serves
    | some j => exact .of (.goodStroke r a n k j d slot inFlight place serves)

theorem Rack.missStroke_atoms (r : Rack) (a : ArmId) (n : SlotId) (k : SlotConfig) (slot : r.slotConfig a n = some k)
    (inFlight : (r.injector a n).phase ≠ .none) : Atoms c r (r.missStroke c a n k) := by
  unfold Rack.missStroke
  split
  · rename_i j place
    have counted : ∀ i : Injector, ({ i with misses := satAdd 255 i.misses 1 } : Injector).erase = i.erase := fun _ => rfl
    have missed := (((Atoms.of (c := c) (.strokeLost r a n k slot inFlight)).trans
      (.minor (.addOwed _ a n k.stroke (100 * k.stroke)))).trans
      (.minor (.modDose _ a j (fun d => { d with misses := satAdd 65535 d.misses 1 }) (fun _ => rfl)))).trans
      (.minor (.modInjector _ a n (fun i => { i with misses := satAdd 255 i.misses 1 }) (counted _)))
    dsimp only
    split
    · exact missed.trans (Rack.raiseCause_atoms _ a _)
    · exact missed
  · rename_i unserved
    exact .of (.dropStroke r a n (by simp [Rack.servedDose, unserved]))

theorem Rack.strokeOutcome_atoms (r : Rack) (a : ArmId) (n : SlotId) (good : Bool) (inFlight : (r.injector a n).phase ≠ .none) :
    Atoms c r (r.strokeOutcome c a n good) := by
  unfold Rack.strokeOutcome
  split
  · rename_i k slot
    have outcome : Atoms c r (if good then r.goodStroke a n k else r.missStroke c a n k) := by
      split
      · exact r.goodStroke_atoms a n k slot inFlight
      · exact r.missStroke_atoms a n k slot inFlight
    exact (outcome.trans (Rack.strokeTest_atoms _ a n)).trans (Rack.settleIfStill_atoms _ a)
  · exact .refl

theorem Rack.feedbackFall_atoms (r : Rack) (a : ArmId) (n : SlotId) : Atoms c r (r.feedbackFall c a n) := by
  have level : Minor r (r.modInjector a n (fun i => { i with feedback := false })) := .modInjector r a n _ rfl
  unfold Rack.feedbackFall
  dsimp only
  split
  · rename_i active
    refine (Atoms.minor level).trans (Rack.strokeOutcome_atoms _ a n _ ?_)
    simp [active]
  · exact .minor level

/-! ### Steps -/

theorem Rack.testThresholds_atoms (r : Rack) (a : ArmId) (flow : (r.arm a).state.isFlow = true) :
    Atoms c r (r.testThresholds c a) := by
  unfold Rack.testThresholds
  split
  · split
    · exact .of (.close r a _ flow)
    · cases state : (r.arm a).state with
      | lowStart =>
        dsimp only
        split
        · split
          · exact .of (.toLowRun r a state)
          · exact .of (.joinWaiting r a state)
        · exact .refl
      | waitGrant =>
        dsimp only
        split
        · exact .of (.leaveGrant r a _ state (.inl rfl))
        · exact .refl
      | high =>
        dsimp only
        split
        · exact .of (.leaveGrant r a _ state (.inr rfl))
        · exact .refl
      | _ => exact .refl
  · exact .refl

theorem Rack.armStep_atoms (r : Rack) (a : ArmId) : Atoms c r (r.armStep c a) := by
  unfold Rack.armStep
  split
  · rename_i flow
    refine (Atoms.minor (.modArm r a _ ?_)).trans (Rack.testThresholds_atoms _ a ?_)
    · rfl
    · simpa using flow
  · exact .minor (.modArm r a _ rfl)

theorem Line.erase_addStep (l : Line) (x : Channel) (ppm : Int) : (l.addStep x ppm).erase = l.erase := rfl

theorem Rack.assignedStep_atoms (r : Rack) (a : ArmId) : Atoms c r (r.assignedStep c a) := by
  unfold Rack.assignedStep
  split
  · rename_i l _
    dsimp only
    have gained := Minor.modCurrentLine r a (fun l' => l'.addStep (r.channel a) (stepCtl c r a l)) (fun _ => Line.erase_addStep _ _ _)
    refine Atoms.trans ?_ (overSlots_atoms (fun n r => r.doseStep_atoms a n) _)
    refine Atoms.trans ?_ (Rack.armStep_atoms _ a)
    exact (Atoms.minor gained).trans (.minor (.modChannel _ a _))
  · exact .refl

/-- An arm at rest goes to another state of rest with a return state. -/
theorem Atoms.alarm (r : Rack) (a : ArmId) (x : ReturnState) (rests : (r.arm a).state.isResting) :
    Atoms c r ((r.modArm a (fun y => { y with returnState := some x })).setState c a .alarm) := by
  refine (Atoms.minor (.modArm r a _ ?_)).trans (.of (.rest _ a .alarm ?_ (.inr (.inr rfl))))
  · rfl
  · simpa using rests

theorem Rack.unassignedStep_atoms (r : Rack) (a : ArmId) : Atoms c r (r.unassignedStep c a) := by
  have counted : Minor r (r.modChannel a (fun x =>
      { x.advance x.factor x.factor with unassigned := satAdd 65535 x.unassigned 1 })) := .modChannel r a _
  unfold Rack.unassignedStep
  dsimp only
  split
  · cases state : (r.arm a).state with
    | idle => exact (Atoms.minor counted).trans (.alarm _ a .idle (.inr (.inl state)))
    | outOfService => exact (Atoms.minor counted).trans (.alarm _ a .outOfService (.inl state))
    | _ => exact .minor counted
  · exact .minor counted

theorem Rack.step_atoms (r : Rack) (a : ArmId) : Atoms c r (r.step c a) := by
  unfold Rack.step
  split
  · exact r.assignedStep_atoms a
  · exact r.unassignedStep_atoms a

theorem Rack.pulse_atoms (r : Rack) (a : ArmId) : Atoms c r (r.pulse c a) := by
  unfold Rack.pulse
  dsimp only
  split
  · exact .minor (.modChannel r a _)
  · split
    · refine Atoms.trans ?_ (Rack.step_atoms _ a)
      exact (Atoms.minor (.modChannel r a _)).trans (.minor (.modChannel _ a _))
    · exact (Atoms.minor (.modChannel r a _)).trans (.minor (.modChannel _ a _))

/-! ### START, cards, service -/

theorem Minor.reading (r : Rack) (a : ArmId) (x : Reading) : Minor r (r.reading c a x) := by
  unfold Rack.reading
  split
  · exact (Minor.modChannel r a _).trans (.modArm _ a _ rfl)
  · exact .modChannel r a _

theorem startRefusal_none {r : Rack} {a : ArmId} (h : startRefusal c r a = none) :
    c.permitted (bayOf a) = true ∧ c.mode = .normal := by
  unfold startRefusal at h
  split at h
  · cases h
  · split at h
    · cases h
    · rename_i permitted halted
      refine ⟨by simpa using permitted, ?_⟩
      cases mode : c.mode with
      | normal => rfl
      | halted => exact absurd mode halted

theorem resumeRefusal_none {r : Rack} {a : ArmId} (h : resumeRefusal c r a = none) :
    c.permitted (bayOf a) = true ∧ c.mode = .normal := by
  unfold resumeRefusal at h
  split at h
  · cases h
  · split at h
    · cases h
    · rename_i permitted halted
      refine ⟨by simpa using permitted, ?_⟩
      cases mode : c.mode with
      | normal => rfl
      | halted => exact absurd mode halted

/-- What an entry to LOW_START adds to the change of state: timers, the mark and perhaps PROBE. -/
theorem Rack.enterLowStart_atoms {r r1 : Rack} {a : ArmId} {k : ArmConfig} {v : Nat}
    (enters : ∀ r2, Minor r1 r2 → Atom c r (r2.setState c a .lowStart)) : Atoms c r (r1.enterLowStart c a k v) := by
  have entered : Atoms c r _ := (Atoms.of (enters _ (.modChannel r1 a
    (Channel.restart c ((effectiveBank c r1 a).factorAt a 0))))).trans (.minor (.modArm _ a
      (fun x => { x with startMark := some (v + k.lowStart * 100000), noFlowTimer := some c.stamp }) rfl))
  unfold Rack.enterLowStart
  dsimp only
  split
  · exact entered.trans (Rack.raiseCause_atoms _ a _)
  · exact entered

/-- The order of the changes at a first start does not matter: what the arm forgets is not what the channels take. -/
theorem Minor.firstStart (r : Rack) (a : ArmId) (l : Line) (f : Arm → Arm) (kept : ∀ x : Arm, (f x).erase = x.erase) :
    Minor (r.beginInjectors a l) ((r.modArm a f).beginInjectors a l) := by
  have outside : (r.modArm a f).beginInjectors a l = (r.beginInjectors a l).modArm a f := rfl
  rw [outside]
  exact .modArm _ a f (kept _)

theorem Rack.firstStart_atoms (r : Rack) (a : ArmId) (ready : (r.arm a).state = .ready) (permitted : c.permitted (bayOf a) = true)
    (normal : c.mode = .normal) : Atoms c r (r.firstStart c a) := by
  unfold Rack.firstStart
  split
  · rename_i k l _ line
    refine Rack.enterLowStart_atoms (fun r2 minor => .begin r r2 a l ready line permitted normal ?_)
    refine Eq.trans minor (Minor.firstStart _ a l _ (fun x => ?_))
    rfl
  · exact .refl

theorem Rack.enterClosing_suspended (r : Rack) (a : ArmId) (intent : Intent) (suspended : (r.arm a).state = .suspended) :
    r.enterClosing c a intent = (r.setState c a .closing).modArm a (fun x =>
      { x with intent := some intent, noFlowTimer := none, settleTimer := some c.stamp, quiet := false }) := by
  simp [Rack.enterClosing, Rack.afterLeaving, suspended]

theorem Rack.resume_atoms (r : Rack) (a : ArmId) (suspended : (r.arm a).state = .suspended)
    (permitted : c.permitted (bayOf a) = true) (normal : c.mode = .normal) : Atoms c r (r.resume c a) := by
  unfold Rack.resume
  split
  · rename_i k l _ line
    refine Atoms.trans ?_ (overSlots_atoms (fun n r => r.strokeTest_atoms a n) _)
    have started : Minor (r.modCurrentLine a (fun l => { l with state := .active }))
        (((r.modCurrentLine a (fun l => { l with state := .active })).modArm a (fun x =>
          { x with causes := [], probeRefreshed := false })).modInjectors a (fun i => { i with misses := 0 })) :=
      (Minor.modArm _ a _ rfl).trans (.modInjectors _ a _ (fun _ => rfl))
    split
    · rw [Rack.enterClosing_suspended _ a _ (by simpa [Rack.modCurrentLine_arm] using suspended)]
      exact (Atoms.of (.resumed r _ a l .closing suspended line started (.inl rfl))).trans (.minor (.modArm _ a _ rfl))
    · exact Rack.enterLowStart_atoms (fun r2 minor =>
        .resumed r r2 a l .lowStart suspended line (started.trans minor) (.inr ⟨rfl, permitted, normal⟩))
  · exact .refl

theorem Rack.startArm_atoms (r : Rack) (a : ArmId) : Atoms c r (r.startArm c a) := by
  unfold Rack.startArm
  cases state : (r.arm a).state with
  | ready =>
    dsimp only
    split
    · exact .minor (.answerArm r a _)
    · rename_i passed
      obtain ⟨permitted, normal⟩ := startRefusal_none passed
      exact (r.firstStart_atoms a state permitted normal).tail (.minor (.callArm _ a))
  | suspended =>
    dsimp only
    split
    · exact .minor (.answerArm r a _)
    · rename_i passed
      obtain ⟨permitted, normal⟩ := resumeRefusal_none passed
      exact (r.resume_atoms a state permitted normal).tail (.minor (.callArm _ a))
  | _ => exact .minor (.answerArm r a _)

theorem Rack.cardAt_atoms (r : Rack) (b : BayId) (n : Nat) : Atoms c r (r.cardAt c b n) := by
  unfold Rack.cardAt
  split
  · exact .minor (.answerBay r b _)
  · rename_i free
    split
    · exact .minor (.answerBay r b _)
    · rename_i o order
      split
      · exact .minor (.answerBay r b _)
      · rename_i p permit
        split
        · exact .minor (.answerBay r b _)
        · rename_i passed
          split
          · exact .minor (.answerBay r b _)
          · rename_i xs assigned
            obtain rfl := Rack.permit_number permit
            exact .of (.admitOrder r b p o xs (by simpa using free) order permit passed assigned)

theorem Rack.enterIdle_atoms (r : Rack) (a : ArmId) (rests : (r.arm a).state.isResting) : Atoms c r (r.enterIdle c a) := by
  have idle : Atoms c r ((r.modArm a (fun x => { x with current := none })).setState c a .idle) := by
    refine (Atoms.of (.forget r a rests)).trans (.of (.rest _ a .idle ?_ (.inr (.inl rfl))))
    simpa using rests
  unfold Rack.enterIdle
  dsimp only
  split
  · exact idle.trans (.alarm _ a .idle (.inr (.inl (by simp))))
  · exact idle

theorem Rack.clearArm_atoms (r : Rack) (a : ArmId) : Atoms c r (r.clearArm c a) := by
  unfold Rack.clearArm
  dsimp only
  split
  · rename_i alarm
    refine ((Atoms.minor (.modChannel r a _)).trans (.minor (.modArm _ a _ rfl))).trans (.of (.rest _ a _ ?_ ?_))
    · exact .inr (.inr (by simp [alarm]))
    · cases (r.arm a).returnState with
      | none => exact .inl rfl
      | some x =>
        cases x with
        | idle => exact .inr (.inl rfl)
        | outOfService => exact .inl rfl
  · exact .minor (.modChannel r a _)

/-! ### Restart -/

theorem Rack.returnBehind_state (r : Rack) (a : ArmId) : ((r.returnBehind a).arm a).state = (r.arm a).state := by
  have lines : ∀ (es : List QueueEntry) (r : Rack), (returnLines es r).arm a = r.arm a := by
    intro es
    induction es with
    | nil => exact fun _ => rfl
    | cons e rest ih => exact fun r => (ih _).trans (by simp)
  simp [Rack.returnBehind, lines]

theorem Rack.restartArm_atoms (r : Rack) (a : ArmId) : Atoms c r (r.restartArm c a) := by
  have behind : Atoms c r (r.returnBehind a) := .of (.returnBehind r a)
  have state' := r.returnBehind_state a
  have closes (flow : (r.arm a).state.isFlow = true) : Atoms c r ((r.returnBehind a).enterClosing c a .interrupt) :=
    behind.tail (.close _ a _ (state' ▸ flow))
  unfold Rack.restartArm
  cases state : (r.arm a).state with
  | ready => exact .of (.returnAll r a state)
  | lowStart => exact closes (by simp [state, ArmState.isFlow])
  | waitGrant => exact closes (by simp [state, ArmState.isFlow])
  | high => exact closes (by simp [state, ArmState.isFlow])
  | lowRun => exact closes (by simp [state, ArmState.isFlow])
  | closing => exact behind.tail (.minor (.modArm _ a _ rfl))
  | suspended => exact behind.tail (.endCurrent _ a _ _ (.inr (state'.trans state)) rfl (fun closing => by simp [state', state] at closing))
  | _ => exact .refl

theorem restartArms_atoms (arms : List ArmId) (r : Rack) : Atoms c r (restartArms c arms r) := by
  induction arms generalizing r with
  | nil => exact .refl
  | cons a rest ih => exact (r.restartArm_atoms a).trans (ih _)

theorem testOrdersAt_atoms (arms : List ArmId) (r : Rack) : Atoms c r (testOrdersAt c arms r) := by
  induction arms generalizing r with
  | nil => exact .refl
  | cons a rest ih =>
    refine Atoms.trans ?_ (ih _)
    unfold Rack.testOrderAt
    split
    · exact .of (.testOrder _ _)
    · exact .refl

theorem Rack.restart_atoms (r : Rack) (arms : List ArmId) : Atoms c r.emptyHeaders (r.restart c arms) :=
  (restartArms_atoms arms _).trans (testOrdersAt_atoms arms _)

/-! ### Every move -/

/-- Every move is a chain of atoms, but a rack restart empties the headers first. -/
inductive Chain (c : Conditions) : Rack → Rack → Prop
  | atoms {r r' : Rack} (h : Atoms c r r') : Chain c r r'
  | restart (r : Rack) (arms : List ArmId) (all : arms.Perm allArms) : Chain c r (r.restart c arms)
  | trans {r s t : Rack} : Chain c r s → Chain c s t → Chain c r t

theorem RackMove.chain {r r' : Rack} (h : RackMove c r r') : Chain c r r' := by
  induction h with
  | same r => exact .atoms .refl
  | trans _ _ first second => exact first.trans second
  | pump r => exact .atoms (.minor (.pump r))
  | pulse r a => exact .atoms (r.pulse_atoms a)
  | endWindow r a => exact .atoms (.minor (.modChannel r a _))
  | reading r a x => exact .atoms (.minor (.reading r a x))
  | staleness r a => exact .atoms ((Atoms.minor (.modChannel r a _)).trans (Rack.raiseCause_atoms _ a _))
  | noFlow r a => exact .atoms ((Atoms.minor (.modArm r a _ rfl)).trans (Rack.raiseCause_atoms _ a _))
  | becomeQuiet r a => exact .atoms ((Atoms.minor (.modArm r a _ rfl)).trans (Rack.settleIfStill_atoms _ a))
  | repeatShow r a => exact .atoms (.minor ((Minor.modArm r a _ rfl).trans (.callArm _ a)))
  | rise r a n =>
    refine .atoms (.minor (.modInjector r a n _ ?_))
    unfold Injector.rise Injector.erase
    cases phase : (r.injector a n).phase <;> simp
  | fall r a n => exact .atoms (r.feedbackFall_atoms a n)
  | missed r a n inFlight => exact .atoms (r.strokeOutcome_atoms a n false inFlight)
  | answerBay r b reason => exact .atoms (.minor (.answerBay r b reason))
  | startArm r a => exact .atoms (r.startArm_atoms a)
  | stopFromPanel r a => exact .atoms ((r.stopArm_atoms a _).tail (.minor (.answerArm _ a _)))
  | cardAt r b n => exact .atoms (r.cardAt_atoms b n)
  | sent r b => exact .atoms (.minor (.modPanel r b _))
  | permits r f kept => exact .atoms (.minor (.permits r f kept))
  | newPermit r p absent free => exact .atoms (.of (.newPermit r p absent free))
  | retirePermit r n unnamed => exact .atoms (.of (.retirePermit r n unnamed))
  | suspendAdmitted r b =>
    refine .atoms ?_
    unfold Rack.suspendAdmitted
    split
    · split
      · exact stopLines_atoms _ _ _ _ r
      · exact .refl
    · exact .refl
  | units r us => exact .atoms (.minor rfl)
  | accounts r f kept => exact .atoms (.minor (.accounts r f kept))
  | newAccount r x absent unreserved => exact .atoms (.of (.newAccount r x absent unreserved))
  | closeAccount r x found unreserved => exact .atoms (.of (.closeAccount r x found unreserved))
  | lowMark r x n => exact .atoms (.minor (.modAdditive r x _ rfl))
  | refill r x n => exact .atoms (.of (.refill r x n))
  | book r k passed numbered => exact .atoms (.of (.book r k passed numbered))
  | amend r o l new order line passed => exact .atoms (.of (.amend r o l new order line passed))
  | cancelOrder r o order live => exact .atoms (stopLines_atoms _ _ _ _ r)
  | testOrder r n => exact .atoms (.of (.testOrder r n))
  | retireOrder r o order ended => exact .atoms (.of (.retireOrder r o order ended))
  | configure r a k differ still => exact .atoms (.of (.configure r a k differ still))
  | serviceOut r a still => exact .atoms (.of (.rest r a _ (.inr (.inl still)) (.inl rfl)))
  | returnState r a => exact .atoms (.minor (.modArm r a _ rfl))
  | serviceIn r a still => exact .atoms (r.enterIdle_atoms a (.inl still))
  | clearArm r a still => exact .atoms (r.clearArm_atoms a)
  | setCapacity r h cap => exact .atoms (.of (.setCapacity r h cap))
  | restart r arms all => exact .restart r arms all

/-- What every atom keeps, a chain of atoms keeps. -/
theorem Atoms.keep {P : Rack → Prop} (keeps : ∀ {r r' : Rack}, Atom c r r' → P r → P r') {r r' : Rack} (h : Atoms c r r')
    (hp : P r) : P r' := by
  induction h with
  | refl => exact hp
  | tail _ last ih => exact keeps last ih

/-- An invariant is proved atom by atom; a rack restart asks that emptying the headers keeps it. -/
theorem RackInvariant.of_atoms {P : Rack → Prop} (keeps : ∀ {c : Conditions} {r r' : Rack}, Atom c r r' → P r → P r')
    (restart : ∀ {c : Conditions} (r : Rack) (arms : List ArmId), arms.Perm allArms → P r → P (r.restart c arms))
    (powerOn : ∀ (inputs : InputLevels) (cal : CalStore) (r : Rack), P r → P (r.powerOn inputs cal)) : RackInvariant P where
  moves := by
    intro c r r' move
    have chain := move.chain
    clear move
    induction chain with
    | atoms h => exact h.keep keeps
    | restart r arms all => exact restart r arms all
    | trans _ _ first second => exact fun hp => second (first hp)
  raised := fun _ cause arms r => (raiseCauses_atoms cause arms r).keep keeps
  tick := fun now r => keeps (c := State.reset.cond) (.minor (.tick r now))
  powerOn := powerOn

end Sys2Proof.Machine
end

section
/-! PROOF. Flow under permission (O54): what an atom does to the states of the arms, and that no step leaves an arm in flow without
permission. -/

namespace Sys2Proof.Machine

/-! ### The arms after a composite atom -/

variable {c : Conditions}

section Readings
variable (r : Rack)

theorem returnLines_tables (es : List QueueEntry) : returnLines es r = { r with orders := (returnLines es r).orders } := by
  induction es generalizing r with
  | nil => rfl
  | cons e rest ih =>
    unfold returnLines
    rw [ih]
    rfl

@[simp] theorem returnLines_arms (es : List QueueEntry) : (returnLines es r).arms = r.arms := by
  rw [returnLines_tables]

@[simp] theorem returnLines_headers (es : List QueueEntry) : (returnLines es r).headers = r.headers := by
  rw [returnLines_tables]

theorem moveAdditives_tables (new : Nat) (ds : List DoseRecord) :
    moveAdditives new ds r = { r with additives := (moveAdditives new ds r).additives } := by
  induction ds generalizing r with
  | nil => rfl
  | cons d rest ih =>
    unfold moveAdditives
    rw [ih]
    rfl

@[simp] theorem moveAdditives_arms (new : Nat) (ds : List DoseRecord) : (moveAdditives new ds r).arms = r.arms := by
  rw [moveAdditives_tables]

@[simp] theorem moveAdditives_headers (new : Nat) (ds : List DoseRecord) : (moveAdditives new ds r).headers = r.headers := by
  rw [moveAdditives_tables]

theorem Rack.returnBehind_arm (a b : ArmId) : (r.returnBehind a).arm b =
    if a = b then { r.arm a with queue := (r.arm a).queue.filter (fun e => !((r.arm a).isBehind e)) } else r.arm b := by
  have arm (es : List QueueEntry) (b : ArmId) : (returnLines es r).arm b = r.arm b := Rack.arm_eq (returnLines_arms r es) b
  unfold Rack.returnBehind
  rw [Rack.modArm_arm, arm, arm]

theorem Rack.beginInjectors_tables (a : ArmId) (l : Line) :
    r.beginInjectors a l = { r with injectors := (r.beginInjectors a l).injectors } := rfl

theorem Rack.beginInjectors_arm (a b : ArmId) (l : Line) : (r.beginInjectors a l).arm b = r.arm b := rfl

theorem Rack.beginInjectors_headers (a : ArmId) (l : Line) : (r.beginInjectors a l).headers = r.headers := rfl

@[simp] theorem Rack.enterIdle_current (a : ArmId) : ((r.enterIdle c a).arm a).current = none := by
  unfold Rack.enterIdle
  dsimp only
  split <;> simp

@[simp] theorem Rack.enterIdle_config (a b : ArmId) : ((r.enterIdle c a).arm b).config = (r.arm b).config := by
  unfold Rack.enterIdle
  dsimp only
  split <;> by_cases h : a = b <;> simp [h]

theorem Rack.takeHead_current (a : ArmId) : ((r.takeHead c a).arm a).current = (r.arm a).head := by
  unfold Rack.takeHead
  split
  · rename_i e head
    simp [head]
  · rename_i head
    rw [Rack.enterIdle_current, head]

@[simp] theorem Rack.takeHead_config (a b : ArmId) : ((r.takeHead c a).arm b).config = (r.arm b).config := by
  unfold Rack.takeHead
  split
  · by_cases h : a = b <;> simp [h]
  · exact r.enterIdle_config a b

/-- An arm that serves nobody, or is about to. -/
abbrev ArmState.isFree (s : ArmState) : Prop := s = .ready ∨ s = .idle ∨ s = .alarm

theorem Rack.returnAll_other (a b : ArmId) (h : b ≠ a) : (r.returnAll c a).arm b = r.arm b := by
  have arm : (returnLines (r.arm a).queue r).arm b = r.arm b := Rack.arm_eq (returnLines_arms r _) b
  unfold Rack.returnAll
  rw [Rack.enterIdle_other _ _ _ _ h, Rack.modArm_arm, if_neg (Ne.symm h), arm]

theorem Rack.returnAll_state (a : ArmId) : ((r.returnAll c a).arm a).state.isFree := by
  unfold Rack.returnAll
  rw [Rack.enterIdle_state]
  split
  · exact .inr (.inr rfl)
  · exact .inr (.inl rfl)

/-- The arm of a line that ended has given it up and takes its next head. -/
def Arm.givenUp (x : Arm) (e : QueueEntry) : Arm :=
  { x.dropEntry e.order e.line with
    startMark := none, pendingStop := none, causes := [], restartPending := false, probeRefreshed := false
    intent := none, settleTimer := none, quiet := false }

/-- An arm gives up a line that ended, its channels with it. -/
def Rack.giveUp (a : ArmId) (e : QueueEntry) (r : Rack) : Rack :=
  (r.modArm a (fun x => x.givenUp e)).modInjectors a Injector.clear

theorem Rack.endCurrent_none {a : ArmId} (h : (r.arm a).current = none) (final : LineState) (cause : Option StopCause) :
    r.endCurrent c a final cause = r := by
  unfold Rack.endCurrent
  rw [h]

theorem Rack.endCurrent_some {a : ArmId} {e : QueueEntry} (h : (r.arm a).current = some e) (final : LineState)
    (cause : Option StopCause) :
    r.endCurrent c a final cause = ((r.endLineRecord e.order e.line final cause).giveUp a e).takeHead c a := by
  unfold Rack.endCurrent
  rw [h]
  rfl

theorem Rack.endLineRecord_arm (n m : Nat) (final : LineState) (cause : Option StopCause) (b : ArmId) :
    (r.endLineRecord n m final cause).arm b = r.arm b :=
  Rack.arm_eq (Rack.endLineRecord_arms r n m final cause) b

theorem Rack.giveUp_arm (a b : ArmId) (e : QueueEntry) :
    (r.giveUp a e).arm b = if a = b then (r.arm a).givenUp e else r.arm b := by
  simp [Rack.giveUp]

theorem Rack.endCurrent_other (a b : ArmId) (h : b ≠ a) (final : LineState) (cause : Option StopCause) :
    (r.endCurrent c a final cause).arm b = r.arm b := by
  cases current : (r.arm a).current with
  | none => rw [Rack.endCurrent_none r current]
  | some e =>
    rw [Rack.endCurrent_some r current, Rack.takeHead_other _ _ _ _ h, Rack.giveUp_arm, if_neg (Ne.symm h), Rack.endLineRecord_arm]

theorem Rack.endCurrent_config (a b : ArmId) (final : LineState) (cause : Option StopCause) :
    ((r.endCurrent c a final cause).arm b).config = (r.arm b).config := by
  by_cases h : b = a
  · subst h
    cases current : (r.arm b).current with
    | none => rw [Rack.endCurrent_none r current]
    | some e =>
      rw [Rack.endCurrent_some r current, Rack.takeHead_config, Rack.giveUp_arm, if_pos rfl, Rack.endLineRecord_arm]
      rfl
  · rw [Rack.endCurrent_other r a b h]

/-- The arm is free once its line has ended; one that bore none is as it was. -/
theorem Rack.endCurrent_state (a : ArmId) (final : LineState) (cause : Option StopCause) :
    ((r.endCurrent c a final cause).arm a).state.isFree ∨ r.endCurrent c a final cause = r := by
  cases current : (r.arm a).current with
  | none => exact .inr (Rack.endCurrent_none r current _ _)
  | some e =>
    rw [Rack.endCurrent_some r current]
    exact .inl (Rack.takeHead_state _ _ a)

/-- An entry leaves the queue of an arm: a READY arm whose current entry it was takes its next head, any other keeps its state. -/
theorem Rack.dropQueued_cases (a : ArmId) (n m : Nat) :
    ((r.arm a).state = .ready ∧ (∃ e, (r.arm a).current = some e ∧ e.order = n ∧ e.line = m) ∧
      r.dropQueued c a n m = (r.modArm a (fun x => x.dropEntry n m)).takeHead c a) ∨
    (¬((r.arm a).state = .ready ∧ ∃ e, (r.arm a).current = some e ∧ e.order = n ∧ e.line = m) ∧
      r.dropQueued c a n m = r.modArm a (fun x => x.dropEntry n m)) := by
  unfold Rack.dropQueued
  dsimp only
  split
  · rename_i e current
    split
    · rename_i h
      exact .inl ⟨h.1, ⟨e, current, h.2⟩, rfl⟩
    · rename_i h
      refine .inr ⟨?_, rfl⟩
      rintro ⟨ready, f, same, order, line⟩
      cases current.symm.trans same
      exact h ⟨ready, order, line⟩
  · rename_i current
    exact .inr ⟨by simp [current], rfl⟩

theorem Rack.dropQueued_other (a b : ArmId) (n m : Nat) (h : b ≠ a) : (r.dropQueued c a n m).arm b = r.arm b := by
  rcases r.dropQueued_cases (c := c) a n m with ⟨-, -, drop⟩ | ⟨-, drop⟩ <;> rw [drop]
  · rw [Rack.takeHead_other _ _ _ _ h, Rack.modArm_arm, if_neg (Ne.symm h)]
  · rw [Rack.modArm_arm, if_neg (Ne.symm h)]

theorem Rack.dropQueued_config (a b : ArmId) (n m : Nat) : ((r.dropQueued c a n m).arm b).config = (r.arm b).config := by
  have drop : ((r.modArm a (fun x => x.dropEntry n m)).arm b).config = (r.arm b).config := by
    rw [Rack.modArm_arm]
    split
    · rename_i same
      rw [← same]
      rfl
    · rfl
  rcases r.dropQueued_cases (c := c) a n m with ⟨-, -, h⟩ | ⟨-, h⟩ <;> rw [h]
  · rw [Rack.takeHead_config, drop]
  · exact drop

/-- The lines queued at their arms: orders and queues change, nothing else. -/
theorem queueLines_tables (n : Nat) (xs : List (Nat × ArmId)) :
    queueLines n xs r = { r with orders := (queueLines n xs r).orders, arms := (queueLines n xs r).arms } := by
  induction xs generalizing r with
  | nil => rfl
  | cons x rest ih =>
    unfold queueLines
    dsimp only
    rw [ih]
    rfl

@[simp] theorem queueLines_headers (n : Nat) (xs : List (Nat × ArmId)) : (queueLines n xs r).headers = r.headers := by
  rw [queueLines_tables]

/-- Queueing lines touches nothing of an arm but its queue. -/
theorem queueLines_arm (n : Nat) (xs : List (Nat × ArmId)) (b : ArmId) :
    (queueLines n xs r).arm b = { r.arm b with queue := ((queueLines n xs r).arm b).queue } := by
  induction xs generalizing r with
  | nil => rfl
  | cons x rest ih =>
    unfold queueLines
    dsimp only
    rw [ih, Rack.modArm_arm]
    split
    · rename_i same
      rw [← same]
      rfl
    · rfl

/-- The rack of an admission before the arms that received lines take their heads. -/
def Rack.admitted (b : BayId) (p : Permit) (o : Order) (xs : List (Nat × ArmId)) (r : Rack) : Rack :=
  ((((queueLines o.number xs r).modOrder o.number (fun x => { x with state := .admitted, lastBay := some b, counted := true })).modBay b
    (fun _ => { admitted := some { permit := p.number, order := o.number }, reason := none })).callBay b).modPermit p.number (fun x =>
      { x with admittedBay := some b, loadsToday := if o.counted then x.loadsToday else satAdd 255 x.loadsToday 1 })

theorem Rack.admitOrder_eq (b : BayId) (p : Permit) (o : Order) (xs : List (Nat × ArmId)) :
    r.admitOrder c b p o xs = ((r.admitted b p o xs).readyIfGiven c xs (lowerArm b)).readyIfGiven c xs (upperArm b) := rfl

theorem Rack.admitted_arm (b : BayId) (p : Permit) (o : Order) (xs : List (Nat × ArmId)) (a : ArmId) :
    (r.admitted b p o xs).arm a = (queueLines o.number xs r).arm a := by
  simp [Rack.admitted]

theorem Rack.readyIfGiven_cases (xs : List (Nat × ArmId)) (a : ArmId) :
    (a ∈ xs.map (fun x => x.2) ∧ r.readyIfGiven c xs a = r.takeHead c a) ∨
      (a ∉ xs.map (fun x => x.2) ∧ r.readyIfGiven c xs a = r) := by
  unfold Rack.readyIfGiven
  split
  · rename_i given
    exact .inl ⟨by simpa [and_comm] using given, rfl⟩
  · rename_i given
    exact .inr ⟨by simpa [and_comm] using given, rfl⟩

theorem Rack.readyIfGiven_other (xs : List (Nat × ArmId)) (a b : ArmId) (h : b ≠ a) : (r.readyIfGiven c xs a).arm b = r.arm b := by
  rcases r.readyIfGiven_cases (c := c) xs a with ⟨-, same⟩ | ⟨-, same⟩ <;> rw [same]
  exact Rack.takeHead_other _ _ _ _ h

theorem Rack.readyIfGiven_config (xs : List (Nat × ArmId)) (a b : ArmId) :
    ((r.readyIfGiven c xs a).arm b).config = (r.arm b).config := by
  rcases r.readyIfGiven_cases (c := c) xs a with ⟨-, same⟩ | ⟨-, same⟩ <;> rw [same]
  exact r.takeHead_config a b

theorem Rack.readyIfGiven_headers (xs : List (Nat × ArmId)) (a : ArmId) : (r.readyIfGiven c xs a).headers = r.headers := by
  rcases r.readyIfGiven_cases (c := c) xs a with ⟨-, same⟩ | ⟨-, same⟩ <;> rw [same]
  exact Rack.takeHead_headers r c a

theorem Rack.admitOrder_headers (b : BayId) (p : Permit) (o : Order) (xs : List (Nat × ArmId)) :
    (r.admitOrder c b p o xs).headers = r.headers := by
  rw [Rack.admitOrder_eq, Rack.readyIfGiven_headers, Rack.readyIfGiven_headers]
  simp [Rack.admitted]

theorem lowerArm_ne_upperArm (b : BayId) : lowerArm b ≠ upperArm b := by
  revert b
  decide

/-- An arm of the bay after both arms have been seen to: it has taken its head if it was given a line. -/
theorem Rack.readyBoth_arm (b : BayId) (xs : List (Nat × ArmId)) (a : ArmId) (h : a = lowerArm b ∨ a = upperArm b) :
    ((r.readyIfGiven c xs (lowerArm b)).readyIfGiven c xs (upperArm b)).arm a =
      if a = lowerArm b then (r.readyIfGiven c xs a).arm a else ((r.readyIfGiven c xs (lowerArm b)).readyIfGiven c xs a).arm a := by
  rcases h with rfl | rfl
  · rw [if_pos rfl, Rack.readyIfGiven_other _ _ _ _ (lowerArm_ne_upperArm b)]
  · rw [if_neg (Ne.symm (lowerArm_ne_upperArm b))]

theorem Rack.admitOrder_given (b : BayId) (p : Permit) (o : Order) {xs : List (Nat × ArmId)} {a : ArmId}
    (h : a = lowerArm b ∨ a = upperArm b) (given : a ∈ xs.map (fun x => x.2)) :
    ((r.admitOrder c b p o xs).arm a).state.isFree := by
  have takes (s : Rack) : s.readyIfGiven c xs a = s.takeHead c a :=
    (s.readyIfGiven_cases xs a).elim And.right (fun not => absurd given not.1)
  rw [Rack.admitOrder_eq, Rack.readyBoth_arm _ _ _ _ h, takes, takes]
  split
  · exact Rack.takeHead_state c _ a
  · exact Rack.takeHead_state c _ a

/-- An arm that was given no line is as the queued lines leave it. -/
theorem Rack.admitOrder_notGiven (b : BayId) (p : Permit) (o : Order) {xs : List (Nat × ArmId)} {a : ArmId}
    (given : a ∉ xs.map (fun x => x.2)) : (r.admitOrder c b p o xs).arm a = (queueLines o.number xs r).arm a := by
  have other (s : Rack) (a' : ArmId) : (s.readyIfGiven c xs a').arm a = s.arm a := by
    by_cases h : a = a'
    · subst h
      rcases s.readyIfGiven_cases (c := c) xs a with ⟨is, -⟩ | ⟨-, same⟩
      · exact absurd is given
      · rw [same]
    · exact s.readyIfGiven_other xs a' a h
  rw [Rack.admitOrder_eq, other, other, Rack.admitted_arm]

end Readings

/-! ### Assignments (R87) -/

/-- An arm that is chosen qualifies and stands at the bay. -/
theorem chooseArm_some {r : Rack} {b : BayId} {l : Line} {m n : Nat} {a : ArmId} (h : chooseArm r b l m n = some a) :
    (a = lowerArm b ∨ a = upperArm b) ∧ (r.arm a).qualifies l = true := by
  unfold chooseArm at h
  split at h
  · split at h <;> cases h
    · exact ⟨.inr rfl, ‹_›⟩
    · exact ⟨.inl rfl, ‹_›⟩
  · cases h
    exact ⟨.inl rfl, ‹_›⟩
  · cases h
    exact ⟨.inr rfl, ‹_›⟩
  · cases h

theorem Arm.qualifies_idle {x : Arm} {l : Line} (h : x.qualifies l = true) : x.state = .idle := by
  unfold Arm.qualifies at h
  split at h
  · simp only [Bool.and_eq_true, decide_eq_true_eq] at h
    exact h.1.1
  · cases h

/-- Each line of an assignment is given an arm of the bay that qualifies for it. -/
theorem assignLines_given {r : Rack} {b : BayId} {ls : List Line} {m n : Nat} {xs : List (Nat × ArmId)}
    (h : assignLines r b ls m n = .ok xs) :
    List.Forall₂ (fun (l : Line) x => x.1 = l.number ∧ (x.2 = lowerArm b ∨ x.2 = upperArm b) ∧ (r.arm x.2).qualifies l = true) ls xs := by
  induction ls generalizing m n xs with
  | nil =>
    cases h
    exact .nil
  | cons l rest ih =>
    unfold assignLines at h
    cases chosen : chooseArm r b l m n with
    | none => simp [chosen] at h
    | some a =>
      simp only [chosen] at h
      generalize (if a = lowerArm b then m + 1 else m) = m', (if a = lowerArm b then n else n + 1) = n' at h
      by_cases full : 8 ≤ (if a = lowerArm b then m else n)
      · simp [full] at h
      · simp only [if_neg full] at h
        cases assigned : assignLines r b rest m' n' with
        | error e => simp [assigned] at h
        | ok ys =>
          simp only [assigned, Except.ok.injEq] at h
          subst h
          exact .cons ⟨rfl, chooseArm_some chosen⟩ (ih assigned)

/-- Every arm that an assignment gives a line is IDLE and stands at the bay. -/
theorem assignLines_idle {r : Rack} {b : BayId} {ls : List Line} {xs : List (Nat × ArmId)}
    (h : List.Forall₂ (fun (l : Line) x => x.1 = l.number ∧ (x.2 = lowerArm b ∨ x.2 = upperArm b) ∧ (r.arm x.2).qualifies l = true) ls xs)
    {x : Nat × ArmId} (given : x ∈ xs) : (x.2 = lowerArm b ∨ x.2 = upperArm b) ∧ (r.arm x.2).state = .idle := by
  induction h with
  | nil => cases given
  | cons first _ ih =>
    cases given with
    | head => exact ⟨first.2.1, Arm.qualifies_idle first.2.2⟩
    | tail _ given => exact ih given

theorem assignment_idle {r : Rack} {b : BayId} {o : Order} {xs : List (Nat × ArmId)} (h : assignment r b o = .ok xs) {a : ArmId}
    (given : a ∈ xs.map (fun x => x.2)) : (a = lowerArm b ∨ a = upperArm b) ∧ (r.arm a).state = .idle := by
  obtain ⟨x, hx, rfl⟩ := List.mem_map.mp given
  exact assignLines_idle (assignLines_given h) hx

/-! ### What an atom does to the state of an arm -/

/-- A state in which an arm holds a grant or waits for one. -/
abbrev ArmState.asks (s : ArmState) : Prop := s = .high ∨ s = .waitGrant

/-- An arm keeps state and configuration, or asks for no grant before and after, and comes into flow with permission only. -/
def ArmStays (c : Conditions) (a : ArmId) (x y : Arm) : Prop :=
  (y.state = x.state ∧ y.config = x.config) ∨
    (¬x.state.asks ∧ ¬y.state.asks ∧
      (y.state.isFlow = true → x.state.isFlow = true ∨ (c.permitted (bayOf a) = true ∧ c.mode = .normal)))

/-- Headers and grants are as they were. -/
def GrantsStay (c : Conditions) (r r' : Rack) : Prop := r'.headers = r.headers ∧ ∀ a, ArmStays c a (r.arm a) (r'.arm a)

/-- The atoms in which the arbiter acts. -/
inductive Arbitration (c : Conditions) : Rack → Rack → Prop
  | close (r : Rack) (a : ArmId) (intent : Intent) (flow : (r.arm a).state.isFlow = true) :
      Arbitration c r (r.enterClosing c a intent)
  | leaveGrant (r : Rack) (a : ArmId) (old : ArmState) (stands : (r.arm a).state = old) (asked : old = .waitGrant ∨ old = .high) :
      Arbitration c r ((r.setState c a .lowRun).afterLeaving c a old)
  | joinWaiting (r : Rack) (a : ArmId) (low : (r.arm a).state = .lowStart) : Arbitration c r (r.joinWaiting c a)
  | setCapacity (r : Rack) (h : HeaderId) (cap : Nat) : Arbitration c r (setCapacity c h cap r).1

theorem ArmStays.of_eq {a : ArmId} {x y : Arm} (h : y = x) : ArmStays c a x y := .inl ⟨by rw [h], by rw [h]⟩

/-- Only one arm changes, and it asks for no grant before and after. -/
theorem GrantsStay.of_arm {r r' : Rack} (headers : r'.headers = r.headers) (a : ArmId) (others : ∀ b, b ≠ a → r'.arm b = r.arm b)
    (stays : ArmStays c a (r.arm a) (r'.arm a)) : GrantsStay c r r' := by
  refine ⟨headers, fun b => ?_⟩
  by_cases h : b = a
  · subst h
    exact stays
  · exact .of_eq (others b h)

theorem GrantsStay.of_arms {r r' : Rack} (headers : r'.headers = r.headers) (arms : r'.arms = r.arms) : GrantsStay c r r' :=
  ⟨headers, fun b => .of_eq (Rack.arm_eq arms b)⟩

theorem ArmStays.of_still {a : ArmId} {x y : Arm} (before : ¬x.state.asks) (after : ¬y.state.asks) (still : y.state.isFlow = false) :
    ArmStays c a x y :=
  .inr ⟨before, after, fun flow => by simp [still] at flow⟩

theorem ArmState.isFree.still {s : ArmState} (h : s.isFree) : ¬s.asks ∧ s.isFlow = false := by
  rcases h with rfl | rfl | rfl <;> simp [ArmState.asks, ArmState.isFlow]

theorem ArmState.isResting.still {s : ArmState} (h : s.isResting) : ¬s.asks ∧ s.isFlow = false := by
  rcases h with rfl | rfl | rfl <;> simp [ArmState.asks, ArmState.isFlow]

/-- A change of state between states that ask for no grant. -/
theorem GrantsStay.setState {r r1 : Rack} {a : ArmId} {new : ArmState} (headers : r1.headers = r.headers)
    (states : ∀ b, (r1.arm b).state = (r.arm b).state) (configs : ∀ b, (r1.arm b).config = (r.arm b).config)
    (before : ¬(r.arm a).state.asks) (after : ¬new.asks)
    (flow : new.isFlow = true → (r.arm a).state.isFlow = true ∨ (c.permitted (bayOf a) = true ∧ c.mode = .normal)) :
    GrantsStay c r (r1.setState c a new) := by
  refine ⟨(Rack.setState_headers r1 c a new).trans headers, fun b => ?_⟩
  by_cases h : b = a
  · subst h
    refine .inr ⟨before, ?_, ?_⟩
    · rw [Rack.setState_state]
      exact after
    · rw [Rack.setState_state]
      exact flow
  · refine .inl ⟨?_, ?_⟩
    · rw [Rack.setState_arm, if_neg (fun same => h same.1.symm), states]
    · rw [Rack.setState_config, configs]

/-- An atom leaves headers and grants as they were, or the arbiter acts. -/
theorem Atom.grants {r r' : Rack} (h : Atom c r r') : GrantsStay c r r' ∨ Arbitration c r r' := by
  cases h with
  | minor h => exact .inl ⟨h.headers, fun a => .inl ⟨h.state a, h.config a⟩⟩
  | close a intent flow => exact .inr (.close r a intent flow)
  | toLowRun a low =>
    refine .inl (.setState rfl (fun _ => rfl) (fun _ => rfl) ?_ ?_ (fun _ => .inl ?_))
    · simp [low, ArmState.asks]
    · simp [ArmState.asks]
    · simp [low, ArmState.isFlow]
  | leaveGrant a old stands asked => exact .inr (.leaveGrant r a old stands asked)
  | joinWaiting a low => exact .inr (.joinWaiting r a low)
  | rest a new rests still =>
    refine .inl (.setState rfl (fun _ => rfl) (fun _ => rfl) rests.still.1 still.still.1 (fun flow => ?_))
    simp [still.still.2] at flow
  | forget a rests =>
    refine .inl (.of_arm rfl a (fun b h => ?_) (.inl ?_))
    · simp [Ne.symm h]
    · simp
  | begin r1 a l ready line permitted normal started =>
    refine .inl (.setState ?_ (fun b => ?_) (fun b => ?_) ?_ ?_ (fun _ => .inr ⟨permitted, normal⟩))
    · rw [started.headers, Rack.beginInjectors_headers, Rack.modCurrentLine_headers]
    · rw [started.state, Rack.beginInjectors_arm, Rack.modCurrentLine_arm]
    · rw [started.config, Rack.beginInjectors_arm, Rack.modCurrentLine_arm]
    · simp [ready, ArmState.asks]
    · simp [ArmState.asks]
  | resumed r1 a l new suspended line started goes =>
    refine .inl (.setState ?_ (fun b => ?_) (fun b => ?_) ?_ ?_ (fun flow => ?_))
    · rw [started.headers, Rack.modCurrentLine_headers]
    · rw [started.state, Rack.modCurrentLine_arm]
    · rw [started.config, Rack.modCurrentLine_arm]
    · simp [suspended, ArmState.asks]
    · rcases goes with rfl | ⟨rfl, -⟩ <;> simp [ArmState.asks]
    · rcases goes with rfl | ⟨-, permitted⟩
      · cases flow
      · exact .inr permitted
  | suspend r1 a closing stopped =>
    refine .inl (.setState ?_ (fun b => ?_) (fun b => ?_) ?_ ?_ (fun flow => ?_))
    · rw [stopped.headers, Rack.modCurrentLine_headers]
    · rw [stopped.state, Rack.modCurrentLine_arm]
    · rw [stopped.config, Rack.modCurrentLine_arm]
    · simp [closing, ArmState.asks]
    · simp [ArmState.asks]
    · cases flow
  | endPending n m l cause line pending => exact .inl (.of_arms (by simp) (by simp))
  | endQueued n m l a cause line queued arm =>
    refine .inl (.of_arm (by simp) a (fun b h => ?_) ?_)
    · rw [Rack.dropQueued_other _ a b n m h, Rack.endLineRecord_arm]
    · rcases Rack.dropQueued_cases (c := c) (r.endLineRecord n m .cancelled cause) a n m with ⟨ready, -, drop⟩ | ⟨-, drop⟩ <;> rw [drop]
      · rw [Rack.endLineRecord_arm] at ready
        have free := Rack.takeHead_state c ((r.endLineRecord n m .cancelled cause).modArm a (fun x => x.dropEntry n m)) a
        exact .of_still (by simp [ready, ArmState.asks]) (ArmState.isFree.still free).1 (ArmState.isFree.still free).2
      · rw [Rack.modArm_arm, if_pos rfl, Rack.endLineRecord_arm]
        exact .inl ⟨rfl, rfl⟩
  | endCurrent a final cause bears ended =>
    refine .inl (.of_arm (by simp) a (fun b h => Rack.endCurrent_other r a b h _ _) ?_)
    rcases Rack.endCurrent_state (c := c) r a final cause with free | same
    · refine .of_still ?_ free.still.1 free.still.2
      rcases bears with h | h <;> simp [h, ArmState.asks]
    · exact .of_eq (by rw [same])
  | testOrder n => exact .inl (.of_arms (by simp) (by simp))
  | returnBehind a =>
    refine .inl (.of_arm (returnLines_headers r _) a (fun b h => ?_) ?_)
    · rw [Rack.returnBehind_arm, if_neg (Ne.symm h)]
    · rw [Rack.returnBehind_arm, if_pos rfl]
      exact .inl ⟨rfl, rfl⟩
  | returnAll a ready =>
    refine .inl (.of_arm ?_ a (fun b h => Rack.returnAll_other r a b h) ?_)
    · unfold Rack.returnAll
      rw [Rack.enterIdle_headers, Rack.modArm_headers, returnLines_headers]
    · have free := Rack.returnAll_state (c := c) r a
      exact .of_still (by simp [ready, ArmState.asks]) free.still.1 free.still.2
  | startStroke a n k _ _ _ _ _ => exact .inl (.of_arms rfl rfl)
  | goodStroke a n k j d _ _ _ _ => exact .inl (.of_arms (by simp) (by simp))
  | strokeLost a n k _ _ => exact .inl (.of_arms rfl rfl)
  | dropStroke a n _ => exact .inl (.of_arms rfl rfl)
  | newPermit p _ _ => exact .inl (.of_arms rfl rfl)
  | retirePermit n _ => exact .inl (.of_arms rfl rfl)
  | newAccount x _ _ => exact .inl (.of_arms rfl rfl)
  | closeAccount x _ _ => exact .inl (.of_arms rfl rfl)
  | refill x n => exact .inl (.of_arms rfl rfl)
  | book k _ _ => exact .inl (.of_arms rfl rfl)
  | amend o l new _ _ _ => exact .inl (.of_arms (by simp [Rack.amend]) (by simp [Rack.amend]))
  | retireOrder o _ _ => exact .inl (.of_arms rfl rfl)
  | admitOrder b p o xs _ _ _ _ assigned =>
    refine .inl ⟨Rack.admitOrder_headers r b p o xs, fun a => ?_⟩
    by_cases given : a ∈ xs.map (fun x => x.2)
    · have idle := (assignment_idle assigned given).2
      have free := Rack.admitOrder_given (c := c) r b p o (assignment_idle assigned given).1 given
      exact .of_still (by simp [idle, ArmState.asks]) free.still.1 free.still.2
    · rw [Rack.admitOrder_notGiven r b p o given, queueLines_arm]
      exact .inl ⟨rfl, rfl⟩
  | configure a k _ still =>
    refine .inl (.of_arm rfl a (fun b h => ?_) ?_)
    · simp [Rack.configure, Ne.symm h]
    · have state : ((r.configure a k).arm a).state = (r.arm a).state := by simp [Rack.configure, Arm.configure]
      rcases still with h | h
      · exact .of_still (by simp [h, ArmState.asks]) (by simp [state, h, ArmState.asks]) (by simp [state, h, ArmState.isFlow])
      · exact .of_still (by simp [h, ArmState.asks]) (by simp [state, h, ArmState.asks]) (by simp [state, h, ArmState.isFlow])
  | setCapacity h cap => exact .inr (.setCapacity r h cap)

/-! ### Flow (R104) -/

/-- An arm on no header joins no list; any other enters WAIT_GRANT, and arms meet at most grants. -/
theorem Rack.joinWaiting_grants (r : Rack) (a : ArmId) :
    r.joinWaiting c a = r ∨ OnlyGrants (r.setState c a .waitGrant) (r.joinWaiting c a) := by
  unfold Rack.joinWaiting
  split
  · exact .inr ((OnlyGrants.of_arms (Rack.modHeader_arms _ _ _)).trans (grantTest_grants c _ _))
  · exact .inl rfl

/-- The arbiter brings no arm into flow. -/
theorem Arbitration.flow {r r' : Rack} (h : Arbitration c r r') (b : ArmId) (flow : (r'.arm b).state.isFlow = true) :
    (r.arm b).state.isFlow = true := by
  have changed {a : ArmId} (new : ArmState) (s : Rack) (grants : OnlyGrants (r.setState c a new) s) (before : (r.arm a).state.isFlow = true)
      (flow : (s.arm b).state.isFlow = true) : (r.arm b).state.isFlow = true := by
    rw [grants.isFlow] at flow
    by_cases same : a = b
    · exact same ▸ before
    · rwa [Rack.setState_arm, if_neg (fun h => same h.1)] at flow
  cases h with
  | close a intent before =>
    by_cases same : b = a
    · exact same ▸ before
    · rcases Rack.enterClosing_other c r a b intent same with h | ⟨h, -⟩
      · rwa [h] at flow
      · simp [h, ArmState.isFlow]
  | leaveGrant a old stands asked =>
    refine changed (a := a) .lowRun _ (Rack.afterLeaving_grants c _ a old) ?_ flow
    rcases asked with rfl | rfl <;> simp [stands, ArmState.isFlow]
  | joinWaiting a low =>
    rcases r.joinWaiting_grants (c := c) a with same | grants
    · rwa [same] at flow
    · exact changed .waitGrant _ grants (by simp [low, ArmState.isFlow]) flow
  | setCapacity h cap =>
    have grants : OnlyGrants r (Machine.setCapacity c h cap r).1 := by
      unfold Machine.setCapacity
      dsimp only
      split
      · exact (OnlyGrants.of_arms rfl).trans (grantTest_grants c _ _)
      · exact .of_arms rfl
    rwa [grants.isFlow] at flow

theorem Atom.flowPermitted {r r' : Rack} (h : Atom c r r') (hp : flowPermitted c r) : flowPermitted c r' := by
  intro b flow
  rcases h.grants with ⟨-, stays⟩ | arbitration
  · rcases stays b with ⟨state, -⟩ | ⟨-, -, enters⟩
    · exact hp b (state ▸ flow)
    · exact (enters flow).elim (hp b) id
  · exact hp b (arbitration.flow b flow)

theorem RackMove.flowPermitted {r r' : Rack} (h : RackMove c r r') (hp : flowPermitted c r) : flowPermitted c r' := by
  have chain := h.chain
  clear h
  induction chain with
  | atoms h => exact h.keep Atom.flowPermitted hp
  | restart r arms all => exact (r.restart_atoms arms).keep (P := Machine.flowPermitted c) Atom.flowPermitted hp
  | trans _ _ first second => exact second (first hp)

theorem flowPermitted_of_safetyKept {c c' : Conditions} {r : Rack} (kept : c.SafetyKept c') (hp : flowPermitted c r) :
    flowPermitted c' r := by
  obtain ⟨-, mode, ground, overfill⟩ := kept
  intro a flow
  obtain ⟨permitted, normal⟩ := hp a flow
  refine ⟨?_, mode.trans normal⟩
  unfold Conditions.permitted
  rw [ground, overfill]
  exact permitted

/-- A permissive input of one bay leaves the condition of every other. -/
theorem Conditions.setInput_permitted (c : Conditions) {b b' : BayId} (h : b' ≠ b) (input : PermissiveInput) (level : Bool) :
    (c.setInput b input level).permitted b' = c.permitted b' := by
  have other : b.val ≠ b'.val := fun same => h (Fin.ext same.symm)
  cases input <;> simp [Conditions.setInput, Conditions.permitted, Vector.getElem_set_ne, other]

theorem Effects.flowPermitted {c' : Conditions} {u u' : Option CalStore} {r r' : Rack} (h : Effects c u r c' u' r')
    (hp : flowPermitted c r) : flowPermitted c' r' := by
  cases h with
  | moves move kept _ => exact flowPermitted_of_safetyKept kept (move.flowPermitted hp)
  | tick =>
    intro a flow
    exact hp a ((Minor.tick r c.nextTime).state a ▸ flow)
  | resume inactive => exact fun a flow => ⟨(hp a flow).1, rfl⟩
  | input b input level unblocked =>
    intro a flow
    obtain ⟨permitted, normal⟩ := hp a flow
    refine ⟨?_, (c.setInput_mode b input level).trans normal⟩
    by_cases same : bayOf a = b
    · exact same ▸ unblocked (same ▸ permitted)
    · rw [c.setInput_permitted same, permitted]
  | blocked b input level arms all =>
    intro a flow
    rw [Rack.pump_arm] at flow
    by_cases same : bayOf a = b
    · have reached : a ∈ arms := all.mem_iff.mpr ((mem_armsOfBay a b).mpr same)
      rw [raiseCauses_noFlow _ _ arms r a reached] at flow
      cases flow
    · have notReached : a ∉ arms := fun h => same ((mem_armsOfBay a b).mp (all.mem_iff.mp h))
      rw [c.setInput_permitted same, c.setInput_mode]
      rcases raiseCauses_other (c.setInput b input level) .permissive arms r a notReached with h | ⟨h, -⟩
      · exact hp a (h ▸ flow)
      · exact hp a (by simp [h, ArmState.isFlow])
  | halted arms all =>
    intro a flow
    rw [Rack.pump_arm, raiseCauses_noFlow _ _ arms r a (all.mem_iff.mpr (mem_allArms a))] at flow
    cases flow
  | written fields items _ _ _ => exact hp
  | committed _ => exact hp

theorem Rack.powerOn_arm (inputs : InputLevels) (cal : CalStore) (r : Rack) (a : ArmId) : (r.powerOn inputs cal).arm a = .fresh := by
  simp [Rack.powerOn, Rack.arm]

/-- Settles O54: an arm comes into flow at a START alone, which asks for permission (R105, R106), and a bay that becomes BLOCKED or a rack
that becomes HALTED takes every arm it reaches out of flow (R157, R161). -/
theorem flowNeedsPermission : Obligations.FlowNeedsPermission := by
  unfold Obligations.FlowNeedsPermission
  intro s t h hp
  rcases step_effect h with ⟨inputs, rest, -, done⟩ | effect
  · cases done
    intro a flow
    rw [Rack.powerOn_arm] at flow
    cases flow
  · exact effect.flowPermitted hp

end Sys2Proof.Machine
end

section
/-! PROOF. Grants and waiting lists in agreement with the arms (O55): what the arbiter keeps, test by test, and what a rack restart leaves. -/

namespace Sys2Proof.Machine

variable {c : Conditions}

/-! ### The agreement, header by header -/

/-- A header's set holds exactly the arms on it in HIGH, its list exactly those in WAIT_GRANT, in order. -/
def Rack.headerAgrees (r : Rack) (h : HeaderId) : Prop :=
  (r.header h).held.Nodup ∧ ((r.header h).waiting.map (fun w => w.arm)).Nodup ∧ (r.header h).waiting.Pairwise Waiter.before ∧
    ∀ a, (a ∈ (r.header h).held ↔ (r.arm a).state = .high ∧ r.headerOf a = some h) ∧
      (a ∈ (r.header h).waiting.map (fun w => w.arm) ↔ (r.arm a).state = .waitGrant ∧ r.headerOf a = some h)

/-- No arm waits while the set has room. -/
def Rack.headerFull (r : Rack) (h : HeaderId) : Prop :=
  (r.header h).waiting ≠ [] → (r.header h).capacity ≤ (r.header h).held.length

theorem Rack.grantsMatch_iff (r : Rack) : r.grantsMatch ↔ ∀ h, r.headerAgrees h ∧ r.headerFull h := by
  unfold Rack.grantsMatch Rack.headerAgrees Rack.headerFull
  exact forall_congr' (fun h => by tauto)

/-- A header and its arms are read alike. -/
theorem Rack.headerAgrees_congr {r r' : Rack} {h : HeaderId} (header : r'.header h = r.header h)
    (asks : ∀ a s, s.asks → ((r'.arm a).state = s ∧ r'.headerOf a = some h ↔ (r.arm a).state = s ∧ r.headerOf a = some h)) :
    r'.headerAgrees h ↔ r.headerAgrees h := by
  unfold Rack.headerAgrees
  simp only [header, asks _ _ (.inl rfl), asks _ _ (.inr rfl)]

theorem Rack.headerFull_congr {r r' : Rack} {h : HeaderId} (header : r'.header h = r.header h) : r'.headerFull h ↔ r.headerFull h := by
  unfold Rack.headerFull
  rw [header]

theorem ArmStays.asks_iff {r r' : Rack} {a : ArmId} (stays : ArmStays c a (r.arm a) (r'.arm a)) (h : HeaderId) (s : ArmState)
    (asks : s.asks) : (r'.arm a).state = s ∧ r'.headerOf a = some h ↔ (r.arm a).state = s ∧ r.headerOf a = some h := by
  rcases stays with ⟨state, config⟩ | ⟨before, after, -⟩
  · rw [state, Rack.headerOf, config, Rack.headerOf]
  · have before' : (r.arm a).state ≠ s := fun same => before (same ▸ asks)
    have after' : (r'.arm a).state ≠ s := fun same => after (same ▸ asks)
    simp [before', after']

theorem GrantsStay.grantsMatch {r r' : Rack} (stay : GrantsStay c r r') (hp : r.grantsMatch) : r'.grantsMatch := by
  rw [Rack.grantsMatch_iff] at hp ⊢
  intro h
  have header := Rack.header_eq stay.1 h
  exact ⟨(Rack.headerAgrees_congr header (fun a s asks => (stay.2 a).asks_iff h s asks)).mpr (hp h).1,
    (Rack.headerFull_congr header).mpr (hp h).2⟩

/-! ### Sets and lists -/

theorem mem_insertArm (a b : ArmId) (xs : List ArmId) : b ∈ insertArm a xs ↔ b = a ∨ b ∈ xs := by
  induction xs with
  | nil => simp [insertArm]
  | cons x rest ih =>
    unfold insertArm
    split
    · simp
    · split
      · rename_i same
        simp [same]
      · simp only [List.mem_cons, ih]
        tauto

theorem insertArm_nodup {a : ArmId} {xs : List ArmId} (fresh : a ∉ xs) (nodup : xs.Nodup) : (insertArm a xs).Nodup := by
  induction xs with
  | nil => simp [insertArm]
  | cons x rest ih =>
    obtain ⟨ne, notMem⟩ : a ≠ x ∧ a ∉ rest := by simpa using fresh
    obtain ⟨head, tail⟩ := List.nodup_cons.mp nodup
    unfold insertArm
    rw [if_neg ne]
    split
    · exact List.nodup_cons.mpr ⟨fresh, nodup⟩
    · refine List.nodup_cons.mpr ⟨?_, ih notMem tail⟩
      simp [mem_insertArm, Ne.symm ne, head]

theorem insertWaiter_perm (w : Waiter) (ws : List Waiter) : (insertWaiter w ws).Perm (w :: ws) := by
  induction ws with
  | nil => exact .refl _
  | cons v rest ih =>
    unfold insertWaiter
    split
    · exact (ih.cons v).trans (.swap _ _ _)
    · exact .refl _

theorem le_joinPosition {ws : List Waiter} {v : Waiter} (h : v ∈ ws) : v.position < joinPosition ws := by
  have grows : ∀ (ws : List Waiter) (n : Nat), n ≤ ws.foldl (fun n w => max n w.position) n ∧
      ∀ v ∈ ws, v.position ≤ ws.foldl (fun n w => max n w.position) n := by
    intro ws
    induction ws with
    | nil => simp
    | cons w rest ih =>
      intro n
      obtain ⟨base, rest'⟩ := ih (max n w.position)
      simp only [List.foldl_cons, List.mem_cons, forall_eq_or_imp]
      exact ⟨le_trans (le_max_left _ _) base, le_trans (le_max_right _ _) base, rest'⟩
  have := (grows ws 0).2 v h
  unfold joinPosition
  omega

/-- A joiner that comes later than every other keeps the order of the list. -/
theorem insertWaiter_pairwise {w : Waiter} {ws : List Waiter} (later : ∀ v ∈ ws, v.position < w.position)
    (sorted : ws.Pairwise Waiter.before) : (insertWaiter w ws).Pairwise Waiter.before := by
  induction ws with
  | nil => simp [insertWaiter]
  | cons v rest ih =>
    obtain ⟨first, tail⟩ := List.pairwise_cons.mp sorted
    have laterRest : ∀ u ∈ rest, u.position < w.position := fun u hu => later u (List.mem_cons_of_mem _ hu)
    unfold insertWaiter
    split
    · rename_i higher
      refine List.pairwise_cons.mpr ⟨fun u hu => ?_, ih laterRest tail⟩
      rcases List.mem_cons.mp ((insertWaiter_perm w rest).mem_iff.mp hu) with rfl | hu
      · have := later v (List.mem_cons_self ..)
        unfold Waiter.before
        omega
      · exact first u hu
    · rename_i lower
      refine List.pairwise_cons.mpr ⟨fun u hu => .inl ?_, sorted⟩
      rcases List.mem_cons.mp hu with rfl | hu
      · omega
      · have := first u hu
        unfold Waiter.before at this
        omega

theorem filter_arm_nodup {ws : List Waiter} (a : ArmId) (h : (ws.map (fun w => w.arm)).Nodup) :
    ((ws.filter (fun w => decide (w.arm ≠ a))).map (fun w => w.arm)).Nodup :=
  h.sublist (List.filter_sublist.map _)

theorem mem_filter_arm (ws : List Waiter) (a b : ArmId) :
    b ∈ (ws.filter (fun w => decide (w.arm ≠ a))).map (fun w => w.arm) ↔ b ∈ ws.map (fun w => w.arm) ∧ b ≠ a := by
  simp only [List.mem_map, List.mem_filter, decide_eq_true_eq]
  constructor
  · rintro ⟨w, ⟨mem, ne⟩, rfl⟩
    exact ⟨⟨w, mem, rfl⟩, ne⟩
  · rintro ⟨⟨w, mem, rfl⟩, ne⟩
    exact ⟨w, ⟨mem, ne⟩, rfl⟩

/-! ### The grant test (R127) -/

theorem Rack.headerOf_inj {r : Rack} {a : ArmId} {h g : HeaderId} (hh : r.headerOf a = some h) (hg : r.headerOf a = some g) : g = h :=
  Option.some.inj (hg.symm.trans hh)

/-- An arm that goes from WAIT_GRANT to HIGH with its header's grant keeps every agreement. -/
theorem Rack.grantTo_agrees {r : Rack} {h : HeaderId} {a : ArmId} (agrees : ∀ g, r.headerAgrees g)
    (waits : a ∈ (r.header h).waiting.map (fun w => w.arm)) :
    (∀ g, (r.grantTo c h a).headerAgrees g) ∧ ∀ g, g ≠ h → (r.grantTo c h a).header g = r.header g := by
  obtain ⟨state, header⟩ := ((agrees h).2.2.2 a).2.mp waits
  have grants : r.grantTo c h a = (r.modHeader h (fun x =>
      { x with waiting := x.waiting.filter (fun w => decide (w.arm ≠ a)), held := insertArm a x.held })).setState c a .high := by
    unfold Rack.grantTo
    simp [state]
  have arms (b : ArmId) : ((r.grantTo c h a).arm b).state = if b = a then .high else (r.arm b).state := by
    rw [grants]
    by_cases same : b = a
    · subst same
      simp
    · rw [Rack.setState_arm, if_neg (fun h => same h.1.symm), if_neg same, Rack.modHeader_arm_of]
  have headerOf (b : ArmId) : (r.grantTo c h a).headerOf b = r.headerOf b := by simp [grants]
  have headers (g : HeaderId) : (r.grantTo c h a).header g = if h = g then
      { r.header h with waiting := (r.header h).waiting.filter (fun w => decide (w.arm ≠ a)), held := insertArm a (r.header h).held }
      else r.header g := by
    rw [grants, Rack.header_eq (Rack.setState_headers _ _ _ _), Rack.modHeader_header]
  refine ⟨fun g => ?_, fun g ne => by rw [headers, if_neg (Ne.symm ne)]⟩
  by_cases same : h = g
  · subst same
    obtain ⟨heldNodup, waitNodup, sorted, members⟩ := agrees h
    have fresh : a ∉ (r.header h).held := fun held => by simp [((members a).1.mp held).1] at state
    refine ⟨?_, ?_, ?_, fun b => ⟨?_, ?_⟩⟩
    · rw [headers, if_pos rfl]
      exact insertArm_nodup fresh heldNodup
    · rw [headers, if_pos rfl]
      exact filter_arm_nodup a waitNodup
    · rw [headers, if_pos rfl]
      exact sorted.sublist List.filter_sublist
    · rw [headers, if_pos rfl, arms, headerOf]
      simp only [mem_insertArm, (members b).1]
      by_cases same : b = a
      · simp [same, header]
      · simp [same]
    · rw [headers, if_pos rfl, arms, headerOf]
      simp only [mem_filter_arm, (members b).2]
      by_cases same : b = a
      · simp [same]
      · simp [same]
  · rw [Rack.headerAgrees_congr (r := r) (by rw [headers, if_neg same])]
    · exact agrees g
    · intro b s asks
      rw [arms, headerOf]
      by_cases same' : b = a
      · subst same'
        simp [header, same]
      · simp [same']

theorem grantHeads_agrees {h : HeaderId} (n : Nat) {r : Rack} (agrees : ∀ g, r.headerAgrees g) :
    (∀ g, (grantHeads c h n r).1.headerAgrees g) ∧ ∀ g, g ≠ h → (grantHeads c h n r).1.header g = r.header g := by
  induction n generalizing r with
  | zero => exact ⟨agrees, fun _ _ => rfl⟩
  | succ n ih =>
    unfold grantHeads
    split
    · exact ⟨agrees, fun _ _ => rfl⟩
    · rename_i w rest waiting
      split
      · obtain ⟨agrees', headers⟩ := Rack.grantTo_agrees (c := c) (h := h) (a := w.arm) agrees (by simp [waiting])
        obtain ⟨agrees'', headers'⟩ := ih agrees'
        exact ⟨agrees'', fun g ne => (headers' g ne).trans (headers g ne)⟩
      · exact ⟨agrees, fun _ _ => rfl⟩

/-- A grant test fills the set of its header and keeps the rest. -/
theorem grantTest_grantsMatch {h : HeaderId} {r : Rack} (agrees : ∀ g, r.headerAgrees g) (full : ∀ g, g ≠ h → r.headerFull g) :
    (grantTest c h r).1.grantsMatch := by
  obtain ⟨agrees', headers⟩ := grantHeads_agrees (c := c) (h := h) (r.header h).waiting.length agrees
  rw [Rack.grantsMatch_iff]
  intro g
  refine ⟨agrees' g, ?_⟩
  by_cases same : g = h
  · subst same
    intro waits
    exact (grantTest_full c r g).resolve_left waits
  · exact (Rack.headerFull_congr (headers g same)).mpr (full g same)

/-! ### Leaving HIGH and WAIT_GRANT (R109, R128, R129) -/

/-- What is left when an arm has gone to a state that asks for no grant, its header not yet told. -/
structure Left (r r1 : Rack) (a : ArmId) : Prop where
  headers : r1.headers = r.headers
  states : ∀ b, b ≠ a → (r1.arm b).state = (r.arm b).state
  configs : ∀ b, (r1.arm b).config = (r.arm b).config
  after : ¬(r1.arm a).state.asks

theorem Left.headerOf {r r1 : Rack} {a : ArmId} (left : Left r r1 a) (b : ArmId) : r1.headerOf b = r.headerOf b := by
  simp [Rack.headerOf, left.configs]

/-- A header whose set or list loses the arm that left agrees again. -/
theorem Left.agrees {r r1 r2 : Rack} {a : ArmId} (left : Left r r1 a) (arms : r2.arms = r1.arms) {h : HeaderId}
    (agrees : r.headerAgrees h)
    (header : (r2.header h) = (r.header h) ∧ ¬((r.arm a).state.asks ∧ r.headerOf a = some h) ∨
      (r2.header h) = { r.header h with held := (r.header h).held.filter (fun b => decide (b ≠ a)) } ∧ (r.arm a).state = .high ∨
      (r2.header h) = { r.header h with waiting := (r.header h).waiting.filter (fun w => decide (w.arm ≠ a)) } ∧
        (r.arm a).state = .waitGrant) : r2.headerAgrees h := by
  obtain ⟨heldNodup, waitNodup, sorted, members⟩ := agrees
  have state (b : ArmId) : (r2.arm b).state = (r1.arm b).state := congrArg Arm.state (Rack.arm_eq arms b)
  have headerOf (b : ArmId) : r2.headerOf b = r.headerOf b := by
    rw [← left.headerOf, Rack.headerOf, Rack.arm_eq arms b, Rack.headerOf]
  have asksA : (r1.arm a).state ≠ .high ∧ (r1.arm a).state ≠ .waitGrant := not_or.mp left.after
  rcases header with ⟨same, asked⟩ | ⟨held, high⟩ | ⟨waiting, waits⟩
  · rw [Rack.headerAgrees_congr same]
    · exact ⟨heldNodup, waitNodup, sorted, members⟩
    · intro b s asks
      rw [state, headerOf]
      by_cases other : b = a
      · subst other
        have gone : (r1.arm b).state ≠ s := fun h => left.after (h ▸ asks)
        have never : ¬((r.arm b).state = s ∧ r.headerOf b = some h) := fun is => asked ⟨is.1 ▸ asks, is.2⟩
        simp [gone, never]
      · rw [left.states b other]
  · refine ⟨?_, ?_, ?_, fun b => ?_⟩
    · rw [held]
      exact heldNodup.sublist List.filter_sublist
    · rw [held]
      exact waitNodup
    · rw [held]
      exact sorted
    · rw [held, state, headerOf]
      simp only [List.mem_filter, decide_eq_true_eq, (members b).1, (members b).2]
      by_cases other : b = a
      · subst other
        simp [asksA, high]
      · simp [left.states b other, other]
  · refine ⟨?_, ?_, ?_, fun b => ?_⟩
    · rw [waiting]
      exact heldNodup
    · rw [waiting]
      exact filter_arm_nodup a waitNodup
    · rw [waiting]
      exact sorted.sublist List.filter_sublist
    · rw [waiting, state, headerOf]
      simp only [mem_filter_arm, (members b).1, (members b).2]
      by_cases other : b = a
      · subst other
        simp [asksA, waits]
      · simp [left.states b other, other]

/-- The arbiter is told that an arm has left its state, and every header agrees again. -/
theorem Left.grantsMatch {r r1 : Rack} {a : ArmId} (left : Left r r1 a) (hp : r.grantsMatch) :
    (r1.afterLeaving c a (r.arm a).state).grantsMatch := by
  rw [Rack.grantsMatch_iff] at hp
  have same (h : HeaderId) : r1.header h = r.header h := Rack.header_eq left.headers h
  have untouched (h : HeaderId) (ne : r.headerOf a ≠ some h) (r2 : Rack) (arms : r2.arms = r1.arms) (header : r2.header h = r.header h) :
      r2.headerAgrees h ∧ r2.headerFull h :=
    ⟨left.agrees arms (hp h).1 (.inl ⟨header, fun is => ne is.2⟩), (Rack.headerFull_congr header).mpr (hp h).2⟩
  have none (no : r.headerOf a = none) : r1.grantsMatch :=
    (Rack.grantsMatch_iff r1).mpr (fun h => untouched h (by simp [no]) r1 rfl (same h))
  unfold Rack.afterLeaving
  split
  · rename_i high
    unfold Rack.releaseGrant
    rw [left.headerOf]
    split
    · rename_i h header
      have other (g : HeaderId) (ne : g ≠ h) := untouched g (fun is => ne (Rack.headerOf_inj header is))
        (r1.modHeader h (fun x => { x with held := x.held.filter (fun b => decide (b ≠ a)) })) (Rack.modHeader_arms _ _ _)
        (by rw [Rack.modHeader_header, if_neg (Ne.symm ne), same])
      refine grantTest_grantsMatch (fun g => ?_) (fun g ne => (other g ne).2)
      by_cases is : g = h
      · subst is
        exact left.agrees (Rack.modHeader_arms _ _ _) (hp g).1 (.inr (.inl ⟨by rw [Rack.modHeader_header, if_pos rfl, same], high⟩))
      · exact (other g is).1
    · exact none ‹_›
  · rename_i notHigh
    split
    · rename_i waits
      unfold Rack.withdraw
      rw [left.headerOf]
      split
      · rename_i h header
        rw [Rack.grantsMatch_iff]
        intro g
        by_cases is : g = h
        · subst is
          have header' : (r1.modHeader g (fun x => { x with waiting := x.waiting.filter (fun w => decide (w.arm ≠ a)) })).header g =
              { r.header g with waiting := (r.header g).waiting.filter (fun w => decide (w.arm ≠ a)) } := by
            rw [Rack.modHeader_header, if_pos rfl, same]
          refine ⟨left.agrees (Rack.modHeader_arms _ _ _) (hp g).1 (.inr (.inr ⟨header', waits⟩)), fun some => ?_⟩
          rw [header'] at some ⊢
          exact (hp g).2 (fun empty => some (by simp [empty]))
        · exact untouched g (fun h => is (Rack.headerOf_inj header h)) _ (Rack.modHeader_arms _ _ _)
            (by rw [Rack.modHeader_header, if_neg (Ne.symm is), same])
      · exact none ‹_›
    · rename_i notWaits
      rw [Rack.grantsMatch_iff]
      intro h
      exact ⟨left.agrees rfl (hp h).1 (.inl ⟨same h, fun is => is.1.elim notHigh notWaits⟩),
        (Rack.headerFull_congr (same h)).mpr (hp h).2⟩

theorem Left.setState (r : Rack) (a : ArmId) {new : ArmState} (after : ¬new.asks) : Left r (r.setState c a new) a where
  headers := Rack.setState_headers r c a new
  states := fun b ne => by rw [Rack.setState_arm, if_neg (fun h => ne h.1.symm)]
  configs := fun b => Rack.setState_config c r a b new
  after := by rwa [Rack.setState_state]

theorem Left.modArm {r r1 : Rack} {a : ArmId} (left : Left r r1 a) (f : Arm → Arm) (state : ∀ x, (f x).state = x.state)
    (config : ∀ x, (f x).config = x.config) : Left r (r1.modArm a f) a where
  headers := (Rack.modArm_headers r1 a f).trans left.headers
  states := fun b ne => by rw [Rack.modArm_arm, if_neg (Ne.symm ne), left.states b ne]
  configs := fun b => by
    rw [Rack.modArm_arm]
    split
    · rename_i same
      rw [config, same, left.configs]
    · exact left.configs b
  after := by
    rw [Rack.modArm_arm, if_pos rfl, state]
    exact left.after

/-! ### The atoms of the arbiter -/

/-- An arm that joins a list in WAIT_GRANT stands in it, behind those it must not pass. -/
theorem Rack.joinWaiting_grantsMatch {r : Rack} {a : ArmId} (low : (r.arm a).state = .lowStart) (hp : r.grantsMatch) :
    (r.joinWaiting c a).grantsMatch := by
  rw [Rack.grantsMatch_iff] at hp
  unfold Rack.joinWaiting
  split
  · rename_i h header
    generalize priority : r.priorityOf a = p
    have same (g : HeaderId) : (r.setState c a .waitGrant).header g = r.header g := Rack.header_eq (Rack.setState_headers r c a _) g
    have state (b : ArmId) : ((r.setState c a .waitGrant).arm b).state = if b = a then .waitGrant else (r.arm b).state := by
      by_cases is : b = a
      · subst is
        simp
      · rw [Rack.setState_arm, if_neg (fun h => is h.1.symm), if_neg is]
    refine grantTest_grantsMatch (fun g => ?_) (fun g ne => ?_)
    · by_cases is : h = g
      · subst is
        obtain ⟨heldNodup, waitNodup, sorted, members⟩ := (hp h).1
        have fresh : a ∉ (r.header h).waiting.map (fun w => w.arm) := fun mem => by
          simp [((members a).2.mp mem).1] at low
        have perm := insertWaiter_perm { arm := a, priority := p, position := joinPosition (r.header h).waiting } (r.header h).waiting
        refine ⟨?_, ?_, ?_, fun b => ?_⟩
        · simpa [same] using heldNodup
        · simp only [Rack.modHeader_header, if_true, same]
          exact (perm.map (fun w => w.arm)).nodup_iff.mpr (List.nodup_cons.mpr ⟨fresh, waitNodup⟩)
        · simp only [Rack.modHeader_header, if_true, same]
          exact insertWaiter_pairwise (fun v mem => le_joinPosition mem) sorted
        · simp only [Rack.modHeader_header, if_true, same, Rack.modHeader_arm_of, state, Rack.modHeader_headerOf_of,
            Rack.setState_headerOf, (perm.map (fun w => w.arm)).mem_iff, List.map_cons, List.mem_cons, (members b).1, (members b).2]
          by_cases is : b = a
          · subst is
            simp [low, header]
          · simp [is]
      · rw [Rack.headerAgrees_congr (r := r) (by rw [Rack.modHeader_header, if_neg is, same])]
        · exact (hp g).1
        · intro b s asks
          rw [Rack.modHeader_arm_of, state, Rack.modHeader_headerOf_of, Rack.setState_headerOf]
          by_cases is' : b = a
          · subst is'
            simp [header, is]
          · simp [is']
    · rw [Rack.headerFull_congr (r := r) (by rw [Rack.modHeader_header, if_neg (Ne.symm ne), same])]
      exact (hp g).2
  · rw [Rack.grantsMatch_iff]
    exact hp

theorem setCapacity_grantsMatch {r : Rack} {h : HeaderId} {cap : Nat} (hp : r.grantsMatch) :
    (setCapacity c h cap r).1.grantsMatch := by
  rw [Rack.grantsMatch_iff] at hp
  have agrees (g : HeaderId) : (r.modHeader h (fun x => { x with capacity := cap })).headerAgrees g := by
    have := (hp g).1
    unfold Rack.headerAgrees at this ⊢
    rw [Rack.modHeader_header]
    split
    · rename_i same
      subst same
      simpa using this
    · simpa using this
  have full (g : HeaderId) (ne : g ≠ h) : (r.modHeader h (fun x => { x with capacity := cap })).headerFull g := by
    rw [Rack.headerFull_congr (r := r) (by rw [Rack.modHeader_header, if_neg (Ne.symm ne)])]
    exact (hp g).2
  unfold setCapacity
  dsimp only
  split
  · exact grantTest_grantsMatch agrees full
  · rename_i notRaised
    rw [Rack.grantsMatch_iff]
    intro g
    refine ⟨agrees g, ?_⟩
    by_cases same : g = h
    · subst same
      intro waits
      rw [Rack.modHeader_header, if_pos rfl] at waits ⊢
      exact le_trans (by simpa using notRaised) ((hp g).2 waits)
    · exact full g same

theorem Arbitration.grantsMatch {r r' : Rack} (h : Arbitration c r r') (hp : r.grantsMatch) : r'.grantsMatch := by
  cases h with
  | close a intent flow =>
    have left : Left r (r.setState c a .closing) a := .setState r a (by simp [ArmState.asks])
    unfold Rack.enterClosing
    refine Left.grantsMatch (left.modArm _ ?_ ?_) hp
    · exact fun _ => rfl
    · exact fun _ => rfl
  | leaveGrant a old stands asked =>
    subst stands
    exact (Left.setState r a (by simp [ArmState.asks])).grantsMatch hp
  | joinWaiting a low => exact Rack.joinWaiting_grantsMatch low hp
  | setCapacity h cap => exact setCapacity_grantsMatch hp

theorem Atom.grantsMatch {r r' : Rack} (h : Atom c r r') (hp : r.grantsMatch) : r'.grantsMatch :=
  h.grants.elim (fun stay => stay.grantsMatch hp) (fun arbitration => arbitration.grantsMatch hp)

/-! ### A rack restart at the headers (R132) -/

/-- Every set and list is empty. -/
def Rack.headersEmpty (r : Rack) : Prop := ∀ h, (r.header h).held = [] ∧ (r.header h).waiting = []

theorem Rack.emptyHeaders_empty (r : Rack) : r.emptyHeaders.headersEmpty := by
  intro h
  simp [Rack.emptyHeaders, Rack.header]

theorem Rack.headersEmpty_of {r r' : Rack} (headers : r'.headers = r.headers) (empty : r.headersEmpty) : r'.headersEmpty :=
  fun h => Rack.header_eq headers h ▸ empty h

/-- With every list empty the arbiter grants nothing. -/
theorem Rack.afterLeaving_empty {r : Rack} (a : ArmId) (old : ArmState) (empty : r.headersEmpty) :
    (r.afterLeaving c a old).headersEmpty ∧ (r.afterLeaving c a old).arms = r.arms := by
  unfold Rack.afterLeaving
  split
  · unfold Rack.releaseGrant
    split
    · rename_i h _
      have noWaiter : ((r.modHeader h (fun x => { x with held := x.held.filter (fun b => decide (b ≠ a)) })).header h).waiting = [] := by
        simp [(empty h).2]
      unfold grantTest
      rw [noWaiter]
      refine ⟨fun g => ?_, rfl⟩
      simp only [List.length_nil, grantHeads, Rack.modHeader_header]
      split
      · simp [(empty h).1, (empty h).2]
      · exact empty g
    · exact ⟨empty, rfl⟩
  · split
    · unfold Rack.withdraw
      split
      · rename_i h _
        refine ⟨fun g => ?_, rfl⟩
        simp only [Rack.modHeader_header]
        split
        · simp [(empty h).1, (empty h).2]
        · exact empty g
      · exact ⟨empty, rfl⟩
    · exact ⟨empty, rfl⟩

theorem Rack.enterClosing_empty {r : Rack} (a : ArmId) (intent : Intent) (empty : r.headersEmpty) :
    (r.enterClosing c a intent).headersEmpty ∧ ∀ b, b ≠ a → (r.enterClosing c a intent).arm b = r.arm b := by
  have entered : ((r.setState c a .closing).modArm a (fun x =>
      { x with intent := some intent, noFlowTimer := none, settleTimer := some c.stamp, quiet := false })).headersEmpty :=
    Rack.headersEmpty_of (Rack.setState_headers r c a _) empty
  obtain ⟨empty', arms⟩ := Rack.afterLeaving_empty (c := c) a (r.arm a).state entered
  refine ⟨empty', fun b ne => ?_⟩
  unfold Rack.enterClosing
  rw [Rack.arm_eq arms, Rack.modArm_arm, if_neg (Ne.symm ne), Rack.setState_arm, if_neg (fun h => ne h.1.symm)]

/-- A restart of one arm grants nothing, touches no other arm and leaves this one outside flow. -/
theorem Rack.restartArm_empty {r : Rack} (a : ArmId) (empty : r.headersEmpty) :
    (r.restartArm c a).headersEmpty ∧ (∀ b, b ≠ a → (r.restartArm c a).arm b = r.arm b) ∧
      ((r.restartArm c a).arm a).state.isFlow = false := by
  have behind : (r.returnBehind a).headersEmpty := Rack.headersEmpty_of (returnLines_headers r _) empty
  have others (b : ArmId) (ne : b ≠ a) : (r.returnBehind a).arm b = r.arm b := by
    rw [Rack.returnBehind_arm, if_neg (Ne.symm ne)]
  have closes : ((r.returnBehind a).enterClosing c a .interrupt).headersEmpty ∧
      (∀ b, b ≠ a → ((r.returnBehind a).enterClosing c a .interrupt).arm b = r.arm b) ∧
      (((r.returnBehind a).enterClosing c a .interrupt).arm a).state.isFlow = false := by
    obtain ⟨empty', others'⟩ := Rack.enterClosing_empty (c := c) a .interrupt behind
    refine ⟨empty', fun b ne => (others' b ne).trans (others b ne), ?_⟩
    unfold Rack.enterClosing
    rw [(Rack.afterLeaving_grants c _ a _).isFlow, Rack.modArm_arm, if_pos rfl]
    simp [ArmState.isFlow]
  unfold Rack.restartArm
  cases state : (r.arm a).state with
  | outOfService => exact ⟨empty, fun _ _ => rfl, by simp [state, ArmState.isFlow]⟩
  | idle => exact ⟨empty, fun _ _ => rfl, by simp [state, ArmState.isFlow]⟩
  | alarm => exact ⟨empty, fun _ _ => rfl, by simp [state, ArmState.isFlow]⟩
  | ready =>
    refine ⟨Rack.headersEmpty_of ?_ empty, fun b ne => Rack.returnAll_other r a b ne, ?_⟩
    · unfold Rack.returnAll
      rw [Rack.enterIdle_headers, Rack.modArm_headers, returnLines_headers]
    · exact (ArmState.isFree.still (Rack.returnAll_state r a)).2
  | lowStart => exact closes
  | waitGrant => exact closes
  | high => exact closes
  | lowRun => exact closes
  | closing =>
    refine ⟨behind, fun b ne => ?_, ?_⟩
    · rw [Rack.modArm_arm, if_neg (Ne.symm ne), others b ne]
    · rw [Rack.modArm_arm, if_pos rfl]
      simp [Rack.returnBehind_state, state, ArmState.isFlow]
  | suspended =>
    refine ⟨Rack.headersEmpty_of (by simp) behind, fun b ne => ?_, ?_⟩
    · rw [Rack.endCurrent_other _ a b ne, others b ne]
    · rcases Rack.endCurrent_state (c := c) (r.returnBehind a) a .interrupted (some .restart) with free | same
      · exact free.still.2
      · rw [same, Rack.returnBehind_state, state]
        rfl

theorem restartArms_empty (arms : List ArmId) {r : Rack} (empty : r.headersEmpty) :
    (restartArms c arms r).headersEmpty ∧ (∀ b, b ∉ arms → (restartArms c arms r).arm b = r.arm b) ∧
      ∀ b, b ∈ arms ∨ (r.arm b).state.isFlow = false → ((restartArms c arms r).arm b).state.isFlow = false := by
  induction arms generalizing r with
  | nil => exact ⟨empty, fun _ _ => rfl, fun b h => h.elim (fun h => by cases h) id⟩
  | cons a rest ih =>
    obtain ⟨empty', others, still⟩ := Rack.restartArm_empty (c := c) a empty
    obtain ⟨empty'', others', still'⟩ := ih empty'
    refine ⟨empty'', fun b notMem => ?_, fun b reached => still' b ?_⟩
    · obtain ⟨ne, notMem⟩ : b ≠ a ∧ b ∉ rest := by simpa using notMem
      exact (others' b notMem).trans (others b ne)
    · by_cases same : b = a
      · exact .inr (same ▸ still)
      · rw [others b same]
        exact reached.imp (fun mem => (List.mem_cons.mp mem).resolve_left same) id

theorem testOrdersAt_arms (arms : List ArmId) (r : Rack) :
    (testOrdersAt c arms r).arms = r.arms ∧ (testOrdersAt c arms r).headers = r.headers ∧
      (testOrdersAt c arms r).injectors = r.injectors ∧ (testOrdersAt c arms r).channels = r.channels := by
  induction arms generalizing r with
  | nil => exact ⟨rfl, rfl, rfl, rfl⟩
  | cons a rest ih =>
    obtain ⟨arms', headers', injectors', channels'⟩ := ih (r.testOrderAt c a)
    have tests : (r.testOrderAt c a).arms = r.arms ∧ (r.testOrderAt c a).headers = r.headers ∧
        (r.testOrderAt c a).injectors = r.injectors ∧ (r.testOrderAt c a).channels = r.channels := by
      unfold Rack.testOrderAt
      split
      · simp
      · exact ⟨rfl, rfl, rfl, rfl⟩
    exact ⟨arms'.trans tests.1, headers'.trans tests.2.1, injectors'.trans tests.2.2.1, channels'.trans tests.2.2.2⟩

/-- A rack restart leaves every set and list empty and no arm in flow. -/
theorem Rack.restart_empty (r : Rack) (arms : List ArmId) (all : arms.Perm allArms) :
    (r.restart c arms).headersEmpty ∧ ∀ b, ((r.restart c arms).arm b).state.isFlow = false := by
  obtain ⟨empty, -, still⟩ := restartArms_empty (c := c) arms r.emptyHeaders_empty
  obtain ⟨arms', headers', -, -⟩ := testOrdersAt_arms (c := c) arms (restartArms c arms r.emptyHeaders)
  refine ⟨Rack.headersEmpty_of headers' empty, fun b => ?_⟩
  unfold Rack.restart
  rw [Rack.arm_eq arms']
  exact still b (.inl (all.mem_iff.mpr (mem_allArms b)))

/-- With no set, no list and no arm in flow there is nothing to disagree. -/
theorem Rack.grantsMatch_of_empty {r : Rack} (empty : r.headersEmpty) (still : ∀ b, (r.arm b).state.isFlow = false) : r.grantsMatch := by
  rw [Rack.grantsMatch_iff]
  intro h
  obtain ⟨held, waiting⟩ := empty h
  have high (a : ArmId) : (r.arm a).state ≠ .high := fun is => by simpa [is, ArmState.isFlow] using still a
  have waits (a : ArmId) : (r.arm a).state ≠ .waitGrant := fun is => by simpa [is, ArmState.isFlow] using still a
  simp [Rack.headerAgrees, Rack.headerFull, held, waiting, high, waits]

/-! ### Every step -/

theorem Rack.powerOn_headersEmpty (inputs : InputLevels) (cal : CalStore) (r : Rack) : (r.powerOn inputs cal).headersEmpty := by
  intro h
  simp [Rack.powerOn, Rack.header, Header.fresh]

theorem grantsMatch_invariant : RackInvariant Rack.grantsMatch := by
  refine .of_atoms Atom.grantsMatch (fun r arms all _ => ?_) (fun inputs cal r _ => ?_)
  · obtain ⟨empty, still⟩ := r.restart_empty arms all
    exact Rack.grantsMatch_of_empty empty still
  · refine Rack.grantsMatch_of_empty (r.powerOn_headersEmpty inputs cal) (fun b => ?_)
    rw [Rack.powerOn_arm]
    rfl

/-- Settles O55: the arbiter's three acts keep every header in agreement, no other change touches an arm that asks, and a rack restart or a
power-on leaves nothing held and nobody waiting. -/
theorem grantsMatchStates : Obligations.GrantsMatchStates := by
  unfold Obligations.GrantsMatchStates
  exact fun _ _ h hp => grantsMatch_invariant.step h hp

end Sys2Proof.Machine
end

section
/-! PROOF. Notes in agreement with the orders (O57): what an atom does to an order beside its lines, the next free note number, and the
completion of an order. -/

namespace Sys2Proof.Machine

variable {c : Conditions}

/-! ### Orders beside their lines -/

/-- A line of which nothing but its number is known. -/
def Line.face (l : Line) : Line := { l.erase with doses := [], account := 0, preset := 0, state := .pending, arm := none }

/-- What the invariants read of an order beside its lines, of which it tells the numbers. -/
def Order.face (o : Order) : Order := { o.erase with lines := o.lines.map Line.face }

/-- Orders beside their lines, the waiting notes and the note counter are as they were. -/
structure FacesStay (r r' : Rack) : Prop where
  faces : r'.orders.map Order.face = r.orders.map Order.face
  notes : r'.notes = r.notes
  counter : r'.noteCounter = r.noteCounter

theorem FacesStay.of_orders {r r' : Rack} (orders : r'.orders = r.orders) (notes : r'.notes = r.notes)
    (counter : r'.noteCounter = r.noteCounter) : FacesStay r r' :=
  ⟨by rw [orders], notes, counter⟩

theorem FacesStay.refl (r : Rack) : FacesStay r r := .of_orders rfl rfl rfl

theorem FacesStay.trans {r s t : Rack} (h : FacesStay r s) (g : FacesStay s t) : FacesStay r t :=
  ⟨g.faces.trans h.faces, g.notes.trans h.notes, g.counter.trans h.counter⟩

theorem FacesStay.minor {r r' : Rack} (h : Minor r r') : FacesStay r r' where
  faces := by
    have orders : r'.orders.map Order.erase = r.orders.map Order.erase := by simpa using congrArg Rack.orders h
    have forget : Order.face = (fun o : Order => { o with lines := o.lines.map Line.face }) ∘ Order.erase := by
      funext o
      simp only [Order.face, Function.comp_apply, Order.erase, List.map_map]
      rfl
    rw [forget, ← List.map_map, ← List.map_map, orders]
  notes := by simpa using congrArg Rack.notes h
  counter := by simpa using congrArg Rack.noteCounter h

/-- A change of a line leaves its order's face. -/
theorem FacesStay.modLine (r : Rack) (n m : Nat) (f : Line → Line) (number : ∀ l, (f l).number = l.number) :
    FacesStay r (r.modLine n m f) where
  faces := by
    have line (l : Line) : (if l.number = m then f l else l).face = l.face := by
      split
      · simp only [Line.face, Line.erase, number]
      · rfl
    unfold Rack.modLine Rack.modOrder
    simp only [List.map_map]
    refine List.map_congr_left (fun o _ => ?_)
    simp only [Function.comp_apply]
    split
    · simp only [Order.face, Order.erase, Order.modLine, List.map_map, Function.comp_def, line]
    · rfl
  notes := rfl
  counter := rfl

theorem FacesStay.modCurrentLine (r : Rack) (a : ArmId) (f : Line → Line) (number : ∀ l, (f l).number = l.number) :
    FacesStay r (r.modCurrentLine a f) := by
  unfold Rack.modCurrentLine
  split
  · exact .modLine r _ _ f number
  · exact .of_orders rfl rfl rfl

theorem FacesStay.beginInjectors (r : Rack) (a : ArmId) (l : Line) : FacesStay r (r.beginInjectors a l) := by
  rw [Rack.beginInjectors_tables]
  exact .of_orders rfl rfl rfl

/-- The stroke volume of each slot of the arm a line is assigned to. -/
def Rack.strokesFor (r : Rack) (l : Line) (n : SlotId) : Option Nat :=
  (l.arm.bind (fun a => r.slotConfig a n)).map (fun k => k.stroke)

/-- The record of a line that ends: the line is finished and its ending handed on. -/
theorem Rack.endLineRecord_some {r : Rack} {n m : Nat} {o : Order} {l : Line} (order : r.order? n = some o) (line : r.line? n m = some l)
    (final : LineState) (cause : Option StopCause) :
    r.endLineRecord n m final cause =
      ((releaseAdditives l.doses (r.modLine n m (fun x => x.finish final cause (r.strokesFor l)))).modAccount l.account
        (Account.settle l.preset (roundLitres l.standard))).updateLastGroup o l := by
  unfold Rack.endLineRecord
  rw [order, line]
  rfl

theorem Rack.line_order {r : Rack} {n m : Nat} {l : Line} (line : r.line? n m = some l) :
    ∃ o, r.order? n = some o ∧ o.line? m = some l := by
  simpa [Rack.line?, Option.bind_eq_some_iff] using line

theorem Rack.endLineRecord_none {r : Rack} {n m : Nat} (line : r.line? n m = none) (final : LineState) (cause : Option StopCause) :
    r.endLineRecord n m final cause = r := by
  unfold Rack.endLineRecord
  rw [line]
  split
  · rename_i none
    cases none
  · rfl

/-- The orders once a line has ended. -/
theorem Rack.endLineRecord_orders {r : Rack} {n m : Nat} {l : Line} (line : r.line? n m = some l) (final : LineState)
    (cause : Option StopCause) :
    (r.endLineRecord n m final cause).orders = (r.modLine n m (fun x => x.finish final cause (r.strokesFor l))).orders := by
  obtain ⟨o, order, -⟩ := Rack.line_order line
  rw [Rack.endLineRecord_some order line]
  simp

theorem FacesStay.endLineRecord (r : Rack) (n m : Nat) (final : LineState) (cause : Option StopCause) :
    FacesStay r (r.endLineRecord n m final cause) := by
  cases line : r.line? n m with
  | none =>
    rw [Rack.endLineRecord_none line]
    exact .refl r
  | some l =>
    have ended := FacesStay.modLine r n m (fun x => x.finish final cause (r.strokesFor l)) (fun _ => rfl)
    exact ended.trans (.of_orders (Rack.endLineRecord_orders line final cause) (by simp) (by simp))

theorem FacesStay.returnLines (es : List QueueEntry) (r : Rack) : FacesStay r (returnLines es r) := by
  induction es generalizing r with
  | nil => exact .of_orders rfl rfl rfl
  | cons e rest ih => exact (FacesStay.modLine r _ _ Line.backToPending (fun _ => rfl)).trans (ih _)

theorem FacesStay.queueLines (n : Nat) (xs : List (Nat × ArmId)) (r : Rack) : FacesStay r (queueLines n xs r) := by
  induction xs generalizing r with
  | nil => exact .of_orders rfl rfl rfl
  | cons x rest ih =>
    have queued : FacesStay r ((r.modLine n x.1 (Line.queueAt x.2 (r.arm x.2).config)).modArm x.2 (fun y =>
        y.joinQueue n x.1 (((r.line? n x.1).map (fun l => l.addr)).getD 0))) :=
      (FacesStay.modLine r n x.1 (Line.queueAt x.2 (r.arm x.2).config) (fun _ => rfl)).trans (.of_orders rfl rfl rfl)
    exact queued.trans (ih _)

theorem FacesStay.goodStroke (r : Rack) (a : ArmId) (n : SlotId) (k : SlotConfig) : FacesStay r (r.goodStroke a n k) := by
  have ended : FacesStay r (r.endStroke a n) := .of_orders rfl rfl rfl
  unfold Rack.goodStroke
  split
  · rename_i place d _ _
    have drawn := FacesStay.modCurrentLine (r.endStroke a n) a (fun l => { l with doses := l.doses.modify place (fun d =>
      { d with dispensed := satAdd owedMax d.dispensed k.stroke, remaining := d.remaining - k.stroke }) }) (fun _ => rfl)
    exact (ended.trans drawn).trans (.of_orders rfl rfl rfl)
  · exact ended

theorem FacesStay.amend (r : Rack) (o : Order) (l : Line) (new : Nat) : FacesStay r (r.amend o l new) := by
  have moved : FacesStay r (moveAdditives new l.doses r) := by
    rw [moveAdditives_tables]
    exact .of_orders rfl rfl rfl
  have settled : FacesStay (moveAdditives new l.doses r) ((moveAdditives new l.doses r).modAccount l.account (fun x =>
    { x with reserved := x.reserved + new - l.preset })) := .of_orders rfl rfl rfl
  unfold Rack.amend
  exact (moved.trans settled).trans (.modLine _ _ _ _ (by exact fun _ => rfl))

/-- The atoms that change an order beside its lines. -/
inductive OrderAct (c : Conditions) : Rack → Rack → Prop
  | testOrder (r : Rack) (n : Nat) : OrderAct c r (r.testOrder c n)
  | book (r : Rack) (k : Booking) (passed : bookRefusal c r k = none) : OrderAct c r (r.book c k)
  | retireOrder (r : Rack) (o : Order) (order : r.order? o.number = some o) (ended : o.state = .complete ∨ o.state = .void) :
      OrderAct c r (r.retireOrder o.number)
  | admitOrder (r : Rack) (b : BayId) (p : Permit) (o : Order) (xs : List (Nat × ArmId)) (free : (r.bay b).admitted = none)
      (order : r.orderForCard b p.number = some o) (permit : r.permit? p.number = some p) (passed : cardRefusal c r p o = none)
      (assigned : assignment r b o = .ok xs) : OrderAct c r (r.admitOrder c b p o xs)

/-- An atom leaves every order beside its lines as it was, or is one of those that do not. -/
theorem Atom.faces {r r' : Rack} (h : Atom c r r') : FacesStay r r' ∨ OrderAct c r r' := by
  have setState {r1 : Rack} (a : ArmId) (new : ArmState) (h : FacesStay r r1) : FacesStay r (r1.setState c a new) :=
    h.trans (.of_orders (by simp) (by simp) (by simp))
  cases h with
  | minor h => exact .inl (.minor h)
  | close a intent flow => exact .inl (.of_orders (by simp) (by simp) (by simp))
  | toLowRun a low => exact .inl (.of_orders (by simp) (by simp) (by simp))
  | leaveGrant a old stands asked => exact .inl (.of_orders (by simp) (by simp) (by simp))
  | joinWaiting a low => exact .inl (.of_orders (by simp) (by simp) (by simp))
  | rest a new rests still => exact .inl (.of_orders (by simp) (by simp) (by simp))
  | forget a rests => exact .inl (.of_orders rfl rfl rfl)
  | begin r1 a l ready line permitted normal started =>
    have began : FacesStay r ((r.modCurrentLine a (Line.firstStart c)).beginInjectors a l) :=
      (FacesStay.modCurrentLine r a (Line.firstStart c) (fun _ => rfl)).trans (.beginInjectors _ a l)
    exact .inl (setState a _ (began.trans (.minor started)))
  | resumed r1 a l new suspended line started goes =>
    exact .inl (setState a _ ((FacesStay.modCurrentLine r a _ (by exact fun _ => rfl)).trans (.minor started)))
  | suspend r1 a closing stopped =>
    exact .inl (setState a _ ((FacesStay.modCurrentLine r a _ (by exact fun _ => rfl)).trans (.minor stopped)))
  | endPending n m l cause line pending => exact .inl (.endLineRecord r n m _ _)
  | endQueued n m l a cause line queued arm =>
    exact .inl ((FacesStay.endLineRecord r n m .cancelled cause).trans (.of_orders (by simp) (by simp) (by simp)))
  | endCurrent a final cause bears ended =>
    cases current : (r.arm a).current with
    | none =>
      rw [Rack.endCurrent_none r current]
      exact .inl (.of_orders rfl rfl rfl)
    | some e =>
      rw [Rack.endCurrent_some r current]
      refine .inl ((FacesStay.endLineRecord r e.order e.line final cause).trans (.of_orders ?_ ?_ ?_))
      · simp [Rack.giveUp]
      · simp [Rack.giveUp]
      · simp [Rack.giveUp]
  | testOrder n => exact .inr (.testOrder r n)
  | returnBehind a => exact .inl ((FacesStay.returnLines _ r).trans (.of_orders rfl rfl rfl))
  | returnAll a ready =>
    refine .inl ((FacesStay.returnLines (r.arm a).queue r).trans (.of_orders ?_ ?_ ?_))
    · simp [Rack.returnAll]
    · simp [Rack.returnAll]
    · simp [Rack.returnAll]
  | startStroke a n k _ _ _ _ _ => exact .inl (.of_orders rfl rfl rfl)
  | goodStroke a n k j d _ _ place serves => exact .inl (.goodStroke r a n k)
  | strokeLost a n k _ _ => exact .inl (.of_orders rfl rfl rfl)
  | dropStroke a n _ => exact .inl (.of_orders rfl rfl rfl)
  | newPermit p _ _ => exact .inl (.of_orders rfl rfl rfl)
  | retirePermit n _ => exact .inl (.of_orders rfl rfl rfl)
  | newAccount x _ _ => exact .inl (.of_orders rfl rfl rfl)
  | closeAccount x _ _ => exact .inl (.of_orders rfl rfl rfl)
  | refill x n => exact .inl (.of_orders rfl rfl rfl)
  | book k passed numbered => exact .inr (.book r k passed)
  | amend o l new _ _ _ => exact .inl (.amend r o l new)
  | retireOrder o order ended => exact .inr (.retireOrder r o order ended)
  | admitOrder b p o xs free order permit passed assigned => exact .inr (.admitOrder r b p o xs free order permit passed assigned)
  | configure a k _ _ => exact .inl (.of_orders rfl rfl rfl)
  | setCapacity h cap =>
    unfold Machine.setCapacity
    dsimp only
    split
    · exact .inl (.of_orders (by simp) (by simp) (by simp))
    · exact .inl (.of_orders rfl rfl rfl)

/-! ### The checks of a booking -/

theorem firstRefusal_none {xs : List (Option Refuse)} : firstRefusal xs = none ↔ ∀ x ∈ xs, x = none := by
  induction xs with
  | nil => simp [firstRefusal]
  | cons x rest ih => cases x <;> simp [firstRefusal, ih]

theorem refuseIf_none {p : Bool} {status : Status} {named : Named} : refuseIf p status named = none ↔ p = false := by
  cases p <;> simp [refuseIf]

/-- A booking that passes its checks has a number of its own and finds a free slot. -/
theorem bookRefusal_order {r : Rack} {k : Booking} (h : bookRefusal c r k = none) : r.order? k.order = none ∧ r.orders.length < 64 := by
  unfold bookRefusal at h
  simp only [firstRefusal_none, List.mem_cons, forall_eq_or_imp, refuseIf_none] at h
  obtain ⟨fresh, room, -⟩ := h
  exact ⟨by simpa using fresh, by simpa [orderSlots] using of_decide_eq_false room⟩

/-! ### The next free note number (R167) -/

/-- A note number lies from 1 to 999,999. -/
theorem advanceNote_range (n : Nat) : 1 ≤ advanceNote n ∧ advanceNote n ≤ 999999 := by
  unfold advanceNote
  split <;> omega

theorem advanceNote_iterate (n : Nat) (h : n ≤ 999999) (i : Nat) : advanceNote^[i + 1] n = (n + i) % 999999 + 1 := by
  induction i with
  | zero =>
    simp only [zero_add, Function.iterate_one, advanceNote]
    split <;> omega
  | succ i ih =>
    rw [Function.iterate_succ_apply', ih]
    unfold advanceNote
    split <;> omega

/-- The search takes the first number behind the counter that is not taken, or has advanced as often as it may. -/
theorem freeNote_iterate (taken : List Nat) (fuel n : Nat) :
    ∃ i, i ≤ fuel ∧ freeNote taken fuel n = advanceNote^[i + 1] n ∧ (∀ j, j < i → advanceNote^[j + 1] n ∈ taken) ∧
      (i < fuel → freeNote taken fuel n ∉ taken) := by
  induction fuel generalizing n with
  | zero => exact ⟨0, le_refl _, rfl, by simp, by simp⟩
  | succ fuel ih =>
    unfold freeNote
    split
    · rename_i isTaken
      obtain ⟨i, bound, found, before, free⟩ := ih (advanceNote n)
      refine ⟨i + 1, by omega, found, fun j hj => ?_, fun hi => free (by omega)⟩
      cases j with
      | zero => exact isTaken
      | succ j => exact before j (by omega)
    · rename_i notTaken
      exact ⟨0, by omega, rfl, by simp, fun _ => notTaken⟩

/-- Among more numbers than are taken one is free. -/
theorem freeNote_free {taken : List Nat} {fuel n : Nat} (room : taken.length ≤ fuel) (small : fuel < 999999) (h : n ≤ 999999) :
    freeNote taken fuel n ∉ taken := by
  obtain ⟨i, bound, found, before, free⟩ := freeNote_iterate taken fuel n
  rcases Nat.lt_or_ge i fuel with less | most
  · exact free less
  · intro isTaken
    obtain rfl : i = fuel := by omega
    have inside : ((List.range (i + 1)).map (fun j => advanceNote^[j + 1] n)) ⊆ taken := by
      intro m hm
      obtain ⟨j, hj, rfl⟩ := List.mem_map.mp hm
      rcases Nat.lt_or_ge j i with less | most
      · exact before j less
      · obtain rfl : j = i := by
          have := List.mem_range.mp hj
          omega
        exact found ▸ isTaken
    have differ : ((List.range (i + 1)).map (fun j => advanceNote^[j + 1] n)).Nodup := by
      refine List.Nodup.map_on ?_ List.nodup_range
      intro j hj k hk same
      have := List.mem_range.mp hj
      have := List.mem_range.mp hk
      rw [advanceNote_iterate n h, advanceNote_iterate n h] at same
      omega
    have := (differ.subperm inside).length_le
    simp only [List.length_map, List.length_range] at this
    omega

theorem freeNote_range (taken : List Nat) (fuel n : Nat) : 1 ≤ freeNote taken fuel n ∧ freeNote taken fuel n ≤ 999999 := by
  obtain ⟨i, -, found, -⟩ := freeNote_iterate taken fuel n
  rw [found, Function.iterate_succ_apply']
  exact advanceNote_range _

/-! ### Orders changed one at a time -/

/-- An order found under its number stands in the table. -/
theorem Rack.order_mem {r : Rack} {n : Nat} {o : Order} (h : r.order? n = some o) : o ∈ r.orders := List.mem_of_find?_eq_some h

/-- In a table with a number each, an order of the table is found under its number. -/
theorem Rack.order_of_mem {r : Rack} (numbers : (r.orders.map (fun o => o.number)).Nodup) {o : Order} (h : o ∈ r.orders) :
    r.order? o.number = some o := by
  unfold Rack.order?
  generalize r.orders = os at numbers h
  induction os with
  | nil => cases h
  | cons x rest ih =>
    obtain ⟨fresh, tail⟩ := List.nodup_cons.mp numbers
    rcases List.mem_cons.mp h with rfl | h
    · simp
    · have ne : x.number ≠ o.number := fun same => fresh (List.mem_map.mpr ⟨o, h, same.symm⟩)
      simp [ne, ih tail h]

theorem Rack.order_unique {r : Rack} (numbers : (r.orders.map (fun o => o.number)).Nodup) {o q : Order} (ho : o ∈ r.orders)
    (hq : q ∈ r.orders) (same : q.number = o.number) : q = o := by
  have found := r.order_of_mem numbers hq
  rw [same, r.order_of_mem numbers ho] at found
  exact (Option.some.inj found).symm

/-- What stands in the table once an order of it is changed. -/
theorem mem_modOrder {os : List Order} {n : Nat} {f : Order → Order} {q : Order} :
    q ∈ os.map (fun o => if o.number = n then f o else o) ↔
      (∃ o ∈ os, o.number = n ∧ q = f o) ∨ (q ∈ os ∧ q.number ≠ n) := by
  simp only [List.mem_map]
  constructor
  · rintro ⟨o, mem, rfl⟩
    split
    · exact .inl ⟨o, mem, ‹_›, rfl⟩
    · exact .inr ⟨mem, ‹_›⟩
  · rintro (⟨o, mem, number, rfl⟩ | ⟨mem, number⟩)
    · exact ⟨o, mem, if_pos number⟩
    · exact ⟨q, mem, if_neg number⟩

theorem map_number_modOrder (os : List Order) (n : Nat) (f : Order → Order) (kept : ∀ o, (f o).number = o.number) :
    (os.map (fun o => if o.number = n then f o else o)).map (fun o => o.number) = os.map (fun o => o.number) := by
  rw [List.map_map]
  refine List.map_congr_left (fun o _ => ?_)
  simp only [Function.comp_apply]
  split
  · exact kept o
  · rfl

/-! ### The agreement of notes and orders -/

/-- What the agreement asks of one order. -/
def Order.noteAgrees (notes : List Nat) (o : Order) : Prop :=
  (o.state = .complete → o.number ∈ notes) ∧ (o.state = .complete ↔ o.note ≠ none) ∧ (∀ n ∈ o.note, 1 ≤ n ∧ n ≤ 999999) ∧
    (o.state = .complete ∨ o.state = .void ↔ o.day ≠ none)

/-- The agreement, read from the orders, the list and the counter. -/
structure NotesAgree (os : List Order) (notes : List Nat) (counter : Nat) : Prop where
  numbers : (os.map (fun o => o.number)).Nodup
  length : os.length ≤ 64
  counter : counter ≤ 999999
  nodup : notes.Nodup
  complete : ∀ n ∈ notes, ∃ o ∈ os, o.number = n ∧ o.state = .complete
  held : (os.filterMap (fun o => o.note)).Nodup
  orders : ∀ o ∈ os, o.noteAgrees notes

theorem Rack.notesMatch_iff (r : Rack) : r.notesMatch ↔ NotesAgree r.orders r.notes r.noteCounter :=
  ⟨fun ⟨numbers, length, counter, nodup, complete, held, orders⟩ => ⟨numbers, length, counter, nodup, complete, held, orders⟩,
    fun ⟨numbers, length, counter, nodup, complete, held, orders⟩ => ⟨numbers, length, counter, nodup, complete, held, orders⟩⟩

/-- The agreement reads nothing but faces. -/
theorem NotesAgree.faces {os : List Order} {notes : List Nat} {counter : Nat} :
    NotesAgree (os.map Order.face) notes counter ↔ NotesAgree os notes counter := by
  have numbers : (os.map Order.face).map (fun o => o.number) = os.map (fun o => o.number) := by
    rw [List.map_map]
    rfl
  have held : (os.map Order.face).filterMap (fun o => o.note) = os.filterMap (fun o => o.note) := by
    rw [List.filterMap_map]
    rfl
  constructor
  · rintro ⟨h1, h2, h3, h4, h5, h6, h7⟩
    refine ⟨numbers ▸ h1, by simpa using h2, h3, h4, fun n hn => ?_, held ▸ h6, fun o ho => h7 o.face (List.mem_map_of_mem ho)⟩
    obtain ⟨q, hq, number, state⟩ := h5 n hn
    obtain ⟨o, ho, rfl⟩ := List.mem_map.mp hq
    exact ⟨o, ho, number, state⟩
  · rintro ⟨h1, h2, h3, h4, h5, h6, h7⟩
    refine ⟨numbers ▸ h1, by simpa using h2, h3, h4, fun n hn => ?_, held ▸ h6, fun q hq => ?_⟩
    · obtain ⟨o, ho, number, state⟩ := h5 n hn
      exact ⟨o.face, List.mem_map_of_mem ho, number, state⟩
    · obtain ⟨o, ho, rfl⟩ := List.mem_map.mp hq
      exact h7 o ho

theorem FacesStay.notesMatch {r r' : Rack} (stay : FacesStay r r') (hp : r.notesMatch) : r'.notesMatch := by
  rw [Rack.notesMatch_iff, ← NotesAgree.faces] at hp ⊢
  rw [stay.faces, stay.notes, stay.counter]
  exact hp

/-! ### An order that ends -/

/-- One order of the table is changed, and what it held of notes is not touched. -/
theorem NotesAgree.modOrder {os : List Order} {notes : List Nat} {counter : Nat} (agree : NotesAgree os notes counter) {o : Order}
    (mem : o ∈ os) {f : Order → Order} (number : ∀ x, (f x).number = x.number) (note : ∀ x, (f x).note = x.note)
    (open' : o.state ≠ .complete) (agrees : (f o).noteAgrees notes) :
    NotesAgree (os.map (fun x => if x.number = o.number then f x else x)) notes counter := by
  have only (x : Order) (hx : x ∈ os) (same : x.number = o.number) : x = o :=
    List.inj_on_of_nodup_map agree.numbers hx mem same
  refine ⟨?_, by simpa using agree.length, agree.counter, agree.nodup, fun n hn => ?_, ?_, fun q hq => ?_⟩
  · rw [map_number_modOrder os _ f number]
    exact agree.numbers
  · obtain ⟨q, hq, same, complete⟩ := agree.complete n hn
    refine ⟨q, mem_modOrder.mpr (.inr ⟨hq, fun h => open' ?_⟩), same, complete⟩
    exact only q hq h ▸ complete
  · have kept : (os.map (fun x => if x.number = o.number then f x else x)).filterMap (fun x => x.note) =
        os.filterMap (fun x => x.note) := by
      rw [List.filterMap_map]
      congr 1
      funext x
      simp only [Function.comp_apply]
      split
      · exact note x
      · rfl
    rw [kept]
    exact agree.held
  · rcases mem_modOrder.mp hq with ⟨x, hx, same, rfl⟩ | ⟨hq, -⟩
    · exact only x hx same ▸ agrees
    · exact agree.orders q hq

/-- The note numbers held once an order has taken one that none holds. -/
theorem held_complete {os : List Order} (numbers : (os.map (fun o => o.number)).Nodup) {k n : Nat} {f : Order → Order}
    (note : ∀ x, (f x).note = some n) (held : (os.filterMap (fun o => o.note)).Nodup) (free : n ∉ os.filterMap (fun o => o.note)) :
    ((os.map (fun o => if o.number = k then f o else o)).filterMap (fun o => o.note)).Nodup ∧
      ∀ m ∈ (os.map (fun o => if o.number = k then f o else o)).filterMap (fun o => o.note), m = n ∨ m ∈ os.filterMap (fun o => o.note) := by
  induction os with
  | nil => simp
  | cons x rest ih =>
    obtain ⟨fresh, tail⟩ := List.nodup_cons.mp numbers
    have freeRest : n ∉ rest.filterMap (fun o => o.note) := by
      intro h
      obtain ⟨q, hq, is⟩ := List.mem_filterMap.mp h
      exact free (List.mem_filterMap.mpr ⟨q, List.mem_cons_of_mem _ hq, is⟩)
    have heldRest : (rest.filterMap (fun o => o.note)).Nodup := by
      cases own : x.note with
      | none => simpa [List.filterMap_cons, own] using held
      | some v =>
        simp only [List.filterMap_cons, own] at held
        exact (List.nodup_cons.mp held).2
    obtain ⟨nodup, members⟩ := ih tail heldRest freeRest
    by_cases same : x.number = k
    · have rest' : rest.map (fun o => if o.number = k then f o else o) = rest := by
        conv_rhs => rw [← List.map_id rest]
        refine List.map_congr_left (fun o ho => ?_)
        rw [if_neg (fun is => fresh (List.mem_map.mpr ⟨o, ho, is.trans same.symm⟩)), id]
      simp only [List.map_cons, if_pos same, rest', List.filterMap_cons, note]
      refine ⟨List.nodup_cons.mpr ⟨freeRest, heldRest⟩, fun m hm => ?_⟩
      rcases List.mem_cons.mp hm with is | hm
      · exact .inl is
      · refine .inr ?_
        cases x.note with
        | none => exact hm
        | some v => exact List.mem_cons_of_mem _ hm
    · simp only [List.map_cons, if_neg same]
      cases own : x.note with
      | none =>
        simp only [List.filterMap_cons, own]
        exact ⟨nodup, members⟩
      | some v =>
        simp only [List.filterMap_cons, own] at held free ⊢
        refine ⟨List.nodup_cons.mpr ⟨fun hv => ?_, nodup⟩, fun m hm => ?_⟩
        · rcases members v hv with rfl | hv
          · exact free (List.mem_cons_self ..)
          · exact (List.nodup_cons.mp held).1 hv
        · rcases List.mem_cons.mp hm with rfl | hm
          · exact .inr (List.mem_cons_self ..)
          · exact (members m hm).imp id (List.mem_cons_of_mem _)

/-- An order completes with the next free number. -/
theorem NotesAgree.complete_order {os : List Order} {notes : List Nat} {counter : Nat} (agree : NotesAgree os notes counter) {o : Order}
    (mem : o ∈ os) (open' : o.state ≠ .complete) (day : Nat) :
    NotesAgree
      (os.map (fun x => if x.number = o.number then
        { x with state := .complete, day := some day, note := some (freeNote (os.filterMap (fun x => x.note)) os.length counter) } else x))
      (notes ++ [o.number]) (freeNote (os.filterMap (fun x => x.note)) os.length counter) := by
  have small : os.length < 999999 := by
    have := agree.length
    omega
  have free := freeNote_free (List.length_filterMap_le (fun x : Order => x.note) os) small agree.counter
  have range := freeNote_range (os.filterMap (fun x => x.note)) os.length counter
  generalize freeNote (os.filterMap (fun x => x.note)) os.length counter = n at free range ⊢
  have only (x : Order) (hx : x ∈ os) (same : x.number = o.number) : x = o :=
    List.inj_on_of_nodup_map agree.numbers hx mem same
  have fresh : o.number ∉ notes := fun h => by
    obtain ⟨q, hq, same, complete⟩ := agree.complete _ h
    exact open' (only q hq same ▸ complete)
  refine ⟨?_, by simpa using agree.length, range.2, ?_, fun m hm => ?_, ?_, fun q hq => ?_⟩
  · have kept := map_number_modOrder os o.number (fun x => { x with state := .complete, day := some day, note := some n }) (fun _ => rfl)
    exact kept ▸ agree.numbers
  · exact List.nodup_append.mpr ⟨agree.nodup, by simp, fun m hm k hk => fun same => fresh (by simp_all)⟩
  · rcases List.mem_append.mp hm with hm | hm
    · obtain ⟨q, hq, same, complete⟩ := agree.complete m hm
      refine ⟨q, mem_modOrder.mpr (.inr ⟨hq, fun h => open' ?_⟩), same, complete⟩
      exact only q hq h ▸ complete
    · exact ⟨_, mem_modOrder.mpr (.inl ⟨o, mem, rfl, rfl⟩), (List.mem_singleton.mp hm).symm, rfl⟩
  · exact (held_complete agree.numbers (fun _ => rfl) agree.held free).1
  · rcases mem_modOrder.mp hq with ⟨x, hx, same, rfl⟩ | ⟨hq, -⟩
    · exact ⟨fun _ => by simp [same], by simp, by simpa using range, by simp⟩
    · obtain ⟨h1, h2, h3, h4⟩ := agree.orders q hq
      exact ⟨fun h => List.mem_append_left _ (h1 h), h2, h3, h4⟩

/-! ### The acts on orders -/

theorem Order.noteAgrees_open {notes : List Nat} {o : Order} (agrees : o.noteAgrees notes) (state : o.state = .booked ∨ o.state = .admitted) :
    o.note = none ∧ o.day = none := by
  obtain ⟨-, note, -, day⟩ := agrees
  rcases state with h | h <;> simp [h] at note day <;> exact ⟨note, day⟩

theorem Order.noteAgrees_of_open {notes : List Nat} {o : Order} (state : o.state = .booked ∨ o.state = .admitted) (note : o.note = none)
    (day : o.day = none) : o.noteAgrees notes := by
  rcases state with h | h <;> simp [Order.noteAgrees, h, note, day]

theorem Rack.completeOrder_notesMatch {r : Rack} {o : Order} (mem : o ∈ r.orders) (state : o.state = .booked ∨ o.state = .admitted)
    (hp : r.notesMatch) : (r.completeOrder c o).notesMatch := by
  rw [Rack.notesMatch_iff] at hp ⊢
  have open' : o.state ≠ .complete := by rcases state with h | h <;> simp [h]
  unfold Rack.completeOrder
  dsimp only
  split
  · simpa [Rack.modOrder, Rack.heldNotes] using hp.complete_order mem open' c.day
  · have voided := hp.modOrder mem (f := fun x => { x with state := .void, day := some c.day }) (fun _ => rfl) (fun _ => rfl) open'
      ⟨by simp, by simp [(Order.noteAgrees_open (hp.orders o mem) state).1], by simp [(Order.noteAgrees_open (hp.orders o mem) state).1],
        by simp⟩
    simpa [Rack.modOrder] using voided

theorem Rack.returnToBooked_notesMatch {r : Rack} {o : Order} (mem : o ∈ r.orders) (state : o.state = .booked ∨ o.state = .admitted)
    (hp : r.notesMatch) : (r.returnToBooked o).notesMatch := by
  rw [Rack.notesMatch_iff] at hp ⊢
  have open' : o.state ≠ .complete := by rcases state with h | h <;> simp [h]
  obtain ⟨note, day⟩ := Order.noteAgrees_open (hp.orders o mem) state
  have booked := hp.modOrder mem (f := fun x => { x with state := .booked }) (fun _ => rfl) (fun _ => rfl) open'
    (Order.noteAgrees_of_open (.inl rfl) note day)
  simpa [Rack.returnToBooked, Rack.modOrder] using booked

theorem Rack.testOrder_notesMatch {r : Rack} {n : Nat} (hp : r.notesMatch) : (r.testOrder c n).notesMatch := by
  unfold Rack.testOrder
  split
  · rename_i o found
    split
    · rename_i state
      split
      · exact Rack.completeOrder_notesMatch (Rack.order_mem found) state hp
      · split
        · exact Rack.returnToBooked_notesMatch (Rack.order_mem found) state hp
        · exact hp
    · exact hp
  · exact hp

theorem Rack.book_notesMatch {r : Rack} {k : Booking} (passed : bookRefusal c r k = none) (hp : r.notesMatch) : (r.book c k).notesMatch := by
  rw [Rack.notesMatch_iff] at hp ⊢
  obtain ⟨fresh, room⟩ := bookRefusal_order passed
  have absent : ∀ o ∈ r.orders, o.number ≠ k.order := by simpa [Rack.order?] using fresh
  change NotesAgree (r.orders ++ [bookedOrder c r k]) r.notes r.noteCounter
  refine ⟨?_, ?_, hp.counter, hp.nodup, fun n hn => ?_, ?_, fun o ho => ?_⟩
  · rw [List.map_append]
    refine List.nodup_append.mpr ⟨hp.numbers, by simp, ?_⟩
    intro n hn m hm same
    obtain ⟨o, ho, rfl⟩ := List.mem_map.mp hn
    simp only [List.map_cons, List.map_nil, List.mem_singleton] at hm
    exact absent o ho (same.trans hm)
  · simp
    omega
  · obtain ⟨o, ho, number, state⟩ := hp.complete n hn
    exact ⟨o, List.mem_append_left _ ho, number, state⟩
  · simpa [List.filterMap_append, bookedOrder] using hp.held
  · rcases List.mem_append.mp ho with ho | ho
    · exact hp.orders o ho
    · rw [List.mem_singleton.mp ho]
      exact Order.noteAgrees_of_open (.inl rfl) rfl rfl

theorem Rack.retireOrder_notesMatch {r : Rack} {n : Nat} (hp : r.notesMatch) : (r.retireOrder n).notesMatch := by
  rw [Rack.notesMatch_iff] at hp ⊢
  change NotesAgree (r.orders.filter (fun o => decide (o.number ≠ n))) (r.notes.filter (fun m => decide (m ≠ n))) r.noteCounter
  refine ⟨hp.numbers.sublist (List.filter_sublist.map _), (List.length_filter_le _ _).trans hp.length, hp.counter,
    hp.nodup.sublist List.filter_sublist, fun m hm => ?_, hp.held.sublist (List.filter_sublist.filterMap _), fun o ho => ?_⟩
  · obtain ⟨hm, ne⟩ := List.mem_filter.mp hm
    obtain ⟨o, ho, rfl, state⟩ := hp.complete m hm
    exact ⟨o, List.mem_filter.mpr ⟨ho, ne⟩, rfl, state⟩
  · obtain ⟨ho, ne⟩ := List.mem_filter.mp ho
    obtain ⟨h1, h2, h3, h4⟩ := hp.orders o ho
    exact ⟨fun h => List.mem_filter.mpr ⟨h1 h, ne⟩, h2, h3, h4⟩

/-- The order a card finds is BOOKED and stands in the table. -/
theorem Rack.orderForCard_some {r : Rack} {b : BayId} {n : Nat} {o : Order} (h : r.orderForCard b n = some o) :
    o ∈ r.orders ∧ o.state = .booked ∧ o.permit = n := by
  have found := List.find?_some h
  simp only [Bool.and_eq_true, decide_eq_true_eq] at found
  exact ⟨List.mem_of_find?_eq_some h, found.1.1, found.1.2⟩

theorem Rack.readyIfGiven_orders (r : Rack) (xs : List (Nat × ArmId)) (a : ArmId) :
    (r.readyIfGiven c xs a).orders = r.orders ∧ (r.readyIfGiven c xs a).notes = r.notes ∧
      (r.readyIfGiven c xs a).noteCounter = r.noteCounter := by
  rcases r.readyIfGiven_cases (c := c) xs a with ⟨-, same⟩ | ⟨-, same⟩ <;> rw [same] <;> simp

theorem Rack.admitOrder_orders (r : Rack) (b : BayId) (p : Permit) (o : Order) (xs : List (Nat × ArmId)) :
    (r.admitOrder c b p o xs).orders =
        ((queueLines o.number xs r).modOrder o.number (fun x => { x with state := .admitted, lastBay := some b, counted := true })).orders ∧
      (r.admitOrder c b p o xs).notes = r.notes ∧ (r.admitOrder c b p o xs).noteCounter = r.noteCounter := by
  rw [Rack.admitOrder_eq]
  obtain ⟨orders, notes, counter⟩ := Rack.readyIfGiven_orders (c := c) ((r.admitted b p o xs).readyIfGiven c xs (lowerArm b)) xs (upperArm b)
  obtain ⟨orders', notes', counter'⟩ := Rack.readyIfGiven_orders (c := c) (r.admitted b p o xs) xs (lowerArm b)
  have stay := FacesStay.queueLines o.number xs r
  refine ⟨orders.trans (orders'.trans ?_), notes.trans (notes'.trans ?_), counter.trans (counter'.trans ?_)⟩
  · simp [Rack.admitted]
  · simp [Rack.admitted, stay.notes]
  · simp [Rack.admitted, stay.counter]

theorem Rack.admitOrder_notesMatch {r : Rack} {b : BayId} {p : Permit} {o : Order} {xs : List (Nat × ArmId)}
    (order : r.orderForCard b p.number = some o) (hp : r.notesMatch) : (r.admitOrder c b p o xs).notesMatch := by
  obtain ⟨mem, state, -⟩ := Rack.orderForCard_some order
  have queued := (FacesStay.queueLines o.number xs r).notesMatch hp
  have stay := FacesStay.queueLines o.number xs r
  obtain ⟨q, hq, face⟩ : ∃ q ∈ (queueLines o.number xs r).orders, q.face = o.face := by
    have : o.face ∈ (queueLines o.number xs r).orders.map Order.face := by
      rw [stay.faces]
      exact List.mem_map_of_mem mem
    simpa [List.mem_map] using this
  have number : q.number = o.number := (congrArg Order.number face :)
  have state' : q.state = .booked := (congrArg Order.state face :).trans state
  rw [Rack.notesMatch_iff] at queued ⊢
  obtain ⟨note, day⟩ := Order.noteAgrees_open (queued.orders q hq) (.inl state')
  have admitted := queued.modOrder hq (f := fun x => { x with state := .admitted, lastBay := some b, counted := true }) (fun _ => rfl)
    (fun _ => rfl) (by simp [state']) (Order.noteAgrees_of_open (.inr rfl) note day)
  obtain ⟨orders, notes, counter⟩ := r.admitOrder_orders (c := c) b p o xs
  rw [orders, notes, counter]
  rw [number, stay.notes, stay.counter] at admitted
  exact admitted

theorem Atom.notesMatch {r r' : Rack} (h : Atom c r r') (hp : r.notesMatch) : r'.notesMatch := by
  rcases h.faces with stay | act
  · exact stay.notesMatch hp
  · cases act with
    | testOrder n => exact Rack.testOrder_notesMatch hp
    | book k passed => exact Rack.book_notesMatch passed hp
    | retireOrder o _ _ => exact Rack.retireOrder_notesMatch hp
    | admitOrder b p o xs _ order _ _ _ => exact Rack.admitOrder_notesMatch order hp

/-! ### Every step -/

theorem notesMatch_invariant : RackInvariant Rack.notesMatch := by
  refine .of_atoms Atom.notesMatch (fun r arms _ hp => ?_) (fun inputs cal r hp => ?_)
  · exact (r.restart_atoms arms).keep Atom.notesMatch hp
  · rw [Rack.notesMatch_iff] at hp ⊢
    exact ⟨by simp [Rack.powerOn], by simp [Rack.powerOn], hp.counter, by simp [Rack.powerOn], by simp [Rack.powerOn],
      by simp [Rack.powerOn], by simp [Rack.powerOn]⟩

/-- Settles O57: orders change beside their lines at a booking, an admission, their tests and their retirement alone, and a completion takes
the first number behind the counter that no order holds, of which there is one among 65. -/
theorem notesMatchOrders : Obligations.NotesMatchOrders := by
  unfold Obligations.NotesMatchOrders
  exact fun _ _ h hp => notesMatch_invariant.step h hp

end Sys2Proof.Machine
end

section
/-! PROOF. Queues in agreement with the order table (O56, first half): where a line stands, which arm holds its entry, and what each atom
does to one line and one queue at a time. -/

namespace Sys2Proof.Machine

variable {c : Conditions}

/-! ### Where a line stands -/

/-- The arm a line is assigned to and its state. -/
def Line.standing (l : Line) : Option ArmId × LineState := (l.arm, l.state)

/-- Where the line of these numbers stands. -/
def Rack.standing (r : Rack) (n m : Nat) : Option (Option ArmId × LineState) := (r.line? n m).map Line.standing

/-- A line that has an entry in a queue. -/
abbrev LineState.isPlaced (s : LineState) : Prop := s = .queued ∨ s = .active ∨ s = .suspended

theorem Rack.standing_some {r : Rack} {n m : Nat} {l : Line} (line : r.line? n m = some l) : r.standing n m = some l.standing := by
  simp [Rack.standing, line]

theorem Rack.standing_congr {r r' : Rack} (orders : r'.orders = r.orders) (n m : Nat) : r'.standing n m = r.standing n m := by
  simp [Rack.standing, Rack.line_eq orders]

theorem Minor.standing {r r' : Rack} (h : Minor r r') (n m : Nat) : r'.standing n m = r.standing n m := by
  have line : (r'.line? n m).map Line.erase = (r.line? n m).map Line.erase := by
    rw [← Rack.erase_line, ← Rack.erase_line, h]
  have erase : Line.standing = Line.standing ∘ Line.erase := rfl
  unfold Rack.standing
  rw [erase, ← Option.map_map, ← Option.map_map, line]

theorem Rack.modLine_standing (r : Rack) (n m : Nat) (f : Line → Line) (number : ∀ l, (f l).number = l.number) (k j : Nat) :
    (r.modLine n m f).standing k j = if n = k ∧ m = j then (r.line? k j).map (fun l => (f l).standing) else r.standing k j := by
  unfold Rack.standing
  rw [Rack.modLine_line r n m k j f number]
  split
  · rw [Option.map_map]
    rfl
  · rfl

/-- A change of a line that keeps its place. -/
theorem Rack.modLine_standing_same (r : Rack) (n m : Nat) (f : Line → Line) (number : ∀ l, (f l).number = l.number)
    (kept : ∀ l, (f l).standing = l.standing) (k j : Nat) : (r.modLine n m f).standing k j = r.standing k j := by
  rw [Rack.modLine_standing r n m f number]
  split
  · simp only [kept]
    rfl
  · rfl

theorem Rack.modCurrentLine_standing_same (r : Rack) (a : ArmId) (f : Line → Line) (number : ∀ l, (f l).number = l.number)
    (kept : ∀ l, (f l).standing = l.standing) (k j : Nat) : (r.modCurrentLine a f).standing k j = r.standing k j := by
  unfold Rack.modCurrentLine
  split
  · exact Rack.modLine_standing_same r _ _ f number kept k j
  · rfl

/-! ### Numbers -/

/-- Order numbers and line numbers name one record each. -/
structure Rack.numbered (r : Rack) : Prop where
  orders : (r.orders.map (fun o => o.number)).Nodup
  lines : ∀ o ∈ r.orders, (o.lines.map (fun l => l.number)).Nodup

theorem FacesStay.numbered {r r' : Rack} (stay : FacesStay r r') (hp : r.numbered) : r'.numbered := by
  have orders : r'.orders.map (fun o => o.number) = r.orders.map (fun o => o.number) := by
    have number : (fun o : Order => o.number) = (fun o : Order => o.number) ∘ Order.face := rfl
    rw [number, ← List.map_map, ← List.map_map, stay.faces]
  have lines : r'.orders.map (fun o => o.lines.map (fun l => l.number)) = r.orders.map (fun o => o.lines.map (fun l => l.number)) := by
    have number : (fun o : Order => o.lines.map (fun l => l.number)) = (fun o : Order => o.lines.map (fun l => l.number)) ∘ Order.face := by
      funext o
      simp only [Function.comp_apply, Order.face, List.map_map]
      rfl
    rw [number, ← List.map_map, ← List.map_map, stay.faces]
  refine ⟨orders ▸ hp.orders, fun o ho => ?_⟩
  have mem : o.lines.map (fun l => l.number) ∈ r.orders.map (fun o => o.lines.map (fun l => l.number)) :=
    lines ▸ List.mem_map_of_mem ho
  obtain ⟨q, hq, same⟩ := List.mem_map.mp mem
  exact same ▸ hp.lines q hq

/-- An order read after a change that leaves faces. -/
theorem FacesStay.order {r r' : Rack} (stay : FacesStay r r') (n : Nat) :
    (r'.order? n).map Order.face = (r.order? n).map Order.face := by
  have found (s : Rack) : (s.order? n).map Order.face = (s.orders.map Order.face).find? (fun o => decide (o.number = n)) :=
    (find_map_kept Order.number Order.face (fun _ => rfl) n s.orders).symm
  rw [found, found, stay.faces]

theorem FacesStay.order_some {r r' : Rack} (stay : FacesStay r r') {n : Nat} {o : Order} (found : r'.order? n = some o) :
    ∃ q, r.order? n = some q ∧ q.face = o.face := by
  have same := stay.order n
  rw [found, Option.map_some] at same
  simpa [Option.map_eq_some_iff] using same.symm

theorem Order.line_of_mem {o : Order} (numbers : (o.lines.map (fun l => l.number)).Nodup) {l : Line} (h : l ∈ o.lines) :
    o.line? l.number = some l := by
  unfold Order.line?
  generalize o.lines = ls at numbers h
  induction ls with
  | nil => cases h
  | cons x rest ih =>
    obtain ⟨fresh, tail⟩ := List.nodup_cons.mp numbers
    rcases List.mem_cons.mp h with rfl | h
    · simp
    · have ne : x.number ≠ l.number := fun same => fresh (List.mem_map.mpr ⟨l, h, same.symm⟩)
      simp [ne, ih tail h]

theorem Order.line_mem {o : Order} {m : Nat} {l : Line} (h : o.line? m = some l) : l ∈ o.lines := List.mem_of_find?_eq_some h

theorem Rack.line_of_mem {r : Rack} (hp : r.numbered) {o : Order} (ho : o ∈ r.orders) {l : Line} (hl : l ∈ o.lines) :
    r.line? o.number l.number = some l := by
  unfold Rack.line?
  rw [r.order_of_mem hp.orders ho]
  exact Order.line_of_mem (hp.lines o ho) hl

theorem Rack.line_of_order {r : Rack} {n m : Nat} {o : Order} (order : r.order? n = some o) : r.line? n m = o.line? m := by
  simp [Rack.line?, order]

/-! ### Kinds of arm state -/

/-- What the queue rules tell of an arm's state. -/
inductive ArmKind where
  | resting
  | ready
  | running
  | suspended

def ArmState.kind : ArmState → ArmKind
  | .outOfService => .resting
  | .idle => .resting
  | .alarm => .resting
  | .ready => .ready
  | .lowStart => .running
  | .waitGrant => .running
  | .high => .running
  | .lowRun => .running
  | .closing => .running
  | .suspended => .suspended

theorem ArmState.kind_running {s : ArmState} : s.kind = .running ↔ s.isRunning = true := by
  cases s <;> simp [ArmState.kind, ArmState.isRunning, ArmState.isFlow]

theorem ArmState.kind_suspended {s : ArmState} : s.kind = .suspended ↔ s = .suspended := by
  cases s <;> simp [ArmState.kind]

theorem ArmState.kind_ready {s : ArmState} : s.kind = .ready ↔ s = .ready := by
  cases s <;> simp [ArmState.kind]

theorem ArmState.kind_resting {s : ArmState} : s.kind = .resting ↔ s.isResting := by
  cases s <;> simp [ArmState.kind, ArmState.isResting]

theorem ArmState.kind_of_flow {s : ArmState} (flow : s.isFlow = true) : s.kind = .running := by
  simp [ArmState.kind_running, ArmState.isRunning, flow]

/-- The state of the line of an arm's current entry. -/
def ArmKind.lineState : ArmKind → LineState
  | .running => .active
  | .suspended => .suspended
  | .ready => .queued
  | .resting => .queued

theorem Arm.lineStateAt_eq (x : Arm) (e : QueueEntry) :
    x.lineStateAt e = if x.current = some e then x.state.kind.lineState else .queued := by
  unfold Arm.lineStateAt
  cases x.state <;> rfl

theorem Arm.lineStateAt_placed (x : Arm) (e : QueueEntry) : (x.lineStateAt e).isPlaced := by
  rw [Arm.lineStateAt_eq]
  split
  · cases x.state.kind <;> simp [ArmKind.lineState, LineState.isPlaced]
  · exact .inl rfl

theorem LineState.isPlaced.notFinal {s : LineState} (h : s.isPlaced) : s.isFinal = false := by
  rcases h with rfl | rfl | rfl <;> rfl

/-! ### The agreement, arm by arm -/

/-- What an arm's queue holds stands where its entries say. -/
structure ArmHolds (standing : Nat → Nat → Option (Option ArmId × LineState)) (a : ArmId) (x : Arm) : Prop where
  nodup : (x.queue.map (fun e => (e.order, e.line))).Nodup
  entries : ∀ e ∈ x.queue, standing e.order e.line = some (some a, x.lineStateAt e)
  current : ∀ e, x.current = some e → e ∈ x.queue

/-- An arm serves an entry exactly while it is READY or bears a line, and one at rest has an empty queue. -/
structure ArmServes (x : Arm) : Prop where
  bears : x.current ≠ none ↔ x.state.kind ≠ .resting
  rests : x.state.kind = .resting → x.queue = []

/-- Orders and queues agree, whatever the arms are doing. -/
structure QueuesHold (r : Rack) : Prop where
  numbered : r.numbered
  finished : ∀ n m o p, r.order? n = some o → o.state = .complete ∨ o.state = .void → r.standing n m = some p → p.2.isFinal = true
  placed : ∀ n m p, r.standing n m = some p → p.2.isPlaced → ∃ a, ∃ e ∈ (r.arm a).queue, e.order = n ∧ e.line = m
  holds : ∀ a, ArmHolds r.standing a (r.arm a)

theorem Rack.queuesMatch_iff (r : Rack) : r.queuesMatch ↔ QueuesHold r ∧ ∀ a, ArmServes (r.arm a) := by
  have kinds (x : Arm) : (x.state = .ready ∨ x.state.isLineBearing = true) ↔ x.state.kind ≠ .resting := by
    cases x.state <;> simp [ArmState.isLineBearing, ArmState.isRunning, ArmState.isFlow, ArmState.kind]
  constructor
  · rintro ⟨numbers, orders, arms⟩
    have numbered : r.numbered := ⟨numbers, fun o ho => (orders o ho).1⟩
    refine ⟨⟨numbered, fun n m o p order finished standing => ?_, fun n m p standing placed => ?_, fun a => ?_⟩, fun a => ?_⟩
    · obtain ⟨l, line, rfl⟩ := Option.map_eq_some_iff.mp standing
      rw [Rack.line_of_order order] at line
      exact (orders o (Rack.order_mem order)).2.1 finished l (Order.line_mem line)
    · obtain ⟨l, line, rfl⟩ := Option.map_eq_some_iff.mp standing
      obtain ⟨o, order, line⟩ := Rack.line_order line
      obtain ⟨a, e, he, h1, h2⟩ := (orders o (Rack.order_mem order)).2.2 l (Order.line_mem line) placed
      exact ⟨a, e, he, h1.trans (Rack.order_number order), h2.trans (Order.line_number line)⟩
    · obtain ⟨nodup, entries, current, -, -⟩ := arms a
      exact ⟨nodup, entries, current⟩
    · obtain ⟨-, -, -, bears, rests⟩ := arms a
      exact ⟨bears.trans (kinds _), fun kind => rests (ArmState.kind_resting.mp kind)⟩
  · rintro ⟨hold, serves⟩
    refine ⟨hold.numbered.orders, fun o ho => ⟨hold.numbered.lines o ho, fun finished l hl => ?_, fun l hl placed => ?_⟩, fun a => ?_⟩
    · have line := Rack.line_of_mem hold.numbered ho hl
      exact hold.finished o.number l.number o _ (r.order_of_mem hold.numbered.orders ho) finished (Rack.standing_some line)
    · exact hold.placed o.number l.number _ (Rack.standing_some (Rack.line_of_mem hold.numbered ho hl)) placed
    · exact ⟨(hold.holds a).nodup, (hold.holds a).entries, (hold.holds a).current, (serves a).bears.trans (kinds _).symm,
        fun rests => (serves a).rests (ArmState.kind_resting.mpr rests)⟩

/-- Two entries of one queue that name one line are one. -/
theorem ArmHolds.entry_unique {standing : Nat → Nat → Option (Option ArmId × LineState)} {a : ArmId} {x : Arm}
    (hp : ArmHolds standing a x) {e f : QueueEntry} (he : e ∈ x.queue) (hf : f ∈ x.queue) (order : e.order = f.order)
    (line : e.line = f.line) : e = f :=
  List.inj_on_of_nodup_map hp.nodup he hf (by simp [order, line])

/-- The arm keeps its queue, its current entry and the kind of its state. -/
structure ArmAlike (x y : Arm) : Prop where
  queue : y.queue = x.queue
  current : y.current = x.current
  kind : y.state.kind = x.state.kind

theorem ArmAlike.of_eq {x y : Arm} (h : y = x) : ArmAlike x y := ⟨by rw [h], by rw [h], by rw [h]⟩

theorem ArmAlike.trans {x y z : Arm} (h : ArmAlike x y) (g : ArmAlike y z) : ArmAlike x z :=
  ⟨g.queue.trans h.queue, g.current.trans h.current, g.kind.trans h.kind⟩

theorem ArmAlike.lineStateAt {x y : Arm} (h : ArmAlike x y) (e : QueueEntry) : y.lineStateAt e = x.lineStateAt e := by
  rw [Arm.lineStateAt_eq, Arm.lineStateAt_eq, h.current, h.kind]

theorem ArmAlike.serves {x y : Arm} (h : ArmAlike x y) (hp : ArmServes x) : ArmServes y :=
  ⟨by rw [h.current, h.kind]; exact hp.bears, by rw [h.queue, h.kind]; exact hp.rests⟩

/-- A queue whose lines stand as they stood. -/
theorem ArmHolds.alike {standing standing' : Nat → Nat → Option (Option ArmId × LineState)} {a : ArmId} {x y : Arm}
    (hp : ArmHolds standing a x) (alike : ArmAlike x y)
    (same : ∀ e ∈ x.queue, standing' e.order e.line = standing e.order e.line) : ArmHolds standing' a y where
  nodup := alike.queue ▸ hp.nodup
  entries := fun e he => by
    rw [alike.queue] at he
    rw [same e he, alike.lineStateAt]
    exact hp.entries e he
  current := fun e he => by
    rw [alike.current] at he
    rw [alike.queue]
    exact hp.current e he

/-! ### Some lines of one arm change their place -/

/-- What the agreement needs where lines that stand at one arm, or at none, change their place and all else stays. -/
structure Replaced (r r' : Rack) (a : ArmId) (changed : Nat → Nat → Prop) : Prop where
  stay : FacesStay r r'
  out : ∀ n m, ¬changed n m → r'.standing n m = r.standing n m
  home : ∀ n m, changed n m → ∃ p, r.standing n m = some p ∧ p.2.isFinal = false ∧ (p.1 = some a ∨ ¬p.2.isPlaced)
  placed : ∀ n m p, changed n m → r'.standing n m = some p → p.2.isPlaced → ∃ e ∈ (r'.arm a).queue, e.order = n ∧ e.line = m
  others : ∀ b, b ≠ a → ArmAlike (r.arm b) (r'.arm b)
  kept : ∀ e ∈ (r.arm a).queue, ¬changed e.order e.line → e ∈ (r'.arm a).queue

/-- The lines of another arm's queue do not change. -/
theorem Replaced.other_out {r r' : Rack} {a : ArmId} {changed : Nat → Nat → Prop} (h : Replaced r r' a changed) (hp : QueuesHold r)
    {b : ArmId} (ne : b ≠ a) {e : QueueEntry} (he : e ∈ (r.arm b).queue) : ¬changed e.order e.line := by
  intro is
  obtain ⟨p, standing, -, arm⟩ := h.home _ _ is
  rw [(hp.holds b).entries e he] at standing
  cases standing
  rcases arm with arm | notPlaced
  · exact ne (Option.some.inj arm)
  · exact notPlaced (Arm.lineStateAt_placed _ e)

theorem Replaced.hold {r r' : Rack} {a : ArmId} {changed : Nat → Nat → Prop} (h : Replaced r r' a changed) (hp : QueuesHold r)
    (own : ArmHolds r'.standing a (r'.arm a)) : QueuesHold r' where
  numbered := h.stay.numbered hp.numbered
  finished := fun n m o p order finished standing => by
    obtain ⟨q, order', face⟩ := h.stay.order_some order
    have state : q.state = o.state := (congrArg Order.state face :)
    by_cases is : changed n m
    · obtain ⟨p', standing', notFinal, -⟩ := h.home n m is
      rw [hp.finished n m q p' order' (state ▸ finished) standing'] at notFinal
      cases notFinal
    · rw [h.out n m is] at standing
      exact hp.finished n m q p order' (state ▸ finished) standing
  placed := fun n m p standing placed => by
    by_cases is : changed n m
    · exact ⟨a, h.placed n m p is standing placed⟩
    · rw [h.out n m is] at standing
      obtain ⟨b, e, he, rfl, rfl⟩ := hp.placed n m p standing placed
      by_cases same : b = a
      · subst same
        exact ⟨b, e, h.kept e he is, rfl, rfl⟩
      · exact ⟨b, e, (h.others b same).queue ▸ he, rfl, rfl⟩
  holds := fun b => by
    by_cases same : b = a
    · exact same ▸ own
    · exact (hp.holds b).alike (h.others b same) (fun e he => h.out _ _ (h.other_out hp same he))

/-- Nothing changes its place. -/
theorem QueuesHold.alike {r r' : Rack} (stay : FacesStay r r') (standing : ∀ n m, r'.standing n m = r.standing n m)
    (arms : ∀ b, ArmAlike (r.arm b) (r'.arm b)) (hp : QueuesHold r) : QueuesHold r' := by
  have replaced : Replaced r r' 0 (fun _ _ => False) :=
    ⟨stay, fun n m _ => standing n m, fun _ _ h => h.elim, fun _ _ _ h => h.elim, fun b _ => arms b, fun e he _ => (arms 0).queue ▸ he⟩
  exact replaced.hold hp ((hp.holds 0).alike (arms 0) (fun e _ => standing _ _))

/-- The agreement of queues and orders, with what the arms serve. -/
def QueuesAgree (r : Rack) : Prop := QueuesHold r ∧ ∀ a, ArmServes (r.arm a)

theorem QueuesAgree.alike {r r' : Rack} (stay : FacesStay r r') (standing : ∀ n m, r'.standing n m = r.standing n m)
    (arms : ∀ b, ArmAlike (r.arm b) (r'.arm b)) (hp : QueuesAgree r) : QueuesAgree r' :=
  ⟨hp.1.alike stay standing arms, fun a => (arms a).serves (hp.2 a)⟩

theorem Replaced.agree {r r' : Rack} {a : ArmId} {changed : Nat → Nat → Prop} (h : Replaced r r' a changed) (hp : QueuesAgree r)
    (own : ArmHolds r'.standing a (r'.arm a)) (serves : ArmServes (r'.arm a)) : QueuesAgree r' := by
  refine ⟨h.hold hp.1 own, fun b => ?_⟩
  by_cases same : b = a
  · exact same ▸ serves
  · exact (h.others b same).serves (hp.2 b)

/-! ### Atoms that move no line -/

theorem ArmAlike.minor {r r' : Rack} (h : Minor r r') (a : ArmId) : ArmAlike (r.arm a) (r'.arm a) :=
  ⟨h.queue a, h.current a, by rw [h.state a]⟩

theorem ArmAlike.grants {r s : Rack} (h : OnlyGrants r s) (b : ArmId) : ArmAlike (r.arm b) (s.arm b) := by
  refine ⟨h.queue b, h.current b, ?_⟩
  rcases h.state b with same | ⟨waits, high⟩
  · rw [same]
  · rw [waits, high]
    rfl

theorem ArmAlike.setState (r : Rack) {a : ArmId} {new : ArmState} (kind : new.kind = (r.arm a).state.kind) (b : ArmId) :
    ArmAlike (r.arm b) ((r.setState c a new).arm b) := by
  refine ⟨by simp, by simp, ?_⟩
  by_cases same : b = a
  · subst same
    rw [Rack.setState_state, kind]
  · rw [Rack.setState_arm, if_neg (fun h => same h.1.symm)]

/-- A change of state alone. -/
theorem QueuesAgree.setState {r : Rack} {a : ArmId} {new : ArmState} (kind : new.kind = (r.arm a).state.kind) (hp : QueuesAgree r) :
    QueuesAgree (r.setState c a new) :=
  hp.alike (.of_orders (by simp) (by simp) (by simp)) (Rack.standing_congr (by simp)) (ArmAlike.setState r kind)

theorem setCapacity_grants (r : Rack) (h : HeaderId) (cap : Nat) : OnlyGrants r (setCapacity c h cap r).1 := by
  unfold Machine.setCapacity
  dsimp only
  split
  · exact (OnlyGrants.of_arms (Rack.modHeader_arms _ _ _)).trans (grantTest_grants c _ _)
  · exact .of_arms rfl

theorem setCapacity_orders (r : Rack) (h : HeaderId) (cap : Nat) : (setCapacity c h cap r).1.orders = r.orders := by
  unfold Machine.setCapacity
  dsimp only
  split <;> simp

/-- The arbiter moves an arm from one running state to another. -/
theorem Arbitration.alike {r r' : Rack} (h : Arbitration c r r') (b : ArmId) :
    ArmAlike (r.arm b) (r'.arm b) ∧ (r'.arm b).config = (r.arm b).config := by
  cases h with
  | close a intent flow =>
    have kind : ArmState.closing.kind = (r.arm a).state.kind := (ArmState.kind_of_flow flow).symm
    have closed : ArmAlike ((r.setState c a .closing).arm b) (((r.setState c a .closing).modArm a (fun x =>
        { x with intent := some intent, noFlowTimer := none, settleTimer := some c.stamp, quiet := false })).arm b) ∧
        (((r.setState c a .closing).modArm a (fun x =>
        { x with intent := some intent, noFlowTimer := none, settleTimer := some c.stamp, quiet := false })).arm b).config =
          (r.arm b).config := by
      rw [Rack.modArm_arm]
      split
      · rename_i same
        subst same
        exact ⟨⟨rfl, rfl, rfl⟩, Rack.setState_config c r a a _⟩
      · exact ⟨.of_eq rfl, Rack.setState_config c r a b _⟩
    have grants := Rack.afterLeaving_grants c ((r.setState c a .closing).modArm a (fun x =>
        { x with intent := some intent, noFlowTimer := none, settleTimer := some c.stamp, quiet := false })) a (r.arm a).state
    exact ⟨((ArmAlike.setState r kind b).trans closed.1).trans (.grants grants b), (grants.config b).trans closed.2⟩
  | leaveGrant a old stands asked =>
    have kind : ArmState.lowRun.kind = (r.arm a).state.kind := by rcases asked with rfl | rfl <;> rw [stands] <;> rfl
    have grants := Rack.afterLeaving_grants c (r.setState c a .lowRun) a old
    exact ⟨(ArmAlike.setState r kind b).trans (.grants grants b), (grants.config b).trans (Rack.setState_config c r a b _)⟩
  | joinWaiting a low =>
    rcases r.joinWaiting_grants (c := c) a with same | grants
    · exact ⟨.of_eq (by rw [same]), by rw [same]⟩
    · have kind : ArmState.waitGrant.kind = (r.arm a).state.kind := by rw [low]; rfl
      exact ⟨(ArmAlike.setState r kind b).trans (.grants grants b), (grants.config b).trans (Rack.setState_config c r a b _)⟩
  | setCapacity h cap => exact ⟨.grants (setCapacity_grants r h cap) b, (setCapacity_grants r h cap).config b⟩

theorem Arbitration.faces {r r' : Rack} (h : Arbitration c r r') : FacesStay r r' ∧ r'.orders = r.orders := by
  have of (orders : r'.orders = r.orders) (notes : r'.notes = r.notes) (counter : r'.noteCounter = r.noteCounter) :
      FacesStay r r' ∧ r'.orders = r.orders := ⟨.of_orders orders notes counter, orders⟩
  cases h with
  | setCapacity h cap =>
    refine of (setCapacity_orders r h cap) ?_ ?_
    · unfold Machine.setCapacity
      dsimp only
      split <;> simp
    · unfold Machine.setCapacity
      dsimp only
      split <;> simp
  | _ => exact of (by simp) (by simp) (by simp)

theorem Arbitration.queuesAgree {r r' : Rack} (h : Arbitration c r r') (hp : QueuesAgree r) : QueuesAgree r' :=
  hp.alike h.faces.1 (Rack.standing_congr h.faces.2) (fun b => (h.alike b).1)

/-! ### The current line changes its state with its arm -/

/-- A first start, a resumption, a suspension: the current line and its arm change together. -/
theorem QueuesAgree.restate {r r1 : Rack} {a : ArmId} {f : Line → Line} {new : ArmState} (hp : QueuesAgree r)
    (line : (r.currentLine a).isSome = true) (number : ∀ l, (f l).number = l.number)
    (state : ∀ l, (f l).standing = (l.arm, new.kind.lineState)) (stay : FacesStay r r1)
    (lines : ∀ n m, r1.standing n m = (r.modCurrentLine a f).standing n m) (arms : ∀ b, ArmAlike (r.arm b) (r1.arm b))
    (bears : new.kind ≠ .resting) : QueuesAgree (r1.setState c a new) := by
  obtain ⟨l, line⟩ := Option.isSome_iff_exists.mp line
  obtain ⟨e, o, current, -, line⟩ := Rack.currentLine_some line
  have own := hp.1.holds a
  have mem := own.current e current
  have standing : r.standing e.order e.line = some (some a, (r.arm a).lineStateAt e) := own.entries e mem
  have standing' (n m : Nat) : (r1.setState c a new).standing n m =
      if e.order = n ∧ e.line = m then some (some a, new.kind.lineState) else r.standing n m := by
    rw [Rack.standing_congr (Rack.setState_orders r1 c a new), lines]
    unfold Rack.modCurrentLine
    rw [current]
    dsimp only
    rw [Rack.modLine_standing r _ _ f number]
    split
    · rename_i same
      rw [← same.1, ← same.2, line, Option.map_some, state]
      rw [Rack.standing_some line] at standing
      have arm : l.arm = some a := congrArg Prod.fst (Option.some.inj standing)
      rw [arm]
    · rfl
  have queue : ((r1.setState c a new).arm a).queue = (r.arm a).queue := by rw [Rack.setState_queue, (arms a).queue]
  have current' : ((r1.setState c a new).arm a).current = some e := by rw [Rack.setState_current, (arms a).current, current]
  have replaced : Replaced r (r1.setState c a new) a (fun n m => e.order = n ∧ e.line = m) := by
    refine ⟨stay.trans (.of_orders (by simp) (by simp) (by simp)), fun n m out => by rw [standing', if_neg out], ?_, ?_, ?_, ?_⟩
    · rintro n m ⟨rfl, rfl⟩
      exact ⟨_, standing, (Arm.lineStateAt_placed _ e).notFinal, .inl rfl⟩
    · rintro n m p ⟨rfl, rfl⟩ - -
      exact ⟨e, queue ▸ mem, rfl, rfl⟩
    · intro b ne
      rw [Rack.setState_arm, if_neg (fun h => ne h.1.symm)]
      exact arms b
    · exact fun e he _ => queue ▸ he
  refine replaced.agree hp ⟨queue ▸ own.nodup, fun f hf => ?_, fun f hf => ?_⟩ ⟨?_, ?_⟩
  · rw [queue] at hf
    rw [standing', Arm.lineStateAt_eq, current', Rack.setState_state]
    split
    · rename_i same
      rw [own.entry_unique mem hf same.1 same.2, if_pos rfl]
    · rename_i differ
      have ne : e ≠ f := fun same => differ ⟨by rw [same], by rw [same]⟩
      rw [own.entries f hf, Arm.lineStateAt_eq, current]
      simp [ne]
  · rw [current'] at hf
    cases hf
    exact queue ▸ mem
  · rw [current', Rack.setState_state]
    simp [bears]
  · rw [Rack.setState_state]
    exact fun rests => absurd rests bears

/-! ### An arm that takes its next head -/

/-- With nothing but QUEUED lines in its queue an arm takes the next or goes to rest. -/
theorem Rack.takeHead_agrees {standing : Nat → Nat → Option (Option ArmId × LineState)} (r : Rack) (a : ArmId)
    (nodup : ((r.arm a).queue.map (fun e => (e.order, e.line))).Nodup)
    (entries : ∀ e ∈ (r.arm a).queue, standing e.order e.line = some (some a, .queued)) :
    ArmHolds standing a ((r.takeHead c a).arm a) ∧ ArmServes ((r.takeHead c a).arm a) := by
  have queue := Rack.takeHead_queue c r a
  have current := Rack.takeHead_current (c := c) r a
  have free := Rack.takeHead_state c r a
  have queued (e : QueueEntry) : ((r.takeHead c a).arm a).lineStateAt e = .queued := by
    rw [Arm.lineStateAt_eq]
    split
    · rcases free with h | h | h <;> rw [h] <;> rfl
    · rfl
  refine ⟨⟨queue ▸ nodup, fun e he => ?_, fun e he => ?_⟩, ?_⟩
  · rw [queue] at he
    rw [queued]
    exact entries e he
  · rw [current] at he
    exact queue ▸ Arm.head_mem he
  · cases head : (r.arm a).head with
    | none =>
      have empty : (r.arm a).queue = [] := by
        by_contra some
        have := Arm.head_isSome some
        simp [head] at this
      have rests : ((r.takeHead c a).arm a).state.kind = .resting := by
        have idle : r.takeHead c a = r.enterIdle c a := by
          unfold Rack.takeHead
          rw [head]
        rw [idle, Rack.enterIdle_state]
        split <;> rfl
      exact ⟨by simp [current, head, rests], fun _ => queue.trans empty⟩
    | some e =>
      have ready : ((r.takeHead c a).arm a).state = .ready := by
        unfold Rack.takeHead
        rw [head]
        simp
      exact ⟨by simp [current, head, ready, ArmState.kind], fun rests => by simp [ready, ArmState.kind] at rests⟩

theorem Arm.dropEntry_mem {x : Arm} {n m : Nat} {e : QueueEntry} :
    e ∈ (x.dropEntry n m).queue ↔ e ∈ x.queue ∧ ¬(n = e.order ∧ m = e.line) := by
  simp only [Arm.dropEntry, List.mem_filter, Bool.not_eq_true', Bool.and_eq_false_iff, decide_eq_false_iff_not, eq_comm (a := n),
    eq_comm (a := m)]
  tauto

theorem Arm.dropEntry_nodup {x : Arm} {n m : Nat} (h : (x.queue.map (fun e => (e.order, e.line))).Nodup) :
    ((x.dropEntry n m).queue.map (fun e => (e.order, e.line))).Nodup :=
  h.sublist (List.filter_sublist.map _)

/-! ### Lines that end -/

/-- A line that ends stands nowhere; every other stands where it stood. -/
theorem Rack.endLineRecord_standing {r : Rack} {n m : Nat} {l : Line} (line : r.line? n m = some l) (final : LineState)
    (cause : Option StopCause) (k j : Nat) :
    (r.endLineRecord n m final cause).standing k j = if n = k ∧ m = j then some (l.arm, final) else r.standing k j := by
  rw [Rack.standing_congr (Rack.endLineRecord_orders line final cause), Rack.modLine_standing r n m
    (fun x => x.finish final cause (r.strokesFor l)) (fun _ => rfl)]
  split
  · rename_i same
    rw [← same.1, ← same.2, line]
    rfl
  · rfl

/-- The key of one line. -/
abbrev isLine (n m : Nat) : Nat → Nat → Prop := fun k j => n = k ∧ m = j

theorem QueuesAgree.endPending {r : Rack} {n m : Nat} {l : Line} {cause : Option StopCause} (hp : QueuesAgree r)
    (line : r.line? n m = some l) (pending : l.state = .pending) : QueuesAgree (r.endLineRecord n m .cancelled cause) := by
  have standing := Rack.endLineRecord_standing line .cancelled cause
  have alike (b : ArmId) : ArmAlike (r.arm b) ((r.endLineRecord n m .cancelled cause).arm b) := .of_eq (r.endLineRecord_arm _ _ _ _ b)
  have notPlaced : ¬l.standing.2.isPlaced := by simp [Line.standing, pending, LineState.isPlaced]
  have replaced : Replaced r (r.endLineRecord n m .cancelled cause) 0 (isLine n m) := by
    refine ⟨.endLineRecord r n m _ _, fun k j out => by rw [standing, if_neg out], ?_, ?_, fun b _ => alike b,
      fun e he _ => (alike 0).queue ▸ he⟩
    · rintro k j ⟨rfl, rfl⟩
      exact ⟨_, Rack.standing_some line, by simp [Line.standing, pending, LineState.isFinal], .inr notPlaced⟩
    · rintro k j p ⟨rfl, rfl⟩ ended placed
      rw [standing, if_pos ⟨rfl, rfl⟩] at ended
      cases ended
      simp [LineState.isPlaced] at placed
  refine replaced.agree hp ((hp.1.holds 0).alike (alike 0) (fun e he => ?_)) ((alike 0).serves (hp.2 0))
  rw [standing, if_neg]
  rintro ⟨rfl, rfl⟩
  have entry := (hp.1.holds 0).entries e he
  rw [Rack.standing_some line, Option.some.injEq] at entry
  exact notPlaced (entry ▸ Arm.lineStateAt_placed _ e)

/-- A line that ends while it stands at an arm, its entry dropped from the queue. -/
theorem Replaced.ended {r r' : Rack} {n m : Nat} {l : Line} {a : ArmId} {final : LineState} {cause : Option StopCause}
    (line : r.line? n m = some l) (arm : l.arm = some a) (live : l.state.isFinal = false) (ended : final.isFinal = true)
    (stay : FacesStay (r.endLineRecord n m final cause) r')
    (orders : r'.orders = (r.endLineRecord n m final cause).orders) (others : ∀ b, b ≠ a → r'.arm b = r.arm b)
    (queue : (r'.arm a).queue = ((r.arm a).dropEntry n m).queue) : Replaced r r' a (isLine n m) := by
  have standing (k j : Nat) := (Rack.standing_congr orders k j).trans (Rack.endLineRecord_standing line final cause k j)
  refine ⟨(FacesStay.endLineRecord r n m final cause).trans stay, fun k j out => by rw [standing, if_neg out], ?_, ?_,
    fun b ne => .of_eq (others b ne), fun e he out => ?_⟩
  · rintro k j ⟨rfl, rfl⟩
    exact ⟨_, Rack.standing_some line, live, .inl arm⟩
  · rintro k j p ⟨rfl, rfl⟩ is placed
    rw [standing, if_pos ⟨rfl, rfl⟩] at is
    cases is
    rw [placed.notFinal] at ended
    cases ended
  · rw [queue]
    exact Arm.dropEntry_mem.mpr ⟨he, out⟩

theorem QueuesAgree.endQueued {r : Rack} {n m : Nat} {l : Line} {a : ArmId} {cause : Option StopCause} (hp : QueuesAgree r)
    (line : r.line? n m = some l) (queued : l.state = .queued) (arm : l.arm = some a) :
    QueuesAgree ((r.endLineRecord n m .cancelled cause).dropQueued c a n m) := by
  have own := hp.1.holds a
  have arm' := r.endLineRecord_arm n m .cancelled cause a
  have dropped : (((r.endLineRecord n m .cancelled cause).modArm a (fun x => x.dropEntry n m)).arm a) = (r.arm a).dropEntry n m := by
    rw [Rack.modArm_arm, if_pos rfl, arm']
  have standing (k j : Nat) : ((r.endLineRecord n m .cancelled cause).dropQueued c a n m).standing k j =
      if n = k ∧ m = j then some (some a, .cancelled) else r.standing k j := by
    rw [Rack.standing_congr (Rack.dropQueued_orders _ c a n m), Rack.endLineRecord_standing line, arm]
  have queue : (((r.endLineRecord n m .cancelled cause).dropQueued c a n m).arm a).queue = ((r.arm a).dropEntry n m).queue := by
    rcases Rack.dropQueued_cases (c := c) (r.endLineRecord n m .cancelled cause) a n m with ⟨-, -, drop⟩ | ⟨-, drop⟩ <;> rw [drop]
    · rw [Rack.takeHead_queue, dropped]
    · rw [dropped]
  have replaced : Replaced r ((r.endLineRecord n m .cancelled cause).dropQueued c a n m) a (isLine n m) := by
    refine .ended (final := .cancelled) (cause := cause) line arm (by rw [queued]; rfl) rfl
      (.of_orders (by simp) (by simp) (by simp)) (by simp) (fun b ne => ?_) queue
    rw [Rack.dropQueued_other _ a b n m ne, r.endLineRecord_arm]
  have others (e : QueueEntry) (he : e ∈ ((r.arm a).dropEntry n m).queue) :
      ((r.endLineRecord n m .cancelled cause).dropQueued c a n m).standing e.order e.line = some (some a, (r.arm a).lineStateAt e) := by
    obtain ⟨he, out⟩ := Arm.dropEntry_mem.mp he
    rw [standing, if_neg out]
    exact own.entries e he
  rcases Rack.dropQueued_cases (c := c) (r.endLineRecord n m .cancelled cause) a n m with ⟨ready, -, drop⟩ | ⟨stays, drop⟩
  · obtain ⟨holds, serves⟩ := Rack.takeHead_agrees (c := c)
      (standing := ((r.endLineRecord n m .cancelled cause).dropQueued c a n m).standing)
      ((r.endLineRecord n m .cancelled cause).modArm a (fun x => x.dropEntry n m)) a
      (by rw [dropped]; exact Arm.dropEntry_nodup own.nodup) (fun e he => by
        rw [dropped] at he
        rw [others e he, Arm.lineStateAt_eq]
        rw [arm'] at ready
        simp [ready, ArmState.kind, ArmKind.lineState])
    refine replaced.agree hp ?_ ?_
    · rw [drop] at holds ⊢
      exact holds
    · rw [drop]
      exact serves
  · have arm'' : ((r.endLineRecord n m .cancelled cause).dropQueued c a n m).arm a = (r.arm a).dropEntry n m := by rw [drop, dropped]
    refine replaced.agree hp ?_ ?_
    · rw [arm'']
      refine ⟨Arm.dropEntry_nodup own.nodup, others, fun e current => Arm.dropEntry_mem.mpr ⟨own.current e current, ?_⟩⟩
      rintro ⟨rfl, rfl⟩
      have entry := own.entries e (own.current e current)
      have current' : (r.arm a).current = some e := current
      rw [Rack.standing_some line, Option.some.injEq, Arm.lineStateAt_eq, if_pos current'] at entry
      have kind : l.state = (r.arm a).state.kind.lineState := congrArg Prod.snd entry
      have bears : (r.arm a).state.kind ≠ .resting := (hp.2 a).bears.mp (by rw [current']; simp)
      refine stays ⟨?_, e, by rw [arm', current'], rfl, rfl⟩
      rw [arm', ← ArmState.kind_ready]
      cases is : (r.arm a).state.kind <;> simp_all [ArmKind.lineState]
    · rw [arm'']
      exact ⟨(hp.2 a).bears, fun rests => by simp [Arm.dropEntry, (hp.2 a).rests rests]⟩

theorem QueuesAgree.endCurrent {r : Rack} {a : ArmId} {final : LineState} {cause : Option StopCause} (hp : QueuesAgree r)
    (ended : final.isFinal = true) : QueuesAgree (r.endCurrent c a final cause) := by
  cases current : (r.arm a).current with
  | none =>
    rw [Rack.endCurrent_none r current]
    exact hp
  | some e =>
    have own := hp.1.holds a
    have entry := own.entries e (own.current e current)
    obtain ⟨l, line, same⟩ := Option.map_eq_some_iff.mp entry
    have arm : l.arm = some a := congrArg Prod.fst same
    have state : l.state = (r.arm a).lineStateAt e := congrArg Prod.snd same
    rw [Rack.endCurrent_some r current]
    have given : (((r.endLineRecord e.order e.line final cause).giveUp a e).arm a) = (r.arm a).givenUp e := by
      rw [Rack.giveUp_arm, if_pos rfl, r.endLineRecord_arm]
    have orders : (((r.endLineRecord e.order e.line final cause).giveUp a e).takeHead c a).orders =
        (r.endLineRecord e.order e.line final cause).orders := by simp [Rack.giveUp]
    have replaced : Replaced r (((r.endLineRecord e.order e.line final cause).giveUp a e).takeHead c a) a (isLine e.order e.line) := by
      refine .ended (final := final) (cause := cause) line arm (by rw [state]; exact (Arm.lineStateAt_placed _ e).notFinal) ended
        (.of_orders orders (by simp [Rack.giveUp]) (by simp [Rack.giveUp])) orders (fun b ne => ?_) ?_
      · rw [Rack.takeHead_other _ _ _ _ ne, Rack.giveUp_arm, if_neg (Ne.symm ne), r.endLineRecord_arm]
      · rw [Rack.takeHead_queue, given]
        rfl
    obtain ⟨holds, serves⟩ := Rack.takeHead_agrees (c := c)
      (standing := (((r.endLineRecord e.order e.line final cause).giveUp a e).takeHead c a).standing)
      ((r.endLineRecord e.order e.line final cause).giveUp a e) a
      (by rw [given]; exact Arm.dropEntry_nodup own.nodup) (fun f hf => by
        rw [given] at hf
        obtain ⟨hf, out⟩ := Arm.dropEntry_mem.mp hf
        rw [replaced.out _ _ out, own.entries f hf, Arm.lineStateAt_eq, if_neg]
        intro same
        cases current.symm.trans same
        exact out ⟨rfl, rfl⟩)
    exact replaced.agree hp holds serves

end Sys2Proof.Machine
end

section
/-! PROOF. Queues in agreement with the order table (O56, first half, continued): restarts, orders that come and go, admission. -/

namespace Sys2Proof.Machine

variable {c : Conditions}

/-! ### Lines that return to PENDING (R98, R120) -/

theorem returnLines_standing (es : List QueueEntry) (r : Rack) (n m : Nat) :
    (returnLines es r).standing n m =
      if ∃ e ∈ es, e.order = n ∧ e.line = m then (r.standing n m).map (fun _ => (none, .pending)) else r.standing n m := by
  induction es generalizing r with
  | nil => simp [returnLines]
  | cons e rest ih =>
    unfold returnLines
    rw [ih, Rack.modLine_standing r e.order e.line Line.backToPending (fun _ => rfl)]
    by_cases first : e.order = n ∧ e.line = m
    · simp only [first, and_self, if_true, List.mem_cons, exists_eq_or_imp, true_or, Rack.standing, Option.map_map]
      split <;> simp [Function.comp_def, Line.standing, Line.backToPending]
    · simp [first]

/-- Lines of an arm's queue return to PENDING and their entries leave it. -/
theorem Replaced.returned {r r' : Rack} {a : ArmId} {es : List QueueEntry} (hp : QueuesAgree r) (inside : ∀ e ∈ es, e ∈ (r.arm a).queue)
    (orders : r'.orders = (returnLines es r).orders) (stay : FacesStay (returnLines es r) r') (others : ∀ b, b ≠ a → r'.arm b = r.arm b)
    (kept : ∀ e ∈ (r.arm a).queue, e ∉ es → e ∈ (r'.arm a).queue) :
    Replaced r r' a (fun n m => ∃ e ∈ es, e.order = n ∧ e.line = m) := by
  have standing (n m : Nat) := (Rack.standing_congr orders n m).trans (returnLines_standing es r n m)
  refine ⟨(FacesStay.returnLines es r).trans stay, fun n m out => by rw [standing, if_neg out], ?_, ?_, fun b ne => .of_eq (others b ne), ?_⟩
  · rintro n m ⟨e, he, rfl, rfl⟩
    exact ⟨_, (hp.1.holds a).entries e (inside e he), (Arm.lineStateAt_placed _ e).notFinal, .inl rfl⟩
  · rintro n m p is standing' placed
    rw [standing, if_pos is] at standing'
    obtain ⟨q, -, rfl⟩ := Option.map_eq_some_iff.mp standing'
    simp [LineState.isPlaced] at placed
  · intro e he out
    exact kept e he (fun mem => out ⟨e, mem, rfl, rfl⟩)

theorem Arm.isBehind_iff {x : Arm} {e : QueueEntry} : x.isBehind e = true ↔ x.current ≠ some e :=
  decide_eq_true_iff.trans ⟨Ne.symm, Ne.symm⟩

theorem QueuesAgree.returnBehind {r : Rack} {a : ArmId} (hp : QueuesAgree r) : QueuesAgree (r.returnBehind a) := by
  have own := hp.1.holds a
  have arm : (r.returnBehind a).arm a = { r.arm a with queue := (r.arm a).queue.filter (fun e => !((r.arm a).isBehind e)) } := by
    rw [Rack.returnBehind_arm, if_pos rfl]
  have queue (e : QueueEntry) : e ∈ ((r.returnBehind a).arm a).queue ↔ e ∈ (r.arm a).queue ∧ (r.arm a).current = some e := by
    rw [arm]
    simp only [List.mem_filter, Bool.not_eq_true', ← Bool.not_eq_true, Arm.isBehind_iff, not_not]
  have replaced : Replaced r (r.returnBehind a) a (fun n m => ∃ e ∈ (r.arm a).queue.filter (r.arm a).isBehind, e.order = n ∧ e.line = m) := by
    refine .returned hp (fun e he => (List.mem_filter.mp he).1) rfl (.of_orders rfl rfl rfl) (fun b ne => ?_) (fun e he out => ?_)
    · rw [Rack.returnBehind_arm, if_neg (Ne.symm ne)]
    · refine (queue e).mpr ⟨he, ?_⟩
      by_contra other
      exact out (List.mem_filter.mpr ⟨he, Arm.isBehind_iff.mpr other⟩)
  refine replaced.agree hp ⟨?_, fun e he => ?_, fun e current => ?_⟩ ⟨?_, ?_⟩
  · rw [arm]
    exact own.nodup.sublist (List.filter_sublist.map _)
  · obtain ⟨he, current⟩ := (queue e).mp he
    have same : ((r.returnBehind a).arm a).lineStateAt e = (r.arm a).lineStateAt e := by rw [arm]; rfl
    rw [replaced.out, own.entries e he, same]
    rintro ⟨f, hf, order, line⟩
    obtain ⟨hf, behind⟩ := List.mem_filter.mp hf
    rw [own.entry_unique hf he order line] at behind
    exact Arm.isBehind_iff.mp behind current
  · rw [arm] at current
    exact (queue e).mpr ⟨own.current e current, current⟩
  · rw [arm]
    exact (hp.2 a).bears
  · rw [arm]
    exact fun rests => by simp [(hp.2 a).rests rests]

theorem QueuesAgree.returnAll {r : Rack} {a : ArmId} (hp : QueuesAgree r) : QueuesAgree (r.returnAll c a) := by
  have empty : ((r.returnAll c a).arm a).queue = [] := by
    unfold Rack.returnAll
    rw [Rack.enterIdle_queue, Rack.modArm_arm, if_pos rfl]
  have current : ((r.returnAll c a).arm a).current = none := by
    unfold Rack.returnAll
    exact Rack.enterIdle_current _ a
  have rests : ((r.returnAll c a).arm a).state.kind = .resting := by
    unfold Rack.returnAll
    rw [Rack.enterIdle_state]
    split <;> rfl
  have replaced : Replaced r (r.returnAll c a) a (fun n m => ∃ e ∈ (r.arm a).queue, e.order = n ∧ e.line = m) := by
    refine .returned hp (fun e he => he) ?_ (.of_orders ?_ ?_ ?_) (fun b ne => Rack.returnAll_other r a b ne) (fun e he out => absurd he out)
    · simp [Rack.returnAll]
    · simp [Rack.returnAll]
    · simp [Rack.returnAll]
    · simp [Rack.returnAll]
  refine replaced.agree hp ⟨?_, ?_, ?_⟩ ⟨?_, ?_⟩
  · simp [empty]
  · simp [empty]
  · simp [current]
  · simp [current, rests]
  · exact fun _ => empty

/-! ### Orders that change their state -/

/-- An order changes beside its lines and its number; one that is finished then has only final lines. -/
structure OrderChanged (r r' : Rack) (o : Order) (f : Order → Order) : Prop where
  found : r.order? o.number = some o
  orders : r'.orders = r.orders.map (fun x => if x.number = o.number then f x else x)
  number : ∀ x, (f x).number = x.number
  lines : ∀ x, (f x).lines = x.lines
  finished : (f o).state = .complete ∨ (f o).state = .void → ∀ l ∈ o.lines, l.state.isFinal = true

theorem OrderChanged.order {r r' : Rack} {o : Order} {f : Order → Order} (h : OrderChanged r r' o f) (n : Nat) :
    r'.order? n = if o.number = n then (r.order? n).map f else r.order? n := by
  have same : r'.order? n = (r.modOrder o.number f).order? n := Rack.order_eq h.orders n
  rw [same, Rack.modOrder_order r o.number n f h.number]

theorem OrderChanged.line {r r' : Rack} {o : Order} {f : Order → Order} (h : OrderChanged r r' o f) (n m : Nat) :
    r'.line? n m = r.line? n m := by
  have same : r'.line? n m = (r.modOrder o.number f).line? n m := Rack.line_eq h.orders n m
  rw [same, Rack.modOrder_line r o.number n m f h.number h.lines]

theorem OrderChanged.standing {r r' : Rack} {o : Order} {f : Order → Order} (h : OrderChanged r r' o f) (n m : Nat) :
    r'.standing n m = r.standing n m := by
  simp [Rack.standing, h.line]

theorem OrderChanged.numbered {r r' : Rack} {o : Order} {f : Order → Order} (h : OrderChanged r r' o f) (hp : r.numbered) :
    r'.numbered := by
  refine ⟨?_, fun q hq => ?_⟩
  · rw [h.orders, map_number_modOrder _ _ f h.number]
    exact hp.orders
  · rw [h.orders] at hq
    rcases mem_modOrder.mp hq with ⟨x, hx, -, rfl⟩ | ⟨hq, -⟩
    · rw [h.lines]
      exact hp.lines x hx
    · exact hp.lines q hq

theorem OrderChanged.hold {r r' : Rack} {o : Order} {f : Order → Order} (h : OrderChanged r r' o f)
    (arms : ∀ b, ArmAlike (r.arm b) (r'.arm b)) (hp : QueuesHold r) : QueuesHold r' where
  numbered := h.numbered hp.numbered
  finished := fun n m q p order finished standing => by
    rw [h.standing] at standing
    rw [h.order] at order
    split at order
    · rename_i same
      subst same
      rw [h.found, Option.map_some] at order
      cases order
      obtain ⟨l, line, rfl⟩ := Option.map_eq_some_iff.mp standing
      rw [Rack.line_of_order h.found] at line
      exact h.finished finished l (Order.line_mem line)
    · exact hp.finished n m q p order finished standing
  placed := fun n m p standing placed => by
    rw [h.standing] at standing
    obtain ⟨a, e, he, is⟩ := hp.placed n m p standing placed
    exact ⟨a, e, (arms a).queue ▸ he, is⟩
  holds := fun a => (hp.holds a).alike (arms a) (fun e _ => h.standing _ _)

/-- The bays and permits that the release of an order's bay leaves do not depend on the units. -/
theorem Rack.releaseBayOf_congr {r s : Rack} (o : Order) (bays : s.bays = r.bays) (permits : s.permits = r.permits) :
    (s.releaseBayOf o).bays = (r.releaseBayOf o).bays ∧ (s.releaseBayOf o).permits = (r.releaseBayOf o).permits := by
  unfold Rack.releaseBayOf
  split
  · cases o.lastBay with
    | none => exact ⟨bays, permits⟩
    | some b => simp [Rack.releaseBay, Rack.modPermit, Rack.callBay, Rack.modPanel, Rack.modBay, bays, permits]
  · exact ⟨bays, permits⟩

/-- An order ends or returns to BOOKED, and its bay is released where it held one. -/
structure OrderEnded (r r' : Rack) (o : Order) (f : Order → Order) : Prop extends OrderChanged r r' o f where
  left : (f o).state ≠ .admitted
  bays : r'.bays = (r.releaseBayOf o).bays
  permits : r'.permits = (r.releaseBayOf o).permits

/-- What the tests of an order do to it. -/
theorem Rack.testOrder_cases (r : Rack) (n : Nat) : r.testOrder c n = r ∨ ∃ o f, OrderEnded r (r.testOrder c n) o f := by
  unfold Rack.testOrder
  cases found : r.order? n with
  | none => exact .inl rfl
  | some o =>
    dsimp only
    have found' : r.order? o.number = some o := Rack.order_number found ▸ found
    obtain ⟨bays, permits⟩ := Rack.releaseBayOf_congr (s := r.uncommitUnits o) o (Rack.uncommitUnits_bays r o) (Rack.uncommitUnits_permits r o)
    split
    · split
      · rename_i final
        have final' : ∀ l ∈ o.lines, l.state.isFinal = true := by simpa using final
        unfold Rack.completeOrder
        dsimp only
        split
        · generalize freeNote _ _ _ = note
          refine .inr ⟨o, fun x => { x with state := .complete, day := some c.day, note := some note },
            ⟨found', ?_, fun _ => rfl, fun _ => rfl, fun _ => final'⟩, by simp, bays, permits⟩
          simp [Rack.modOrder]
        · refine .inr ⟨o, fun x => { x with state := .void, day := some c.day },
            ⟨found', ?_, fun _ => rfl, fun _ => rfl, fun _ => final'⟩, by simp, bays, permits⟩
          simp [Rack.modOrder]
      · split
        · refine .inr ⟨o, fun x => { x with state := .booked }, ⟨found', ?_, fun _ => rfl, fun _ => rfl, by simp⟩, by simp, rfl, rfl⟩
          simp [Rack.returnToBooked, Rack.modOrder]
        · exact .inl rfl
    · exact .inl rfl

theorem QueuesAgree.testOrder {r : Rack} {n : Nat} (hp : QueuesAgree r) : QueuesAgree (r.testOrder c n) := by
  rcases r.testOrder_cases (c := c) n with same | ⟨o, f, ended⟩
  · rw [same]
    exact hp
  · have arms (b : ArmId) : ArmAlike (r.arm b) ((r.testOrder c n).arm b) := .of_eq (Rack.arm_eq (Rack.testOrder_arms r c n) b)
    exact ⟨ended.hold arms hp.1, fun a => (arms a).serves (hp.2 a)⟩

/-! ### Orders that come and go -/

/-- The lines of a queue are in the table: an order that is not in the table holds none of a queue's. -/
theorem QueuesHold.entry_old {r : Rack} (hp : QueuesHold r) {a : ArmId} {e : QueueEntry} (he : e ∈ (r.arm a).queue) {n : Nat}
    (fresh : r.order? n = none) : n ≠ e.order := by
  intro same
  obtain ⟨l, line, -⟩ := Option.map_eq_some_iff.mp ((hp.holds a).entries e he)
  obtain ⟨o, order, -⟩ := Rack.line_order line
  rw [← same, fresh] at order
  cases order

/-- A finished order holds none of a queue's lines. -/
theorem QueuesHold.entry_open {r : Rack} (hp : QueuesHold r) {a : ArmId} {e : QueueEntry} (he : e ∈ (r.arm a).queue) {o : Order}
    (order : r.order? o.number = some o) (ended : o.state = .complete ∨ o.state = .void) : o.number ≠ e.order := by
  intro same
  have final := hp.finished e.order e.line o _ (same ▸ order) ended ((hp.holds a).entries e he)
  rw [(Arm.lineStateAt_placed _ e).notFinal] at final
  cases final

theorem bookedLines_numbers (r : Rack) (k : Booking) :
    ((bookedLines c r k).map (fun l => l.number)).Sublist (k.lines.map (fun l => l.number)) := by
  unfold bookedLines
  induction k.lines with
  | nil => exact .slnil
  | cons l rest ih =>
    rw [List.filterMap_cons]
    cases c.recipe? l.recipe with
    | none => exact ih.cons _
    | some x => exact ih.cons_cons _

theorem bookedLines_pending {r : Rack} {k : Booking} {l : Line} (h : l ∈ bookedLines c r k) : l.state = .pending ∧ l.arm = none := by
  obtain ⟨b, -, made⟩ := List.mem_filterMap.mp h
  obtain ⟨x, -, rfl⟩ := Option.map_eq_some_iff.mp made
  exact ⟨rfl, rfl⟩

theorem Rack.book_order (r : Rack) (k : Booking) (n : Nat) :
    (r.book c k).order? n = (r.order? n).or (if k.order = n then some (bookedOrder c r k) else none) := by
  unfold Rack.order? Rack.book
  rw [List.find?_append]
  congr 1
  by_cases same : k.order = n <;> simp [bookedOrder, same]

/-- A line read after a booking: one that stood, or one of the new order's. -/
theorem Rack.book_line {r : Rack} {k : Booking} (fresh : r.order? k.order = none) (n m : Nat) :
    (r.book c k).line? n m = if k.order = n then (bookedOrder c r k).line? m else r.line? n m := by
  unfold Rack.line?
  rw [Rack.book_order]
  split
  · rename_i same
    subst same
    simp [fresh]
  · simp

theorem QueuesAgree.book {r : Rack} {k : Booking} (passed : bookRefusal c r k = none)
    (numbered : (k.lines.map (fun l => l.number)).Nodup) (hp : QueuesAgree r) : QueuesAgree (r.book c k) := by
  obtain ⟨fresh, -⟩ := bookRefusal_order passed
  have absent : ∀ o ∈ r.orders, o.number ≠ k.order := by simpa [Rack.order?] using fresh
  have pending (n m : Nat) (p : Option ArmId × LineState) (same : k.order = n) (standing : (r.book c k).standing n m = some p) :
      p = (none, .pending) := by
    obtain ⟨l, line, rfl⟩ := Option.map_eq_some_iff.mp standing
    rw [Rack.book_line fresh, if_pos same] at line
    obtain ⟨state, arm⟩ := bookedLines_pending (Order.line_mem line)
    simp [Line.standing, state, arm]
  have old (n m : Nat) (ne : k.order ≠ n) : (r.book c k).standing n m = r.standing n m := by
    unfold Rack.standing
    rw [Rack.book_line fresh, if_neg ne]
  refine ⟨⟨⟨?_, fun o ho => ?_⟩, fun n m o p order finished standing => ?_, fun n m p standing placed => ?_, fun a => ?_⟩, hp.2⟩
  · change ((r.orders ++ [bookedOrder c r k]).map (fun o => o.number)).Nodup
    rw [List.map_append]
    refine List.nodup_append.mpr ⟨hp.1.numbered.orders, by simp, ?_⟩
    intro n hn m hm same
    obtain ⟨o, ho, rfl⟩ := List.mem_map.mp hn
    simp only [List.map_cons, List.map_nil, List.mem_singleton] at hm
    exact absent o ho (same.trans hm)
  · rcases List.mem_append.mp ho with ho | ho
    · exact hp.1.numbered.lines o ho
    · rw [List.mem_singleton.mp ho]
      exact numbered.sublist (bookedLines_numbers r k)
  · by_cases same : k.order = n
    · subst same
      rw [Rack.book_order, fresh, Option.none_or, if_pos rfl] at order
      cases order
      rcases finished with h | h <;> cases h
    · rw [old n m same] at standing
      rw [Rack.book_order, if_neg same, Option.or_none] at order
      exact hp.1.finished n m o p order finished standing
  · by_cases same : k.order = n
    · rw [pending n m p same standing] at placed
      simp [LineState.isPlaced] at placed
    · rw [old n m same] at standing
      exact hp.1.placed n m p standing placed
  · exact (hp.1.holds a).alike (.of_eq rfl) (fun e he => old _ _ (hp.1.entry_old he fresh))

theorem Rack.retireOrder_order (r : Rack) (k n : Nat) : (r.retireOrder k).order? n = if k = n then none else r.order? n := by
  unfold Rack.order? Rack.retireOrder
  rw [List.find?_filter]
  split
  · rename_i same
    subst same
    simp
  · rename_i differ
    congr 1
    funext o
    by_cases is : o.number = n
    · simp [is, Ne.symm differ]
    · simp [is]

theorem QueuesAgree.retireOrder {r : Rack} {o : Order} (order : r.order? o.number = some o) (ended : o.state = .complete ∨ o.state = .void)
    (hp : QueuesAgree r) : QueuesAgree (r.retireOrder o.number) := by
  have standing (n m : Nat) : (r.retireOrder o.number).standing n m = if o.number = n then none else r.standing n m := by
    unfold Rack.standing Rack.line?
    rw [Rack.retireOrder_order]
    split <;> rfl
  refine ⟨⟨⟨hp.1.numbered.orders.sublist (List.filter_sublist.map _), fun q hq => hp.1.numbered.lines q (List.mem_filter.mp hq).1⟩,
    fun n m q p found finished is => ?_, fun n m p is placed => ?_, fun a => ?_⟩, hp.2⟩
  · rw [Rack.retireOrder_order] at found
    rw [standing] at is
    split at found
    · cases found
    · rename_i differ
      rw [if_neg differ] at is
      exact hp.1.finished n m q p found finished is
  · rw [standing] at is
    split at is
    · cases is
    · exact hp.1.placed n m p is placed
  · refine (hp.1.holds a).alike (.of_eq rfl) (fun e he => ?_)
    rw [standing, if_neg (hp.1.entry_open he order ended)]

/-! ### Admission (R88) -/

/-- A PENDING line has no entry in a queue. -/
theorem QueuesHold.pending_notIn {r : Rack} {n m : Nat} (hp : QueuesHold r) {p : Option ArmId} (pending : r.standing n m = some (p, .pending))
    {a : ArmId} {e : QueueEntry} (he : e ∈ (r.arm a).queue) : ¬(n = e.order ∧ m = e.line) := by
  rintro ⟨rfl, rfl⟩
  have entry := (hp.holds a).entries e he
  rw [pending, Option.some.injEq] at entry
  have state : LineState.pending = (r.arm a).lineStateAt e := congrArg Prod.snd entry
  have placed := Arm.lineStateAt_placed (r.arm a) e
  rw [← state] at placed
  simp [LineState.isPlaced] at placed

/-- A PENDING line joins the queue of an arm that bears no line. -/
theorem QueuesHold.queueLine {r : Rack} {n m : Nat} {a : ArmId} {addr : Nat} (hp : QueuesHold r) {p : Option ArmId}
    (pending : r.standing n m = some (p, .pending)) (idle : (r.arm a).current = none) :
    QueuesHold ((r.modLine n m (Line.queueAt a (r.arm a).config)).modArm a (fun x => x.joinQueue n m addr)) := by
  have own := hp.holds a
  have standing (k j : Nat) : ((r.modLine n m (Line.queueAt a (r.arm a).config)).modArm a (fun x => x.joinQueue n m addr)).standing k j =
      if n = k ∧ m = j then some (some a, .queued) else r.standing k j := by
    rw [Rack.standing_congr (Rack.modArm_orders _ _ _), Rack.modLine_standing r n m (Line.queueAt a (r.arm a).config) (fun _ => rfl)]
    split
    · rename_i same
      obtain ⟨rfl, rfl⟩ := same
      obtain ⟨l, line, -⟩ := Option.map_eq_some_iff.mp pending
      rw [line]
      rfl
    · rfl
  have arm : ((r.modLine n m (Line.queueAt a (r.arm a).config)).modArm a (fun x => x.joinQueue n m addr)).arm a =
      (r.arm a).joinQueue n m addr := by
    rw [Rack.modArm_arm, if_pos rfl]
    rfl
  have notIn (e : QueueEntry) (he : e ∈ (r.arm a).queue) := hp.pending_notIn pending he
  have queued (e : QueueEntry) : ((r.arm a).joinQueue n m addr).lineStateAt e = .queued := by
    rw [Arm.lineStateAt_eq, if_neg]
    exact fun h => by simp [Arm.joinQueue, idle] at h
  have replaced : Replaced r ((r.modLine n m (Line.queueAt a (r.arm a).config)).modArm a (fun x => x.joinQueue n m addr)) a (isLine n m) := by
    refine ⟨(FacesStay.modLine r n m (Line.queueAt a (r.arm a).config) (fun _ => rfl)).trans (.of_orders rfl rfl rfl),
      fun k j out => by rw [standing, if_neg out], ?_, ?_, fun b ne => .of_eq ?_, fun e he _ => ?_⟩
    · rintro k j ⟨rfl, rfl⟩
      exact ⟨_, pending, rfl, .inr (by simp [LineState.isPlaced])⟩
    · rintro k j q ⟨rfl, rfl⟩ - -
      rw [arm]
      exact ⟨_, List.mem_append_right _ (List.mem_singleton_self _), rfl, rfl⟩
    · rw [Rack.modArm_arm, if_neg (Ne.symm ne)]
      rfl
    · rw [arm]
      exact List.mem_append_left _ he
  refine replaced.hold hp ?_
  rw [arm]
  refine ⟨?_, fun e he => ?_, fun e current => by simp [Arm.joinQueue, idle] at current⟩
  · simp only [Arm.joinQueue, List.map_append, List.map_cons, List.map_nil]
    refine List.nodup_append.mpr ⟨own.nodup, by simp, fun x hx y hy same => ?_⟩
    obtain ⟨e, he, rfl⟩ := List.mem_map.mp hx
    rw [List.mem_singleton.mp hy, Prod.mk.injEq] at same
    exact notIn e he ⟨same.1.symm, same.2.symm⟩
  · rw [queued]
    rcases List.mem_append.mp he with he | he
    · rw [standing, if_neg (notIn e he), own.entries e he, Arm.lineStateAt_eq, idle]
      rfl
    · rw [List.mem_singleton.mp he, standing, if_pos ⟨rfl, rfl⟩]

/-- The PENDING lines of an assignment join the queues of arms that bear no line, one after the other. -/
theorem QueuesHold.queueLines_keep {n : Nat} {P : Rack → Prop}
    (one : ∀ (s : Rack) (m : Nat) (a : ArmId) (addr : Nat) (p : Option ArmId), QueuesHold s → s.standing n m = some (p, .pending) → P s →
      P ((s.modLine n m (Line.queueAt a (s.arm a).config)).modArm a (fun x => x.joinQueue n m addr)))
    (xs : List (Nat × ArmId)) {r : Rack} (hp : QueuesHold r) (numbers : (xs.map (fun x => x.1)).Nodup)
    (pending : ∀ x ∈ xs, ∃ p, r.standing n x.1 = some (p, .pending)) (idle : ∀ x ∈ xs, (r.arm x.2).current = none) (start : P r) :
    QueuesHold (queueLines n xs r) ∧ P (queueLines n xs r) := by
  induction xs generalizing r with
  | nil => exact ⟨hp, start⟩
  | cons x rest ih =>
    obtain ⟨fresh, tail⟩ := List.nodup_cons.mp numbers
    obtain ⟨p, standing⟩ := pending x (List.mem_cons_self ..)
    refine ih (hp.queueLine standing (idle x (List.mem_cons_self ..))) tail (fun y hy => ?_) (fun y hy => ?_) (one r x.1 x.2 _ p hp standing start)
    · obtain ⟨q, is⟩ := pending y (List.mem_cons_of_mem _ hy)
      refine ⟨q, ?_⟩
      rw [Rack.standing_congr (Rack.modArm_orders _ _ _), Rack.modLine_standing r n x.1 (Line.queueAt x.2 (r.arm x.2).config) (fun _ => rfl), if_neg, is]
      exact fun same => fresh (List.mem_map.mpr ⟨y, hy, same.2.symm⟩)
    · rw [Rack.modArm_arm]
      split
      · exact idle x (List.mem_cons_self ..)
      · exact idle y (List.mem_cons_of_mem _ hy)

theorem queueLines_other (n : Nat) (xs : List (Nat × ArmId)) (r : Rack) {a : ArmId} (h : a ∉ xs.map (fun x => x.2)) :
    (queueLines n xs r).arm a = r.arm a := by
  induction xs generalizing r with
  | nil => rfl
  | cons x rest ih =>
    obtain ⟨ne, notMem⟩ : a ≠ x.2 ∧ a ∉ rest.map (fun x => x.2) := by simpa using h
    unfold Machine.queueLines
    dsimp only
    rw [ih _ notMem, Rack.modArm_arm, if_neg (Ne.symm ne)]
    rfl

/-- An arm that bears no line takes its head; the others are as they were. -/
theorem QueuesHold.takeHead {r : Rack} {a : ArmId} (hp : QueuesHold r) (idle : (r.arm a).current = none) :
    QueuesHold (r.takeHead c a) ∧ ArmServes ((r.takeHead c a).arm a) := by
  have own := hp.holds a
  have standing (n m : Nat) : (r.takeHead c a).standing n m = r.standing n m := Rack.standing_congr (Rack.takeHead_orders r c a) n m
  obtain ⟨holds, serves⟩ := Rack.takeHead_agrees (c := c) (standing := (r.takeHead c a).standing) r a own.nodup (fun e he => by
    rw [standing, own.entries e he, Arm.lineStateAt_eq, idle]
    rfl)
  have replaced : Replaced r (r.takeHead c a) a (fun _ _ => False) :=
    ⟨.of_orders (by simp) (by simp) (by simp), fun n m _ => standing n m, fun _ _ h => h.elim, fun _ _ _ h => h.elim,
      fun b ne => .of_eq (Rack.takeHead_other c r a b ne), fun e he _ => (Rack.takeHead_queue c r a).symm ▸ he⟩
  exact ⟨replaced.hold hp holds, serves⟩

/-- Each arm of a bay that was given lines takes its head. -/
theorem QueuesHold.readyBoth {r : Rack} {b : BayId} {xs : List (Nat × ArmId)} (hp : QueuesHold r)
    (inBay : ∀ a ∈ xs.map (fun x => x.2), a = lowerArm b ∨ a = upperArm b)
    (idle : ∀ a ∈ xs.map (fun x => x.2), (r.arm a).current = none) (others : ∀ a, a ∉ xs.map (fun x => x.2) → ArmServes (r.arm a)) :
    QueuesAgree ((r.readyIfGiven c xs (lowerArm b)).readyIfGiven c xs (upperArm b)) := by
  have one (s : Rack) (a : ArmId) (hp : QueuesHold s) (idle : a ∈ xs.map (fun x => x.2) → (s.arm a).current = none)
      (serves : a ∉ xs.map (fun x => x.2) → ArmServes (s.arm a)) :
      QueuesHold (s.readyIfGiven c xs a) ∧ ArmServes ((s.readyIfGiven c xs a).arm a) := by
    rcases s.readyIfGiven_cases (c := c) xs a with ⟨given, same⟩ | ⟨given, same⟩ <;> rw [same]
    · exact hp.takeHead (idle given)
    · exact ⟨hp, serves given⟩
  obtain ⟨hp1, serves1⟩ := one r (lowerArm b) hp (idle _) (others _)
  have upper : (r.readyIfGiven c xs (lowerArm b)).arm (upperArm b) = r.arm (upperArm b) :=
    Rack.readyIfGiven_other r xs _ _ (Ne.symm (lowerArm_ne_upperArm b))
  obtain ⟨hp2, serves2⟩ := one (r.readyIfGiven c xs (lowerArm b)) (upperArm b) hp1 (upper ▸ idle _) (upper ▸ others _)
  refine ⟨hp2, fun a => ?_⟩
  by_cases isUpper : a = upperArm b
  · exact isUpper ▸ serves2
  · rw [Rack.readyIfGiven_other _ xs _ _ isUpper]
    by_cases isLower : a = lowerArm b
    · exact isLower ▸ serves1
    · rw [Rack.readyIfGiven_other _ xs _ _ isLower]
      exact others a (fun given => (inBay a given).elim isLower isUpper)

/-- The lines an assignment gives are PENDING lines of the order, each once. -/
theorem assignment_pending {r : Rack} {b : BayId} {o : Order} {xs : List (Nat × ArmId)} (assigned : assignment r b o = .ok xs) :
    xs.map (fun x => x.1) = o.pendingLines.map (fun l => l.number) := by
  have given := assignLines_given assigned
  clear assigned
  generalize o.pendingLines = ls at given
  induction given with
  | nil => rfl
  | cons first _ ih => rw [List.map_cons, List.map_cons, first.1, ih]

theorem assigned_standing {r : Rack} {b : BayId} {o : Order} {xs : List (Nat × ArmId)} (numbered : r.numbered) (mem : o ∈ r.orders)
    (assigned : assignment r b o = .ok xs) {x : Nat × ArmId} (hx : x ∈ xs) : ∃ q, r.standing o.number x.1 = some (q, .pending) := by
  have given : x.1 ∈ o.pendingLines.map (fun l => l.number) := assignment_pending assigned ▸ List.mem_map_of_mem hx
  obtain ⟨l, hl, same⟩ := List.mem_map.mp given
  obtain ⟨hl, state⟩ := List.mem_filter.mp hl
  refine ⟨l.arm, ?_⟩
  rw [← same, Rack.standing_some (Rack.line_of_mem numbered mem hl), Line.standing, of_decide_eq_true state]

/-- The order of an admission, once its lines are queued. -/
theorem admitted_changed {r : Rack} (numbered : r.numbered) {b : BayId} {p : Permit} {o : Order} (mem : o ∈ r.orders) (xs : List (Nat × ArmId)) :
    ∃ q, OrderChanged (queueLines o.number xs r) (r.admitted b p o xs) q
      (fun x => { x with state := .admitted, lastBay := some b, counted := true }) := by
  have found := r.order_of_mem numbered.orders mem
  obtain ⟨q, found', face⟩ : ∃ q, (queueLines o.number xs r).order? o.number = some q ∧ q.face = o.face := by
    have same := (FacesStay.queueLines o.number xs r).order o.number
    rw [found, Option.map_some] at same
    simpa [Option.map_eq_some_iff] using same
  have number : q.number = o.number := (congrArg Order.number face :)
  refine ⟨q, number ▸ found', ?_, fun _ => rfl, fun _ => rfl, by simp⟩
  rw [number]
  simp [Rack.admitted, Rack.modOrder]

/-- The arms of an assignment bear no line. -/
theorem QueuesAgree.assigned_idle {r : Rack} {b : BayId} {o : Order} {xs : List (Nat × ArmId)} (hp : QueuesAgree r)
    (assigned : assignment r b o = .ok xs) {a : ArmId} (given : a ∈ xs.map (fun x => x.2)) : (r.arm a).current = none := by
  have rests : (r.arm a).state.kind = .resting := by rw [(assignment_idle assigned given).2]; rfl
  by_contra some
  exact (hp.2 a).bears.mp some rests

/-- What is kept while the lines of an admission are queued. -/
theorem QueuesAgree.queueLines_keep {r : Rack} {b : BayId} {o : Order} {xs : List (Nat × ArmId)} {P : Rack → Prop} (hp : QueuesAgree r)
    (mem : o ∈ r.orders) (assigned : assignment r b o = .ok xs)
    (one : ∀ (s : Rack) (m : Nat) (a : ArmId) (addr : Nat) (p : Option ArmId), QueuesHold s → s.standing o.number m = some (p, .pending) → P s →
      P ((s.modLine o.number m (Line.queueAt a (s.arm a).config)).modArm a (fun x => x.joinQueue o.number m addr)))
    (start : P r) : QueuesHold (queueLines o.number xs r) ∧ P (queueLines o.number xs r) := by
  have nodup : (xs.map (fun x => x.1)).Nodup := by
    rw [assignment_pending assigned]
    exact (hp.1.numbered.lines o mem).sublist (List.filter_sublist.map _)
  exact QueuesHold.queueLines_keep one xs hp.1 nodup (fun x hx => assigned_standing hp.1.numbered mem assigned hx)
    (fun x hx => hp.assigned_idle assigned (List.mem_map_of_mem hx)) start

theorem QueuesAgree.admitOrder {r : Rack} {b : BayId} {p : Permit} {o : Order} {xs : List (Nat × ArmId)}
    (order : r.orderForCard b p.number = some o) (assigned : assignment r b o = .ok xs) (hp : QueuesAgree r) :
    QueuesAgree (r.admitOrder c b p o xs) := by
  obtain ⟨mem, -, -⟩ := Rack.orderForCard_some order
  obtain ⟨queued, -⟩ := hp.queueLines_keep (P := fun _ => True) mem assigned (fun _ _ _ _ _ _ _ _ => trivial) trivial
  obtain ⟨q, changed⟩ := admitted_changed hp.1.numbered (b := b) (p := p) mem xs
  have admitted : QueuesHold (r.admitted b p o xs) := changed.hold (fun a => .of_eq (r.admitted_arm b p o xs a)) queued
  rw [Rack.admitOrder_eq]
  refine admitted.readyBoth (fun a given => (assignment_idle assigned given).1) (fun a given => ?_) (fun a given => ?_)
  · rw [r.admitted_arm, queueLines_arm]
    exact hp.assigned_idle assigned given
  · rw [r.admitted_arm, queueLines_other o.number xs r given]
    exact hp.2 a

/-! ### Every atom -/

theorem Rack.goodStroke_standing (r : Rack) (a : ArmId) (n : SlotId) (k : SlotConfig) (i j : Nat) :
    (r.goodStroke a n k).standing i j = r.standing i j := by
  unfold Rack.goodStroke
  split
  · rename_i place d _ _
    refine (Rack.standing_congr rfl i j).trans (Rack.modCurrentLine_standing_same (r.endStroke a n) a (fun l =>
      { l with doses := l.doses.modify place (fun d =>
        { d with dispensed := satAdd owedMax d.dispensed k.stroke, remaining := d.remaining - k.stroke }) }) (fun _ => rfl) (fun _ => rfl) i j)
  · rfl

theorem Rack.amend_standing (r : Rack) (o : Order) (l : Line) (new : Nat) (i j : Nat) :
    (r.amend o l new).standing i j = r.standing i j := by
  unfold Rack.amend
  rw [Rack.modLine_standing_same _ _ _ _ (by exact fun _ => rfl) (by exact fun _ => rfl)]
  refine Rack.standing_congr ?_ i j
  rw [moveAdditives_tables]
  rfl

theorem Atom.queuesAgree {r r' : Rack} (h : Atom c r r') (hp : QueuesAgree r) : QueuesAgree r' := by
  have same (arms : r'.arms = r.arms) (standing : ∀ n m, r'.standing n m = r.standing n m) (stay : FacesStay r r') : QueuesAgree r' :=
    hp.alike stay standing (fun b => .of_eq (Rack.arm_eq arms b))
  cases h with
  | minor h => exact hp.alike (.minor h) h.standing (.minor h)
  | close a intent flow => exact (Arbitration.close r a intent flow).queuesAgree hp
  | toLowRun a low => exact hp.setState (by rw [low]; rfl)
  | leaveGrant a old stands asked => exact (Arbitration.leaveGrant r a old stands asked).queuesAgree hp
  | joinWaiting a low => exact (Arbitration.joinWaiting r a low).queuesAgree hp
  | rest a new rests still => exact hp.setState ((ArmState.kind_resting.mpr still).trans (ArmState.kind_resting.mpr rests).symm)
  | forget a rests =>
    have none : (r.arm a).current = none := by
      by_contra some
      exact (hp.2 a).bears.mp some (ArmState.kind_resting.mpr rests)
    refine hp.alike (FacesStay.of_orders (r := r) rfl rfl rfl) (fun n m => rfl) (fun b => ?_)
    rw [Rack.modArm_arm]
    split
    · rename_i is
      subst is
      exact ⟨rfl, by rw [none], rfl⟩
    · exact .of_eq rfl
  | begin r1 a l ready line permitted normal started =>
    have began : FacesStay r r1 := ((FacesStay.modCurrentLine r a (Line.firstStart c) (fun _ => rfl)).trans
      (.beginInjectors _ a l)).trans (.minor started)
    refine hp.restate (f := Line.firstStart c) (by simp [line]) (fun _ => rfl) (fun _ => rfl) began (fun n m => ?_) (fun b => ?_)
      (by simp [ArmState.kind])
    · rw [started.standing]
      rfl
    · exact (ArmAlike.of_eq (Rack.modCurrentLine_arm r a b _)).trans (.minor started b)
  | resumed r1 a l new suspended line started goes =>
    have kind : new.kind = .running := by rcases goes with rfl | ⟨rfl, -⟩ <;> rfl
    refine hp.restate (f := fun l => { l with state := .active }) (by simp [line]) (fun _ => rfl) (fun _ => by rw [kind]; rfl)
      ((FacesStay.modCurrentLine r a _ (by exact fun _ => rfl)).trans (.minor started)) started.standing (fun b => ?_) (by simp [kind])
    exact (ArmAlike.of_eq (Rack.modCurrentLine_arm r a b _)).trans (.minor started b)
  | suspend r1 a closing stopped =>
    have line : (r.currentLine a).isSome = true := by
      have bears := (hp.2 a).bears.mpr (by simp [closing, ArmState.kind])
      obtain ⟨e, current⟩ := Option.ne_none_iff_exists'.mp bears
      have entry := (hp.1.holds a).entries e ((hp.1.holds a).current e current)
      obtain ⟨l, line, -⟩ := Option.map_eq_some_iff.mp entry
      simp [Rack.currentLine, current, line]
    refine hp.restate (f := fun l => { l with state := .suspended }) line (fun _ => rfl) (fun _ => rfl)
      ((FacesStay.modCurrentLine r a _ (by exact fun _ => rfl)).trans (.minor stopped)) stopped.standing (fun b => ?_)
      (by simp [ArmState.kind])
    exact (ArmAlike.of_eq (Rack.modCurrentLine_arm r a b _)).trans (.minor stopped b)
  | endPending n m l cause line pending => exact hp.endPending line pending
  | endQueued n m l a cause line queued arm => exact hp.endQueued line queued arm
  | endCurrent a final cause bears ended => exact hp.endCurrent ended
  | testOrder n => exact hp.testOrder
  | returnBehind a => exact hp.returnBehind
  | returnAll a ready => exact hp.returnAll
  | startStroke a n k _ _ _ _ _ => exact same rfl (fun _ _ => rfl) (.of_orders rfl rfl rfl)
  | goodStroke a n k j d slot inFlight place serves =>
    exact same (by simp) (r.goodStroke_standing a n k)
      (.goodStroke r a n k)
  | strokeLost a n k _ _ => exact same rfl (fun _ _ => rfl) (.of_orders rfl rfl rfl)
  | dropStroke a n _ => exact same rfl (fun _ _ => rfl) (.of_orders rfl rfl rfl)
  | newPermit p _ _ => exact same rfl (fun _ _ => rfl) (.of_orders rfl rfl rfl)
  | retirePermit n _ => exact same rfl (fun _ _ => rfl) (.of_orders rfl rfl rfl)
  | newAccount x _ _ => exact same rfl (fun _ _ => rfl) (.of_orders rfl rfl rfl)
  | closeAccount x _ _ => exact same rfl (fun _ _ => rfl) (.of_orders rfl rfl rfl)
  | refill x n => exact same rfl (fun _ _ => rfl) (.of_orders rfl rfl rfl)
  | book k passed numbered => exact hp.book passed numbered
  | amend o l new order line passed =>
    exact same (by simp [Rack.amend]) (r.amend_standing o l new)
      (.amend r o l new)
  | retireOrder o order ended => exact hp.retireOrder order ended
  | admitOrder b p o xs free order permit passed assigned => exact hp.admitOrder order assigned
  | configure a k _ _ =>
    refine hp.alike (FacesStay.of_orders (r := r) rfl rfl rfl) (fun _ _ => rfl) (fun b => ?_)
    unfold Rack.configure
    rw [Rack.modInjectors_arm_of, Rack.modArm_arm]
    split
    · rename_i is
      subst is
      exact ⟨rfl, rfl, rfl⟩
    · exact .of_eq rfl
  | setCapacity h cap => exact (Arbitration.setCapacity r h cap).queuesAgree hp

end Sys2Proof.Machine
end

section
/-! PROOF. Bays in agreement with the ADMITTED orders and their permits (O56, second half), and O56 itself. -/

namespace Sys2Proof.Machine

variable {c : Conditions}

/-! ### What the agreement reads -/

/-- The state of an order, its permit and the bay of its last admission. -/
def Order.admission (o : Order) : OrderState × Nat × Option BayId := (o.state, o.permit, o.lastBay)

def Rack.admission (r : Rack) (n : Nat) : Option (OrderState × Nat × Option BayId) := (r.order? n).map Order.admission

/-- What a bay holds. -/
def Rack.held (r : Rack) (b : BayId) : Option Admission := (r.bay b).admitted

/-- A permit's number and its admitted bay. -/
def Permit.pass (p : Permit) : Nat × Option BayId := (p.number, p.admittedBay)

def Rack.passes (r : Rack) : List (Nat × Option BayId) := r.permits.map Permit.pass

/-- The agreement of bays, orders and permits. -/
structure BaysAgree (find : Nat → Option (OrderState × Nat × Option BayId)) (held : BayId → Option Admission)
    (passes : List (Nat × Option BayId)) : Prop where
  bay : ∀ b x, held b = some x → find x.order = some (.admitted, x.permit, some b) ∧ ∃ p ∈ passes, p.1 = x.permit
  order : ∀ n p l, find n = some (.admitted, p, l) → ∃ b, held b = some { permit := p, order := n }
  permit : ∀ p ∈ passes, ∀ b, p.2 = some b ↔ (held b).map (fun x => x.permit) = some p.1

theorem Rack.baysMatch_iff {r : Rack} (numbers : (r.orders.map (fun o => o.number)).Nodup) :
    r.baysMatch ↔ BaysAgree r.admission r.held r.passes := by
  constructor
  · rintro ⟨bays, orders, permits⟩
    refine ⟨fun b x holds => ?_, fun n p l found => ?_, fun p hp b => ?_⟩
    · obtain ⟨order, p, hp, number⟩ := bays b x holds
      exact ⟨order, p.pass, List.mem_map_of_mem hp, number⟩
    · obtain ⟨o, order, same⟩ := Option.map_eq_some_iff.mp found
      obtain ⟨b, holds⟩ := orders o (Rack.order_mem order) (congrArg Prod.fst same)
      have permit : o.permit = p := congrArg (fun x => x.2.1) same
      exact ⟨b, by rw [Rack.held, holds, permit, Rack.order_number order]⟩
    · obtain ⟨q, hq, rfl⟩ := List.mem_map.mp hp
      exact permits q hq b
  · rintro ⟨bays, orders, permits⟩
    refine ⟨fun b x holds => ?_, fun o ho admitted => ?_, fun p hp b => permits p.pass (List.mem_map_of_mem hp) b⟩
    · obtain ⟨order, p, hp, number⟩ := bays b x holds
      obtain ⟨q, hq, rfl⟩ := List.mem_map.mp hp
      exact ⟨order, q, hq, number⟩
    · refine orders o.number o.permit o.lastBay ?_
      rw [Rack.admission, r.order_of_mem numbers ho, Option.map_some, Order.admission, admitted]

/-! ### What changes it -/

section
variable {find find' : Nat → Option (OrderState × Nat × Option BayId)} {held held' : BayId → Option Admission}
  {passes : List (Nat × Option BayId)}

/-- An ADMITTED order stands at the bay of its last admission. -/
theorem BaysAgree.admitted (hp : BaysAgree find held passes) {n p : Nat} {l : Option BayId} (admitted : find n = some (.admitted, p, l)) :
    ∃ b, l = some b ∧ held b = some { permit := p, order := n } := by
  obtain ⟨b, holds⟩ := hp.order n p l admitted
  obtain ⟨found, -⟩ := hp.bay b _ holds
  rw [admitted] at found
  cases found
  exact ⟨b, rfl, holds⟩

/-- An order that is not ADMITTED changes, comes or goes, and is not ADMITTED then. -/
theorem BaysAgree.aside (hp : BaysAgree find held passes) {n : Nat} (before : ∀ p l, find n ≠ some (.admitted, p, l))
    (after : ∀ p l, find' n ≠ some (.admitted, p, l)) (others : ∀ m, m ≠ n → find' m = find m) : BaysAgree find' held passes where
  bay := fun b x holds => by
    obtain ⟨found, permit⟩ := hp.bay b x holds
    rw [others x.order (fun same => before _ _ (same ▸ found))]
    exact ⟨found, permit⟩
  order := fun m p l found => by
    by_cases same : m = n
    · exact absurd (same ▸ found) (after p l)
    · exact hp.order m p l (others m same ▸ found)
  permit := hp.permit

/-- An ADMITTED order leaves its bay. -/
theorem BaysAgree.released (hp : BaysAgree find held passes) {n p : Nat} {b : BayId} (admitted : find n = some (.admitted, p, some b))
    (after : ∀ p l, find' n ≠ some (.admitted, p, l)) (others : ∀ m, m ≠ n → find' m = find m)
    (bays : ∀ d, held' d = if b = d then none else held d) :
    BaysAgree find' held' (passes.map (fun q => if q.1 = p then (q.1, none) else q)) := by
  obtain ⟨b', same, holds⟩ := hp.admitted admitted
  cases same
  refine ⟨fun d x holds' => ?_, fun m q l found => ?_, fun q hq d => ?_⟩
  · rw [bays] at holds'
    split at holds'
    · cases holds'
    · rename_i differ
      obtain ⟨found, q, hq, permit⟩ := hp.bay d x holds'
      rw [others x.order (fun same => differ ?_)]
      · refine ⟨found, if q.1 = p then (q.1, none) else q, List.mem_map_of_mem hq, ?_⟩
        split <;> exact permit
      · rw [same, admitted] at found
        cases found
        rfl
  · have differ : m ≠ n := fun same => after q l (same ▸ found)
    obtain ⟨d, holds'⟩ := hp.order m q l (others m differ ▸ found)
    refine ⟨d, ?_⟩
    rw [bays, if_neg (fun same => ?_), holds']
    subst same
    rw [holds] at holds'
    cases holds'
    exact differ rfl
  · obtain ⟨k, hk, rfl⟩ := List.mem_map.mp hq
    have old := hp.permit k hk
    rw [bays]
    by_cases named : k.1 = p
    · rw [if_pos named]
      have here : k.2 = some b := (old b).mpr (by rw [holds, named]; rfl)
      split
      · simp
      · rename_i differ
        rw [← old d, here]
        simp [differ]
    · rw [if_neg named, old d]
      split
      · rename_i same
        subst same
        simp [holds, Ne.symm named]
      · exact Iff.rfl

/-- An order takes a free bay for a permit that holds none. -/
theorem BaysAgree.taken (hp : BaysAgree find held passes) {n p : Nat} {b : BayId} (before : ∀ p l, find n ≠ some (.admitted, p, l))
    (free : held b = none) (pass : (p, none) ∈ passes) (after : find' n = some (.admitted, p, some b))
    (others : ∀ m, m ≠ n → find' m = find m) (bays : ∀ d, held' d = if b = d then some { permit := p, order := n } else held d) :
    BaysAgree find' held' (passes.map (fun q => if q.1 = p then (q.1, some b) else q)) := by
  have notHeld (d : BayId) : (held d).map (fun x => x.permit) ≠ some p := by
    rw [Ne, ← hp.permit _ pass d]
    simp
  refine ⟨fun d x holds => ?_, fun m q l found => ?_, fun q hq d => ?_⟩
  · rw [bays] at holds
    split at holds
    · rename_i same
      subst same
      cases holds
      exact ⟨after, (p, some b), List.mem_map.mpr ⟨_, pass, if_pos rfl⟩, rfl⟩
    · obtain ⟨found, q, hq, permit⟩ := hp.bay d x holds
      rw [others x.order (fun same => before _ _ (same ▸ found))]
      refine ⟨found, if q.1 = p then (q.1, some b) else q, List.mem_map_of_mem hq, ?_⟩
      split <;> exact permit
  · by_cases same : m = n
    · rw [same, after] at found
      cases found
      exact ⟨b, by rw [bays, if_pos rfl, same]⟩
    · obtain ⟨d, holds⟩ := hp.order m q l (others m same ▸ found)
      refine ⟨d, ?_⟩
      rw [bays, if_neg (fun is => ?_), holds]
      rw [← is, free] at holds
      cases holds
  · obtain ⟨k, hk, rfl⟩ := List.mem_map.mp hq
    have old := hp.permit k hk
    rw [bays]
    by_cases named : k.1 = p
    · rw [if_pos named]
      split
      · rename_i same
        simp [same, named]
      · rename_i differ
        rw [named]
        simp [differ, notHeld d]
    · rw [if_neg named, old d]
      split
      · rename_i same
        subst same
        simp [free, Ne.symm named]
      · exact Iff.rfl

theorem BaysAgree.newPass (hp : BaysAgree find held passes) {p : Nat} (absent : ∀ q ∈ passes, q.1 ≠ p) :
    BaysAgree find held (passes ++ [(p, none)]) where
  bay := fun b x holds => by
    obtain ⟨found, q, hq, permit⟩ := hp.bay b x holds
    exact ⟨found, q, List.mem_append_left _ hq, permit⟩
  order := hp.order
  permit := fun q hq b => by
    rcases List.mem_append.mp hq with hq | hq
    · exact hp.permit q hq b
    · rw [List.mem_singleton.mp hq]
      refine ⟨fun h => (Option.some_ne_none b h.symm).elim, fun h => ?_⟩
      obtain ⟨x, holds, permit⟩ := Option.map_eq_some_iff.mp h
      obtain ⟨-, k, hk, same⟩ := hp.bay b x holds
      exact absurd (same.trans permit) (absent k hk)

theorem BaysAgree.dropPass (hp : BaysAgree find held passes) {n : Nat} (unnamed : ∀ m s p l, find m = some (s, p, l) → p ≠ n) :
    BaysAgree find held (passes.filter (fun q => decide (q.1 ≠ n))) where
  bay := fun b x holds => by
    obtain ⟨found, q, hq, permit⟩ := hp.bay b x holds
    refine ⟨found, q, List.mem_filter.mpr ⟨hq, decide_eq_true ?_⟩, permit⟩
    rw [permit]
    exact unnamed _ _ _ _ found
  order := hp.order
  permit := fun q hq => hp.permit q (List.mem_filter.mp hq).1
end

/-! ### What every atom does to it -/

/-- Bays, orders beside their lines, and permits' admitted bays are as they were. -/
structure AdmissionsStay (r r' : Rack) : Prop where
  stay : FacesStay r r'
  bays : ∀ b, r'.held b = r.held b
  passes : r'.passes = r.passes

theorem AdmissionsStay.of_eq {r r' : Rack} (stay : FacesStay r r') (bays : r'.bays = r.bays) (permits : r'.permits = r.permits) :
    AdmissionsStay r r' :=
  ⟨stay, fun b => by unfold Rack.held Rack.bay; rw [bays], by rw [Rack.passes, Rack.passes, permits]⟩

theorem AdmissionsStay.minor {r r' : Rack} (h : Minor r r') : AdmissionsStay r r' where
  stay := .minor h
  bays := fun b => by
    have same : (r'.erase.bay b).admitted = (r.erase.bay b).admitted := by rw [h]
    simpa [Rack.erase, Rack.bay, Bay.erase, Rack.held] using same
  passes := by
    have same : r'.permits.map Permit.erase = r.permits.map Permit.erase := congrArg Rack.permits h
    have pass : Permit.pass = Permit.pass ∘ Permit.erase := rfl
    unfold Rack.passes
    rw [pass, ← List.map_map, ← List.map_map, same]

theorem AdmissionsStay.trans {r s t : Rack} (h : AdmissionsStay r s) (g : AdmissionsStay s t) : AdmissionsStay r t :=
  ⟨h.stay.trans g.stay, fun b => (g.bays b).trans (h.bays b), g.passes.trans h.passes⟩

theorem FacesStay.admission {r r' : Rack} (stay : FacesStay r r') (n : Nat) : r'.admission n = r.admission n := by
  have face : Order.admission = Order.admission ∘ Order.face := rfl
  unfold Rack.admission
  rw [face, ← Option.map_map, ← Option.map_map, stay.order]

theorem AdmissionsStay.agree {r r' : Rack} (stay : AdmissionsStay r r') (hp : BaysAgree r.admission r.held r.passes) :
    BaysAgree r'.admission r'.held r'.passes := by
  rw [funext stay.stay.admission, funext stay.bays, stay.passes]
  exact hp

/-- The atoms that change what a bay, a permit or an order beside its lines holds. -/
inductive BayAct (c : Conditions) : Rack → Rack → Prop
  | order {r r' : Rack} (act : OrderAct c r r') : BayAct c r r'
  | newPermit (r : Rack) (p : Permit) (absent : r.permit? p.number = none) (free : p.admittedBay = none) :
      BayAct c r { r with permits := r.permits ++ [p] }
  | retirePermit (r : Rack) (n : Nat) (unnamed : ∀ o ∈ r.orders, o.permit ≠ n) :
      BayAct c r { r with permits := r.permits.filter (fun x => decide (x.number ≠ n)) }

theorem Atom.admissions {r r' : Rack} (h : Atom c r r') : AdmissionsStay r r' ∨ BayAct c r r' := by
  rcases h.faces with stay | act
  swap
  · exact .inr (.order act)
  cases h with
  | minor h => exact .inl (.minor h)
  | newPermit p absent free => exact .inr (.newPermit r p absent free)
  | retirePermit n unnamed => exact .inr (.retirePermit r n unnamed)
  | begin r1 a l _ _ _ _ started =>
    have began : AdmissionsStay r ((r.modCurrentLine a (Line.firstStart c)).beginInjectors a l) :=
      .of_eq ((FacesStay.modCurrentLine r a (Line.firstStart c) (fun _ => rfl)).trans (.beginInjectors _ a l))
        (Rack.modCurrentLine_bays r a _) (Rack.modCurrentLine_permits r a _)
    have set : AdmissionsStay r1 (r1.setState c a .lowStart) := .of_eq (.of_orders (by simp) (by simp) (by simp)) (by simp) (by simp)
    exact .inl ((began.trans (.minor started)).trans set)
  | resumed r1 a l new _ _ started _ =>
    have active : AdmissionsStay r (r.modCurrentLine a (fun l => { l with state := .active })) :=
      .of_eq (.modCurrentLine r a _ (by exact fun _ => rfl)) (by simp) (by simp)
    have set : AdmissionsStay r1 (r1.setState c a new) := .of_eq (.of_orders (by simp) (by simp) (by simp)) (by simp) (by simp)
    exact .inl ((active.trans (.minor started)).trans set)
  | suspend r1 a _ stopped =>
    have suspended : AdmissionsStay r (r.modCurrentLine a (fun l => { l with state := .suspended })) :=
      .of_eq (.modCurrentLine r a _ (by exact fun _ => rfl)) (by simp) (by simp)
    have set : AdmissionsStay r1 (r1.setState c a .suspended) := .of_eq (.of_orders (by simp) (by simp) (by simp)) (by simp) (by simp)
    exact .inl ((suspended.trans (.minor stopped)).trans set)
  | returnBehind a =>
    have tables := returnLines_tables r ((r.arm a).queue.filter (r.arm a).isBehind)
    refine .inl (.of_eq stay ?_ ?_)
    · exact (congrArg Rack.bays tables :)
    · exact (congrArg Rack.permits tables :)
  | returnAll a ready =>
    have tables := returnLines_tables r (r.arm a).queue
    refine .inl (.of_eq stay ?_ ?_)
    · simp only [Rack.returnAll, Rack.enterIdle_bays, Rack.modArm_bays]
      exact (congrArg Rack.bays tables :)
    · simp only [Rack.returnAll, Rack.enterIdle_permits, Rack.modArm_permits]
      exact (congrArg Rack.permits tables :)
  | amend o l new _ _ _ =>
    have tables := moveAdditives_tables r new l.doses
    refine .inl (.of_eq stay ?_ ?_)
    · exact (congrArg Rack.bays tables :)
    · exact (congrArg Rack.permits tables :)
  | setCapacity h cap =>
    refine .inl (.of_eq stay ?_ ?_)
    · unfold Machine.setCapacity
      dsimp only
      split <;> simp
    · unfold Machine.setCapacity
      dsimp only
      split <;> simp
  | testOrder n => exact .inr (.order (.testOrder r n))
  | book k passed numbered => exact .inr (.order (.book r k passed))
  | retireOrder o order ended => exact .inr (.order (.retireOrder r o order ended))
  | admitOrder b p o xs free order permit passed assigned => exact .inr (.order (.admitOrder r b p o xs free order permit passed assigned))
  | configure a k _ _ => exact .inl (.of_eq stay rfl rfl)
  | startStroke a n k _ _ _ _ _ => exact .inl (.of_eq stay rfl rfl)
  | strokeLost a n k _ _ => exact .inl (.of_eq stay rfl rfl)
  | dropStroke a n _ => exact .inl (.of_eq stay rfl rfl)
  | newAccount x _ _ => exact .inl (.of_eq stay rfl rfl)
  | closeAccount x _ _ => exact .inl (.of_eq stay rfl rfl)
  | refill x n => exact .inl (.of_eq stay rfl rfl)
  | forget a rests => exact .inl (.of_eq stay rfl rfl)
  | _ => exact .inl (.of_eq stay (by simp) (by simp))

/-! ### The acts -/

theorem Rack.releaseBay_held (r : Rack) (b : BayId) (p : Nat) (d : BayId) :
    (r.releaseBay b p).held d = if b = d then none else r.held d := by
  unfold Rack.held Rack.releaseBay
  simp only [Rack.modPermit_bay_of, Rack.callBay_bay_of, Rack.modBay_bay]
  split <;> rfl

theorem Rack.modPermit_passes (r : Rack) (n : Nat) (f : Permit → Permit) (bay : Option BayId) (number : ∀ x, (f x).number = x.number)
    (admitted : ∀ x, (f x).admittedBay = bay) : (r.modPermit n f).passes = r.passes.map (fun q => if q.1 = n then (q.1, bay) else q) := by
  simp only [Rack.passes, Rack.modPermit, List.map_map]
  refine List.map_congr_left (fun q _ => ?_)
  by_cases same : q.number = n <;> simp [Permit.pass, same, number, admitted]

theorem Rack.releaseBay_passes (r : Rack) (b : BayId) (p : Nat) :
    (r.releaseBay b p).passes = r.passes.map (fun q => if q.1 = p then (q.1, none) else q) :=
  Rack.modPermit_passes _ p (fun x => { x with admittedBay := none }) none (fun _ => rfl) (fun _ => rfl)

/-- An order that is changed beside its lines. -/
theorem OrderChanged.admission {r r' : Rack} {o : Order} {f : Order → Order} (h : OrderChanged r r' o f) (n : Nat) :
    r'.admission n = if o.number = n then some (f o).admission else r.admission n := by
  unfold Rack.admission
  rw [h.order]
  split
  · rename_i same
    subst same
    rw [h.found]
    rfl
  · rfl

theorem BaysAgree.ended {r r' : Rack} {o : Order} {f : Order → Order} (hp : BaysAgree r.admission r.held r.passes)
    (ended : OrderEnded r r' o f) : BaysAgree r'.admission r'.held r'.passes := by
  have found : r.admission o.number = some o.admission := by rw [Rack.admission, ended.found]; rfl
  have notAdmitted (p : Nat) (l : Option BayId) : r'.admission o.number ≠ some (.admitted, p, l) := by
    rw [ended.admission, if_pos rfl]
    exact fun same => ended.left (congrArg Prod.fst (Option.some.inj same))
  have others (m : Nat) (ne : m ≠ o.number) : r'.admission m = r.admission m := by
    rw [ended.admission, if_neg (Ne.symm ne)]
  have held (d : BayId) : r'.held d = (r.releaseBayOf o).held d := by
    unfold Rack.held Rack.bay
    rw [ended.bays]
  have passes : r'.passes = (r.releaseBayOf o).passes := by rw [Rack.passes, ended.permits]; rfl
  rw [funext held, passes]
  unfold Rack.releaseBayOf
  split
  · rename_i state
    have admitted : r.admission o.number = some (.admitted, o.permit, o.lastBay) := by rw [found, Order.admission, state]
    obtain ⟨b, last, -⟩ := hp.admitted admitted
    rw [last] at admitted ⊢
    dsimp only
    rw [Rack.releaseBay_passes]
    exact hp.released admitted notAdmitted others (r.releaseBay_held b o.permit)
  · rename_i state
    refine hp.aside (fun p l same => state ?_) notAdmitted others
    rw [found] at same
    exact congrArg Prod.fst (Option.some.inj same)

theorem BaysAgree.booked {r : Rack} {k : Booking} (passed : bookRefusal c r k = none) (hp : BaysAgree r.admission r.held r.passes) :
    BaysAgree (r.book c k).admission (r.book c k).held (r.book c k).passes := by
  obtain ⟨fresh, -⟩ := bookRefusal_order passed
  have none : r.admission k.order = none := by simp [Rack.admission, fresh]
  refine hp.aside (n := k.order) (by simp [none]) (fun p l same => ?_) (fun m ne => ?_)
  · rw [Rack.admission, Rack.book_order, fresh, Option.none_or, if_pos rfl] at same
    cases congrArg Prod.fst (Option.some.inj same)
  · rw [Rack.admission, Rack.book_order, if_neg (Ne.symm ne), Option.or_none]
    rfl

theorem BaysAgree.retired {r : Rack} {o : Order} (order : r.order? o.number = some o) (ended : o.state = .complete ∨ o.state = .void)
    (hp : BaysAgree r.admission r.held r.passes) :
    BaysAgree (r.retireOrder o.number).admission (r.retireOrder o.number).held (r.retireOrder o.number).passes := by
  refine hp.aside (n := o.number) (fun p l same => ?_) (fun p l same => ?_) (fun m ne => ?_)
  · rw [Rack.admission, order, Option.map_some] at same
    have state : o.state = .admitted := congrArg Prod.fst (Option.some.inj same)
    rcases ended with is | is <;> cases state.symm.trans is
  · rw [Rack.admission, Rack.retireOrder_order, if_pos rfl] at same
    cases same
  · rw [Rack.admission, Rack.retireOrder_order, if_neg (Ne.symm ne)]
    rfl

/-- A card that passes its checks is for a permit that is admitted at no bay (R86, check 3). -/
theorem cardRefusal_notAdmitted {r : Rack} {p : Permit} {o : Order} (passed : cardRefusal c r p o = none) : p.admittedBay = none := by
  unfold cardRefusal at passed
  by_contra some
  simp only [if_pos some] at passed
  split_ifs at passed

theorem BaysAgree.admittedOrder {r : Rack} {b : BayId} {p : Permit} {o : Order} {xs : List (Nat × ArmId)}
    (numbers : (r.orders.map (fun o => o.number)).Nodup) (free : (r.bay b).admitted = none)
    (order : r.orderForCard b p.number = some o) (permit : r.permit? p.number = some p) (passed : cardRefusal c r p o = none)
    (hp : BaysAgree r.admission r.held r.passes) :
    BaysAgree (r.admitOrder c b p o xs).admission (r.admitOrder c b p o xs).held (r.admitOrder c b p o xs).passes := by
  obtain ⟨mem, booked, permitOf⟩ := Rack.orderForCard_some order
  have before : r.admission o.number = some (.booked, o.permit, o.lastBay) := by
    rw [Rack.admission, r.order_of_mem numbers mem, Option.map_some, Order.admission, booked]
  have ready (s : Rack) (a : ArmId) : (s.readyIfGiven c xs a).bays = s.bays ∧ (s.readyIfGiven c xs a).permits = s.permits := by
    rcases s.readyIfGiven_cases (c := c) xs a with ⟨-, same⟩ | ⟨-, same⟩ <;> rw [same] <;> simp
  have bays : (r.admitOrder c b p o xs).bays = (r.admitted b p o xs).bays := by
    rw [Rack.admitOrder_eq, (ready _ _).1, (ready _ _).1]
  have permits : (r.admitOrder c b p o xs).permits = (r.admitted b p o xs).permits := by
    rw [Rack.admitOrder_eq, (ready _ _).2, (ready _ _).2]
  have stay := FacesStay.queueLines o.number xs r
  have admission (m : Nat) : (r.admitOrder c b p o xs).admission m =
      if o.number = m then some (.admitted, o.permit, some b) else r.admission m := by
    have same := (r.admitOrder_orders (c := c) b p o xs).1
    rw [Rack.admission, Rack.order_eq same, Rack.modOrder_order _ _ _ _ (by exact fun _ => rfl)]
    split
    · rename_i is
      subst is
      have found := stay.admission o.number
      rw [before, Rack.admission, Option.map_eq_some_iff] at found
      obtain ⟨q, order', is⟩ := found
      rw [order', Option.map_some, Option.map_some, Order.admission]
      exact congrArg (fun x : OrderState × Nat × Option BayId => some (OrderState.admitted, x.2.1, some b)) is
    · exact stay.admission m
  have held (d : BayId) : (r.admitOrder c b p o xs).held d = if b = d then some { permit := o.permit, order := o.number } else r.held d := by
    have queued : (queueLines o.number xs r).bay d = r.bay d := by rw [queueLines_tables]; rfl
    unfold Rack.held Rack.bay
    rw [bays, permitOf]
    change ((r.admitted b p o xs).bay d).admitted = _
    simp only [Rack.admitted, Rack.modPermit_bay_of, Rack.callBay_bay_of, Rack.modBay_bay, Rack.modOrder_bay_of, queued]
    split <;> rfl
  have passes : (r.admitOrder c b p o xs).passes = r.passes.map (fun q => if q.1 = p.number then (q.1, some b) else q) := by
    have queued : (queueLines o.number xs r).permits = r.permits := by rw [queueLines_tables]
    rw [Rack.passes, permits]
    refine (Rack.modPermit_passes _ p.number (fun x =>
      { x with admittedBay := some b, loadsToday := if o.counted then x.loadsToday else satAdd 255 x.loadsToday 1 }) (some b)
      (fun _ => rfl) (fun _ => rfl)).trans ?_
    rw [Rack.passes, Rack.callBay_permits, Rack.modBay_permits, Rack.modOrder_permits, queued]
    rfl
  rw [passes, funext held, ← permitOf]
  refine hp.taken (fun p l same => ?_) free ?_ ?_ (fun m ne => ?_) (fun d => rfl)
  · rw [before] at same
    cases congrArg Prod.fst (Option.some.inj same)
  · refine List.mem_map.mpr ⟨p, List.mem_of_find?_eq_some permit, ?_⟩
    rw [Permit.pass, cardRefusal_notAdmitted passed, permitOf]
  · rw [admission, if_pos rfl]
  · rw [admission, if_neg (Ne.symm ne)]

theorem BaysAgree.act {r r' : Rack} (act : BayAct c r r') (numbers : (r.orders.map (fun o => o.number)).Nodup)
    (hp : BaysAgree r.admission r.held r.passes) : BaysAgree r'.admission r'.held r'.passes := by
  cases act with
  | order act =>
    cases act with
    | testOrder n =>
      rcases r.testOrder_cases (c := c) n with same | ⟨o, f, ended⟩
      · rw [same]
        exact hp
      · exact hp.ended ended
    | book k passed => exact hp.booked passed
    | retireOrder o order ended => exact hp.retired order ended
    | admitOrder b p o xs free order permit passed assigned => exact hp.admittedOrder numbers free order permit passed
  | newPermit p absent free =>
    have pass : p.pass = (p.number, none) := by rw [Permit.pass, free]
    have passes : Rack.passes { r with permits := r.permits ++ [p] } = r.passes ++ [(p.number, none)] := by
      rw [Rack.passes, List.map_append, List.map_singleton, pass]
      rfl
    rw [passes]
    refine hp.newPass (fun q hq => ?_)
    obtain ⟨x, hx, rfl⟩ := List.mem_map.mp hq
    have absent' : ∀ x ∈ r.permits, x.number ≠ p.number := by simpa [Rack.permit?] using absent
    exact absent' x hx
  | retirePermit n unnamed =>
    have passes : Rack.passes { r with permits := r.permits.filter (fun x => decide (x.number ≠ n)) } =
        r.passes.filter (fun q => decide (q.1 ≠ n)) := by
      simp only [Rack.passes, List.filter_map]
      rfl
    rw [passes]
    refine hp.dropPass (fun m s p l found => ?_)
    obtain ⟨o, order, same⟩ := Option.map_eq_some_iff.mp found
    exact (congrArg (fun x => x.2.1) same : o.permit = p) ▸ unnamed o (Rack.order_mem order)

/-! ### Every step -/

/-- Queues and lines agree. -/
abbrev Rack.queuesAndBays (bays : Prop) (r : Rack) : Prop := r.queuesMatch ∧ (bays → r.baysMatch)

theorem QueuesAgree.iff {r : Rack} : r.queuesMatch ↔ QueuesAgree r := Rack.queuesMatch_iff r

theorem queuesMatch_atom {r r' : Rack} (h : Atom c r r') (hp : r.queuesMatch) : r'.queuesMatch :=
  QueuesAgree.iff.mpr (h.queuesAgree (QueuesAgree.iff.mp hp))

theorem Atom.queuesAndBays {bays : Prop} {r r' : Rack} (h : Atom c r r') (hp : r.queuesAndBays bays) : r'.queuesAndBays bays := by
  obtain ⟨queues, agree⟩ := hp
  have queues' := queuesMatch_atom h queues
  refine ⟨queues', fun given => ?_⟩
  have agree := (Rack.baysMatch_iff queues.1).mp (agree given)
  refine (Rack.baysMatch_iff queues'.1).mpr ?_
  rcases h.admissions with stay | act
  · exact stay.agree agree
  · exact agree.act act queues.1

theorem queuesAndBays_powerOn (bays : Prop) (inputs : InputLevels) (cal : CalStore) (r : Rack) : (r.powerOn inputs cal).queuesAndBays bays := by
  have bay (b : BayId) : ((r.powerOn inputs cal).bay b).admitted = none := by simp [Rack.powerOn, Rack.bay, Bay.fresh]
  refine ⟨⟨by simp [Rack.powerOn], by simp [Rack.powerOn], fun a => ?_⟩, fun _ => ⟨?_, by simp [Rack.powerOn], by simp [Rack.powerOn]⟩⟩
  · rw [Rack.powerOn_arm]
    simp [Arm.fresh, ArmState.isLineBearing, ArmState.isRunning, ArmState.isFlow]
  · simp [bay]

theorem queuesAndBays_invariant (bays : Prop) : RackInvariant (Rack.queuesAndBays bays) := by
  refine .of_atoms Atom.queuesAndBays (fun r arms _ hp => ?_) (fun inputs cal r hp => queuesAndBays_powerOn bays inputs cal r)
  have empty : r.emptyHeaders.queuesAndBays bays := hp
  exact (r.restart_atoms arms).keep Atom.queuesAndBays empty

/-- Settles O56: each move is a chain of atoms, and an atom moves the lines of one arm at a time, each with its entry; an order takes and
leaves its bay with its permit. -/
theorem queuesMatchLines : Obligations.QueuesMatchLines := by
  intro s t moved queues
  have kept := (queuesAndBays_invariant s.rack.baysMatch).step moved ⟨queues, id⟩
  exact kept

end Sys2Proof.Machine
end

section
/-! PROOF. Reservations on accounts (O58): what each line still claims, which atoms change a claim, and the sums over lines. -/

namespace Sys2Proof.Machine

variable {c : Conditions}

/-! ### What a line claims -/

/-- What reservations read of a line: whether it is final, the account it names, its preset, and what remains reserved of each additive. -/
structure Claim where
  final : Bool
  account : Nat
  preset : Nat
  doses : List (AdditiveId × Nat)

def Line.claim (l : Line) : Claim :=
  { final := l.state.isFinal, account := l.account, preset := l.preset, doses := l.doses.map (fun d => (d.additive, d.remaining)) }

theorem Line.claim_live {l m : Line} (final : m.state.isFinal = false) (live : l.state.isFinal = false) (account : m.account = l.account)
    (preset : m.preset = l.preset) (doses : m.doses.map (fun d => (d.additive, d.remaining)) = l.doses.map (fun d => (d.additive, d.remaining))) :
    m.claim = l.claim := by
  simp [Line.claim, final, live, account, preset, doses]

/-- A reading of every line is as it was. -/
def LinesStay {β : Type} (g : Line → β) (r r' : Rack) : Prop :=
  r'.orders.map (fun o => o.lines.map g) = r.orders.map (fun o => o.lines.map g)

section
variable {β : Type} {g : Line → β}

theorem LinesStay.of_orders {r r' : Rack} (orders : r'.orders = r.orders) : LinesStay g r r' := by
  unfold LinesStay
  rw [orders]

theorem LinesStay.trans {r s t : Rack} (h : LinesStay g r s) (k : LinesStay g s t) : LinesStay g r t := Eq.trans k h

/-- A change of one line, if it is in the table, that keeps the reading. -/
theorem LinesStay.modLine {r : Rack} (hp : r.numbered) {n m : Nat} {f : Line → Line}
    (kept : ∀ l, r.line? n m = some l → g (f l) = g l) : LinesStay g r (r.modLine n m f) := by
  unfold LinesStay Rack.modLine Rack.modOrder
  simp only [List.map_map]
  refine List.map_congr_left (fun o ho => ?_)
  simp only [Function.comp_apply]
  split
  · rename_i order
    simp only [Order.modLine, List.map_map]
    refine List.map_congr_left (fun l hl => ?_)
    simp only [Function.comp_apply]
    split
    · rename_i line
      exact kept l (order ▸ line ▸ Rack.line_of_mem hp ho hl)
    · rfl
  · rfl

theorem LinesStay.modCurrentLine {r : Rack} (hp : r.numbered) {a : ArmId} {f : Line → Line}
    (kept : ∀ l, r.currentLine a = some l → g (f l) = g l) : LinesStay g r (r.modCurrentLine a f) := by
  unfold Rack.modCurrentLine
  split
  · rename_i e current
    refine .modLine hp (fun l line => kept l ?_)
    rw [Rack.currentLine, current]
    exact line
  · exact .of_orders rfl
end

/-- Every line claims what it claimed. -/
abbrev ClaimsStay (r r' : Rack) : Prop := LinesStay Line.claim r r'

theorem ClaimsStay.minor {r r' : Rack} (h : Minor r r') : ClaimsStay r r' := by
  have orders : r'.orders.map Order.erase = r.orders.map Order.erase := congrArg Rack.orders h
  have claim : (fun o : Order => o.lines.map Line.claim) = (fun o : Order => o.lines.map Line.claim) ∘ Order.erase := by
    funext o
    simp only [Function.comp_apply, Order.erase, List.map_map]
    refine List.map_congr_left (fun l _ => ?_)
    simp only [Function.comp_apply, Line.claim, Line.erase, List.map_map]
    rfl
  unfold ClaimsStay LinesStay
  rw [claim, ← List.map_map, ← List.map_map, orders]

/-- A change of an order beside its lines. -/
theorem OrderChanged.claims {r r' : Rack} {o : Order} {f : Order → Order} (h : OrderChanged r r' o f) : ClaimsStay r r' := by
  unfold ClaimsStay LinesStay
  rw [h.orders, List.map_map]
  refine List.map_congr_left (fun q _ => ?_)
  simp only [Function.comp_apply]
  split
  · rw [h.lines]
  · rfl

/-- A line that is not final where it stands. -/
theorem Rack.line_live {r : Rack} {n m : Nat} {p : Option ArmId × LineState} {l : Line} (standing : r.standing n m = some p)
    (live : p.2.isFinal = false) (line : r.line? n m = some l) : l.state.isFinal = false := by
  rw [Rack.standing_some line] at standing
  rw [← Option.some.inj standing] at live
  exact live

theorem ClaimsStay.returnLines (es : List QueueEntry) {r : Rack} (hp : r.numbered)
    (live : ∀ e ∈ es, ∃ p, r.standing e.order e.line = some p ∧ p.2.isFinal = false) : ClaimsStay r (returnLines es r) := by
  induction es generalizing r with
  | nil => exact .of_orders rfl
  | cons e rest ih =>
    have stay : FacesStay r (r.modLine e.order e.line Line.backToPending) := .modLine r _ _ _ (fun _ => rfl)
    obtain ⟨p, standing, notFinal⟩ := live e (List.mem_cons_self ..)
    refine (LinesStay.modLine hp (fun l line => ?_)).trans (ih (stay.numbered hp) (fun e' he' => ?_))
    · exact Line.claim_live rfl (Rack.line_live standing notFinal line) rfl rfl (by simp [Line.backToPending, Function.comp_def])
    · rw [Rack.modLine_standing r e.order e.line Line.backToPending (fun _ => rfl)]
      obtain ⟨p', standing', notFinal'⟩ := live e' (List.mem_cons_of_mem _ he')
      split
      · obtain ⟨l, line, -⟩ := Option.map_eq_some_iff.mp standing'
        rw [line]
        exact ⟨_, rfl, rfl⟩
      · exact ⟨p', standing', notFinal'⟩

theorem ClaimsStay.queueLines (n : Nat) (xs : List (Nat × ArmId)) {r : Rack} (hp : r.numbered)
    (live : ∀ x ∈ xs, ∃ p, r.standing n x.1 = some p ∧ p.2.isFinal = false) : ClaimsStay r (queueLines n xs r) := by
  induction xs generalizing r with
  | nil => exact .of_orders rfl
  | cons x rest ih =>
    have stay : FacesStay r (r.modLine n x.1 (Line.queueAt x.2 (r.arm x.2).config)) := .modLine r _ _ _ (fun _ => rfl)
    obtain ⟨p, standing, notFinal⟩ := live x (List.mem_cons_self ..)
    have first : ClaimsStay r (r.modLine n x.1 (Line.queueAt x.2 (r.arm x.2).config)) := .modLine hp (fun l line => by
      exact Line.claim_live rfl (Rack.line_live standing notFinal line) rfl rfl (by simp [Line.queueAt, Function.comp_def, DoseRecord.takeSlot]))
    have joined : ClaimsStay (r.modLine n x.1 (Line.queueAt x.2 (r.arm x.2).config))
        ((r.modLine n x.1 (Line.queueAt x.2 (r.arm x.2).config)).modArm x.2 (fun y =>
          y.joinQueue n x.1 (((r.line? n x.1).map (fun l => l.addr)).getD 0))) := .of_orders rfl
    refine (first.trans joined).trans (ih (r := (r.modLine n x.1 (Line.queueAt x.2 (r.arm x.2).config)).modArm x.2 (fun y =>
      y.joinQueue n x.1 (((r.line? n x.1).map (fun l => l.addr)).getD 0))) ⟨(stay.numbered hp).orders, (stay.numbered hp).lines⟩ (fun y hy => ?_))
    rw [Rack.standing_congr (Rack.modArm_orders _ _ _), Rack.modLine_standing r n x.1 (Line.queueAt x.2 (r.arm x.2).config) (fun _ => rfl)]
    obtain ⟨p', standing', notFinal'⟩ := live y (List.mem_cons_of_mem _ hy)
    split
    · obtain ⟨l, line, -⟩ := Option.map_eq_some_iff.mp standing'
      rw [line]
      exact ⟨_, rfl, rfl⟩
    · exact ⟨p', standing', notFinal'⟩

/-! ### What is reserved on an account -/

/-- What is reserved on the account of a number. -/
def Rack.reserved (r : Rack) (n : Nat) : Nat := ((r.account? n).map (fun x => x.reserved)).getD 0

theorem Rack.reserved_congr {r s : Rack} (accounts : s.accounts = r.accounts) (n : Nat) : s.reserved n = r.reserved n := by
  simp [Rack.reserved, Rack.account?, accounts]

theorem Minor.reserved {r r' : Rack} (h : Minor r r') (n : Nat) : r'.reserved n = r.reserved n := by
  have accounts : r'.accounts.map Account.erase = r.accounts.map Account.erase := congrArg Rack.accounts h
  have read (s : Rack) : s.reserved n =
      (((s.accounts.map Account.erase).find? (fun x => decide (x.number = n))).map (fun x => x.reserved)).getD 0 := by
    rw [find_map_kept Account.number Account.erase (fun _ => rfl) n s.accounts, Option.map_map]
    rfl
  rw [read, read, accounts]

theorem Rack.modAccount_reserved (r : Rack) (k : Nat) (f : Account → Account) (number : ∀ x, (f x).number = x.number) (v : Nat → Nat)
    (reserved : ∀ x, (f x).reserved = v x.reserved) (n : Nat) :
    (r.modAccount k f).reserved n = if k = n ∧ (r.account? n).isSome then v (r.reserved n) else r.reserved n := by
  unfold Rack.reserved
  rw [Rack.modAccount_account r k n f number]
  cases r.account? n <;> by_cases same : k = n <;> simp [same, reserved]

/-- A change of an additive that leaves what is reserved of it. -/
theorem Rack.modAdditive_reserved (r : Rack) (x : AdditiveId) (f : Additive → Additive) (kept : ∀ y, (f y).reserved = y.reserved)
    (y : AdditiveId) : ((r.modAdditive x f).additive y).reserved = (r.additive y).reserved := by
  rw [Rack.modAdditive_additive]
  split
  · rename_i same
    rw [kept, same]
  · rfl

/-- Every line claims what it claimed, and what is reserved on every account and of every additive is as it was. -/
structure ReservesStay (r r' : Rack) : Prop where
  claims : ClaimsStay r r'
  reserved : ∀ n, r'.reserved n = r.reserved n
  additive : ∀ x, (r'.additive x).reserved = (r.additive x).reserved

theorem ReservesStay.of_eq {r r' : Rack} (claims : ClaimsStay r r') (accounts : r'.accounts = r.accounts)
    (additives : r'.additives = r.additives) : ReservesStay r r' :=
  ⟨claims, Rack.reserved_congr accounts, fun x => by simp [Rack.additive, additives]⟩

theorem ReservesStay.of_orders {r r' : Rack} (orders : r'.orders = r.orders) (accounts : r'.accounts = r.accounts)
    (additives : r'.additives = r.additives) : ReservesStay r r' :=
  .of_eq (.of_orders orders) accounts additives

theorem ReservesStay.beginInjectors (r : Rack) (a : ArmId) (l : Line) : ReservesStay r (r.beginInjectors a l) := by
  rw [Rack.beginInjectors_tables]
  exact .of_orders rfl rfl rfl

theorem Minor.additive {r r' : Rack} (h : Minor r r') (x : AdditiveId) : (r'.additive x).erase = (r.additive x).erase := by
  have read (s : Rack) : s.erase.additive x = (s.additive x).erase := by simp [Rack.erase, Rack.additive]
  rw [← read, ← read, h]

theorem ReservesStay.minor {r r' : Rack} (h : Minor r r') : ReservesStay r r' :=
  ⟨.minor h, h.reserved, fun x => (congrArg Additive.reserved (h.additive x) :)⟩

theorem ReservesStay.trans {r s t : Rack} (h : ReservesStay r s) (g : ReservesStay s t) : ReservesStay r t :=
  ⟨h.claims.trans g.claims, fun n => (g.reserved n).trans (h.reserved n), fun x => (g.additive x).trans (h.additive x)⟩

/-! ### Which atoms change a claim -/

/-- The current line of an arm that bears one is not final. -/
theorem QueuesAgree.current_live {r : Rack} (hp : QueuesAgree r) {a : ArmId} {l : Line} (line : r.currentLine a = some l) :
    l.state.isFinal = false := by
  obtain ⟨e, o, current, -, found⟩ := Rack.currentLine_some line
  have entry := (hp.1.holds a).entries e ((hp.1.holds a).current e current)
  exact Rack.line_live entry (Arm.lineStateAt_placed _ e).notFinal found

/-- A line ends: it is finished, and what it claimed of its account and its additives is given up. -/
structure LineEnded (r r' : Rack) (n m : Nat) (l : Line) : Prop where
  line : r.line? n m = some l
  live : l.state.isFinal = false
  orders : ∃ final cause strokeOf, final.isFinal = true ∧ r'.orders = (r.modLine n m (fun x => x.finish final cause strokeOf)).orders
  accounts : ∃ litres, r'.accounts = (r.modAccount l.account (Account.settle l.preset litres)).accounts
  additives : r'.additives = (releaseAdditives l.doses r).additives

/-- The atoms that change what a line claims. -/
inductive ClaimAct (c : Conditions) : Rack → Rack → Prop
  | ended {r r' : Rack} {n m : Nat} {l : Line} (ended : LineEnded r r' n m l) : ClaimAct c r r'
  | goodStroke (r : Rack) (a : ArmId) (n : SlotId) (k : SlotConfig) (j : Nat) (d : DoseRecord) (slot : r.slotConfig a n = some k)
      (inFlight : (r.injector a n).phase ≠ .none) (place : (r.injector a n).served = some j) (serves : r.servedDose a n = some d) :
      ClaimAct c r (r.goodStroke a n k)
  | book (r : Rack) (k : Booking) (passed : bookRefusal c r k = none) : ClaimAct c r (r.book c k)
  | amend (r : Rack) (o : Order) (l : Line) (new : Nat) (order : r.order? o.number = some o) (line : o.line? l.number = some l)
      (passed : amendRefusal r o l new = none) : ClaimAct c r (r.amend o l new)
  | retireOrder (r : Rack) (o : Order) (order : r.order? o.number = some o) (ended : o.state = .complete ∨ o.state = .void) :
      ClaimAct c r (r.retireOrder o.number)

theorem releaseAdditives_additives (ds : List DoseRecord) {r s : Rack} (same : s.additives = r.additives) :
    (releaseAdditives ds s).additives = (releaseAdditives ds r).additives := by
  induction ds generalizing r s with
  | nil => exact same
  | cons d rest ih => exact ih (by simp [Rack.modAdditive, Rack.additive, same])

theorem Rack.endLineRecord_ended {r s : Rack} {n m : Nat} {l : Line} {final : LineState} {cause : Option StopCause}
    (line : r.line? n m = some l) (live : l.state.isFinal = false) (ended : final.isFinal = true)
    (orders : s.orders = (r.endLineRecord n m final cause).orders) (accounts : s.accounts = (r.endLineRecord n m final cause).accounts)
    (additives : s.additives = (r.endLineRecord n m final cause).additives) : LineEnded r s n m l := by
  obtain ⟨o, order, -⟩ := Rack.line_order line
  refine ⟨line, live, ⟨final, cause, r.strokesFor l, ended, orders.trans (Rack.endLineRecord_orders line final cause)⟩,
    ⟨roundLitres l.standard, accounts.trans ?_⟩, additives.trans ?_⟩
  · rw [Rack.endLineRecord_some order line]
    simp [Rack.modAccount]
  · rw [Rack.endLineRecord_some order line]
    rw [Rack.updateLastGroup_additives, Rack.modAccount_additives]
    exact releaseAdditives_additives l.doses (Rack.modLine_additives r n m _)

theorem Atom.reserves {r r' : Rack} (h : Atom c r r') (hp : QueuesAgree r) : ReservesStay r r' ∨ ClaimAct c r r' := by
  have numbered := hp.1.numbered
  have live {a : ArmId} {l : Line} (line : r.currentLine a = some l) := hp.current_live line
  have restated {a : ArmId} {f : Line → Line} (kept : ∀ l, r.currentLine a = some l → (f l).claim = l.claim) :
      ReservesStay r (r.modCurrentLine a f) := .of_eq (.modCurrentLine numbered kept) (Rack.modCurrentLine_accounts r a f) (Rack.modCurrentLine_additives r a f)
  have set (s : Rack) (a : ArmId) (new : ArmState) : ReservesStay s (s.setState c a new) := .of_orders (by simp) (by simp) (by simp)
  cases h with
  | minor h => exact .inl (.minor h)
  | begin r1 a l _ _ _ _ started =>
    have first : ReservesStay r (r.modCurrentLine a (Line.firstStart c)) :=
      restated (fun l line => Line.claim_live rfl (live line) rfl rfl rfl)
    have began := first.trans (.beginInjectors (r.modCurrentLine a (Line.firstStart c)) a l)
    exact .inl ((began.trans (.minor started)).trans (set r1 a _))
  | resumed r1 a l new _ _ started _ =>
    have resumed : ReservesStay r (r.modCurrentLine a (fun l => { l with state := .active })) :=
      restated (fun l line => Line.claim_live rfl (live line) rfl rfl rfl)
    exact .inl ((resumed.trans (.minor started)).trans (set r1 a _))
  | suspend r1 a _ stopped =>
    have suspended : ReservesStay r (r.modCurrentLine a (fun l => { l with state := .suspended })) :=
      restated (fun l line => Line.claim_live rfl (live line) rfl rfl rfl)
    exact .inl ((suspended.trans (.minor stopped)).trans (set r1 a _))
  | endPending n m l cause line pending =>
    exact .inr (.ended (Rack.endLineRecord_ended line (by rw [pending]; rfl) (final := .cancelled) (cause := cause) rfl rfl rfl rfl))
  | endQueued n m l a cause line queued arm =>
    exact .inr (.ended (Rack.endLineRecord_ended line (by rw [queued]; rfl) (final := .cancelled) (cause := cause) rfl (by simp) (by simp)
      (by simp)))
  | endCurrent a final cause bears ended =>
    cases current : (r.arm a).current with
    | none =>
      rw [Rack.endCurrent_none r current]
      exact .inl (.of_orders rfl rfl rfl)
    | some e =>
      have entry := (hp.1.holds a).entries e ((hp.1.holds a).current e current)
      obtain ⟨l, line, -⟩ := Option.map_eq_some_iff.mp entry
      rw [Rack.endCurrent_some r current]
      exact .inr (.ended (Rack.endLineRecord_ended line (Rack.line_live entry (Arm.lineStateAt_placed _ e).notFinal line)
        (final := final) (cause := cause) ended (by simp [Rack.giveUp]) (by simp [Rack.giveUp]) (by simp [Rack.giveUp])))
  | testOrder n =>
    have accounts : (r.testOrder c n).accounts = r.accounts := by simp
    rcases r.testOrder_cases (c := c) n with same | ⟨o, f, ended⟩
    · exact .inl (.of_orders (by rw [same]) accounts (by simp))
    · exact .inl (.of_eq ended.claims accounts (by simp))
  | returnBehind a =>
    have tables := returnLines_tables r ((r.arm a).queue.filter (r.arm a).isBehind)
    have returned : ClaimsStay r (returnLines ((r.arm a).queue.filter (r.arm a).isBehind) r) := .returnLines _ numbered (fun e he =>
      ⟨_, (hp.1.holds a).entries e (List.mem_filter.mp he).1, (Arm.lineStateAt_placed _ e).notFinal⟩)
    exact .inl (.of_eq (returned.trans (.of_orders rfl)) (congrArg Rack.accounts tables :) (congrArg Rack.additives tables :))
  | returnAll a ready =>
    have tables := returnLines_tables r (r.arm a).queue
    have returned : ClaimsStay r (returnLines (r.arm a).queue r) := .returnLines _ numbered (fun e he =>
      ⟨_, (hp.1.holds a).entries e he, (Arm.lineStateAt_placed _ e).notFinal⟩)
    refine .inl (.of_eq (returned.trans (.of_orders (by simp [Rack.returnAll]))) ?_ ?_)
    · simp only [Rack.returnAll, Rack.enterIdle_accounts, Rack.modArm_accounts]
      exact (congrArg Rack.accounts tables :)
    · simp only [Rack.returnAll, Rack.enterIdle_additives, Rack.modArm_additives]
      exact (congrArg Rack.additives tables :)
  | goodStroke a n k j d slot inFlight place serves => exact .inr (.goodStroke r a n k j d slot inFlight place serves)
  | book k passed numbered => exact .inr (.book r k passed)
  | amend o l new order line passed => exact .inr (.amend r o l new order line passed)
  | retireOrder o order ended => exact .inr (.retireOrder r o order ended)
  | admitOrder b p o xs free order permit passed assigned =>
    obtain ⟨mem, -, -⟩ := Rack.orderForCard_some order
    have queued : ClaimsStay r (queueLines o.number xs r) := .queueLines o.number xs numbered (fun x hx => by
      obtain ⟨q, standing⟩ := assigned_standing numbered mem assigned hx
      exact ⟨_, standing, rfl⟩)
    obtain ⟨q, changed⟩ := admitted_changed numbered (b := b) (p := p) mem xs
    have ready (s : Rack) (a : ArmId) : ReservesStay s (s.readyIfGiven c xs a) := by
      rcases s.readyIfGiven_cases (c := c) xs a with ⟨-, same⟩ | ⟨-, same⟩ <;> rw [same]
      · exact .of_orders (by simp) (by simp) (by simp)
      · exact .of_orders rfl rfl rfl
    have admitted : ReservesStay r (r.admitted b p o xs) := by
      refine .of_eq (queued.trans changed.claims) ?_ ?_
      · simp only [Rack.admitted, Rack.modPermit_accounts, Rack.callBay_accounts, Rack.modBay_accounts, Rack.modOrder_accounts]
        rw [queueLines_tables]
      · simp only [Rack.admitted, Rack.modPermit_additives, Rack.callBay_additives, Rack.modBay_additives, Rack.modOrder_additives]
        rw [queueLines_tables]
    rw [Rack.admitOrder_eq]
    exact .inl ((admitted.trans (ready _ _)).trans (ready _ _))
  | setCapacity h cap =>
    refine .inl (.of_orders ?_ ?_ ?_)
    · unfold Machine.setCapacity
      dsimp only
      split <;> simp
    · unfold Machine.setCapacity
      dsimp only
      split <;> simp
    · unfold Machine.setCapacity
      dsimp only
      split <;> simp
  | newAccount x absent unreserved =>
    refine .inl ⟨.of_orders rfl, fun n => ?_, fun _ => rfl⟩
    unfold Rack.reserved Rack.account?
    rw [List.find?_append]
    cases found : r.accounts.find? (fun x => decide (x.number = n)) with
    | some y => rfl
    | none => by_cases same : x.number = n <;> simp [same, unreserved]
  | closeAccount x found unreserved =>
    refine .inl ⟨.of_orders rfl, fun n => ?_, fun _ => rfl⟩
    unfold Rack.reserved Rack.account?
    rw [List.find?_filter]
    by_cases same : x.number = n
    · subst same
      have found' : r.accounts.find? (fun y => decide (y.number = x.number)) = some x := found
      have gone : r.accounts.find? (fun a => decide (decide (a.number ≠ x.number) = true ∧ decide (a.number = x.number) = true)) = none := by
        simp
      rw [found', gone, Option.map_some, unreserved]
      rfl
    · congr 3
      funext y
      by_cases is : y.number = n
      · simp [is, Ne.symm same]
      · simp [is]
  | startStroke a n k _ _ _ _ _ => exact .inl ⟨.of_orders rfl, fun _ => rfl, Rack.modAdditive_reserved r k.additive
      (fun x => { x with inFlight := x.inFlight + k.stroke }) (fun _ => rfl)⟩
  | strokeLost a n k _ _ =>
    exact .inl ⟨.of_orders rfl, fun _ => rfl, Rack.modAdditive_reserved (r.endStroke a n) _ _ (by exact fun _ => rfl)⟩
  | dropStroke a n _ => exact .inl (.of_orders rfl rfl rfl)
  | newPermit p _ _ => exact .inl (.of_orders rfl rfl rfl)
  | retirePermit n _ => exact .inl (.of_orders rfl rfl rfl)
  | refill x n => exact .inl ⟨.of_orders rfl, fun _ => rfl, Rack.modAdditive_reserved r _ _ (fun _ => rfl)⟩
  | forget a rests => exact .inl (.of_orders rfl rfl rfl)
  | configure a k _ _ => exact .inl (.of_orders rfl rfl rfl)
  | _ => exact .inl (.of_orders (by simp) (by simp) (by simp))

/-! ### Sums over lines -/

/-- A figure of each line, summed over all lines. -/
def Rack.lineSum (w : Line → Nat) (r : Rack) : Nat := (r.orders.map (fun o => (o.lines.map w).sum)).sum

theorem Rack.lineSum_allLines (w : Line → Nat) (r : Rack) : (r.allLines.map w).sum = r.lineSum w := by
  unfold Rack.allLines Rack.lineSum
  induction r.orders with
  | nil => rfl
  | cons o rest ih => simp [ih]

theorem sum_filter_map {α : Type} (p : α → Bool) (w : α → Nat) (xs : List α) :
    ((xs.filter p).map w).sum = (xs.map (fun x => if p x then w x else 0)).sum := by
  induction xs with
  | nil => rfl
  | cons x rest ih => cases is : p x <;> simp [is, ih]

theorem LinesStay.lineSum {r r' : Rack} {w : Line → Nat} (h : LinesStay w r r') : r'.lineSum w = r.lineSum w := by
  have read (s : Rack) : s.lineSum w = ((s.orders.map (fun o => o.lines.map w)).map List.sum).sum := by
    simp only [Rack.lineSum, List.map_map, Function.comp_def]
  rw [read, read, h]

/-- What is read from claims alone. -/
theorem ClaimsStay.reading {r r' : Rack} (h : ClaimsStay r r') {β : Type} (v : Claim → β) : LinesStay (fun l => v l.claim) r r' := by
  have read (s : Rack) : s.orders.map (fun o => o.lines.map (fun l => v l.claim)) =
      (s.orders.map (fun o => o.lines.map Line.claim)).map (fun cs => cs.map v) := by
    simp only [List.map_map, Function.comp_def]
  unfold LinesStay
  rw [read, read, h]

/-- One element of a list is changed. -/
theorem sum_modify_key {α : Type} {xs : List α} (key : α → Nat) (numbers : (xs.map key).Nodup) {x : α} (mem : x ∈ xs) (f : α → α) (w : α → Nat) :
    ((xs.map (fun y => if key y = key x then f y else y)).map w).sum + w x = (xs.map w).sum + w (f x) := by
  induction xs with
  | nil => cases mem
  | cons y rest ih =>
    obtain ⟨fresh, tail⟩ := List.nodup_cons.mp numbers
    simp only [List.map_cons, List.sum_cons]
    rcases List.mem_cons.mp mem with rfl | mem
    · have others : rest.map (fun y => if key y = key x then f y else y) = rest := by
        conv_rhs => rw [← List.map_id rest]
        refine List.map_congr_left (fun y hy => ?_)
        rw [if_neg (fun same => fresh (List.mem_map.mpr ⟨y, hy, same⟩)), id]
      rw [others, if_pos rfl]
      omega
    · rw [if_neg (fun same => fresh (List.mem_map.mpr ⟨x, mem, same.symm⟩))]
      have := ih tail mem
      omega

/-- One line of the table is changed. -/
theorem Rack.lineSum_modLine {r : Rack} (hp : r.numbered) {n m : Nat} {l : Line} (line : r.line? n m = some l) (f : Line → Line)
    (w : Line → Nat) : (r.modLine n m f).lineSum w + w l = r.lineSum w + w (f l) := by
  obtain ⟨o, order, line⟩ := Rack.line_order line
  have number := Rack.order_number order
  have lineNumber := Order.line_number line
  have orders := sum_modify_key Order.number hp.orders (Rack.order_mem order) (fun o => o.modLine m f) (fun o => (o.lines.map w).sum)
  have lines := sum_modify_key Line.number (hp.lines o (Rack.order_mem order)) (Order.line_mem line) f w
  subst number lineNumber
  simp only [Rack.lineSum, Rack.modLine, Rack.modOrder, Order.modLine] at orders ⊢
  omega

/-! ### Accounts -/

/-- What a line that is not final claims of an account. -/
def Claim.due (account : Nat) (x : Claim) : Nat := if decide (x.account = account) && !x.final then x.preset else 0

theorem Rack.presetsOf_eq (r : Rack) (n : Nat) : r.presetsOf n = r.lineSum (fun l => l.claim.due n) := by
  rw [Rack.presetsOf, sum_filter_map, Rack.lineSum_allLines]
  rfl

/-- Reservations on accounts, read as sums. -/
theorem Rack.reservedMatches_iff (r : Rack) : r.reservedMatches ↔ ∀ n, r.reserved n = r.lineSum (fun l => l.claim.due n) := by
  simp only [← Rack.presetsOf_eq]
  exact Iff.rfl

theorem ReservesStay.reservedMatches {r r' : Rack} (h : ReservesStay r r') (hp : r.reservedMatches) : r'.reservedMatches := by
  rw [Rack.reservedMatches_iff] at hp ⊢
  intro n
  rw [h.reserved, (h.claims.reading (Claim.due n)).lineSum]
  exact hp n

/-- The figure of a line is a part of the sum. -/
theorem Rack.le_lineSum {r : Rack} {n m : Nat} {l : Line} (line : r.line? n m = some l) (w : Line → Nat) : w l ≤ r.lineSum w := by
  obtain ⟨o, order, line⟩ := Rack.line_order line
  exact (List.le_sum_of_mem (List.mem_map_of_mem (Order.line_mem line))).trans
    (List.le_sum_of_mem (List.mem_map_of_mem (f := fun o => (o.lines.map w).sum) (Rack.order_mem order)))

theorem LineEnded.reservedMatches {r r' : Rack} {n m : Nat} {l : Line} (h : LineEnded r r' n m l) (numbered : r.numbered)
    (hp : r.reservedMatches) : r'.reservedMatches := by
  rw [Rack.reservedMatches_iff] at hp ⊢
  obtain ⟨line, live, ⟨final, cause, strokeOf, ended, orders⟩, ⟨litres, accounts⟩, -⟩ := h
  intro k
  have reserved : r'.reserved k = if l.account = k ∧ (r.account? k).isSome then r.reserved k - l.preset else r.reserved k := by
    rw [Rack.reserved_congr accounts, Rack.modAccount_reserved r l.account (Account.settle l.preset litres) (fun _ => rfl)
      (fun x => x - l.preset) (fun _ => rfl)]
  have missing : r.account? k = none → r.reserved k = 0 := by
    intro none
    simp [Rack.reserved, none]
  have sum : r'.lineSum (fun l => l.claim.due k) = (r.modLine n m (fun x => x.finish final cause strokeOf)).lineSum (fun l => l.claim.due k) := by
    simp only [Rack.lineSum, orders]
  have changed := Rack.lineSum_modLine numbered line (fun x => x.finish final cause strokeOf) (fun l => l.claim.due k)
  have after : (l.finish final cause strokeOf).claim.due k = 0 := by simp [Claim.due, Line.claim, Line.finish, ended]
  have before : l.claim.due k = if l.account = k then l.preset else 0 := by simp [Claim.due, Line.claim, live]
  rw [after, before, ← hp k] at changed
  rw [reserved, sum]
  cases found : r.account? k with
  | none =>
    have := missing found
    simp only [Option.isSome_none, Bool.false_eq_true, and_false, if_false]
    omega
  | some x =>
    simp only [Option.isSome_some, and_true]
    split <;> rename_i same <;> simp only [same, if_true, if_false] at changed <;> omega

/-- A rise is refused where the account is missing, and a preset is never 0 (R80, R90). -/
theorem amendRefusal_none {r : Rack} {o : Order} {l : Line} {new : Nat} (passed : amendRefusal r o l new = none) :
    (l.state = .pending ∨ l.state = .queued) ∧ 100 ≤ new ∧ (l.preset < new → (r.account? l.account).isSome = true) := by
  unfold amendRefusal at passed
  have all := firstRefusal_none.mp passed
  have state := refuseIf_none.mp (all (refuseIf (decide (l.state ≠ .pending ∧ l.state ≠ .queued)) .wrongState .nothing) (by simp))
  have fits := refuseIf_none.mp (all (refuseIf (!presetFits new (r.compartment? o.unit1 o.unit2 l.addr)) .capacity .nothing) (by simp))
  refine ⟨?_, ?_, fun rise => ?_⟩
  · by_contra other
    rw [not_or] at other
    exact absurd other (of_decide_eq_false state)
  · rw [Bool.not_eq_false'] at fits
    unfold presetFits at fits
    rw [Bool.and_eq_true, Bool.and_eq_true, decide_eq_true_eq] at fits
    exact fits.1.1
  · have covered := refuseIf_none.mp (all (refuseIf (!(((r.account? l.account).map (fun x => x.covers (new - l.preset))).getD false)) .noCover
      .nothing) (by simp [rise]))
    cases found : r.account? l.account with
    | some x => rfl
    | none => simp [found] at covered

theorem Rack.amend_reservedMatches {r : Rack} {o : Order} {l : Line} {new : Nat} (order : r.order? o.number = some o)
    (line : o.line? l.number = some l) (passed : amendRefusal r o l new = none) (numbered : r.numbered) (hp : r.reservedMatches) :
    (r.amend o l new).reservedMatches := by
  rw [Rack.reservedMatches_iff] at hp ⊢
  obtain ⟨state, large, found⟩ := amendRefusal_none passed
  have live : l.state.isFinal = false := by rcases state with h | h <;> rw [h] <;> rfl
  have line' : r.line? o.number l.number = some l := (Rack.line_of_order order).trans line
  intro k
  have reserved : (r.amend o l new).reserved k =
      if l.account = k ∧ (r.account? k).isSome then r.reserved k + new - l.preset else r.reserved k := by
    have moved : (moveAdditives new l.doses r).accounts = r.accounts := by rw [moveAdditives_tables]
    have same : (moveAdditives new l.doses r).account? k = r.account? k := by simp [Rack.account?, moved]
    unfold Rack.amend
    rw [Rack.reserved_congr (Rack.modLine_accounts _ _ _ _), Rack.modAccount_reserved _ l.account _ (by exact fun _ => rfl)
      (fun x => x + new - l.preset) (by exact fun _ => rfl), same, Rack.reserved_congr moved]
  have sum : (r.amend o l new).lineSum (fun l => l.claim.due k) =
      (r.modLine o.number l.number (fun y => { y with preset := new, doses := y.doses.map (DoseRecord.rebook new) })).lineSum
        (fun l => l.claim.due k) := by
    have orders : (r.amend o l new).orders =
        (r.modLine o.number l.number (fun y => { y with preset := new, doses := y.doses.map (DoseRecord.rebook new) })).orders := by
      unfold Rack.amend
      rw [moveAdditives_tables]
      rfl
    simp only [Rack.lineSum, orders]
  have changed := Rack.lineSum_modLine numbered line' (fun y => { y with preset := new, doses := y.doses.map (DoseRecord.rebook new) })
    (fun l => l.claim.due k)
  have part := Rack.le_lineSum line' (fun l => l.claim.due k)
  have after : (Line.claim { l with preset := new, doses := l.doses.map (DoseRecord.rebook new) }).due k = if l.account = k then new else 0 := by
    simp [Claim.due, Line.claim, live]
  have before : l.claim.due k = if l.account = k then l.preset else 0 := by simp [Claim.due, Line.claim, live]
  rw [after, before, ← hp k] at changed
  rw [before, ← hp k] at part
  rw [reserved, sum]
  by_cases same : l.account = k
  · subst same
    simp only [if_true] at changed part
    cases is : r.account? l.account with
    | none =>
      have none : r.reserved l.account = 0 := by simp [Rack.reserved, is]
      have := found (by omega)
      simp [is] at this
    | some x =>
      simp only [Option.isSome_some, and_self, if_true]
      omega
  · simp only [same, if_false, false_and] at changed ⊢
    omega

/-- A booking that passes its checks names accounts and recipes that exist (R80, checks 9 and 12). -/
theorem bookRefusal_lines {r : Rack} {k : Booking} (passed : bookRefusal c r k = none) {l : BookLine} (hl : l ∈ k.lines) :
    (∃ x, c.recipe? l.recipe = some x) ∧ ∃ x, r.account? l.account = some x := by
  unfold bookRefusal at passed
  have all := firstRefusal_none.mp passed
  have recipes := List.findSome?_eq_none_iff.mp (all (k.lines.findSome? (recipeUnknown c)) (by simp)) l hl
  have accounts := List.findSome?_eq_none_iff.mp (all (k.lines.findSome? (accountClosed r)) (by simp)) l hl
  refine ⟨Option.isSome_iff_exists.mp ?_, ?_⟩
  · have known := refuseIf_none.mp recipes
    simpa [← Option.not_isSome] using known
  · cases found : r.account? l.account with
    | some x => exact ⟨x, rfl⟩
    | none => simp [accountClosed, found] at accounts

theorem Rack.book_lineSum (r : Rack) (k : Booking) (w : Line → Nat) :
    (r.book c k).lineSum w = r.lineSum w + ((bookedLines c r k).map w).sum := by
  simp [Rack.lineSum, Rack.book, bookedOrder]

/-- The lines a booking creates, one for each line booked. -/
theorem bookedLines_sum {r : Rack} {k : Booking} (passed : bookRefusal c r k = none) (w : Line → Nat) (v : BookLine → Nat)
    (same : ∀ b x low, c.recipe? b.recipe = some x → w (newLine x low b) = v b) : ((bookedLines c r k).map w).sum = (k.lines.map v).sum := by
  unfold bookedLines
  have recipes : ∀ l ∈ k.lines, ∃ x, c.recipe? l.recipe = some x := fun l hl => (bookRefusal_lines passed hl).1
  generalize k.lines = ls at recipes ⊢
  induction ls with
  | nil => rfl
  | cons l rest ih =>
    obtain ⟨x, found⟩ := recipes l (List.mem_cons_self ..)
    rw [List.filterMap_cons, found]
    simp only [Option.map_some, List.map_cons, List.sum_cons]
    rw [same l x _ found, ih (fun l hl => recipes l (List.mem_cons_of_mem _ hl))]

theorem Rack.book_reservedMatches {r : Rack} {k : Booking} (passed : bookRefusal c r k = none) (hp : r.reservedMatches) :
    (r.book c k).reservedMatches := by
  rw [Rack.reservedMatches_iff] at hp ⊢
  intro n
  rw [Rack.book_lineSum, bookedLines_sum passed (fun l => l.claim.due n) (fun l => if decide (l.account = n) then l.preset else 0)
    (fun b x low _ => by simp [Claim.due, Line.claim, newLine, LineState.isFinal]), ← sum_filter_map (fun l => decide (l.account = n)) (fun l : BookLine => l.preset)]
  have found : (r.book c k).account? n = (r.account? n).map (fun x => { x with reserved := x.reserved + k.needOf x.number }) :=
    find_map_kept Account.number _ (by exact fun _ => rfl) n r.accounts
  rw [← hp n, Rack.reserved, found, Rack.reserved]
  cases is : r.account? n with
  | some x =>
    simp only [Option.map_some, Option.getD_some, Rack.account_number is]
    rfl
  | none =>
    have unnamed : k.lines.filter (fun l => decide (l.account = n)) = [] := by
      refine List.filter_eq_nil_iff.mpr (fun l hl same => ?_)
      obtain ⟨-, x, exists'⟩ := bookRefusal_lines passed hl
      rw [of_decide_eq_true same, is] at exists'
      cases exists'
    simp [unnamed]

/-- A finished order has no claim. -/
theorem Rack.retireOrder_lineSum {r : Rack} {o : Order} (numbered : r.numbered) (order : r.order? o.number = some o) (w : Line → Nat)
    (none : ∀ l ∈ o.lines, w l = 0) : (r.retireOrder o.number).lineSum w = r.lineSum w := by
  unfold Rack.lineSum Rack.retireOrder
  dsimp only
  rw [sum_filter_map]
  congr 1
  refine List.map_congr_left (fun q hq => ?_)
  split
  · rfl
  · rename_i same
    have is : q = o := Rack.order_unique numbered.orders (Rack.order_mem order) hq (by simpa using same)
    subst is
    refine (List.sum_eq_zero (fun x hx => ?_)).symm
    obtain ⟨l, hl, rfl⟩ := List.mem_map.mp hx
    exact none l hl

/-- A GOOD stroke leaves what is read of a line beside its doses. -/
theorem LinesStay.goodStroke {β : Type} {g : Line → β} {r : Rack} (hp : r.numbered) (a : ArmId) (n : SlotId) (k : SlotConfig)
    (kept : ∀ l ds, g { l with doses := ds } = g l) : LinesStay g r (r.goodStroke a n k) := by
  unfold Rack.goodStroke
  split
  · rename_i place d _ _
    have drawn : LinesStay g (r.endStroke a n) ((r.endStroke a n).modDose a place (fun d =>
        { d with dispensed := satAdd owedMax d.dispensed k.stroke, remaining := d.remaining - k.stroke })) :=
      .modCurrentLine (r := r.endStroke a n) ⟨hp.orders, hp.lines⟩ (fun l _ => kept l _)
    exact drawn
  · exact .of_orders rfl

theorem Atom.reservedMatches {r r' : Rack} (h : Atom c r r') (queues : QueuesAgree r) (hp : r.reservedMatches) : r'.reservedMatches := by
  have numbered := queues.1.numbered
  rcases h.reserves queues with stay | act
  · exact stay.reservedMatches hp
  · cases act with
    | ended ended => exact ended.reservedMatches numbered hp
    | goodStroke a n k j d slot inFlight place serves =>
      rw [Rack.reservedMatches_iff] at hp ⊢
      intro i
      have dues : LinesStay (fun l => l.claim.due i) r (r.goodStroke a n k) := .goodStroke numbered a n k (fun l ds => rfl)
      rw [Rack.reserved_congr (Rack.goodStroke_accounts r a n k), dues.lineSum]
      exact hp i
    | book k passed => exact Rack.book_reservedMatches passed hp
    | amend o l new order line passed => exact Rack.amend_reservedMatches order line passed numbered hp
    | retireOrder o order ended =>
      rw [Rack.reservedMatches_iff] at hp ⊢
      intro n
      rw [Rack.retireOrder_lineSum numbered order _ (fun l hl => ?_)]
      · exact hp n
      · have line := Rack.line_of_mem numbered (Rack.order_mem order) hl
        have final := queues.1.finished o.number l.number o _ order ended (Rack.standing_some line)
        have final' : l.state.isFinal = true := final
        simp [Claim.due, Line.claim, final']

/-- Queues and lines agree, and reservations with them. -/
abbrev Rack.queuesAndReserved (r : Rack) : Prop := r.queuesMatch ∧ r.reservedMatches

theorem Atom.queuesAndReserved {r r' : Rack} (h : Atom c r r') (hp : r.queuesAndReserved) : r'.queuesAndReserved :=
  ⟨queuesMatch_atom h hp.1, h.reservedMatches (QueuesAgree.iff.mp hp.1) hp.2⟩

theorem queuesAndReserved_invariant : RackInvariant Rack.queuesAndReserved := by
  refine .of_atoms Atom.queuesAndReserved (fun r arms _ hp => ?_) (fun inputs cal r hp => ?_)
  · have empty : r.emptyHeaders.queuesAndReserved := hp
    exact (r.restart_atoms arms).keep Atom.queuesAndReserved empty
  · refine ⟨(queuesAndBays_powerOn True inputs cal r).1, fun n => ?_⟩
    simp [Rack.powerOn, Rack.account?, Rack.presetsOf, Rack.allLines]

/-- Settles O58: an account's reserved moves where a claim on it does: at a booking, an amendment and the end of a line. -/
theorem reservedMatchesLines : Obligations.ReservedMatchesLines := by
  intro s t moved queues reserved
  exact (queuesAndReserved_invariant.step moved ⟨queues, reserved⟩).2

end Sys2Proof.Machine
end

section
/-! PROOF. What injector channels serve (O59, first part): a channel serves an entry of its own slot's additive, and only while its arm
bears the line. -/

namespace Sys2Proof.Machine

variable {c : Conditions}

/-! ### The dose entries of a line, with their slots -/

/-- The additive and the slot of each dose entry of a line. -/
def Line.fittings (l : Line) : List (AdditiveId × Option SlotId) := l.doses.map (fun d => (d.additive, d.slot))

def Rack.fittings (r : Rack) (n m : Nat) : Option (List (AdditiveId × Option SlotId)) := (r.line? n m).map Line.fittings

theorem Rack.fittings_some {r : Rack} {n m : Nat} {l : Line} (line : r.line? n m = some l) : r.fittings n m = some l.fittings := by
  simp [Rack.fittings, line]

theorem Rack.fittings_congr {r r' : Rack} (orders : r'.orders = r.orders) (n m : Nat) : r'.fittings n m = r.fittings n m := by
  simp [Rack.fittings, Rack.line_eq orders]

theorem Minor.fittings {r r' : Rack} (h : Minor r r') (n m : Nat) : r'.fittings n m = r.fittings n m := by
  have line : (r'.line? n m).map Line.erase = (r.line? n m).map Line.erase := by
    rw [← Rack.erase_line, ← Rack.erase_line, h]
  have erase : Line.fittings = Line.fittings ∘ Line.erase := by
    funext l
    simp only [Function.comp_apply, Line.fittings, Line.erase, List.map_map]
    rfl
  unfold Rack.fittings
  rw [erase, ← Option.map_map, ← Option.map_map, line]

theorem Rack.modLine_fittings (r : Rack) (n m : Nat) (f : Line → Line) (number : ∀ l, (f l).number = l.number) (k j : Nat) :
    (r.modLine n m f).fittings k j = if n = k ∧ m = j then (r.line? k j).map (fun l => (f l).fittings) else r.fittings k j := by
  unfold Rack.fittings
  rw [Rack.modLine_line r n m k j f number]
  split
  · rw [Option.map_map]
    rfl
  · rfl

/-- A change of a line that keeps additives and slots. -/
theorem Rack.modLine_fittings_same (r : Rack) (n m : Nat) (f : Line → Line) (number : ∀ l, (f l).number = l.number)
    (kept : ∀ l, (f l).fittings = l.fittings) (k j : Nat) : (r.modLine n m f).fittings k j = r.fittings k j := by
  rw [Rack.modLine_fittings r n m f number]
  split
  · simp only [kept]
    rfl
  · rfl

theorem Rack.modCurrentLine_fittings (r : Rack) (a : ArmId) (f : Line → Line) (number : ∀ l, (f l).number = l.number)
    (kept : ∀ l, (f l).fittings = l.fittings) (k j : Nat) : (r.modCurrentLine a f).fittings k j = r.fittings k j := by
  unfold Rack.modCurrentLine
  split
  · exact Rack.modLine_fittings_same r _ _ f number kept k j
  · rfl

theorem Line.finish_fittings (l : Line) (final : LineState) (cause : Option StopCause) (strokeOf : SlotId → Option Nat) :
    (l.finish final cause strokeOf).fittings = l.fittings := by
  simp [Line.fittings, Line.finish, Function.comp_def]

theorem Rack.endLineRecord_fittings (r : Rack) (n m : Nat) (final : LineState) (cause : Option StopCause) (k j : Nat) :
    (r.endLineRecord n m final cause).fittings k j = r.fittings k j := by
  cases line : r.line? n m with
  | none => rw [Rack.endLineRecord_none line]
  | some l =>
    rw [Rack.fittings_congr (Rack.endLineRecord_orders line final cause)]
    exact Rack.modLine_fittings_same r n m (fun x => x.finish final cause (r.strokesFor l)) (fun _ => rfl)
      (fun x => x.finish_fittings final cause _) k j

theorem Rack.goodStroke_fittings (r : Rack) (a : ArmId) (n : SlotId) (k : SlotConfig) (i j : Nat) :
    (r.goodStroke a n k).fittings i j = r.fittings i j := by
  unfold Rack.goodStroke
  split
  · rename_i place d _ _
    refine (Rack.fittings_congr rfl i j).trans (Rack.modCurrentLine_fittings (r.endStroke a n) a (fun l =>
      { l with doses := l.doses.modify place (fun d =>
        { d with dispensed := satAdd owedMax d.dispensed k.stroke, remaining := d.remaining - k.stroke }) }) (fun _ => rfl) (fun l => ?_) i j)
    exact map_modify_kept (f := fun d : DoseRecord =>
      { d with dispensed := satAdd owedMax d.dispensed k.stroke, remaining := d.remaining - k.stroke }) (fun _ => rfl) _ _
  · rfl

theorem Rack.amend_fittings (r : Rack) (o : Order) (l : Line) (new : Nat) (i j : Nat) : (r.amend o l new).fittings i j = r.fittings i j := by
  unfold Rack.amend
  rw [Rack.modLine_fittings_same _ _ _ _ (by exact fun _ => rfl)
    (by exact fun x => by simp [Line.fittings, Function.comp_def, DoseRecord.rebook])]
  refine Rack.fittings_congr ?_ i j
  rw [moveAdditives_tables]
  rfl

theorem OrderChanged.fittings {r r' : Rack} {o : Order} {f : Order → Order} (h : OrderChanged r r' o f) (n m : Nat) :
    r'.fittings n m = r.fittings n m := by
  simp [Rack.fittings, h.line]

/-! ### Arms and their channels -/

/-- The additive of an arm's slot. -/
def Arm.slotAdditive (x : Arm) (n : SlotId) : Option AdditiveId := (x.config.bind (fun k => k.slots[n])).map (fun k => k.additive)

/-- What an arm's channels serve, and what the lines of its queue name, agrees with its slots. -/
structure ArmDoses (fit : Nat → Nat → Option (List (AdditiveId × Option SlotId))) (x : Arm) (inj : SlotId → Injector) : Prop where
  differ : ∀ k, x.config = some k → k.slotsDiffer
  served : ∀ n j, (inj n).served = some j → x.state.isLineBearing = true ∧
    ∃ e f v, x.current = some e ∧ fit e.order e.line = some f ∧ f[j]? = some v ∧ x.slotAdditive n = some v.1
  phase : ∀ n, (inj n).phase ≠ .none → (inj n).served ≠ none ∧ x.state.isRunning = true
  queue : ∀ e ∈ x.queue, ∀ f, fit e.order e.line = some f → ∀ v ∈ f, ∀ n, v.2 = some n → x.slotAdditive n = some v.1

def Rack.dosesMatch (r : Rack) : Prop := ∀ a, ArmDoses r.fittings (r.arm a) (r.injector a)

section
variable {fit fit' : Nat → Nat → Option (List (AdditiveId × Option SlotId))} {x x' : Arm} {inj inj' : SlotId → Injector}

/-- The channels of an arm that bears no line serve nothing. -/
theorem ArmDoses.still (hp : ArmDoses fit x inj) (rests : x.state.isLineBearing = false) (n : SlotId) :
    (inj n).served = none ∧ (inj n).phase = .none := by
  have served : (inj n).served = none := by
    by_contra some
    obtain ⟨j, served⟩ := Option.ne_none_iff_exists'.mp some
    simp [(hp.served n j served).1] at rests
  refine ⟨served, ?_⟩
  by_contra inFlight
  exact (hp.phase n inFlight).1 served

/-- An arm that runs no line has no stroke in flight. -/
theorem ArmDoses.noStroke (hp : ArmDoses fit x inj) (still : x.state.isRunning = false) (n : SlotId) : (inj n).phase = .none := by
  by_contra inFlight
  simp [(hp.phase n inFlight).2] at still

/-- An arm that keeps its configuration, takes no new entry, and whose channels go on with what they served or give it up. -/
theorem ArmDoses.steady (hp : ArmDoses fit x inj) (config : x'.config = x.config)
    (queue : ∀ e ∈ x'.queue, e ∈ x.queue ∧ fit' e.order e.line = fit e.order e.line) (inside : ∀ e, x'.current = some e → e ∈ x'.queue)
    (served : ∀ n, (inj' n).served = none ∨
      ((inj' n).served = (inj n).served ∧ x'.current = x.current ∧ (x.state.isLineBearing = true → x'.state.isLineBearing = true)))
    (phase : ∀ n, (inj' n).phase ≠ .none → (inj' n).served ≠ none ∧ x'.state.isRunning = true) : ArmDoses fit' x' inj' where
  differ := config ▸ hp.differ
  served := fun n j is => by
    rcases served n with none | ⟨same, current, bears⟩
    · rw [none] at is
      cases is
    · obtain ⟨bearing, e, f, v, at', found, place, slot⟩ := hp.served n j (same ▸ is)
      have mem := inside e (current.trans at')
      refine ⟨bears bearing, e, f, v, current.trans at', (queue e mem).2.trans found, place, ?_⟩
      unfold Arm.slotAdditive
      rw [config]
      exact slot
  phase := phase
  queue := fun e he f found v hv n slot => by
    obtain ⟨old, same⟩ := queue e he
    have := hp.queue e old f (same ▸ found) v hv n slot
    unfold Arm.slotAdditive
    rw [config]
    exact this

/-- An arm whose channels serve nothing. -/
theorem ArmDoses.emptied (hp : ArmDoses fit x inj) (config : x'.config = x.config)
    (queue : ∀ e ∈ x'.queue, e ∈ x.queue ∧ fit' e.order e.line = fit e.order e.line)
    (still : ∀ n, (inj' n).served = none ∧ (inj' n).phase = .none) : ArmDoses fit' x' inj' where
  differ := config ▸ hp.differ
  served := fun n j is => by simp [(still n).1] at is
  phase := fun n inFlight => absurd (still n).2 inFlight
  queue := fun e he f found v hv n slot => by
    obtain ⟨old, same⟩ := queue e he
    have := hp.queue e old f (same ▸ found) v hv n slot
    unfold Arm.slotAdditive
    rw [config]
    exact this

theorem ArmState.bearing_iff {s : ArmState} : s.isLineBearing = true ↔ s.kind = .running ∨ s.kind = .suspended := by
  cases s <;> simp [ArmState.isLineBearing, ArmState.isRunning, ArmState.isFlow, ArmState.kind]

/-- Nothing of it changes. -/
theorem ArmDoses.alike (hp : ArmDoses fit x inj) (alike : ArmAlike x x') (config : x'.config = x.config)
    (inside : ∀ e, x.current = some e → e ∈ x.queue) (fits : ∀ e ∈ x.queue, fit' e.order e.line = fit e.order e.line)
    (channels : ∀ n, (inj' n).served = (inj n).served ∧ ((inj' n).phase ≠ .none → (inj n).phase ≠ .none)) : ArmDoses fit' x' inj' := by
  refine hp.steady config (fun e he => ?_) (fun e he => ?_) (fun n => .inr ⟨(channels n).1, alike.current, fun bears => ?_⟩)
    (fun n inFlight => ?_)
  · rw [alike.queue] at he
    exact ⟨he, fits e he⟩
  · rw [alike.current] at he
    exact alike.queue ▸ inside e he
  · rw [ArmState.bearing_iff, alike.kind, ← ArmState.bearing_iff]
    exact bears
  · obtain ⟨served, running⟩ := hp.phase n ((channels n).2 inFlight)
    refine ⟨(channels n).1 ▸ served, ?_⟩
    rw [← ArmState.kind_running, alike.kind, ArmState.kind_running]
    exact running
end

/-! ### What an atom does to one arm -/

/-- Every arm keeps configuration, queue, current entry and the kind of its state, no channel changes what it serves, and no stroke starts. -/
theorem Rack.dosesMatch_alike {r r' : Rack} (queues : QueuesAgree r) (hp : r.dosesMatch)
    (alike : ∀ b, ArmAlike (r.arm b) (r'.arm b) ∧ (r'.arm b).config = (r.arm b).config)
    (fits : ∀ b, ∀ e ∈ (r.arm b).queue, r'.fittings e.order e.line = r.fittings e.order e.line)
    (channels : ∀ b n, (r'.injector b n).served = (r.injector b n).served ∧
      ((r'.injector b n).phase ≠ .none → (r.injector b n).phase ≠ .none)) : r'.dosesMatch :=
  fun b => (hp b).alike (alike b).1 (alike b).2 (queues.1.holds b).current (fits b) (channels b)

/-- One arm changes; the others stay. -/
theorem Rack.dosesMatch_at {r r' : Rack} {a : ArmId} (queues : QueuesAgree r) (hp : r.dosesMatch)
    (others : ∀ b, b ≠ a → ArmAlike (r.arm b) (r'.arm b) ∧ (r'.arm b).config = (r.arm b).config)
    (fits : ∀ b, b ≠ a → ∀ e ∈ (r.arm b).queue, r'.fittings e.order e.line = r.fittings e.order e.line)
    (channels : ∀ b, b ≠ a → ∀ n, (r'.injector b n).served = (r.injector b n).served ∧
      ((r'.injector b n).phase ≠ .none → (r.injector b n).phase ≠ .none))
    (own : ArmDoses r'.fittings (r'.arm a) (r'.injector a)) : r'.dosesMatch := by
  intro b
  by_cases same : b = a
  · exact same ▸ own
  · exact (hp b).alike (others b same).1 (others b same).2 (queues.1.holds b).current (fits b same) (channels b same)

theorem Rack.injector_eq {r r' : Rack} (h : r'.injectors = r.injectors) (b : ArmId) (n : SlotId) : r'.injector b n = r.injector b n := by
  simp [Rack.injector, h]

theorem Minor.injector {r r' : Rack} (h : Minor r r') (b : ArmId) (n : SlotId) :
    (r'.injector b n).served = (r.injector b n).served ∧ ((r'.injector b n).phase = .none ↔ (r.injector b n).phase = .none) := by
  have read (s : Rack) : s.erase.injector b n = (s.injector b n).erase := by simp [Rack.erase, Rack.injector]
  have same : (r'.injector b n).erase = (r.injector b n).erase := by rw [← read, ← read, h]
  refine ⟨(congrArg Injector.served same :), ?_⟩
  have phase : (if (r'.injector b n).phase = .none then StrokePhase.none else .waitRise) =
      if (r.injector b n).phase = .none then StrokePhase.none else .waitRise := (congrArg Injector.phase same :)
  split_ifs at phase <;> simp_all

theorem Rack.beginInjectors_injector (r : Rack) (a : ArmId) (l : Line) (b : ArmId) (n : SlotId) :
    (r.beginInjectors a l).injector b n = if a = b then (r.injector b n).begin (servedPlace l n) else r.injector b n := by
  unfold Rack.beginInjectors overSlots
  simp only [Rack.modInjector_injector]
  by_cases same : a = b
  · subst same
    fin_cases n <;> simp
  · simp [same]

theorem ArmConfig.slotFor_some {k : ArmConfig} {x : AdditiveId} {n : SlotId} (h : k.slotFor x = some n) :
    (k.slots[n]).map (fun y => y.additive) = some x := by
  have found := List.find?_some h
  exact of_decide_eq_true found

/-- The dose entries of the lines in an arm's queue name slots of their own additives. -/
def Rack.queueFits (r : Rack) (b : ArmId) : Prop :=
  ∀ e ∈ (r.arm b).queue, ∀ f, r.fittings e.order e.line = some f → ∀ v ∈ f, ∀ n, v.2 = some n → (r.arm b).slotAdditive n = some v.1

/-- A PENDING line takes the slots of the arm whose queue it joins. -/
theorem QueuesHold.queueLine_fits {s : Rack} {n m : Nat} {a : ArmId} {addr : Nat} {p : Option ArmId} (hp : QueuesHold s)
    (pending : s.standing n m = some (p, .pending)) {b : ArmId} (fits : s.queueFits b) :
    ((s.modLine n m (Line.queueAt a (s.arm a).config)).modArm a (fun x => x.joinQueue n m addr)).queueFits b := by
  have fittings (k j : Nat) : ((s.modLine n m (Line.queueAt a (s.arm a).config)).modArm a (fun x => x.joinQueue n m addr)).fittings k j =
      if n = k ∧ m = j then (s.line? k j).map (fun l => (l.queueAt a (s.arm a).config).fittings) else s.fittings k j := by
    rw [Rack.fittings_congr (Rack.modArm_orders _ _ _), Rack.modLine_fittings s n m (Line.queueAt a (s.arm a).config) (fun _ => rfl)]
  have arm : ((s.modLine n m (Line.queueAt a (s.arm a).config)).modArm a (fun x => x.joinQueue n m addr)).arm b =
      if a = b then (s.arm b).joinQueue n m addr else s.arm b := by
    rw [Rack.modArm_arm]
    split
    · rename_i same
      subst same
      rfl
    · rfl
  have slots (k : SlotId) : (((s.modLine n m (Line.queueAt a (s.arm a).config)).modArm a (fun x => x.joinQueue n m addr)).arm b).slotAdditive k =
      (s.arm b).slotAdditive k := by
    rw [arm]
    split <;> rfl
  intro e he f found v hv k slot
  rw [slots]
  by_cases old : e ∈ (s.arm b).queue
  · rw [fittings, if_neg (hp.pending_notIn pending old)] at found
    exact fits e old f found v hv k slot
  · rw [arm] at he
    split at he
    · rename_i same
      subst same
      rcases List.mem_append.mp he with he | he
      · exact absurd he old
      · rw [List.mem_singleton.mp he, fittings, if_pos ⟨rfl, rfl⟩] at found
        obtain ⟨l, -, rfl⟩ := Option.map_eq_some_iff.mp found
        simp only [Line.fittings, Line.queueAt, List.map_map, List.mem_map, Function.comp_apply, DoseRecord.takeSlot] at hv
        obtain ⟨d, -, rfl⟩ := hv
        obtain ⟨g, config, named⟩ := Option.bind_eq_some_iff.mp slot
        unfold Arm.slotAdditive
        rw [config]
        exact ArmConfig.slotFor_some named
    · exact absurd he old

/-! ### The atoms, one by one -/

/-- Nothing but what is not read here changes. -/
theorem Rack.dosesMatch_of_eq {r r' : Rack} (queues : QueuesAgree r) (hp : r.dosesMatch) (arms : r'.arms = r.arms)
    (fits : ∀ b, ∀ e ∈ (r.arm b).queue, r'.fittings e.order e.line = r.fittings e.order e.line)
    (injectors : r'.injectors = r.injectors) : r'.dosesMatch :=
  Rack.dosesMatch_alike queues hp (fun b => ⟨.of_eq (Rack.arm_eq arms b), by rw [Rack.arm_eq arms b]⟩) fits
    (fun b n => by rw [Rack.injector_eq injectors]; exact ⟨rfl, id⟩)

/-- A rack that differs in what no invariant reads, and in the state of one arm. -/
theorem Rack.dosesMatch_restate {r r0 r1 : Rack} {a : ArmId} {new : ArmState} (queues : QueuesAgree r) (hp : r.dosesMatch)
    (started : Minor r0 r1) (arms : ∀ b, r0.arm b = r.arm b) (fits : ∀ n m, r0.fittings n m = r.fittings n m)
    (channels : ∀ b, b ≠ a → r0.injector b = r.injector b)
    (own : ∀ (y : Arm) (inj : SlotId → Injector), y.config = (r.arm a).config → y.queue = (r.arm a).queue → y.current = (r.arm a).current →
      y.state = new → (∀ n, (inj n).served = (r0.injector a n).served ∧ ((inj n).phase ≠ .none → (r0.injector a n).phase ≠ .none)) →
      ArmDoses r.fittings y inj) : (r1.setState c a new).dosesMatch := by
  have same (n m : Nat) : (r1.setState c a new).fittings n m = r.fittings n m :=
    (Rack.fittings_congr (Rack.setState_orders r1 c a new) n m).trans ((started.fittings n m).trans (fits n m))
  have config (b : ArmId) : ((r1.setState c a new).arm b).config = (r.arm b).config := by
    rw [Rack.setState_config, started.config, arms]
  have channel (b : ArmId) (n : SlotId) : ((r1.setState c a new).injector b n).served = (r0.injector b n).served ∧
      (((r1.setState c a new).injector b n).phase ≠ .none → (r0.injector b n).phase ≠ .none) := by
    rw [Rack.injector_eq (Rack.setState_injectors r1 c a new)]
    exact ⟨(started.injector b n).1, fun h is => h ((started.injector b n).2.mpr is)⟩
  refine Rack.dosesMatch_at queues hp (a := a) (fun b ne => ⟨?_, config b⟩) (fun b ne e he => same _ _) (fun b ne n => ?_) ?_
  · have minor := ArmAlike.minor started b
    rw [arms] at minor
    refine minor.trans (.of_eq ?_)
    rw [Rack.setState_arm, if_neg (fun h => ne h.1.symm)]
  · rw [← channels b ne]
    exact channel b n
  · have fit : (r1.setState c a new).fittings = r.fittings := funext (fun n => funext (same n))
    rw [fit]
    refine own _ _ (config a) ?_ ?_ (Rack.setState_state c r1 a new) (channel a)
    · rw [Rack.setState_queue, started.queue, arms]
    · rw [Rack.setState_current, started.current, arms]

theorem Rack.begin_dosesMatch {r r1 : Rack} {a : ArmId} {l : Line} (queues : QueuesAgree r) (hp : r.dosesMatch)
    (ready : (r.arm a).state = .ready) (line : r.currentLine a = some l)
    (started : Minor ((r.modCurrentLine a (Line.firstStart c)).beginInjectors a l) r1) : (r1.setState c a .lowStart).dosesMatch := by
  obtain ⟨e, o, current, -, found⟩ := Rack.currentLine_some line
  have mem := (queues.1.holds a).current e current
  have orders : ((r.modCurrentLine a (Line.firstStart c)).beginInjectors a l).orders = (r.modCurrentLine a (Line.firstStart c)).orders := by
    rw [Rack.beginInjectors_tables]
  refine Rack.dosesMatch_restate queues hp started (fun b => (Rack.beginInjectors_arm _ a b l).trans (Rack.modCurrentLine_arm r a b _))
    (fun n m => (Rack.fittings_congr orders n m).trans
      (Rack.modCurrentLine_fittings r a (Line.firstStart c) (fun _ => rfl) (fun _ => rfl) n m)) (fun b ne => ?_)
    (fun y inj config queue current' state channels => ?_)
  · funext n
    rw [Rack.beginInjectors_injector, if_neg (Ne.symm ne), Rack.injector_eq (Rack.modCurrentLine_injectors r a _)]
  · have channel (n : SlotId) : (inj n).served = servedPlace l n ∧ (inj n).phase = .none := by
      have begun := channels n
      rw [Rack.beginInjectors_injector, if_pos rfl, Rack.injector_eq (Rack.modCurrentLine_injectors r a _)] at begun
      refine ⟨begun.1, ?_⟩
      by_contra inFlight
      exact begun.2 inFlight ((hp a).noStroke (by rw [ready]; rfl) n)
    refine ⟨config ▸ (hp a).differ, fun n j served => ⟨by rw [state]; rfl, e, l.fittings, ?_⟩, fun n inFlight => absurd (channel n).2 inFlight,
      fun f hf => ?_⟩
    · rw [(channel n).1] at served
      obtain ⟨bound, is, -⟩ := List.findIdx?_eq_some_iff_getElem.mp served
      have fits := (hp a).queue e mem l.fittings (Rack.fittings_some found) (l.doses[j].additive, l.doses[j].slot)
        (List.mem_map_of_mem (List.getElem_mem bound)) n (of_decide_eq_true is)
      refine ⟨(l.doses[j].additive, l.doses[j].slot), current'.trans current, Rack.fittings_some found, ?_, ?_⟩
      · simp [Line.fittings, bound]
      · unfold Arm.slotAdditive
        rw [config]
        exact fits
    · rw [queue] at hf
      unfold Arm.slotAdditive
      rw [config]
      exact (hp a).queue f hf

theorem Rack.endQueued_dosesMatch {r : Rack} {a : ArmId} {n m : Nat} {cause : Option StopCause} (queues : QueuesAgree r) (hp : r.dosesMatch)
    (queues' : QueuesAgree ((r.endLineRecord n m .cancelled cause).dropQueued c a n m)) :
    ((r.endLineRecord n m .cancelled cause).dropQueued c a n m).dosesMatch := by
  have arm (b : ArmId) := r.endLineRecord_arm n m .cancelled cause b
  have fits (k j : Nat) : ((r.endLineRecord n m .cancelled cause).dropQueued c a n m).fittings k j = r.fittings k j :=
    (Rack.fittings_congr (Rack.dropQueued_orders _ c a n m) k j).trans (r.endLineRecord_fittings n m _ _ k j)
  have channel (b : ArmId) (k : SlotId) : ((r.endLineRecord n m .cancelled cause).dropQueued c a n m).injector b k = r.injector b k :=
    Rack.injector_eq (by simp) b k
  have config (b : ArmId) : (((r.endLineRecord n m .cancelled cause).dropQueued c a n m).arm b).config = (r.arm b).config := by
    rw [Rack.dropQueued_config, arm]
  have dropped : (((r.endLineRecord n m .cancelled cause).modArm a (fun x => x.dropEntry n m)).arm a) = (r.arm a).dropEntry n m := by
    rw [Rack.modArm_arm, if_pos rfl, arm]
  refine Rack.dosesMatch_at queues hp (a := a) (fun b ne => ⟨.of_eq ?_, config b⟩) (fun b ne e he => fits _ _)
    (fun b ne k => by rw [channel]; exact ⟨rfl, id⟩) ?_
  · rw [Rack.dropQueued_other _ a b n m ne, arm]
  · rcases Rack.dropQueued_cases (c := c) (r.endLineRecord n m .cancelled cause) a n m with ⟨ready, -, drop⟩ | ⟨-, drop⟩
    · rw [arm] at ready
      refine (hp a).emptied (config a) (fun e he => ⟨?_, fits _ _⟩) (fun k => ?_)
      · rw [drop, Rack.takeHead_queue, dropped] at he
        exact (Arm.dropEntry_mem.mp he).1
      · rw [channel]
        exact (hp a).still (by rw [ready]; rfl) k
    · have same : ((r.endLineRecord n m .cancelled cause).dropQueued c a n m).arm a = (r.arm a).dropEntry n m := by rw [drop, dropped]
      refine (hp a).steady (config a) (fun e he => ⟨?_, fits _ _⟩) (queues'.1.holds a).current
        (fun k => .inr ⟨by rw [channel], by rw [same]; rfl, by rw [same]; exact id⟩) (fun k inFlight => ?_)
      · rw [same] at he
        exact (Arm.dropEntry_mem.mp he).1
      · rw [channel] at inFlight ⊢
        rw [same]
        exact (hp a).phase k inFlight

theorem Rack.noStroke_iff {r : Rack} {a : ArmId} : r.noStroke a = true ↔ ∀ n, (r.injector a n).phase = .none := by
  simp only [Rack.noStroke, Vector.all_eq_true, decide_eq_true_eq]
  exact ⟨fun h n => h n.val n.isLt, fun h i hi => h ⟨i, hi⟩⟩

theorem Rack.endCurrent_dosesMatch {r : Rack} {a : ArmId} {final : LineState} {cause : Option StopCause} (queues : QueuesAgree r)
    (hp : r.dosesMatch) (bears : (r.arm a).state = .closing ∨ (r.arm a).state = .suspended)
    (still : (r.arm a).state = .closing → r.noStroke a = true) : (r.endCurrent c a final cause).dosesMatch := by
  cases current : (r.arm a).current with
  | none =>
    rw [Rack.endCurrent_none r current]
    exact hp
  | some e =>
    have idle (k : SlotId) : (r.injector a k).phase = .none := by
      rcases bears with closing | suspended
      · exact Rack.noStroke_iff.mp (still closing) k
      · exact (hp a).noStroke (by rw [suspended]; rfl) k
    have fits (k j : Nat) : (r.endCurrent c a final cause).fittings k j = r.fittings k j := by
      rw [Rack.endCurrent_some r current, Rack.fittings_congr (Rack.takeHead_orders _ c a)]
      exact r.endLineRecord_fittings e.order e.line final cause k j
    have channel (b : ArmId) (k : SlotId) : (r.endCurrent c a final cause).injector b k =
        if a = b then (r.injector b k).clear else r.injector b k := by
      rw [Rack.endCurrent_some r current, Rack.injector_eq (Rack.takeHead_injectors _ c a), Rack.giveUp, Rack.modInjectors_injector,
        Rack.modArm_injector_of, Rack.injector_eq (Rack.endLineRecord_injectors r _ _ _ _)]
    refine Rack.dosesMatch_at queues hp (a := a) (fun b ne => ⟨.of_eq (Rack.endCurrent_other r a b ne final cause), Rack.endCurrent_config r a b _ _⟩)
      (fun b ne e he => fits _ _) (fun b ne k => ?_) ((hp a).emptied (Rack.endCurrent_config r a a _ _) (fun f hf => ⟨?_, fits _ _⟩) (fun k => ?_))
    · rw [channel, if_neg (Ne.symm ne)]
      exact ⟨rfl, id⟩
    · rw [Rack.endCurrent_some r current, Rack.takeHead_queue, Rack.giveUp_arm, if_pos rfl, r.endLineRecord_arm] at hf
      exact (Arm.dropEntry_mem.mp hf).1
    · rw [channel, if_pos rfl]
      exact ⟨rfl, idle k⟩

/-- Lines of one arm's queue return to PENDING: the lines of the entries that stay, there and elsewhere, are as they were. -/
theorem returnLines_fittings (es : List QueueEntry) (r : Rack) (n m : Nat) (out : ∀ e ∈ es, ¬(e.order = n ∧ e.line = m)) :
    (returnLines es r).fittings n m = r.fittings n m := by
  induction es generalizing r with
  | nil => rfl
  | cons e rest ih =>
    unfold returnLines
    rw [ih _ (fun f hf => out f (List.mem_cons_of_mem _ hf)), Rack.modLine_fittings r e.order e.line Line.backToPending (fun _ => rfl),
      if_neg (out e (List.mem_cons_self ..))]

/-- Two entries of queues that name one line are one entry of one queue. -/
theorem QueuesHold.entry_unique {r : Rack} (hp : QueuesHold r) {a b : ArmId} {e f : QueueEntry} (he : e ∈ (r.arm a).queue)
    (hf : f ∈ (r.arm b).queue) (order : e.order = f.order) (line : e.line = f.line) : a = b ∧ e = f := by
  have first := (hp.holds a).entries e he
  have second := (hp.holds b).entries f hf
  rw [order, line, second, Option.some.injEq] at first
  have arms : b = a := Option.some.inj (congrArg Prod.fst first)
  subst arms
  exact ⟨rfl, (hp.holds b).entry_unique he hf order line⟩

theorem Rack.returnBehind_dosesMatch {r : Rack} {a : ArmId} (queues : QueuesAgree r) (hp : r.dosesMatch)
    (queues' : QueuesAgree (r.returnBehind a)) : (r.returnBehind a).dosesMatch := by
  have fits (b : ArmId) (e : QueueEntry) (he : e ∈ (r.arm b).queue) (stays : b = a → (r.arm a).current = some e) :
      (r.returnBehind a).fittings e.order e.line = r.fittings e.order e.line := by
    refine returnLines_fittings _ r _ _ (fun f hf => ?_)
    rintro ⟨order, line⟩
    obtain ⟨hf, behind⟩ := List.mem_filter.mp hf
    obtain ⟨same, is⟩ := queues.1.entry_unique hf he order line
    subst is
    exact Arm.isBehind_iff.mp behind (stays same.symm)
  have channel (b : ArmId) (k : SlotId) : (r.returnBehind a).injector b k = r.injector b k := by
    unfold Rack.returnBehind
    rw [Rack.modArm_injector_of, returnLines_tables]
    rfl
  have arm := r.returnBehind_arm a
  have own : (r.returnBehind a).arm a = { r.arm a with queue := (r.arm a).queue.filter (fun e => !((r.arm a).isBehind e)) } := by
    rw [arm, if_pos rfl]
  refine Rack.dosesMatch_at queues hp (a := a) (fun b ne => ?_) (fun b ne e he => fits b e he (fun same => absurd same ne))
    (fun b ne k => by rw [channel]; exact ⟨rfl, id⟩) ((hp a).steady (by rw [own]) (fun e he => ?_) (queues'.1.holds a).current
      (fun k => .inr ⟨by rw [channel], by rw [own], by rw [own]; exact id⟩) (fun k inFlight => ?_))
  · rw [arm, if_neg (Ne.symm ne)]
    exact ⟨.of_eq rfl, rfl⟩
  · rw [own] at he
    obtain ⟨he, stays⟩ := List.mem_filter.mp he
    refine ⟨he, fits a e he (fun _ => ?_)⟩
    simpa only [Bool.not_eq_true', ← Bool.not_eq_true, Arm.isBehind_iff, not_not] using stays
  · rw [channel] at inFlight ⊢
    rw [own]
    exact (hp a).phase k inFlight

theorem Rack.returnAll_config (r : Rack) (a b : ArmId) : ((r.returnAll c a).arm b).config = (r.arm b).config := by
  have arm (b : ArmId) : (returnLines (r.arm a).queue r).arm b = r.arm b := Rack.arm_eq (returnLines_arms r _) b
  unfold Rack.returnAll
  rw [Rack.enterIdle_config, Rack.modArm_arm]
  split
  · rename_i same
    rw [← same, arm]
  · rw [arm]

theorem Rack.returnAll_dosesMatch {r : Rack} {a : ArmId} (queues : QueuesAgree r) (hp : r.dosesMatch) (ready : (r.arm a).state = .ready) :
    (r.returnAll c a).dosesMatch := by
  have channel (b : ArmId) (k : SlotId) : (r.returnAll c a).injector b k = r.injector b k := by
    unfold Rack.returnAll
    rw [Rack.injector_eq (Rack.enterIdle_injectors _ c a), Rack.modArm_injector_of, returnLines_tables]
    rfl
  have config := r.returnAll_config (c := c) a
  have empty : ((r.returnAll c a).arm a).queue = [] := by
    unfold Rack.returnAll
    rw [Rack.enterIdle_queue, Rack.modArm_arm, if_pos rfl]
  have orders : (r.returnAll c a).orders = (returnLines (r.arm a).queue r).orders := by simp [Rack.returnAll]
  refine Rack.dosesMatch_at queues hp (a := a) (fun b ne => ⟨.of_eq (r.returnAll_other a b ne), config b⟩) (fun b ne e he => ?_)
    (fun b ne k => by rw [channel]; exact ⟨rfl, id⟩) ((hp a).emptied (config a) (fun e he => ?_) (fun k => ?_))
  · rw [Rack.fittings_congr orders]
    exact returnLines_fittings _ r _ _ (fun f hf same => ne (queues.1.entry_unique hf he same.1 same.2).1.symm)
  · rw [empty] at he
    cases he
  · rw [channel]
    exact (hp a).still (by rw [ready]; rfl) k

/-- A stroke starts or ends on one channel, which goes on serving what it served. -/
theorem Rack.stroke_dosesMatch {r r' : Rack} {a : ArmId} {n : SlotId} (queues : QueuesAgree r) (hp : r.dosesMatch) (arms : r'.arms = r.arms)
    (fits : ∀ k j, r'.fittings k j = r.fittings k j) (served : ∀ b m, (r'.injector b m).served = (r.injector b m).served)
    (phase : ∀ b m, (r'.injector b m).phase ≠ .none → (r.injector b m).phase ≠ .none ∨
      (b = a ∧ m = n ∧ (r.injector a n).served ≠ none ∧ (r.arm a).state.isRunning = true)) : r'.dosesMatch := by
  intro b
  have arm : r'.arm b = r.arm b := Rack.arm_eq arms b
  refine (hp b).steady (by rw [arm]) (fun e he => ⟨arm ▸ he, fits _ _⟩) (arm.symm ▸ (queues.1.holds b).current)
    (fun m => .inr ⟨served b m, by rw [arm], by rw [arm]; exact id⟩) (fun m inFlight => ?_)
  rw [served, arm]
  rcases phase b m inFlight with old | ⟨rfl, rfl, serves, running⟩
  · exact (hp b).phase m old
  · exact ⟨serves, running⟩

theorem Rack.startStroke_injector (r : Rack) (a : ArmId) (n : SlotId) (k : SlotConfig) (b : ArmId) (m : SlotId) :
    (r.startStroke c a n k).injector b m =
      if a = b ∧ n = m then { r.injector a n with owed := (r.injector a n).owed - 100 * k.stroke, phase := .waitRise, opened := some c.stamp,
                                                  riseTime := none } else r.injector b m := by
  unfold Rack.startStroke
  rw [Rack.modInjector_injector]
  rfl

/-- A stroke ends: the channel goes on serving, and nothing else starts. -/
theorem Rack.endStroke_channel (r : Rack) (a : ArmId) (n : SlotId) (b : ArmId) (m : SlotId) :
    ((r.endStroke a n).injector b m).served = (r.injector b m).served ∧
      (((r.endStroke a n).injector b m).phase ≠ .none → (r.injector b m).phase ≠ .none) := by
  unfold Rack.endStroke
  rw [Rack.modInjector_injector]
  split
  · rename_i is
    rw [← is.1, ← is.2]
    exact ⟨rfl, fun h => absurd rfl h⟩
  · exact ⟨rfl, id⟩

theorem Rack.goodStroke_channel (r : Rack) (a : ArmId) (n : SlotId) (k : SlotConfig) (b : ArmId) (m : SlotId) :
    ((r.goodStroke a n k).injector b m).served = (r.injector b m).served ∧
      (((r.goodStroke a n k).injector b m).phase ≠ .none → (r.injector b m).phase ≠ .none) := by
  unfold Rack.goodStroke
  split
  · rw [Rack.modInjector_injector, Rack.modAdditive_injector_of, Rack.modAdditive_injector_of, Rack.injector_eq (Rack.modDose_injectors _ _ _ _),
      Rack.injector_eq (Rack.modDose_injectors _ _ _ _)]
    have ended := r.endStroke_channel a n b m
    split
    · rename_i is
      obtain ⟨rfl, rfl⟩ := is
      exact ended
    · exact ended
  · exact r.endStroke_channel a n b m

/-- While lines are queued the arms keep their configurations and entries, and entries fit their slots. -/
structure Queuing (r s : Rack) : Prop where
  fits : ∀ a, s.queueFits a
  config : ∀ a, (s.arm a).config = (r.arm a).config
  entries : ∀ a, ∀ e ∈ (r.arm a).queue, e ∈ (s.arm a).queue ∧ s.fittings e.order e.line = r.fittings e.order e.line

theorem Queuing.one {r s : Rack} {n m : Nat} {a : ArmId} {addr : Nat} {p : Option ArmId} (hold : QueuesHold s)
    (pending : s.standing n m = some (p, .pending)) (kept : Queuing r s) :
    Queuing r ((s.modLine n m (Line.queueAt a (s.arm a).config)).modArm a (fun x => x.joinQueue n m addr)) := by
  refine ⟨fun d => hold.queueLine_fits pending (kept.fits d), fun d => ?_, fun d e he => ⟨?_, ?_⟩⟩
  · rw [Rack.modArm_arm]
    split
    · rename_i same
      subst same
      exact kept.config a
    · exact kept.config d
  · rw [Rack.modArm_arm]
    split
    · rename_i same
      subst same
      exact List.mem_append_left _ (kept.entries a e he).1
    · exact (kept.entries d e he).1
  · rw [Rack.fittings_congr (Rack.modArm_orders _ _ _), Rack.modLine_fittings s n m (Line.queueAt a (s.arm a).config) (fun _ => rfl),
      if_neg (hold.pending_notIn pending (kept.entries d e he).1)]
    exact (kept.entries d e he).2

theorem Rack.readyIfGiven_queue (r : Rack) (xs : List (Nat × ArmId)) (a d : ArmId) :
    ((r.readyIfGiven c xs a).arm d).queue = (r.arm d).queue := by
  rcases r.readyIfGiven_cases (c := c) xs a with ⟨-, same⟩ | ⟨-, same⟩ <;> rw [same]
  by_cases is : d = a
  · rw [is, Rack.takeHead_queue]
  · rw [Rack.takeHead_other _ _ _ _ is]

/-- An admission leaves channels and additives. -/
theorem Rack.admitOrder_dosing (r : Rack) (b : BayId) (p : Permit) (o : Order) (xs : List (Nat × ArmId)) :
    (r.admitOrder c b p o xs).injectors = r.injectors ∧ (r.admitOrder c b p o xs).additives = r.additives := by
  have ready (s : Rack) (a : ArmId) : (s.readyIfGiven c xs a).injectors = s.injectors ∧ (s.readyIfGiven c xs a).additives = s.additives := by
    rcases s.readyIfGiven_cases (c := c) xs a with ⟨-, same⟩ | ⟨-, same⟩ <;> rw [same] <;> simp
  rw [Rack.admitOrder_eq, (ready _ _).1, (ready _ _).1, (ready _ _).2, (ready _ _).2]
  simp only [Rack.admitted, Rack.modPermit_injectors, Rack.callBay_injectors, Rack.modBay_injectors, Rack.modOrder_injectors,
    Rack.modPermit_additives, Rack.callBay_additives, Rack.modBay_additives, Rack.modOrder_additives]
  rw [queueLines_tables]
  exact ⟨rfl, rfl⟩

theorem Rack.admitOrder_dosesMatch {r : Rack} {b : BayId} {p : Permit} {o : Order} {xs : List (Nat × ArmId)} (queues : QueuesAgree r)
    (hp : r.dosesMatch) (order : r.orderForCard b p.number = some o) (assigned : assignment r b o = .ok xs) :
    (r.admitOrder c b p o xs).dosesMatch := by
  obtain ⟨mem, -, -⟩ := Rack.orderForCard_some order
  obtain ⟨-, fitted, configs, old⟩ := queues.queueLines_keep (P := Queuing r) mem assigned
    (fun s m a addr q hold pending kept => kept.one hold pending) ⟨fun a => (hp a).queue, fun _ => rfl, fun a e he => ⟨he, rfl⟩⟩
  obtain ⟨q, changed⟩ := admitted_changed queues.1.numbered (b := b) (p := p) mem xs
  have fits (k j : Nat) : (r.admitOrder c b p o xs).fittings k j = (queueLines o.number xs r).fittings k j := by
    rw [← changed.fittings, Rack.admitOrder_eq, Rack.fittings_congr ((Rack.readyIfGiven_orders _ xs _).1.trans (Rack.readyIfGiven_orders _ xs _).1)]
  have channel (d : ArmId) (n : SlotId) : (r.admitOrder c b p o xs).injector d n = r.injector d n :=
    Rack.injector_eq (r.admitOrder_dosing b p o xs).1 d n
  have queue (d : ArmId) : ((r.admitOrder c b p o xs).arm d).queue = ((queueLines o.number xs r).arm d).queue := by
    rw [Rack.admitOrder_eq, Rack.readyIfGiven_queue, Rack.readyIfGiven_queue, Rack.admitted_arm]
  have config (d : ArmId) : ((r.admitOrder c b p o xs).arm d).config = (r.arm d).config := by
    rw [Rack.admitOrder_eq, Rack.readyIfGiven_config, Rack.readyIfGiven_config, Rack.admitted_arm, configs]
  have inQueue (d : ArmId) : (r.admitOrder c b p o xs).queueFits d := by
    intro e he f found v hv n slot
    rw [queue] at he
    rw [fits] at found
    have := fitted d e he f found v hv n slot
    unfold Arm.slotAdditive at this ⊢
    rw [config, ← configs]
    exact this
  intro d
  by_cases given : d ∈ xs.map (fun x => x.2)
  · have idle := (assignment_idle assigned given).2
    have still := (hp d).still (by rw [idle]; rfl)
    refine ⟨config d ▸ (hp d).differ, fun n j served => ?_, fun n inFlight => ?_, inQueue d⟩
    · rw [channel, (still n).1] at served
      cases served
    · rw [channel] at inFlight
      exact absurd (still n).2 inFlight
  · have arm : (r.admitOrder c b p o xs).arm d = r.arm d := by
      rw [r.admitOrder_notGiven b p o given, queueLines_other o.number xs r given]
    refine (hp d).alike (.of_eq arm) (config d) (queues.1.holds d).current (fun e he => (fits _ _).trans (old d e he).2)
      (fun n => by rw [channel]; exact ⟨rfl, id⟩)

theorem Atom.dosesMatch {r r' : Rack} (h : Atom c r r') (queues : QueuesAgree r) (hp : r.dosesMatch) : r'.dosesMatch := by
  have queues' := h.queuesAgree queues
  have arbiter {s : Rack} (acts : Arbitration c r s) (injectors : s.injectors = r.injectors) : s.dosesMatch :=
    Rack.dosesMatch_alike queues hp acts.alike (fun b e _ => Rack.fittings_congr acts.faces.2 _ _)
      (fun b n => by rw [Rack.injector_eq injectors]; exact ⟨rfl, id⟩)
  have restated (a : ArmId) (new : ArmState) (kind : new.kind = (r.arm a).state.kind) : (r.setState c a new).dosesMatch :=
    Rack.dosesMatch_alike queues hp (fun b => ⟨.setState r kind b, Rack.setState_config c r a b new⟩)
      (fun b e _ => Rack.fittings_congr (Rack.setState_orders r c a new) _ _)
      (fun b n => by rw [Rack.injector_eq (Rack.setState_injectors r c a new)]; exact ⟨rfl, id⟩)
  have same {s : Rack} (arms : s.arms = r.arms) (orders : s.orders = r.orders) (injectors : s.injectors = r.injectors) : s.dosesMatch :=
    Rack.dosesMatch_of_eq queues hp arms (fun b e _ => Rack.fittings_congr orders _ _) injectors
  have ended {s : Rack} (a : ArmId) (n : SlotId) (arms : s.arms = r.arms) (fits : ∀ i j, s.fittings i j = r.fittings i j)
      (channel : ∀ b m, (s.injector b m).served = (r.injector b m).served ∧ ((s.injector b m).phase ≠ .none → (r.injector b m).phase ≠ .none)) :
      s.dosesMatch :=
    Rack.stroke_dosesMatch queues hp (a := a) (n := n) arms fits (fun b m => (channel b m).1) (fun b m inFlight => .inl ((channel b m).2 inFlight))
  cases h with
  | minor h =>
    exact Rack.dosesMatch_alike queues hp (fun b => ⟨.minor h b, h.config b⟩) (fun b e _ => h.fittings _ _)
      (fun b n => ⟨(h.injector b n).1, fun inFlight is => inFlight ((h.injector b n).2.mpr is)⟩)
  | close a intent flow => exact arbiter (.close r a intent flow) (by simp)
  | toLowRun a low => exact restated a _ (by rw [low]; rfl)
  | leaveGrant a old stands asked => exact arbiter (.leaveGrant r a old stands asked) (by simp)
  | joinWaiting a low => exact arbiter (.joinWaiting r a low) (by simp)
  | rest a new rests still => exact restated a new ((ArmState.kind_resting.mpr still).trans (ArmState.kind_resting.mpr rests).symm)
  | forget a rests =>
    have none : (r.arm a).current = none := by
      by_contra some
      exact (queues.2 a).bears.mp some (ArmState.kind_resting.mpr rests)
    refine Rack.dosesMatch_alike queues hp (fun b => ?_) (fun b e _ => rfl) (fun b n => ⟨rfl, id⟩)
    rw [Rack.modArm_arm]
    split
    · rename_i is
      subst is
      exact ⟨⟨rfl, by rw [none], rfl⟩, rfl⟩
    · exact ⟨.of_eq rfl, rfl⟩
  | begin r1 a l ready line permitted normal started => exact Rack.begin_dosesMatch queues hp ready line started
  | resumed r1 a l new suspended line started goes =>
    have kind : new.kind = .running := by rcases goes with rfl | ⟨rfl, -⟩ <;> rfl
    refine Rack.dosesMatch_restate queues hp started (Rack.modCurrentLine_arm r a · _)
      (Rack.modCurrentLine_fittings r a _ (by exact fun _ => rfl) (by exact fun _ => rfl))
      (fun b ne => funext (Rack.injector_eq (Rack.modCurrentLine_injectors r a _) b)) (fun y inj config queue current state channels => ?_)
    refine (hp a).steady config (fun e he => ⟨queue ▸ he, rfl⟩) (fun e he => queue ▸ (queues.1.holds a).current e (current ▸ he))
      (fun n => .inr ⟨?_, current, fun _ => ArmState.bearing_iff.mpr (.inl (state ▸ kind))⟩) (fun n inFlight => ?_)
    · rw [(channels n).1, Rack.injector_eq (Rack.modCurrentLine_injectors r a _)]
    · have old := (channels n).2 inFlight
      rw [Rack.injector_eq (Rack.modCurrentLine_injectors r a _)] at old
      exact absurd ((hp a).noStroke (by rw [suspended]; rfl) n) old
  | suspend r1 a closing stopped still =>
    refine Rack.dosesMatch_restate queues hp stopped (Rack.modCurrentLine_arm r a · _)
      (Rack.modCurrentLine_fittings r a _ (by exact fun _ => rfl) (by exact fun _ => rfl))
      (fun b ne => funext (Rack.injector_eq (Rack.modCurrentLine_injectors r a _) b)) (fun y inj config queue current state channels => ?_)
    refine (hp a).steady config (fun e he => ⟨queue ▸ he, rfl⟩) (fun e he => queue ▸ (queues.1.holds a).current e (current ▸ he))
      (fun n => .inr ⟨?_, current, fun _ => by rw [state]; rfl⟩) (fun n inFlight => ?_)
    · rw [(channels n).1, Rack.injector_eq (Rack.modCurrentLine_injectors r a _)]
    · have old := (channels n).2 inFlight
      rw [Rack.injector_eq (Rack.modCurrentLine_injectors r a _)] at old
      exact absurd (Rack.noStroke_iff.mp still n) old
  | endPending n m l cause line pending =>
    exact Rack.dosesMatch_of_eq queues hp (Rack.endLineRecord_arms r n m _ _) (fun b e _ => r.endLineRecord_fittings n m _ _ _ _)
      (Rack.endLineRecord_injectors r n m _ _)
  | endQueued n m l a cause line queued arm => exact Rack.endQueued_dosesMatch queues hp queues'
  | endCurrent a final cause bears ended still => exact Rack.endCurrent_dosesMatch queues hp bears still
  | testOrder n =>
    rcases r.testOrder_cases (c := c) n with is | ⟨o, f, ended⟩
    · rw [is]
      exact hp
    · exact Rack.dosesMatch_of_eq queues hp (by simp) (fun b e _ => ended.fittings _ _) (by simp)
  | returnBehind a => exact Rack.returnBehind_dosesMatch queues hp queues'
  | returnAll a ready => exact Rack.returnAll_dosesMatch queues hp ready
  | startStroke a n k slot serves idle running covered =>
    have serving : (r.injector a n).served ≠ none := fun none => by simp [Rack.servedDose, none] at serves
    have channel (b : ArmId) (m : SlotId) := Rack.startStroke_injector (c := c) r a n k b m
    refine Rack.stroke_dosesMatch queues hp (a := a) (n := n) rfl (fun _ _ => rfl) (fun b m => ?_) (fun b m inFlight => ?_)
    · rw [channel]
      split
      · rename_i is
        rw [← is.1, ← is.2]
      · rfl
    · rw [channel] at inFlight
      split at inFlight
      · rename_i is
        exact .inr ⟨is.1.symm, is.2.symm, serving, running⟩
      · exact .inl inFlight
  | goodStroke a n k j d slot inFlight place serves =>
    exact ended a n (by simp) (r.goodStroke_fittings a n k) (r.goodStroke_channel a n k)
  | strokeLost a n k slot inFlight => exact ended a n rfl (fun _ _ => rfl) (r.endStroke_channel a n)
  | dropStroke a n none => exact ended a n rfl (fun _ _ => rfl) (r.endStroke_channel a n)
  | newPermit p _ _ => exact same rfl rfl rfl
  | retirePermit n _ => exact same rfl rfl rfl
  | newAccount x _ _ => exact same rfl rfl rfl
  | closeAccount x _ _ => exact same rfl rfl rfl
  | refill x n => exact same rfl rfl rfl
  | book k passed numbered =>
    obtain ⟨fresh, -⟩ := bookRefusal_order passed
    refine Rack.dosesMatch_of_eq queues hp rfl (fun b e he => ?_) rfl
    unfold Rack.fittings
    rw [Rack.book_line fresh, if_neg (queues.1.entry_old he fresh)]
  | amend o l new order line passed =>
    have injectors : (r.amend o l new).injectors = r.injectors := by
      unfold Rack.amend
      rw [moveAdditives_tables]
      rfl
    exact Rack.dosesMatch_of_eq queues hp (by simp [Rack.amend]) (fun b e _ => r.amend_fittings o l new _ _) injectors
  | retireOrder o order final =>
    refine Rack.dosesMatch_of_eq queues hp rfl (fun b e he => ?_) rfl
    unfold Rack.fittings Rack.line?
    rw [Rack.retireOrder_order, if_neg (queues.1.entry_open he order final)]
  | admitOrder b p o xs free order permit passed assigned => exact Rack.admitOrder_dosesMatch queues hp order assigned
  | configure a k differ still =>
    have rests : (r.arm a).state.kind = .resting := by rcases still with is | is <;> rw [is] <;> rfl
    have bears : (r.arm a).state.isLineBearing = false := by rcases still with is | is <;> rw [is] <;> rfl
    have arm (b : ArmId) : (r.configure a k).arm b = if a = b then (r.arm a).configure k else r.arm b := by
      unfold Rack.configure
      rw [Rack.modInjectors_arm_of, Rack.modArm_arm]
    have channel (b : ArmId) (n : SlotId) : ((r.configure a k).injector b n).served = (r.injector b n).served ∧
        ((r.configure a k).injector b n).phase = (r.injector b n).phase := by
      unfold Rack.configure
      rw [Rack.modInjectors_injector]
      split <;> exact ⟨rfl, rfl⟩
    refine Rack.dosesMatch_at queues hp (a := a) (fun b ne => ?_) (fun b ne e he => rfl)
      (fun b ne n => ⟨(channel b n).1, by rw [(channel b n).2]; exact id⟩) ⟨?_, fun n j served => ?_, fun n inFlight => ?_, fun e he => ?_⟩
    · rw [arm, if_neg (Ne.symm ne)]
      exact ⟨.of_eq rfl, rfl⟩
    · rw [arm, if_pos rfl]
      rintro g ⟨⟩
      exact differ
    · rw [(channel a n).1, ((hp a).still bears n).1] at served
      cases served
    · exact absurd ((channel a n).2.trans ((hp a).still bears n).2) inFlight
    · rw [arm, if_pos rfl] at he
      have he' : e ∈ (r.arm a).queue := he
      rw [(queues.2 a).rests rests] at he'
      cases he'
  | setCapacity h cap =>
    refine arbiter (.setCapacity r h cap) ?_
    unfold Machine.setCapacity
    dsimp only
    split <;> simp

/-! ### The agreement as it is stated -/

theorem Rack.slotConfig_additive (r : Rack) (a : ArmId) (n : SlotId) :
    (r.slotConfig a n).map (fun k => k.additive) = (r.arm a).slotAdditive n := rfl

theorem Rack.servedDose_additive {r : Rack} {a : ArmId} {n : SlotId} {d : DoseRecord} (h : r.servedDose a n = some d) :
    ∃ j e l, (r.injector a n).served = some j ∧ (r.arm a).current = some e ∧ r.line? e.order e.line = some l ∧ l.doses[j]? = some d := by
  obtain ⟨j, served, h⟩ := Option.bind_eq_some_iff.mp h
  obtain ⟨l, line, place⟩ := Option.bind_eq_some_iff.mp h
  obtain ⟨e, o, current, -, found⟩ := Rack.currentLine_some line
  exact ⟨j, e, l, served, current, found, place⟩

/-- The agreement of channels, queues and slots, as the statement writes it. -/
theorem Rack.dosesMatch_iff (r : Rack) : r.dosesMatch ↔ (∀ a, ∀ c ∈ (r.arm a).config, c.slotsDiffer) ∧
    ∀ a n,
      ((r.injector a n).served ≠ none → (r.arm a).state.isLineBearing = true ∧
        ((r.servedDose a n).map (fun d => d.additive)).isSome = true ∧
        (r.servedDose a n).map (fun d => d.additive) = (r.slotConfig a n).map (fun k => k.additive)) ∧
      ((r.injector a n).phase ≠ .none → (r.injector a n).served ≠ none ∧ (r.arm a).state.isRunning = true) ∧
      ∀ e ∈ (r.arm a).queue, ∀ l ∈ r.line? e.order e.line, ∀ d ∈ l.doses, d.slot = some n →
        (r.slotConfig a n).map (fun k => k.additive) = some d.additive := by
  constructor
  · intro hp
    refine ⟨fun a => (hp a).differ, fun a n => ⟨fun some => ?_, (hp a).phase n, fun e he l line d hd slot => ?_⟩⟩
    · obtain ⟨j, served⟩ := Option.ne_none_iff_exists'.mp some
      obtain ⟨bears, e, f, v, current, found, place, slot⟩ := (hp a).served n j served
      obtain ⟨l, line, rfl⟩ := Option.map_eq_some_iff.mp found
      rw [Line.fittings, List.getElem?_map] at place
      obtain ⟨d, dose, rfl⟩ := Option.map_eq_some_iff.mp place
      have dose' : r.servedDose a n = Option.some d := by
        simp [Rack.servedDose, served, Rack.currentLine, current, line, dose]
      rw [dose', Rack.slotConfig_additive, slot]
      exact ⟨bears, rfl, rfl⟩
    · exact (hp a).queue e he l.fittings (Rack.fittings_some line) (d.additive, d.slot) (List.mem_map_of_mem hd) n slot
  · rintro ⟨differ, arms⟩ a
    refine ⟨differ a, fun n j served => ?_, fun n => (arms a n).2.1, fun e he f found v hv n slot => ?_⟩
    · obtain ⟨bears, isSome, same⟩ := (arms a n).1 (by rw [served]; simp)
      obtain ⟨x, dose⟩ := Option.isSome_iff_exists.mp isSome
      obtain ⟨d, dose', rfl⟩ := Option.map_eq_some_iff.mp dose
      obtain ⟨j', e, l, served', current, line, place⟩ := Rack.servedDose_additive dose'
      cases served.symm.trans served'
      refine ⟨bears, e, l.fittings, (d.additive, d.slot), current, Rack.fittings_some line, ?_, ?_⟩
      · rw [Line.fittings, List.getElem?_map, place]
        rfl
      · rw [← Rack.slotConfig_additive, ← same, dose']
        rfl
    · obtain ⟨l, line, rfl⟩ := Option.map_eq_some_iff.mp found
      obtain ⟨d, hd, rfl⟩ := List.mem_map.mp hv
      exact (arms a n).2.2 e he l line d hd slot

end Sys2Proof.Machine
end

section
/-! PROOF. Reservations and strokes of additives (O59, second part): what is reserved for lines that are not final, and what is in flight. -/

namespace Sys2Proof.Machine

variable {c : Conditions}

/-! ### What is reserved of an additive -/

/-- What a dose entry claims of an additive. -/
def owedBy (x : AdditiveId) (d : AdditiveId × Nat) : Nat := if decide (d.1 = x) then d.2 else 0

/-- What a line that is not final claims of an additive. -/
def Claim.owed (x : AdditiveId) (y : Claim) : Nat := if !y.final then (y.doses.map (owedBy x)).sum else 0

theorem Rack.remainingOf_eq (r : Rack) (x : AdditiveId) : r.remainingOf x = r.lineSum (fun l => l.claim.owed x) := by
  rw [Rack.remainingOf, sum_filter_map, Rack.lineSum_allLines]
  congr 1
  funext l
  simp only [Claim.owed, Line.claim, sum_filter_map, List.map_map]
  rfl

def Rack.additivesReserved (r : Rack) : Prop := ∀ x, (r.additive x).reserved = r.lineSum (fun l => l.claim.owed x)

theorem Line.owed_live {l : Line} (live : l.state.isFinal = false) (x : AdditiveId) :
    l.claim.owed x = (l.doses.map (fun d => owedBy x (d.additive, d.remaining))).sum := by
  simp only [Claim.owed, Line.claim, live, Bool.not_false, if_true, List.map_map]
  rfl

theorem releaseAdditives_reserved (ds : List DoseRecord) (r : Rack) (x : AdditiveId) :
    ((releaseAdditives ds r).additive x).reserved =
      (r.additive x).reserved - (ds.map (fun d => owedBy x (d.additive, d.remaining))).sum := by
  induction ds generalizing r with
  | nil => rfl
  | cons d rest ih =>
    unfold releaseAdditives
    rw [ih, Rack.modAdditive_additive, List.map_cons, List.sum_cons]
    by_cases same : d.additive = x
    · subst same
      simp only [if_true, owedBy, decide_true]
      omega
    · simp [same, owedBy]

theorem LineEnded.additivesReserved {r r' : Rack} {n m : Nat} {l : Line} (h : LineEnded r r' n m l) (numbered : r.numbered)
    (hp : r.additivesReserved) : r'.additivesReserved := by
  obtain ⟨line, live, ⟨final, cause, strokeOf, ended, orders⟩, -, additives⟩ := h
  intro x
  have reserved : (r'.additive x).reserved = (r.additive x).reserved - l.claim.owed x := by
    have same : r'.additive x = (releaseAdditives l.doses r).additive x := by simp [Rack.additive, additives]
    rw [same, releaseAdditives_reserved, Line.owed_live live]
  have sum : r'.lineSum (fun l => l.claim.owed x) = (r.modLine n m (fun x => x.finish final cause strokeOf)).lineSum (fun l => l.claim.owed x) := by
    simp only [Rack.lineSum, orders]
  have changed := Rack.lineSum_modLine numbered line (fun x => x.finish final cause strokeOf) (fun l => l.claim.owed x)
  have after : (l.finish final cause strokeOf).claim.owed x = 0 := by simp [Claim.owed, Line.claim, Line.finish, ended]
  have := hp x
  rw [after] at changed
  rw [reserved, sum]
  omega

theorem moveAdditives_reserved (new : Nat) (ds : List DoseRecord) (r : Rack) (x : AdditiveId)
    (covered : (ds.map (fun d => owedBy x (d.additive, d.remaining))).sum ≤ (r.additive x).reserved) :
    ((moveAdditives new ds r).additive x).reserved + (ds.map (fun d => owedBy x (d.additive, d.remaining))).sum =
      (r.additive x).reserved + (ds.map (fun d => owedBy x (d.additive, d.need new))).sum := by
  induction ds generalizing r with
  | nil => rfl
  | cons d rest ih =>
    unfold moveAdditives
    simp only [List.map_cons, List.sum_cons] at covered ⊢
    have moved : ((r.modAdditive d.additive (fun x => { x with reserved := x.reserved + d.need new - d.remaining })).additive x).reserved =
        if d.additive = x then (r.additive x).reserved + d.need new - d.remaining else (r.additive x).reserved := by
      rw [Rack.modAdditive_additive]
      split
      · rename_i same
        rw [same]
      · rfl
    by_cases same : d.additive = x
    · rw [if_pos same] at moved
      simp only [owedBy, same, decide_true, if_true] at covered ih ⊢
      have := ih (r.modAdditive d.additive (fun x => { x with reserved := x.reserved + d.need new - d.remaining })) (by rw [moved]; omega)
      rw [same] at this moved
      rw [moved] at this
      omega
    · rw [if_neg same] at moved
      simp only [owedBy, same, decide_false, Bool.false_eq_true, if_false, Nat.zero_add] at covered ih ⊢
      have := ih (r.modAdditive d.additive (fun x => { x with reserved := x.reserved + d.need new - d.remaining })) (by rw [moved]; exact covered)
      rw [moved] at this
      exact this

theorem Rack.amend_additivesReserved {r : Rack} {o : Order} {l : Line} {new : Nat} (order : r.order? o.number = some o)
    (line : o.line? l.number = some l) (passed : amendRefusal r o l new = none) (numbered : r.numbered) (hp : r.additivesReserved) :
    (r.amend o l new).additivesReserved := by
  obtain ⟨state, -, -⟩ := amendRefusal_none passed
  have live : l.state.isFinal = false := by rcases state with h | h <;> rw [h] <;> rfl
  have line' : r.line? o.number l.number = some l := (Rack.line_of_order order).trans line
  intro x
  have additive : (r.amend o l new).additive x = (moveAdditives new l.doses r).additive x := rfl
  have sum : (r.amend o l new).lineSum (fun l => l.claim.owed x) =
      (r.modLine o.number l.number (fun y => { y with preset := new, doses := y.doses.map (DoseRecord.rebook new) })).lineSum
        (fun l => l.claim.owed x) := by
    have orders : (r.amend o l new).orders =
        (r.modLine o.number l.number (fun y => { y with preset := new, doses := y.doses.map (DoseRecord.rebook new) })).orders := by
      unfold Rack.amend
      rw [moveAdditives_tables]
      rfl
    simp only [Rack.lineSum, orders]
  have changed := Rack.lineSum_modLine numbered line' (fun y => { y with preset := new, doses := y.doses.map (DoseRecord.rebook new) })
    (fun l => l.claim.owed x)
  have part := Rack.le_lineSum line' (fun l => l.claim.owed x)
  have after : (Line.claim { l with preset := new, doses := l.doses.map (DoseRecord.rebook new) }).owed x =
      (l.doses.map (fun d => owedBy x (d.additive, d.need new))).sum := by
    rw [Line.owed_live (by exact live)]
    simp only [List.map_map]
    rfl
  rw [after] at changed
  rw [Line.owed_live live] at changed part
  rw [← hp x] at part
  have moved := moveAdditives_reserved new l.doses r x part
  have := hp x
  rw [additive, sum]
  omega

theorem Rack.book_additivesReserved {r : Rack} {k : Booking} (passed : bookRefusal c r k = none) (hp : r.additivesReserved) :
    (r.book c k).additivesReserved := by
  intro x
  have booked : ((r.book c k).additive x).reserved = (r.additive x).reserved + k.additiveNeed c x := by
    simp [Rack.book, Rack.additive, Booking.reserveAdditives]
  rw [Rack.book_lineSum, bookedLines_sum passed (fun l => l.claim.owed x) (lineNeed c x) (fun b y low found => ?_), booked, hp x,
    Booking.additiveNeed]
  rw [Line.owed_live rfl]
  simp only [lineNeed, dosesOf, found, Option.map_some, Option.getD_some, sum_filter_map, newLine, List.map_map]
  rfl

/-- One element of a list is changed, by its place. -/
theorem sum_modify {α : Type} (w : α → Nat) (f : α → α) {xs : List α} {i : Nat} {x : α} (place : xs[i]? = some x) :
    ((xs.modify i f).map w).sum + w x = (xs.map w).sum + w (f x) := by
  induction xs generalizing i with
  | nil => cases place
  | cons y rest ih =>
    cases i with
    | zero =>
      cases place
      simp only [List.modify_zero_cons, List.map_cons, List.sum_cons]
      omega
    | succ i =>
      have := ih place
      simp only [List.modify_succ_cons, List.map_cons, List.sum_cons]
      omega

theorem Rack.goodStroke_additive {r : Rack} {a : ArmId} {n : SlotId} {k : SlotConfig} {j : Nat} {d : DoseRecord}
    (place : (r.injector a n).served = some j) (serves : r.servedDose a n = some d) (x : AdditiveId) :
    (r.goodStroke a n k).additive x = if k.additive = x then
      { r.additive x with stock := (r.additive x).stock - k.stroke, inFlight := (r.additive x).inFlight - k.stroke
                          reserved := (r.additive x).reserved - d.drawn k.stroke } else r.additive x := by
  have base (y : AdditiveId) (f : DoseRecord → DoseRecord) : ((r.endStroke a n).modDose a j f).additive y = r.additive y := by
    simp [Rack.additive]
  unfold Rack.goodStroke
  rw [place, serves]
  dsimp only
  rw [Rack.modInjector_additive_of, Rack.modAdditive_additive, base, base]
  split
  · rename_i same
    rw [same]
  · rfl

theorem Rack.goodStroke_orders {r : Rack} {a : ArmId} {n : SlotId} {k : SlotConfig} {j : Nat} {d : DoseRecord} {e : QueueEntry}
    (place : (r.injector a n).served = some j) (serves : r.servedDose a n = some d) (current : (r.arm a).current = some e) :
    (r.goodStroke a n k).orders = (r.modLine e.order e.line (fun l => { l with doses := l.doses.modify j (fun d =>
      { d with dispensed := satAdd owedMax d.dispensed k.stroke, remaining := d.remaining - k.stroke }) })).orders := by
  have current' : ((r.endStroke a n).arm a).current = some e := current
  unfold Rack.goodStroke
  rw [place, serves]
  unfold Rack.modDose Rack.modCurrentLine
  rw [current']
  rfl

theorem Rack.goodStroke_additivesReserved {r : Rack} {a : ArmId} {n : SlotId} {k : SlotConfig} {j : Nat} {d : DoseRecord}
    (queues : QueuesAgree r) (doses : r.dosesMatch) (slot : r.slotConfig a n = some k) (place : (r.injector a n).served = some j)
    (serves : r.servedDose a n = some d) (hp : r.additivesReserved) : (r.goodStroke a n k).additivesReserved := by
  obtain ⟨j', e, l, served, current, line, dose⟩ := Rack.servedDose_additive serves
  cases place.symm.trans served
  have live := queues.current_live (a := a) (l := l) (by simp [Rack.currentLine, current, line])
  have additive : d.additive = k.additive := by
    have same := ((Rack.dosesMatch_iff r).mp doses).2 a n |>.1 (by rw [place]; simp)
    rw [serves, slot] at same
    exact Option.some.inj same.2.2
  intro x
  have sum : (r.goodStroke a n k).lineSum (fun l => l.claim.owed x) = (r.modLine e.order e.line (fun l => { l with doses := l.doses.modify j (fun d =>
      { d with dispensed := satAdd owedMax d.dispensed k.stroke, remaining := d.remaining - k.stroke }) })).lineSum (fun l => l.claim.owed x) := by
    simp only [Rack.lineSum, Rack.goodStroke_orders place serves current]
  have changed := Rack.lineSum_modLine queues.1.numbered line (fun l => { l with doses := l.doses.modify j (fun d =>
      { d with dispensed := satAdd owedMax d.dispensed k.stroke, remaining := d.remaining - k.stroke }) }) (fun l => l.claim.owed x)
  have drawn := sum_modify (fun d : DoseRecord => owedBy x (d.additive, d.remaining)) (fun d =>
      { d with dispensed := satAdd owedMax d.dispensed k.stroke, remaining := d.remaining - k.stroke }) dose
  rw [Line.owed_live live, Line.owed_live (by exact live)] at changed
  have := hp x
  rw [Rack.goodStroke_additive place serves, sum]
  simp only [owedBy, additive] at changed drawn
  by_cases same : k.additive = x
  · simp only [same, decide_true, if_true, DoseRecord.drawn] at changed drawn ⊢
    omega
  · simp only [same, decide_false, Bool.false_eq_true, if_false] at changed drawn ⊢
    omega

theorem Atom.additivesReserved {r r' : Rack} (h : Atom c r r') (queues : QueuesAgree r) (doses : r.dosesMatch)
    (hp : r.additivesReserved) : r'.additivesReserved := by
  have numbered := queues.1.numbered
  rcases h.reserves queues with stay | act
  · intro x
    rw [stay.additive, (stay.claims.reading (Claim.owed x)).lineSum]
    exact hp x
  · cases act with
    | ended ended => exact ended.additivesReserved numbered hp
    | goodStroke a n k j d slot inFlight place serves => exact Rack.goodStroke_additivesReserved queues doses slot place serves hp
    | book k passed => exact Rack.book_additivesReserved passed hp
    | amend o l new order line passed => exact Rack.amend_additivesReserved order line passed numbered hp
    | retireOrder o order ended =>
      intro x
      rw [Rack.retireOrder_lineSum numbered order _ (fun l hl => ?_)]
      · exact hp x
      · have line := Rack.line_of_mem numbered (Rack.order_mem order) hl
        have final : l.state.isFinal = true := queues.1.finished o.number l.number o _ order ended (Rack.standing_some line)
        simp [Claim.owed, Line.claim, final]

/-! ### Strokes in flight -/

/-- The channels of the rack. -/
def allSlotsOfArms : List (ArmId × SlotId) := allArms.flatMap (fun a => allSlots.map (fun n => (a, n)))

theorem allSlotsOfArms_mem (a : ArmId) (n : SlotId) : (a, n) ∈ allSlotsOfArms := by
  revert a n
  decide

theorem allSlotsOfArms_nodup : allSlotsOfArms.Nodup := by decide

theorem Rack.strokesOf_eq (r : Rack) (x : AdditiveId) : r.strokesOf x = (allSlotsOfArms.map (fun p => r.strokeVolume x p.1 p.2)).sum := by
  simp only [Rack.strokesOf, allSlotsOfArms, List.map_flatMap, List.map_map]
  rfl

/-- One term of a sum is changed. -/
theorem sum_change {α : Type} {xs : List α} (nodup : xs.Nodup) {x : α} (mem : x ∈ xs) {v w : α → Nat} (others : ∀ y, y ≠ x → w y = v y) :
    (xs.map w).sum + v x = (xs.map v).sum + w x := by
  induction xs with
  | nil => cases mem
  | cons y rest ih =>
    obtain ⟨fresh, tail⟩ := List.nodup_cons.mp nodup
    simp only [List.map_cons, List.sum_cons]
    rcases List.mem_cons.mp mem with rfl | mem
    · have same : rest.map w = rest.map v := List.map_congr_left (fun z hz => others z (fun is => fresh (is ▸ hz)))
      rw [same]
      omega
    · rw [others y (fun is => fresh (is ▸ mem))]
      have := ih tail mem
      omega

/-- What is in flight of an additive is the volume of the strokes in flight and no more than its stock. -/
structure StrokesCovered (r : Rack) : Prop where
  inFlight : ∀ x, (r.additive x).inFlight = r.strokesOf x
  covered : ∀ x, (r.additive x).inFlight ≤ (r.additive x).stock
  bounded : ∀ x, (r.additive x).stock ≤ 999999999

/-- Configurations, strokes, stocks and what is in flight are as they were. -/
structure StrokesStay (r r' : Rack) : Prop where
  volume : ∀ x a n, r'.strokeVolume x a n = r.strokeVolume x a n
  stock : ∀ x, (r'.additive x).stock = (r.additive x).stock
  inFlight : ∀ x, (r'.additive x).inFlight = (r.additive x).inFlight

theorem StrokesStay.covered {r r' : Rack} (h : StrokesStay r r') (hp : StrokesCovered r) : StrokesCovered r' where
  inFlight := fun x => by
    rw [h.inFlight, hp.inFlight, Rack.strokesOf_eq, Rack.strokesOf_eq]
    simp only [h.volume]
  covered := fun x => by
    rw [h.inFlight, h.stock]
    exact hp.covered x
  bounded := fun x => by
    rw [h.stock]
    exact hp.bounded x

theorem Rack.strokeVolume_congr {r r' : Rack} {a : ArmId} {n : SlotId} (config : (r'.arm a).config = (r.arm a).config)
    (phase : (r'.injector a n).phase = .none ↔ (r.injector a n).phase = .none) (x : AdditiveId) :
    r'.strokeVolume x a n = r.strokeVolume x a n := by
  have slot : r'.slotConfig a n = r.slotConfig a n := by simp [Rack.slotConfig, config]
  unfold Rack.strokeVolume
  rw [slot]
  cases r.slotConfig a n with
  | none => rfl
  | some k => simp only [Ne, phase]

/-- A stroke starts or ends on one channel alone. -/
theorem Rack.strokesOf_change {r r' : Rack} {a : ArmId} {n : SlotId} {x : AdditiveId}
    (others : ∀ p : ArmId × SlotId, p ≠ (a, n) → r'.strokeVolume x p.1 p.2 = r.strokeVolume x p.1 p.2) :
    r'.strokesOf x + r.strokeVolume x a n = r.strokesOf x + r'.strokeVolume x a n := by
  rw [Rack.strokesOf_eq, Rack.strokesOf_eq]
  exact sum_change allSlotsOfArms_nodup (allSlotsOfArms_mem a n) (v := fun p => r.strokeVolume x p.1 p.2)
    (w := fun p => r'.strokeVolume x p.1 p.2) others

theorem Rack.strokeVolume_some {r : Rack} {a : ArmId} {n : SlotId} {k : SlotConfig} (slot : r.slotConfig a n = some k) (x : AdditiveId) :
    r.strokeVolume x a n = if k.additive = x ∧ (r.injector a n).phase ≠ .none then k.stroke else 0 := by
  unfold Rack.strokeVolume
  rw [slot]

/-- Other channels than the one that a stroke starts or ends on. -/
theorem Rack.strokeVolume_other {r r' : Rack} {a : ArmId} {n : SlotId} (arms : r'.arms = r.arms)
    (channels : ∀ b m, ¬(a = b ∧ n = m) → (r'.injector b m).phase = (r.injector b m).phase) (x : AdditiveId) (p : ArmId × SlotId)
    (ne : p ≠ (a, n)) : r'.strokeVolume x p.1 p.2 = r.strokeVolume x p.1 p.2 := by
  refine Rack.strokeVolume_congr (by rw [Rack.arm_eq arms]) ?_ x
  rw [channels p.1 p.2 (fun same => ne (Prod.ext same.1.symm same.2.symm))]

theorem StrokesCovered.start {r : Rack} {a : ArmId} {n : SlotId} {k : SlotConfig} (hp : StrokesCovered r)
    (slot : r.slotConfig a n = some k) (idle : (r.injector a n).phase = .none)
    (covered : (r.additive k.additive).inFlight + k.stroke ≤ (r.additive k.additive).stock) : StrokesCovered (r.startStroke c a n k) := by
  have additive (x : AdditiveId) : (r.startStroke c a n k).additive x =
      if k.additive = x then { r.additive x with inFlight := (r.additive x).inFlight + k.stroke } else r.additive x := by
    unfold Rack.startStroke
    rw [Rack.modInjector_additive_of, Rack.modAdditive_additive]
    split
    · rename_i same
      rw [same]
    · rfl
  refine ⟨fun x => ?_, fun x => ?_, fun x => ?_⟩
  · have changed := Rack.strokesOf_change (r := r) (r' := r.startStroke c a n k) (a := a) (n := n) (x := x)
      (Rack.strokeVolume_other (r := r) (r' := r.startStroke c a n k) rfl (fun b m ne => by rw [Rack.startStroke_injector (c := c), if_neg ne]) x)
    have slot' : (r.startStroke c a n k).slotConfig a n = some k := slot
    have begun : ((r.startStroke c a n k).injector a n).phase = .waitRise := by rw [Rack.startStroke_injector, if_pos ⟨rfl, rfl⟩]
    rw [Rack.strokeVolume_some slot, Rack.strokeVolume_some slot', idle, begun] at changed
    have := hp.inFlight x
    rw [additive]
    by_cases same : k.additive = x <;> simp [same] at changed ⊢ <;> omega
  · rw [additive]
    split
    · rename_i same
      rw [← same]
      exact covered
    · exact hp.covered x
  · rw [additive]
    split <;> exact hp.bounded x

/-- A stroke ends, and its volume leaves what is in flight, and the stock where it was GOOD. -/
theorem StrokesCovered.finish {r r' : Rack} {a : ArmId} {n : SlotId} {k : SlotConfig} (hp : StrokesCovered r)
    (slot : r.slotConfig a n = some k) (inFlight : (r.injector a n).phase ≠ .none) (arms : r'.arms = r.arms)
    (channels : ∀ b m, (r'.injector b m).phase = if a = b ∧ n = m then .none else (r.injector b m).phase)
    (flight : ∀ x, (r'.additive x).inFlight = if k.additive = x then (r.additive x).inFlight - k.stroke else (r.additive x).inFlight)
    (stock : ∀ x, (r'.additive x).stock = (r.additive x).stock ∨
      (k.additive = x ∧ (r'.additive x).stock = (r.additive x).stock - k.stroke)) : StrokesCovered r' := by
  refine ⟨fun x => ?_, fun x => ?_, fun x => ?_⟩
  · have changed := Rack.strokesOf_change (r := r) (r' := r') (a := a) (n := n) (x := x)
      (Rack.strokeVolume_other arms (fun b m ne => by rw [channels, if_neg ne]) x)
    have slot' : r'.slotConfig a n = some k := by
      unfold Rack.slotConfig
      rw [Rack.arm_eq arms]
      exact slot
    have ended : (r'.injector a n).phase = .none := by rw [channels, if_pos ⟨rfl, rfl⟩]
    rw [Rack.strokeVolume_some slot, Rack.strokeVolume_some slot', ended] at changed
    have := hp.inFlight x
    rw [flight]
    by_cases same : k.additive = x <;> simp [same, inFlight] at changed ⊢ <;> omega
  · have := hp.covered x
    have := flight x
    rcases stock x with same | ⟨is, less⟩
    · split at this <;> omega
    · rw [if_pos is] at this
      omega
  · have := hp.bounded x
    rcases stock x with same | ⟨-, less⟩ <;> omega

theorem releaseAdditives_stocks (ds : List DoseRecord) (r : Rack) (x : AdditiveId) :
    ((releaseAdditives ds r).additive x).stock = (r.additive x).stock ∧
      ((releaseAdditives ds r).additive x).inFlight = (r.additive x).inFlight := by
  induction ds generalizing r with
  | nil => exact ⟨rfl, rfl⟩
  | cons d rest ih =>
    unfold releaseAdditives
    obtain ⟨stock, inFlight⟩ := ih (r.modAdditive d.additive (fun x => { x with reserved := x.reserved - d.remaining }))
    rw [stock, inFlight, Rack.modAdditive_additive]
    split
    · rename_i same
      rw [same]
      exact ⟨rfl, rfl⟩
    · exact ⟨rfl, rfl⟩

theorem moveAdditives_stocks (new : Nat) (ds : List DoseRecord) (r : Rack) (x : AdditiveId) :
    ((moveAdditives new ds r).additive x).stock = (r.additive x).stock ∧
      ((moveAdditives new ds r).additive x).inFlight = (r.additive x).inFlight := by
  induction ds generalizing r with
  | nil => exact ⟨rfl, rfl⟩
  | cons d rest ih =>
    unfold moveAdditives
    obtain ⟨stock, inFlight⟩ := ih (r.modAdditive d.additive (fun x => { x with reserved := x.reserved + d.need new - d.remaining }))
    rw [stock, inFlight, Rack.modAdditive_additive]
    split
    · rename_i same
      rw [same]
      exact ⟨rfl, rfl⟩
    · exact ⟨rfl, rfl⟩

/-- A line that ends gives up reservations, not stock. -/
theorem Rack.endLineRecord_stocks (r : Rack) (n m : Nat) (final : LineState) (cause : Option StopCause) (x : AdditiveId) :
    ((r.endLineRecord n m final cause).additive x).stock = (r.additive x).stock ∧
      ((r.endLineRecord n m final cause).additive x).inFlight = (r.additive x).inFlight := by
  cases line : r.line? n m with
  | none =>
    rw [Rack.endLineRecord_none line]
    exact ⟨rfl, rfl⟩
  | some l =>
    obtain ⟨o, order, -⟩ := Rack.line_order line
    have same : (r.endLineRecord n m final cause).additive x =
        (releaseAdditives l.doses (r.modLine n m (fun x => x.finish final cause (r.strokesFor l)))).additive x := by
      rw [Rack.endLineRecord_some order line]
      simp [Rack.additive]
    rw [same]
    exact releaseAdditives_stocks l.doses (r.modLine n m (fun x => x.finish final cause (r.strokesFor l))) x

theorem Minor.strokes {r r' : Rack} (h : Minor r r') : StrokesStay r r' :=
  ⟨fun x a n => Rack.strokeVolume_congr (h.config a) (h.injector a n).2 x, fun x => (congrArg Additive.stock (h.additive x) :),
    fun x => (congrArg Additive.inFlight (h.additive x) :)⟩

theorem StrokesStay.trans {r s t : Rack} (h : StrokesStay r s) (g : StrokesStay s t) : StrokesStay r t :=
  ⟨fun x a n => (g.volume x a n).trans (h.volume x a n), fun x => (g.stock x).trans (h.stock x), fun x => (g.inFlight x).trans (h.inFlight x)⟩

/-- Channels and additives are as they were, and so is every configuration. -/
theorem StrokesStay.of_eq {r r' : Rack} (configs : ∀ b, (r'.arm b).config = (r.arm b).config) (injectors : r'.injectors = r.injectors)
    (additives : r'.additives = r.additives) : StrokesStay r r' :=
  ⟨fun x a n => Rack.strokeVolume_congr (configs a) (by rw [Rack.injector_eq injectors]) x, fun x => by simp [Rack.additive, additives],
    fun x => by simp [Rack.additive, additives]⟩

theorem StrokesStay.endLineRecord (r : Rack) (n m : Nat) (final : LineState) (cause : Option StopCause) :
    StrokesStay r (r.endLineRecord n m final cause) :=
  ⟨fun x a k => Rack.strokeVolume_congr (by rw [r.endLineRecord_arm]) (by rw [Rack.injector_eq (Rack.endLineRecord_injectors r _ _ _ _)]) x,
    fun x => (r.endLineRecord_stocks n m final cause x).1, fun x => (r.endLineRecord_stocks n m final cause x).2⟩

theorem Rack.endStroke_phase (r : Rack) (a : ArmId) (n : SlotId) (b : ArmId) (m : SlotId) :
    ((r.endStroke a n).injector b m).phase = if a = b ∧ n = m then .none else (r.injector b m).phase := by
  unfold Rack.endStroke
  rw [Rack.modInjector_injector]
  split <;> rfl

theorem Rack.goodStroke_phase (r : Rack) (a : ArmId) (n : SlotId) (k : SlotConfig) (b : ArmId) (m : SlotId) :
    ((r.goodStroke a n k).injector b m).phase = if a = b ∧ n = m then .none else (r.injector b m).phase := by
  rw [← r.endStroke_phase a n b m]
  unfold Rack.goodStroke
  split
  · rw [Rack.modInjector_injector, Rack.modAdditive_injector_of, Rack.modAdditive_injector_of, Rack.injector_eq (Rack.modDose_injectors _ _ _ _),
      Rack.injector_eq (Rack.modDose_injectors _ _ _ _)]
    split
    · rename_i is
      rw [is.1, is.2]
    · rfl
  · rfl

/-- An atom leaves strokes and stocks as they were, or starts or ends a stroke, takes a configuration or refills a stock. -/
inductive StrokeAct (c : Conditions) : Rack → Rack → Prop
  | start (r : Rack) (a : ArmId) (n : SlotId) (k : SlotConfig) (slot : r.slotConfig a n = some k) (idle : (r.injector a n).phase = .none)
      (covered : (r.additive k.additive).inFlight + k.stroke ≤ (r.additive k.additive).stock) : StrokeAct c r (r.startStroke c a n k)
  | good (r : Rack) (a : ArmId) (n : SlotId) (k : SlotConfig) (j : Nat) (d : DoseRecord) (slot : r.slotConfig a n = some k)
      (inFlight : (r.injector a n).phase ≠ .none) (place : (r.injector a n).served = some j) (serves : r.servedDose a n = some d) :
      StrokeAct c r (r.goodStroke a n k)
  | lost (r : Rack) (a : ArmId) (n : SlotId) (k : SlotConfig) (slot : r.slotConfig a n = some k) (inFlight : (r.injector a n).phase ≠ .none) :
      StrokeAct c r ((r.endStroke a n).modAdditive k.additive (fun x => { x with inFlight := x.inFlight - k.stroke }))
  | drop (r : Rack) (a : ArmId) (n : SlotId) (none : r.servedDose a n = none) : StrokeAct c r (r.endStroke a n)
  | configure (r : Rack) (a : ArmId) (k : ArmConfig) (still : (r.arm a).state = .idle ∨ (r.arm a).state = .outOfService) :
      StrokeAct c r (r.configure a k)
  | refill (r : Rack) (x : AdditiveId) (n : Nat) : StrokeAct c r (r.modAdditive x (Additive.refill n))

theorem Atom.strokes {r r' : Rack} (h : Atom c r r') : StrokesStay r r' ∨ StrokeAct c r r' := by
  have eq {s : Rack} (configs : ∀ b, (s.arm b).config = (r.arm b).config) (injectors : s.injectors = r.injectors)
      (additives : s.additives = r.additives) : StrokesStay r s ∨ StrokeAct c r s := .inl (.of_eq configs injectors additives)
  have set {s : Rack} (a : ArmId) (new : ArmState) (before : StrokesStay r s) : StrokesStay r (s.setState c a new) :=
    before.trans (.of_eq (fun b => Rack.setState_config c s a b new) (by simp) (by simp))
  have restated {s : Rack} (a : ArmId) (f : Line → Line) (started : Minor (r.modCurrentLine a f) s) : StrokesStay r s :=
    (StrokesStay.of_eq (fun b => by rw [Rack.modCurrentLine_arm]) (by simp) (by simp)).trans started.strokes
  cases h with
  | minor h => exact .inl h.strokes
  | close a intent flow => exact eq (fun b => ((Arbitration.close r a intent flow (c := c)).alike b).2) (by simp) (by simp)
  | toLowRun a low => exact .inl (set a _ (.of_eq (fun _ => rfl) rfl rfl))
  | leaveGrant a old stands asked => exact eq (fun b => ((Arbitration.leaveGrant r a old stands asked (c := c)).alike b).2) (by simp) (by simp)
  | joinWaiting a low => exact eq (fun b => ((Arbitration.joinWaiting r a low (c := c)).alike b).2) (by simp) (by simp)
  | rest a new _ _ => exact .inl (set a _ (.of_eq (fun _ => rfl) rfl rfl))
  | forget a rests =>
    refine eq (fun b => ?_) rfl rfl
    rw [Rack.modArm_arm]
    split
    · rename_i same
      rw [same]
    · rfl
  | begin r1 a l _ _ _ _ started =>
    have begun : StrokesStay r ((r.modCurrentLine a (Line.firstStart c)).beginInjectors a l) := by
      refine ⟨fun x b n => Rack.strokeVolume_congr ?_ ?_ x, fun x => ?_, fun x => ?_⟩
      · rw [Rack.beginInjectors_arm, Rack.modCurrentLine_arm]
      · rw [Rack.beginInjectors_injector, Rack.injector_eq (Rack.modCurrentLine_injectors r a _)]
        split <;> exact Iff.rfl
      · rw [Rack.beginInjectors_tables]
        simp [Rack.additive]
      · rw [Rack.beginInjectors_tables]
        simp [Rack.additive]
    exact .inl (set a _ (begun.trans started.strokes))
  | resumed r1 a l new _ _ started _ => exact .inl (set a _ (restated a _ started))
  | suspend r1 a _ stopped _ => exact .inl (set a _ (restated a _ stopped))
  | endPending n m l cause _ _ => exact .inl (.endLineRecord r n m _ _)
  | endQueued n m l a cause _ _ _ =>
    exact .inl ((StrokesStay.endLineRecord r n m .cancelled cause).trans (.of_eq (fun b => Rack.dropQueued_config _ a b n m) (by simp) (by simp)))
  | endCurrent a final cause _ _ _ =>
    cases current : (r.arm a).current with
    | none =>
      rw [Rack.endCurrent_none r current]
      exact eq (fun _ => rfl) rfl rfl
    | some e =>
      rw [Rack.endCurrent_some r current]
      have ended := StrokesStay.endLineRecord r e.order e.line final cause
      have given (s : Rack) : StrokesStay s (s.giveUp a e) := by
        refine ⟨fun x b n => Rack.strokeVolume_congr ?_ ?_ x, fun x => ?_, fun x => ?_⟩
        · rw [Rack.giveUp_arm]
          split
          · rename_i same
            rw [same]
            rfl
          · rfl
        · unfold Rack.giveUp
          rw [Rack.modInjectors_injector, Rack.modArm_injector_of]
          split <;> exact Iff.rfl
        · simp [Rack.giveUp]
        · simp [Rack.giveUp]
      exact .inl ((ended.trans (given _)).trans (.of_eq (fun b => Rack.takeHead_config _ a b) (by simp) (by simp)))
  | testOrder n => exact eq (fun b => by rw [Rack.arm_eq (Rack.testOrder_arms r c n)]) (by simp) (by simp)
  | returnBehind a =>
    have tables := returnLines_tables r ((r.arm a).queue.filter (r.arm a).isBehind)
    refine eq (fun b => ?_) (congrArg Rack.injectors tables :) (congrArg Rack.additives tables :)
    rw [Rack.returnBehind_arm]
    split
    · rename_i same
      rw [same]
    · rfl
  | returnAll a ready =>
    have tables := returnLines_tables r (r.arm a).queue
    refine eq (fun b => ?_) ?_ ?_
    · exact r.returnAll_config a b
    · simp only [Rack.returnAll, Rack.enterIdle_injectors, Rack.modArm_injectors]
      exact (congrArg Rack.injectors tables :)
    · simp only [Rack.returnAll, Rack.enterIdle_additives, Rack.modArm_additives]
      exact (congrArg Rack.additives tables :)
  | startStroke a n k slot serves idle running covered => exact .inr (.start r a n k slot idle covered)
  | goodStroke a n k j d slot inFlight place serves => exact .inr (.good r a n k j d slot inFlight place serves)
  | strokeLost a n k slot inFlight => exact .inr (.lost r a n k slot inFlight)
  | dropStroke a n none => exact .inr (.drop r a n none)
  | newPermit p _ _ => exact eq (fun _ => rfl) rfl rfl
  | retirePermit n _ => exact eq (fun _ => rfl) rfl rfl
  | newAccount x _ _ => exact eq (fun _ => rfl) rfl rfl
  | closeAccount x _ _ => exact eq (fun _ => rfl) rfl rfl
  | refill x n => exact .inr (.refill r x n)
  | book k _ _ =>
    refine .inl ⟨fun _ _ _ => rfl, fun x => ?_, fun x => ?_⟩
    · simp [Rack.book, Rack.additive, Booking.reserveAdditives]
    · simp [Rack.book, Rack.additive, Booking.reserveAdditives]
  | amend o l new _ _ _ =>
    have injectors : (r.amend o l new).injectors = r.injectors := by
      unfold Rack.amend
      rw [moveAdditives_tables]
      rfl
    have additive (x : AdditiveId) : (r.amend o l new).additive x = (moveAdditives new l.doses r).additive x := rfl
    refine .inl ⟨fun x b n => Rack.strokeVolume_congr ?_ (by rw [Rack.injector_eq injectors]) x, fun x => ?_, fun x => ?_⟩
    · rw [Rack.arm_eq (show (r.amend o l new).arms = r.arms by simp [Rack.amend])]
    · rw [additive, (moveAdditives_stocks new l.doses r x).1]
    · rw [additive, (moveAdditives_stocks new l.doses r x).2]
  | retireOrder o _ _ => exact eq (fun _ => rfl) rfl rfl
  | admitOrder b p o xs _ _ _ _ _ =>
    obtain ⟨injectors, additives⟩ := r.admitOrder_dosing (c := c) b p o xs
    refine eq (fun d => ?_) injectors additives
    rw [Rack.admitOrder_eq, Rack.readyIfGiven_config, Rack.readyIfGiven_config, Rack.admitted_arm, queueLines_arm]
  | configure a k differ still => exact .inr (.configure r a k still)
  | setCapacity h cap =>
    refine eq (fun b => ((Arbitration.setCapacity r h cap (c := c)).alike b).2) ?_ ?_
    · unfold Machine.setCapacity
      dsimp only
      split <;> simp
    · unfold Machine.setCapacity
      dsimp only
      split <;> simp

theorem StrokesCovered.act {r r' : Rack} (act : StrokeAct c r r') (doses : r.dosesMatch) (hp : StrokesCovered r) : StrokesCovered r' := by
  cases act with
  | start a n k slot idle covered => exact hp.start slot idle covered
  | good a n k j d slot inFlight place serves =>
    refine hp.finish slot inFlight (by simp) (r.goodStroke_phase a n k) (fun x => ?_) (fun x => ?_)
    · rw [Rack.goodStroke_additive place serves]
      split <;> rfl
    · rw [Rack.goodStroke_additive place serves]
      split
      · rename_i same
        exact .inr ⟨same, rfl⟩
      · exact .inl rfl
  | lost a n k slot inFlight =>
    refine hp.finish slot inFlight rfl (fun b m => ?_) (fun x => ?_) (fun x => .inl ?_)
    · rw [Rack.modAdditive_injector_of]
      exact r.endStroke_phase a n b m
    · rw [Rack.modAdditive_additive]
      split
      · rename_i same
        rw [same]
        rfl
      · rfl
    · rw [Rack.modAdditive_additive]
      split
      · rename_i same
        rw [same]
        rfl
      · rfl
  | drop a n none =>
    have idle : (r.injector a n).phase = .none := by
      by_contra inFlight
      have serving := ((doses a).phase n inFlight).1
      have serves := ((Rack.dosesMatch_iff r).mp doses).2 a n |>.1 serving
      rw [none] at serves
      cases serves.2.1
    refine StrokesStay.covered (r := r) ⟨fun x b m => Rack.strokeVolume_congr (r := r) (r' := r.endStroke a n) rfl ?_ x, fun _ => rfl, fun _ => rfl⟩ hp
    rw [r.endStroke_phase]
    split
    · rename_i same
      rw [← same.1, ← same.2]
      exact ⟨fun _ => idle, fun _ => rfl⟩
    · exact Iff.rfl
  | configure a k still =>
    have bears : (r.arm a).state.isLineBearing = false := by rcases still with is | is <;> rw [is] <;> rfl
    have channel (b : ArmId) (n : SlotId) : ((r.configure a k).injector b n).phase = (r.injector b n).phase := by
      unfold Rack.configure
      rw [Rack.modInjectors_injector]
      split <;> rfl
    refine StrokesStay.covered (r := r) ⟨fun x b n => ?_, fun _ => rfl, fun _ => rfl⟩ hp
    by_cases same : b = a
    · subst same
      have idle := ((doses b).still bears n).2
      unfold Rack.strokeVolume
      rw [channel, idle]
      cases (r.configure b k).slotConfig b n <;> cases r.slotConfig b n <;> simp
    · refine Rack.strokeVolume_congr ?_ (by rw [channel]) x
      unfold Rack.configure
      rw [Rack.modInjectors_arm_of, Rack.modArm_arm, if_neg (Ne.symm same)]
  | refill y n =>
    have more (x : AdditiveId) : ((r.modAdditive y (Additive.refill n)).additive x).inFlight = (r.additive x).inFlight ∧
        (r.additive x).stock ≤ ((r.modAdditive y (Additive.refill n)).additive x).stock ∧
        ((r.modAdditive y (Additive.refill n)).additive x).stock ≤ 999999999 := by
      have := hp.bounded x
      rw [Rack.modAdditive_additive]
      split
      · rename_i same
        subst same
        refine ⟨rfl, ?_, ?_⟩ <;> simp only [Additive.refill, satAdd, stockMax] <;> omega
      · exact ⟨rfl, le_refl _, this⟩
    exact ⟨fun x => (more x).1.trans (hp.inFlight x), fun x => (more x).1.trans_le ((hp.covered x).trans (more x).2.1), fun x => (more x).2.2⟩

theorem Atom.strokesCovered {r r' : Rack} (h : Atom c r r') (doses : r.dosesMatch) (hp : StrokesCovered r) : StrokesCovered r' := by
  rcases h.strokes with stay | act
  · exact stay.covered hp
  · exact hp.act act doses

/-! ### Every step -/

theorem Rack.additivesMatch_iff (r : Rack) : r.additivesMatch ↔ r.additivesReserved ∧ StrokesCovered r ∧ r.dosesMatch := by
  have reserved : r.additivesReserved ↔ ∀ x, (r.additive x).reserved = r.remainingOf x := by
    simp only [Rack.additivesReserved, Rack.remainingOf_eq]
  rw [reserved, Rack.dosesMatch_iff]
  constructor
  · rintro ⟨tables, doses⟩
    exact ⟨fun x => (tables x).1, ⟨fun x => (tables x).2.1, fun x => (tables x).2.2.1, fun x => (tables x).2.2.2⟩, doses⟩
  · rintro ⟨reserved, strokes, doses⟩
    exact ⟨fun x => ⟨reserved x, strokes.inFlight x, strokes.covered x, strokes.bounded x⟩, doses⟩

/-- Queues and lines agree, and additives with them. -/
abbrev Rack.queuesAndAdditives (r : Rack) : Prop := r.queuesMatch ∧ r.additivesMatch

theorem Atom.queuesAndAdditives {r r' : Rack} (h : Atom c r r') (hp : r.queuesAndAdditives) : r'.queuesAndAdditives := by
  have queues := QueuesAgree.iff.mp hp.1
  obtain ⟨reserved, strokes, doses⟩ := r.additivesMatch_iff.mp hp.2
  exact ⟨queuesMatch_atom h hp.1,
    r'.additivesMatch_iff.mpr ⟨h.additivesReserved queues doses reserved, h.strokesCovered doses strokes, h.dosesMatch queues doses⟩⟩

theorem additivesMatch_powerOn (inputs : InputLevels) (cal : CalStore) (r : Rack) : (r.powerOn inputs cal).additivesMatch := by
  have injector (a : ArmId) (n : SlotId) : ((r.powerOn inputs cal).injector a n).served = none ∧
      ((r.powerOn inputs cal).injector a n).phase = .none := by
    simp [Rack.powerOn, Rack.injector, Injector.fresh]
  have additive (x : AdditiveId) : (r.powerOn inputs cal).additive x = .zero := by simp [Rack.powerOn, Rack.additive]
  refine Rack.additivesMatch_iff _ |>.mpr ⟨fun x => ?_, ⟨fun x => ?_, fun x => ?_, fun x => ?_⟩, fun a => ?_⟩
  · rw [additive]
    simp [Rack.lineSum, Rack.powerOn, Additive.zero]
  · rw [additive, Rack.strokesOf_eq]
    refine (List.sum_eq_zero (fun v hv => ?_)).symm
    obtain ⟨p, -, rfl⟩ := List.mem_map.mp hv
    simp [Rack.strokeVolume, Rack.slotConfig, Rack.powerOn_arm, Arm.fresh]
  · rw [additive]
    simp [Additive.zero]
  · rw [additive]
    simp [Additive.zero]
  · rw [Rack.powerOn_arm]
    refine ⟨fun k config => ?_, fun n j served => ?_, fun n inFlight => ?_, fun e he => ?_⟩
    · cases config
    · rw [(injector a n).1] at served
      cases served
    · exact absurd (injector a n).2 inFlight
    · cases he

theorem queuesAndAdditives_invariant : RackInvariant Rack.queuesAndAdditives := by
  refine .of_atoms Atom.queuesAndAdditives (fun r arms _ hp => ?_) (fun inputs cal r hp => ?_)
  · have empty : r.emptyHeaders.queuesAndAdditives := hp
    exact (r.restart_atoms arms).keep Atom.queuesAndAdditives empty
  · exact ⟨(queuesAndBays_powerOn True inputs cal r).1, additivesMatch_powerOn inputs cal r⟩

/-- Settles O59: reservations of an additive move with the claims of lines, what is in flight moves with the strokes, and a channel serves
the entry whose slot its line took at the admission. -/
theorem additivesMatchLines : Obligations.AdditivesMatchLines := by
  intro s t moved queues additives
  exact (queuesAndAdditives_invariant.step moved ⟨queues, additives⟩).2

end Sys2Proof.Machine
end

section
/-! PROOF. One step (tier 1), what every owner keeps, and that a refusal changes nothing (R182). -/

namespace Sys2Proof.Machine

/-- Settles O1: by what the queue holds. -/
theorem stepTakesFrontCommand : Obligations.StepTakesFrontCommand := by
  refine ⟨fun c rest s queue => ?_, fun s queue => ?_⟩ <;> unfold step <;> rw [queue]

/-! ### What every owner keeps, whatever it answers -/

/-- An owner leaves the queue of waiting commands and the receivers, takes no rack out of its mode but where it may resume it at an INACTIVE
input (R164), and changes nothing when it refuses (R182). -/
structure Tidy (resumes : Prop) (s : State) (x : State × Reply) : Prop where
  pending : x.1.pending = s.pending
  panelRx : x.1.panelRx = s.panelRx
  mode : x.1.cond.mode = s.cond.mode ∨ resumes ∧ s.cond.emergencyStop = false
  refused : ∀ why, x.2 = .refused why → x.1 = s

theorem Tidy.ok {resumes : Prop} {s t : State} {fields : OkFields} (hp : t.pending = s.pending) (hr : t.panelRx = s.panelRx)
    (hm : t.cond.mode = s.cond.mode) : Tidy resumes s (t, .ok fields) := ⟨hp, hr, .inl hm, nofun⟩

theorem Tidy.same (resumes : Prop) (s : State) (reply : Reply) : Tidy resumes s (s, reply) := ⟨rfl, rfl, .inl rfl, fun _ _ => rfl⟩

/-- An owner is tidy in every state. -/
def Answer.Tidy (answer : Answer) (resumes : Prop) : Prop := ∀ s, Machine.Tidy resumes s (answer s)

variable {resumes : Prop}

theorem refuse_tidy (status : Status) (named : Named) : (refuse status named).Tidy resumes := fun s => .same resumes s _

theorem refuseWith_tidy (status : Status) : (refuseWith status).Tidy resumes := fun s => .same resumes s _

theorem answerOk_tidy (fields : OkFields) : (answerOk fields).Tidy resumes := fun s => .same resumes s _

theorem okTables_tidy (f : Rack → Rack) (fields : OkFields) : (okTables f fields).Tidy resumes := fun _ => .ok rfl rfl rfl

theorem okRack_tidy (f : Conditions → Rack → Rack) (fields : OkFields) : (okRack f fields).Tidy resumes := fun _ => .ok rfl rfl rfl

theorem okStore_tidy (f : CalStore → CalStore) (fields : OkFields) : (okStore f fields).Tidy resumes := fun _ => .ok rfl rfl rfl

theorem withItems_tidy (checked : Except Text (List Item)) {answer : List Item → Answer} (h : ∀ items, (answer items).Tidy resumes) :
    (withItems checked answer).Tidy resumes := by
  cases checked with
  | error key => exact refuse_tidy _ _
  | ok items => exact h items

theorem noFields_tidy (fields : List Text) {answer : Answer} (h : answer.Tidy resumes) : (noFields fields answer).Tidy resumes := by
  cases fields with
  | nil => exact h
  | cons t rest => exact refuse_tidy _ _

theorem onPermit_tidy (fields : List Text) {answer : Permit → Answer} (h : ∀ p, (answer p).Tidy resumes) : (onPermit fields answer).Tidy resumes := by
  refine withItems_tidy _ (fun _ s => ?_)
  split
  · exact h _ s
  · exact refuseWith_tidy _ s

theorem onUnit_tidy (fields : List Text) {answer : VehicleUnit → Answer} (h : ∀ u, (answer u).Tidy resumes) : (onUnit fields answer).Tidy resumes := by
  refine withItems_tidy _ (fun _ s => ?_)
  split
  · exact h _ s
  · exact refuseWith_tidy _ s

theorem onAccountOf_tidy (items : List Item) {answer : Account → Answer} (h : ∀ x, (answer x).Tidy resumes) :
    (onAccountOf items answer).Tidy resumes := by
  intro s
  unfold onAccountOf
  split
  · exact h _ s
  · exact refuseWith_tidy _ s

theorem onAccount_tidy (fields : List Text) {answer : Account → Answer} (h : ∀ x, (answer x).Tidy resumes) :
    (onAccount fields answer).Tidy resumes :=
  withItems_tidy _ (fun items => onAccountOf_tidy items h)

theorem onOrder_tidy (fields : List Text) {answer : Order → Answer} (h : ∀ o, (answer o).Tidy resumes) : (onOrder fields answer).Tidy resumes := by
  refine withItems_tidy _ (fun _ s => ?_)
  split
  · exact h _ s
  · exact refuseWith_tidy _ s

theorem onRecipe_tidy (fields : List Text) {answer : Recipe → Answer} (h : ∀ x, (answer x).Tidy resumes) : (onRecipe fields answer).Tidy resumes := by
  refine withItems_tidy _ (fun _ s => ?_)
  split
  · exact h _ s
  · exact refuseWith_tidy _ s

theorem answerCalWrite_tidy (fields : List Text) : (answerCalWrite fields).Tidy resumes := by
  intro s
  unfold answerCalWrite
  split
  · exact refuseWith_tidy _ s
  · split
    · exact refuseWith_tidy _ s
    · refine withItems_tidy _ (fun items => ?_) s
      split
      · exact refuseWith_tidy _
      · exact okStore_tidy _ _

theorem calCommit_tidy : calCommit.Tidy resumes := by
  intro s
  unfold calCommit
  split
  · exact refuse_tidy _ _ s
  · exact okStore_tidy _ _ s

theorem answerCalCommit_tidy (fields : List Text) : (answerCalCommit fields).Tidy resumes := by
  intro s
  unfold answerCalCommit
  split
  · exact refuseWith_tidy _ s
  · exact noFields_tidy fields calCommit_tidy s

theorem permitPut_tidy (items : List Item) : (permitPut items).Tidy resumes := by
  intro s
  unfold permitPut
  split
  · exact okTables_tidy _ _ s
  · split
    · exact refuseWith_tidy _ s
    · exact okTables_tidy _ _ s

theorem permitSuspend_tidy (p : Permit) : (permitSuspend p).Tidy resumes := by
  intro s
  unfold permitSuspend
  split
  · exact answerOk_tidy _ s
  · exact okRack_tidy _ _ s

theorem permitRetire_tidy (p : Permit) : (permitRetire p).Tidy resumes := by
  intro s
  unfold permitRetire
  split
  · exact refuseWith_tidy _ s
  · exact okTables_tidy _ _ s

theorem unitPut_tidy (items : List Item) : (unitPut items).Tidy resumes := by
  intro s
  unfold unitPut
  split
  all_goals
    split
    · exact refuseWith_tidy _ s
    · exact okTables_tidy _ _ s

theorem unitClean_tidy (u : VehicleUnit) : (unitClean u).Tidy resumes := by
  unfold unitClean
  split
  · exact refuseWith_tidy _
  · exact okTables_tidy _ _

theorem unitRetire_tidy (u : VehicleUnit) : (unitRetire u).Tidy resumes := by
  intro s
  unfold unitRetire
  split
  · exact refuseWith_tidy _ s
  · exact okTables_tidy _ _ s

theorem accountPut_tidy (items : List Item) : (accountPut items).Tidy resumes := by
  intro s
  unfold accountPut
  split
  all_goals
    split
    · exact refuseWith_tidy _ s
    · exact okTables_tidy _ _ s

theorem accountClose_tidy (x : Account) : (accountClose x).Tidy resumes := by
  unfold accountClose
  split
  · exact refuseWith_tidy _
  · exact okTables_tidy _ _

theorem orderBook_tidy (k : Booking) : (orderBook k).Tidy resumes := by
  intro s
  unfold orderBook
  split
  · exact .same resumes s _
  · exact okTables_tidy _ _ s

theorem orderAmend_tidy (items : List Item) : (orderAmend items).Tidy resumes := by
  intro s
  unfold orderAmend
  split
  · exact refuse_tidy _ _ s
  · split
    · exact refuse_tidy _ _ s
    · split
      · exact .same resumes s _
      · exact okTables_tidy _ _ s

theorem orderCancel_tidy (o : Order) : (orderCancel o).Tidy resumes := by
  unfold orderCancel
  cases o.state with
  | complete => exact refuseWith_tidy _
  | void => exact refuseWith_tidy _
  | booked => exact okRack_tidy _ _
  | admitted => exact okRack_tidy _ _

theorem orderRetire_tidy (o : Order) : (orderRetire o).Tidy resumes := by
  unfold orderRetire
  cases o.state with
  | booked => exact refuseWith_tidy _
  | admitted => exact refuseWith_tidy _
  | complete => exact okTables_tidy _ _
  | void => exact okTables_tidy _ _

theorem noteNext_tidy (items : List Item) : (noteNext items).Tidy resumes := by
  intro s
  unfold noteNext
  split
  · exact refuse_tidy _ _ s
  · split
    · exact answerOk_tidy _ s
    · exact refuseWith_tidy _ s

theorem noteRead_tidy (o : Order) : (noteRead o).Tidy resumes := by
  unfold noteRead
  split
  · exact fun s => answerOk_tidy _ s
  all_goals exact refuse_tidy _ _

theorem armPut_tidy (items : List Item) : (armPut items).Tidy resumes := by
  intro s
  unfold armPut
  split
  · exact refuse_tidy _ _ s
  · split
    · exact refuse_tidy _ _ s
    · split
      · exact okTables_tidy _ _ s
      · exact refuseWith_tidy _ s

theorem serviceOut_tidy (a : ArmId) : (serviceOut a).Tidy resumes := by
  intro s
  unfold serviceOut
  split
  · exact okRack_tidy _ _ s
  · exact okTables_tidy _ _ s
  · exact answerOk_tidy _ s
  all_goals exact refuseWith_tidy _ s

theorem serviceIn_tidy (a : ArmId) : (serviceIn a).Tidy resumes := by
  intro s
  unfold serviceIn
  split
  · exact refuseWith_tidy _ s
  · split
    · exact refuseWith_tidy _ s
    · split
      · exact refuseWith_tidy _ s
      · exact okRack_tidy _ _ s

theorem armService_tidy (items : List Item) : (armService items).Tidy resumes := by
  unfold armService
  split
  · exact serviceIn_tidy _
  · exact serviceOut_tidy _

theorem armClear_tidy (a : ArmId) : (armClear a).Tidy resumes := by
  intro s
  unfold armClear
  split
  · exact okRack_tidy _ _ s
  · exact refuseWith_tidy _ s

theorem rackHeader_tidy (items : List Item) : (rackHeader items).Tidy resumes := by
  intro s
  unfold rackHeader
  split
  · exact okRack_tidy _ _ s
  · exact answerOk_tidy _ s

theorem recipeRetire_tidy (x : Recipe) : (recipeRetire x).Tidy resumes := by
  intro s
  unfold recipeRetire
  split
  · exact refuseWith_tidy _ s
  · exact .ok rfl rfl rfl

theorem rackResume_tidy : rackResume.Tidy True := by
  intro s
  unfold rackResume
  split
  · exact refuseWith_tidy _ s
  · rename_i inactive
    exact ⟨rfl, rfl, .inr ⟨trivial, Bool.not_eq_true _ ▸ inactive⟩, nofun⟩

theorem answerRackSwitchTable_tidy (fields : List Text) : (answerRackSwitchTable fields).Tidy resumes := by
  intro s
  unfold answerRackSwitchTable
  split
  · exact answerOk_tidy _ s
  · exact withItems_tidy _ (answer := replaceSwitchTable) (fun _ _ => .ok rfl rfl rfl) s

theorem rackNoteFormat_tidy (items : List Item) : (rackNoteFormat items).Tidy resumes := by
  intro s
  unfold rackNoteFormat
  split
  · exact .ok rfl rfl rfl
  · exact answerOk_tidy _ s

/-- RACK.RESUME alone may resume a rack. -/
theorem owners_tidy : ∀ x ∈ owners, ∀ fields, (x.2 fields).Tidy (x.1 = txt "RACK.RESUME") := by
  simp only [owners, List.forall_mem_append, List.forall_mem_cons, eq_self]
  refine ⟨⟨⟨⟨answerCalWrite_tidy, ?calRead, answerCalCommit_tidy, ?permitPut, ?permitGet, ?permitSuspend,
      ?permitReinstate, ?permitRetire, ?unitPut, ?unitGet, ?unitClean, ?unitRetire, ?nil⟩, ?accountPut, ?accountGet,
      ?accountCredit, ?accountHold, ?accountRelease, ?accountClose, ?orderBook, ?orderGet, ?orderAmend, ?orderCancel,
      ?orderRetire, ?nil⟩, ?armPut, ?armService, ?armClear, ?armGet, ?rackHeader, ?recipePut, ?recipeGet, ?recipeRetire,
      ?additivePut, ?additiveRefill, ?additiveGet, ?rackResume, ?nil⟩, ?noteNext, ?noteRead, ?rackStatus, ?rackSetDay,
      answerRackSwitchTable_tidy, ?rackNoteFormat, ?rackRestart, ?nil⟩
  case nil => exact fun x hx => absurd hx List.not_mem_nil
  case calRead => exact fun _ s => withItems_tidy _ (fun _ => answerOk_tidy _) s
  case permitPut => exact fun _ => withItems_tidy _ permitPut_tidy
  case permitGet => exact fun fields => onPermit_tidy fields (fun _ s => answerOk_tidy _ s)
  case permitSuspend => exact fun fields => onPermit_tidy fields permitSuspend_tidy
  case permitReinstate => exact fun fields => onPermit_tidy fields (fun _ => okTables_tidy _ _)
  case permitRetire => exact fun fields => onPermit_tidy fields permitRetire_tidy
  case unitPut => exact fun _ => withItems_tidy _ unitPut_tidy
  case unitGet => exact fun fields => onUnit_tidy fields (fun _ s => answerOk_tidy _ s)
  case unitClean => exact fun fields => onUnit_tidy fields unitClean_tidy
  case unitRetire => exact fun fields => onUnit_tidy fields unitRetire_tidy
  case accountPut => exact fun _ => withItems_tidy _ accountPut_tidy
  case accountGet => exact fun fields => onAccount_tidy fields (fun _ s => answerOk_tidy _ s)
  case accountCredit => exact fun _ => withItems_tidy _ (fun items => onAccountOf_tidy items (fun _ => okTables_tidy _ _))
  case accountHold => exact fun fields => onAccount_tidy fields (fun _ => okTables_tidy _ _)
  case accountRelease => exact fun fields => onAccount_tidy fields (fun _ => okTables_tidy _ _)
  case accountClose => exact fun fields => onAccount_tidy fields accountClose_tidy
  case orderBook => exact fun _ => withItems_tidy _ (fun _ => orderBook_tidy _)
  case orderGet => exact fun fields => onOrder_tidy fields (fun _ s => answerOk_tidy _ s)
  case orderAmend => exact fun _ => withItems_tidy _ orderAmend_tidy
  case orderCancel => exact fun fields => onOrder_tidy fields orderCancel_tidy
  case orderRetire => exact fun fields => onOrder_tidy fields orderRetire_tidy
  case armPut => exact fun _ => withItems_tidy _ armPut_tidy
  case armService => exact fun _ => withItems_tidy _ armService_tidy
  case armClear => exact fun _ => withItems_tidy _ (fun _ => armClear_tidy _)
  case armGet => exact fun _ => withItems_tidy _ (fun _ s => answerOk_tidy _ s)
  case rackHeader => exact fun _ => withItems_tidy _ rackHeader_tidy
  case recipePut => exact fun _ => withItems_tidy _ (fun _ s => .ok rfl rfl rfl)
  case recipeGet => exact fun fields => onRecipe_tidy fields (fun _ s => answerOk_tidy _ s)
  case recipeRetire => exact fun fields => onRecipe_tidy fields recipeRetire_tidy
  case additivePut => exact fun _ => withItems_tidy _ (fun _ _ => .ok rfl rfl rfl)
  case additiveRefill => exact fun _ => withItems_tidy _ (fun _ _ => .ok rfl rfl rfl)
  case additiveGet => exact fun _ => withItems_tidy _ (fun _ s => answerOk_tidy _ s)
  case rackResume => exact fun fields => noFields_tidy fields rackResume_tidy
  case noteNext => exact fun _ => withItems_tidy _ noteNext_tidy
  case noteRead => exact fun fields => onOrder_tidy fields noteRead_tidy
  case rackStatus => exact fun fields => noFields_tidy fields (fun s => answerOk_tidy _ s)
  case rackSetDay => exact fun _ => withItems_tidy _ (fun _ _ => .ok rfl rfl rfl)
  case rackNoteFormat => exact fun _ => withItems_tidy _ rackNoteFormat_tidy
  case rackRestart => exact fun fields => noFields_tidy fields (fun _ => .ok rfl rfl rfl)

/-- A request of any name, known or not. -/
theorem answerNamed_tidy (name : Text) (fields : List Text) : (answerNamed name fields).Tidy (name = txt "RACK.RESUME") := by
  unfold answerNamed
  split
  · rename_i x found
    have own := owners_tidy _ (List.mem_of_find?_eq_some found) fields
    have named : x.1 = name := by simpa using List.find?_some found
    rwa [named] at own
  · exact refuse_tidy _ _

/-! ### Every command answers, and leaves the queue -/

/-- The command leaves a next state with the queue behind it as it was. -/
def KeepsQueue (x : Result) (s : State) : Prop := ∃ t, x = .next t ∧ t.pending = s.pending

theorem keepsQueue_next {s t : State} (h : t.pending = s.pending) : KeepsQueue (.next t) s := ⟨t, rfl, h⟩

theorem keepsQueue_moveRack (s : State) (f : Conditions → Rack → Rack) : KeepsQueue (.next (s.moveRack f)) s := keepsQueue_next rfl

theorem keepsQueue_ite {p : Prop} [Decidable p] {x y : Result} {s : State} (hx : KeepsQueue x s) (hy : KeepsQueue y s) :
    KeepsQueue (if p then x else y) s := by
  split
  · exact hx
  · exact hy

theorem takeRequest_keepsQueue {name : Text} {fields : List Text} {answer : Answer} (tidy : answer.Tidy resumes) (s : State) :
    KeepsQueue (takeRequest name fields answer s) s :=
  keepsQueue_ite (keepsQueue_next (tidy { s with link := s.link.toHunt }).pending) (keepsQueue_next rfl)

theorem panelMessage_pending (s : State) (b : BayId) (body : Text) : (s.panelMessage b body).pending = s.pending := by
  unfold State.panelMessage
  split
  · split <;> rfl
  · split
    · split <;> rfl
    · split
      · split <;> rfl
      · rfl

theorem panelCharacters_pending (b : BayId) (chars : Text) (s : State) : (panelCharacters b chars s).pending = s.pending := by
  induction chars generalizing s with
  | nil => rfl
  | cons ch rest ih =>
    unfold panelCharacters
    split
    · rw [ih, panelMessage_pending]; rfl
    · rw [ih]; rfl

theorem execBadFrame_keepsQueue (chars : Text) (s : State) : KeepsQueue (execBadFrame chars s) s := by
  unfold execBadFrame
  split
  · exact keepsQueue_next rfl
  · exact keepsQueue_next (answerNamed_tidy _ _ { s with link := _ }).pending

/-- Every request of the table. -/
theorem exec_request_keepsQueue {i : Instr} {name : Text} (hn : i.requestName = some name) (s : State) : KeepsQueue (exec i s) s := by
  obtain ⟨x, hx, -, taken⟩ := exec_owner hn
  rw [taken]
  exact takeRequest_keepsQueue (owners_tidy x hx _) s

theorem exec_keepsQueue (i : Instr) (s : State) : KeepsQueue (exec i s) s := by
  cases hn : i.requestName with
  | some name => exact exec_request_keepsQueue hn s
  | none =>
    cases i with
    | powerOn | timebaseTick | meterPulse | probeReading | calSwitchChange | responseSent | start | stop => exact keepsQueue_next rfl
    | rateWindowExpiry a => exact keepsQueue_ite (keepsQueue_moveRack s _) (keepsQueue_next rfl)
    | stalenessExpiry a => exact keepsQueue_ite (keepsQueue_moveRack s _) (keepsQueue_next rfl)
    | noFlowTimerExpiry a => exact keepsQueue_ite (keepsQueue_moveRack s _) (keepsQueue_next rfl)
    | settleTimerExpiry a => exact keepsQueue_ite (keepsQueue_moveRack s _) (keepsQueue_next rfl)
    | riseTimerExpiry a n => exact keepsQueue_ite (keepsQueue_moveRack s _) (keepsQueue_next rfl)
    | activeTimerExpiry a n => exact keepsQueue_ite (keepsQueue_moveRack s _) (keepsQueue_next rfl)
    | showRepeatTimerExpiry a => exact keepsQueue_ite (keepsQueue_moveRack s _) (keepsQueue_next rfl)
    | card b permit => exact keepsQueue_ite (keepsQueue_next rfl) (keepsQueue_next rfl)
    | feedbackFall a n => exact keepsQueue_ite (keepsQueue_moveRack s _) (keepsQueue_next rfl)
    | feedbackRise a n => exact keepsQueue_ite (keepsQueue_next rfl) (keepsQueue_moveRack s _)
    | showSent b => exact keepsQueue_ite (keepsQueue_next rfl) (keepsQueue_moveRack s _)
    | permissiveInputChange b input level =>
      unfold exec execPermissiveInputChange
      exact keepsQueue_ite (keepsQueue_next rfl) (keepsQueue_ite (keepsQueue_next rfl) (keepsQueue_next rfl))
    | emergencyStopInputChange active =>
      unfold exec execEmergencyStopInputChange
      exact keepsQueue_ite (keepsQueue_next rfl) (keepsQueue_ite (keepsQueue_next rfl) (keepsQueue_next rfl))
    | badFrame chars => exact execBadFrame_keepsQueue chars s
    | unknownRequest name fields => exact takeRequest_keepsQueue (answerNamed_tidy name fields) s
    | panelMessageDiscarded b chars => exact keepsQueue_next (panelCharacters_pending b chars s)
    | _ => exact absurd hn (by simp [Instr.requestName])

/-- Settles O2: each command's effect leaves a next state, each owner leaves the queue (Tidy). -/
theorem everyCommandAnswersNext : Obligations.EveryCommandAnswersNext := exec_keepsQueue

/-! ### A refusal changes nothing (R182) -/

theorem takeRequest_refused {name : Text} {fields : List Text} {answer : Answer} (tidy : answer.Tidy resumes) {s t : State} {x : Response}
    {why : Refuse} (h : takeRequest name fields answer s = .next t) (hx : t.link.response = some x) (refused : x.reply = .refused why) :
    t = { s with link := t.link } := by
  rcases takeRequest_cases name fields answer s with discarded | ⟨-, -, taken⟩
  · cases discarded.symm.trans h
    rfl
  · cases taken.symm.trans h
    have answered : (answer { s with link := s.link.toHunt }).2 = .refused why := by
      cases hx
      exact refused
    rw [(tidy _).refused why answered]

/-- Settles O53: each owner changes nothing when it refuses (Tidy). -/
theorem refusalChangesNothing : Obligations.RefusalChangesNothing := by
  rintro i s t x why (⟨name, hn⟩ | ⟨name, fields, rfl⟩) h hx refused
  · obtain ⟨y, hy, -, taken⟩ := exec_owner hn
    exact takeRequest_refused (owners_tidy y hy _) ((taken s).symm.trans h) hx refused
  · exact takeRequest_refused (answerNamed_tidy name fields) h hx refused

end Sys2Proof.Machine
end

section
/-! PROOF. Reset, power-on, time (O3 to O5), and the events of a meter channel and of an arm's timer that no request brings. -/

namespace Sys2Proof.Machine

variable {r r' : Rack} {c : Conditions}

/-! ### Racks field by field -/

/-- Two racks with the same fields are one. -/
theorem Rack.eq_of_fields (permits : r.permits = r'.permits) (units : r.units = r'.units) (accounts : r.accounts = r'.accounts)
    (additives : r.additives = r'.additives) (orders : r.orders = r'.orders) (channels : r.channels = r'.channels)
    (arms : r.arms = r'.arms) (injectors : r.injectors = r'.injectors) (headers : r.headers = r'.headers) (bays : r.bays = r'.bays)
    (panels : r.panels = r'.panels) (noteCounter : r.noteCounter = r'.noteCounter) (notes : r.notes = r'.notes) : r = r' := by
  cases r
  cases r'
  simp_all

theorem Rack.modChannel_modChannel (r : Rack) (a : ArmId) (f g : Channel → Channel) :
    (r.modChannel a f).modChannel a g = r.modChannel a (fun x => g (f x)) := by
  unfold Rack.modChannel
  simp [Rack.channel]

theorem Rack.modArm_modArm (r : Rack) (a : ArmId) (f g : Arm → Arm) : (r.modArm a f).modArm a g = r.modArm a (fun x => g (f x)) := by
  unfold Rack.modArm Rack.setArm
  simp [Rack.arm]

/-- A change reads only the record it changes. -/
theorem Rack.modArm_congr {a : ArmId} {f g : Arm → Arm} (h : f (r.arm a) = g (r.arm a)) : r.modArm a f = r.modArm a g := by
  unfold Rack.modArm
  rw [h]

theorem Rack.modChannel_congr {a : ArmId} {f g : Channel → Channel} (h : f (r.channel a) = g (r.channel a)) :
    r.modChannel a f = r.modChannel a g := by
  unfold Rack.modChannel
  rw [h]

/-! ### Reset -/

/-- The inputs as reset finds them (assumption 1). -/
def resetInputs : InputLevels :=
  { ground := Vector.replicate 4 false, overfill := Vector.replicate 4 false, emergencyStop := false, calClosed := false
    feedback := Vector.replicate 8 (Vector.replicate 4 false) }

/-- Reset is the power-on of a part whose retained store has never been written. -/
theorem reset_powerOn : State.reset.rack.powerOn resetInputs .factory = State.reset.rack := by
  decide

theorem reset_arm (a : ArmId) : State.reset.rack.arm a = .fresh := by
  rw [← reset_powerOn, Rack.powerOn_arm]

theorem reset_calInRange : State.reset.calInRange := by
  have zero : Bank.zero.inRange := by
    refine ⟨fun a => .inl ?_, fun p => ?_, fun q => ?_⟩ <;> simp [Bank.zero, Bank.kFactor, legalPage, risingRates]
  exact ⟨⟨zero, zero⟩, nofun⟩

theorem reset_notesMatch : State.reset.rack.notesMatch := by
  simp [State.reset, Rack.notesMatch]

/-- Settles O3: each value as the definition of reset gives it; reset is a power-on, which meets every invariant. -/
theorem resetHoldsFactoryValues : Obligations.ResetHoldsFactoryValues := by
  have queues := queuesAndBays_powerOn True resetInputs .factory State.reset.rack
  have additives := additivesMatch_powerOn resetInputs .factory State.reset.rack
  rw [reset_powerOn] at queues additives
  refine ⟨rfl, rfl, rfl, rfl, rfl, fun k a => ?kFactor, rfl, rfl, rfl, rfl, rfl, rfl, rfl, rfl, fun a => ?arm, fun h => ?header,
    fun b => ?bay, fun x => ?additive, fun a => ?channel, rfl, rfl, reset_calInRange, ?flow, ?grants, queues.1, queues.2 trivial,
    reset_notesMatch, ?reserved, additives⟩
  case kFactor => cases k <;> simp [State.reset, CalStore.bank, CalStore.factory, Bank.zero, Bank.kFactor]
  case arm => rw [reset_arm]; exact ⟨rfl, rfl, rfl⟩
  case header => simp [State.reset, Rack.header, Header.fresh]
  case bay => simp [State.reset, Rack.bay, Bay.fresh]
  case additive => simp [State.reset, Rack.additive, Additive.zero]
  case channel => simp [State.reset, Rack.channel, Channel.fresh]
  case flow =>
    intro a flow
    rw [reset_arm] at flow
    cases flow
  case grants =>
    refine Rack.grantsMatch_of_empty (fun h => ?_) (fun b => ?_)
    · simp [State.reset, Rack.header, Header.fresh]
    · rw [reset_arm]
      rfl
  case reserved =>
    intro n
    simp [State.reset, Rack.account?, Rack.presetsOf, Rack.allLines]

/-! ### POWER_ON -/

theorem retainedCal_none {s : State} (h : s.calBefore = none) : s.retainedCal = s.cond.cal := by
  unfold State.retainedCal
  rw [h]

theorem retainedCal_some {s : State} {old : CalStore} (h : s.calBefore = some old) :
    s.retainedCal = old ∨ s.retainedCal = s.cond.cal := by
  unfold State.retainedCal
  rw [h]
  dsimp only
  split
  · exact .inl rfl
  · exact .inr rfl

/-- Settles O4: each field as the power-on gives it. -/
theorem powerOnKeepsRetainedStore : Obligations.PowerOnKeepsRetainedStore := by
  intro inputs s
  refine ⟨_, rfl, retainedCal_none, fun _ => retainedCal_some, rfl, rfl, fun a => ?_, rfl, rfl, rfl, rfl, rfl, rfl, rfl, rfl, rfl, rfl,
    rfl, rfl, rfl, rfl, rfl, rfl, rfl, rfl, rfl, fun a x => ?_, fun b => ?_, rfl, rfl, rfl⟩
  · simp [Rack.powerOn, Rack.channel, Conditions.powerOn, Channel.fresh, Stamp.zero]
  · simp [Rack.powerOn, Rack.injector, Injector.fresh]
  · simp [Rack.powerOn, Rack.panel, Panel.fresh]

/-! ### TIMEBASE_TICK (R2) -/

/-- A time recorded at or before the count ages by one millisecond, up to the longest age. -/
theorem Stamp.tick_oneLater (c : Conditions) (x : Stamp) : x.oneLater c { c with time := c.time + 1#32 } (x.tick (c.time + 1#32)) := by
  refine ⟨rfl, fun known => ?_⟩
  have next : c.time + 1#32 - x.time = c.time - x.time + 1#32 := by bv_omega
  unfold Conditions.age Stamp.tick
  dsimp only
  rw [next]
  generalize c.time - x.time = d at known
  cases full : x.full with
  | true => simp [ageMax]
  | false =>
    have short : d.toNat < ageMax := known.resolve_left (by simp [full])
    have later : (d + 1#32).toNat = d.toNat + 1 := by
      unfold ageMax at short
      rw [BitVec.toNat_add]
      exact Nat.mod_eq_of_lt (show d.toNat + 1 < 4294967296 by omega)
    rw [later]
    simp only [Bool.false_or, decide_eq_true_eq, Bool.false_eq_true, if_false]
    split <;> omega

theorem timerOneLater_tick (c : Conditions) (x : Option Stamp) :
    timerOneLater c { c with time := c.time + 1#32 } x (x.map (Stamp.tick (c.time + 1#32))) := by
  cases x with
  | none => trivial
  | some x => exact x.tick_oneLater c

/-- Settles O5: every recorded time ages by the one rule of Stamp.tick. -/
theorem tickAgesEveryRecordedTime : Obligations.TickAgesEveryRecordedTime := by
  intro s
  have channel (a : ArmId) : (s.rack.tick (s.cond.time + 1#32)).channel a = (s.rack.channel a).tick (s.cond.time + 1#32) := by
    simp [Rack.tick, Rack.channel]
  have arm (a : ArmId) : (s.rack.tick (s.cond.time + 1#32)).arm a = (s.rack.arm a).tick (s.cond.time + 1#32) := by
    simp [Rack.tick, Rack.arm]
  have injector (a : ArmId) (x : SlotId) :
      (s.rack.tick (s.cond.time + 1#32)).injector a x = (s.rack.injector a x).tick (s.cond.time + 1#32) := by
    simp [Rack.tick, Rack.injector]
  refine ⟨{ s with cond := { s.cond with time := s.cond.time + 1#32 }, rack := s.rack.tick (s.cond.time + 1#32) },
    rfl, rfl, rfl, rfl, rfl, rfl, rfl, rfl, fun a => ?channels, fun a => ?arms, fun a x => ?injectors⟩
  case channels =>
    dsimp only
    rw [channel]
    refine ⟨rfl, Stamp.tick_oneLater s.cond _, ?_, ?_⟩
    · simp [Channel.tick, Function.comp_def]
    · have later := timerOneLater_tick s.cond ((s.rack.channel a).temperature.map (fun x => x.arrived))
      simpa [Channel.tick, Function.comp_def] using later
  case arms =>
    dsimp only
    rw [arm]
    exact ⟨rfl, timerOneLater_tick s.cond _, timerOneLater_tick s.cond _, timerOneLater_tick s.cond _⟩
  case injectors =>
    dsimp only
    rw [injector]
    exact ⟨rfl, timerOneLater_tick s.cond _, timerOneLater_tick s.cond _⟩

end Sys2Proof.Machine
end

section
/-! PROOF. The meter channel's events (O6, O7, O10, O11, O14) and the no-flow timer (O41). -/

namespace Sys2Proof.Machine

variable {r r' : Rack} {c : Conditions}

/-- What a move of the rack comes to, once the moved rack is known. -/
theorem State.moveRack_eq {s : State} {f : Conditions → Rack → Rack} (h : f s.cond s.rack = r) :
    s.moveRack f = { s with rack := r.pump } := by
  rw [State.moveRack, h]

/-! ### Pulses and windows (R3, R6) -/

theorem Rack.pulse_uncalibrated {a : ArmId} (h : (effectiveBank c r a).kFactor a = 0) :
    r.pulse c a = r.modChannel a (fun x => { x with window := min 9999999 (x.window + 1) }) := by
  unfold Rack.pulse
  simp [h, satAdd]

theorem Rack.pulse_short {a : ArmId} (h : (effectiveBank c r a).kFactor a ≠ 0)
    (short : (r.channel a).pulses + 1 < (effectiveBank c r a).kFactor a / 10) :
    r.pulse c a = r.modChannel a (fun x => { x with window := min 9999999 (x.window + 1), pulses := x.pulses + 1 }) := by
  have under : ¬(effectiveBank c r a).kFactor a / 10 ≤ (r.channel a).pulses + 1 := by omega
  unfold Rack.pulse
  simp [h, satAdd, under, Rack.modChannel_modChannel]

/-- The pulse that reaches K/10 takes a step (R3). -/
theorem Rack.pulse_step {a : ArmId} (h : (effectiveBank c r a).kFactor a ≠ 0)
    (full : (effectiveBank c r a).kFactor a / 10 ≤ (r.channel a).pulses + 1) :
    r.pulse c a = (r.modChannel a (fun x => { x with window := min 9999999 (x.window + 1), pulses := 0 })).step c a := by
  unfold Rack.pulse
  simp [h, satAdd, full, Rack.modChannel_modChannel]

/-- Settles O6: the pulse by its two tests, the window at its end. -/
theorem windowCountsPulses : Obligations.WindowCountsPulses := by
  refine ⟨fun a s => ⟨fun uncalibrated => ?_, fun calibrated short => ?_⟩, fun a s k rate due bank held => ?_⟩
  · rw [← Rack.pulse_uncalibrated uncalibrated]
    rfl
  · rw [← Rack.pulse_short calibrated short]
    rfl
  · subst bank held
    rw [exec, execRateWindowExpiry_due due]
    exact congrArg _ (State.moveRack_eq (Rack.modChannel_congr rfl))

/-! ### Readings and stale temperatures (R10, R12) -/

theorem readingValue_invalid {v : Int} (h : v < -5000 ∨ 10000 < v) : readingValue (.value v) = none := by
  unfold readingValue
  exact if_neg (by omega)

theorem Rack.reading_valid {a : ArmId} {v : Int} (low : -5000 ≤ v) (high : v ≤ 10000) :
    r.reading c a (.value v) =
      (r.modChannel a (Channel.hold c v)).modArm a (fun x => { x with probeRefreshed := true }) := by
  have valid : readingValue (.value v) = some v := if_pos ⟨low, high⟩
  unfold Rack.reading
  rw [valid]

theorem Rack.reading_invalid {a : ArmId} {x : Reading} (h : readingValue x = none) :
    r.reading c a x = r.modChannel a (fun x => { x with probeFault := true }) := by
  unfold Rack.reading
  rw [h]

/-- Settles O10: a reading by its value (R10). -/
theorem probeReadingIsClassified : Obligations.ProbeReadingIsClassified :=
  fun _ _ => ⟨fun _ low high => congrArg _ (State.moveRack_eq (Rack.reading_valid low high)),
    fun _ outside => congrArg _ (State.moveRack_eq (Rack.reading_invalid (readingValue_invalid outside))), rfl⟩

/-- A channel whose held temperature is recorded as expired. -/
def Channel.expired (x : HeldTemperature) (y : Channel) : Channel := { y with temperature := some { x with stale := true } }

theorem execStalenessExpiry_due {a : ArmId} {s : State} {x : HeldTemperature} (held : (s.rack.channel a).temperature = some x)
    (fresh : x.stale = false) (old : 30000 < s.cond.age x.arrived) :
    execStalenessExpiry a s = .next { s with rack := ((s.rack.modChannel a (Channel.expired x)).raiseCause s.cond a .probe).pump } := by
  have due : staleDue s.cond (s.rack.channel a) = true := by simp [staleDue, staleNow, held, fresh, old]
  have same : s.rack.modChannel a (fun y => { y with temperature := y.temperature.map (fun t => { t with stale := true }) }) =
      s.rack.modChannel a (Channel.expired x) :=
    Rack.modChannel_congr (by simp [held, Channel.expired])
  exact (if_pos due).trans (congrArg _ (State.moveRack_eq (congrArg (Rack.raiseCause s.cond a .probe) same)))

/-- PROBE joins a set once (R112). -/
theorem joinCause_probe (cs : List Cause) : joinCause .probe cs = if Cause.probe ∉ cs then cs ++ [.probe] else cs := by
  have same (x : Cause) : sameCause .probe x = decide (Cause.probe = x) := by
    cases x <;> rfl
  unfold joinCause
  have standing : cs.any (sameCause .probe) = decide (Cause.probe ∈ cs) := by
    induction cs with
    | nil => rfl
    | cons x rest ih => simp [same, ih]
  rw [standing]
  by_cases h : Cause.probe ∈ cs <;> simp [h]

/-- PROBE at an arm in CLOSING (R111, R112). -/
theorem Rack.raiseCause_probe_closing {a : ArmId} (closing : (r.arm a).state = .closing) :
    r.raiseCause c a .probe = r.modArm a (fun y =>
      { y with probeRefreshed := false
               causes := if (r.arm a).intent = some .suspend ∧ Cause.probe ∉ (r.arm a).causes then
                 (r.arm a).causes ++ [.probe] else (r.arm a).causes }) := by
  unfold Rack.raiseCause
  rw [if_neg (by simp [closing, ArmState.isFlow]), if_pos closing]
  split
  · rename_i suspending
    exact Rack.modArm_congr (by simp [joinCause_probe, suspending, refreshedAfter])
  · rename_i other
    rw [if_neg nofun]
    exact Rack.modArm_congr (by simp [other, refreshedAfter])

/-- A cause in a flow state moves arms, headers and panel lines alone. -/
theorem Rack.raiseCause_flow_fields {a : ArmId} {cause : Cause} (flow : (r.arm a).state.isFlow = true) :
    r.raiseCause c a cause = { r with
      arms := (r.raiseCause c a cause).arms, headers := (r.raiseCause c a cause).headers
      panels := (r.raiseCause c a cause).panels } := by
  have orders : (r.raiseCause c a cause).orders = r.orders := by
    unfold Rack.raiseCause
    rw [if_pos flow]
    simp
  apply Rack.eq_of_fields <;> simp [orders]

theorem Rack.suspendingFor_raiseCause {a : ArmId} {cause : Cause} (flow : (r.arm a).state.isFlow = true) :
    suspendingFor (r.raiseCause c a cause) a cause := by
  unfold suspendingFor
  rw [Rack.raiseCause_flow c r a cause flow]
  exact ⟨rfl, rfl, rfl⟩

theorem suspendingFor_pump {a : ArmId} {cause : Cause} (h : suspendingFor r a cause) : suspendingFor r.pump a cause := by
  unfold suspendingFor
  rwa [Rack.pump_arm]

/-- Settles O11: the expiry raises PROBE, by the state of the arm. -/
theorem staleTemperatureSuspends : Obligations.StaleTemperatureSuspends := by
  intro a s x held fresh old
  have taken := execStalenessExpiry_due held fresh old
  have channels : ((s.rack.modChannel a (Channel.expired x)).raiseCause s.cond a .probe).channels =
      (s.rack.modChannel a (Channel.expired x)).channels := Rack.raiseCause_channels _ _ _ _
  refine ⟨fun flow => ⟨_, taken, ?_⟩, fun closing => ?_, fun still => ?_⟩
  · have flow' : ((s.rack.modChannel a (Channel.expired x)).arm a).state.isFlow = true := flow
    have moved := Rack.raiseCause_flow_fields (c := s.cond) (cause := .probe) flow'
    refine ⟨suspendingFor_pump (Rack.suspendingFor_raiseCause flow'), ?_, ?_, rfl, ?_, fun b other => ?_⟩ <;> dsimp only
    · rw [Rack.pump_arm, Rack.raiseCause_flow _ _ _ _ flow']
      rfl
    · rw [Rack.pump_channel, Rack.channel_eq channels]
      simp [Channel.expired]
    · apply Rack.eq_of_fields <;> simp only [Rack.pump_permits, Rack.pump_units, Rack.pump_accounts, Rack.pump_additives,
        Rack.pump_orders, Rack.pump_injectors, Rack.pump_bays, Rack.pump_noteCounter, Rack.pump_notes] <;> rw [moved] <;> rfl
    · rw [Rack.pump_channel, Rack.channel_eq channels]
      simp [Ne.symm other]
  · have closing' : ((s.rack.modChannel a (Channel.expired x)).arm a).state = .closing := closing
    rw [exec, taken, Rack.raiseCause_probe_closing closing']
    rfl
  · have still' : ((s.rack.modChannel a (Channel.expired x)).arm a).state.isRunning = false := still
    rw [exec, taken, Rack.raiseCause_still _ _ _ _ still']
    rfl

/-! ### The no-flow timer (R110) -/

/-- Settles O41: the timer by the time it has run. -/
theorem noFlowSuspends : Obligations.NoFlowSuspends := by
  intro a s k x config running
  have length : (s.rack.arm a).milliseconds (fun k => k.noFlow) = k.noFlow * 1000 := by simp [Arm.milliseconds, config]
  refine ⟨fun out flow => ?_, fun left => ?_⟩
  · have due : s.cond.timerRunOut (s.rack.arm a).noFlowTimer ((s.rack.arm a).milliseconds (fun k => k.noFlow)) = true := by
      rw [length, running]
      exact decide_eq_true out
    have flow' : ((s.rack.modArm a (fun y => { y with noFlowTimer := none })).arm a).state.isFlow = true := by simpa using flow
    have raised := Rack.raiseCause_flow s.cond _ a .noFlow flow'
    have moved := Rack.raiseCause_flow_fields (c := s.cond) (cause := .noFlow) flow'
    refine ⟨s.moveRack (fun c r => r.noFlow c a), if_pos due,
      suspendingFor_pump (Rack.suspendingFor_raiseCause flow'), ?_⟩
    simp only [State.moveRack, Rack.noFlow, Rack.pump_arm]
    rw [raised]
    refine ⟨rfl, rfl, rfl, ?_, trivial, ?_⟩
    · simp [Arm.closed, refreshedAfter]
    · apply Rack.eq_of_fields <;> simp only [Rack.pump_permits, Rack.pump_units, Rack.pump_accounts, Rack.pump_additives,
        Rack.pump_orders, Rack.pump_channels, Rack.pump_injectors, Rack.pump_bays, Rack.pump_noteCounter, Rack.pump_notes] <;>
        rw [moved] <;> rfl
  · refine if_neg ?_
    rw [length, running]
    simpa [Conditions.timerRunOut] using left

/-! ### Correction to standard volume (R13, R14) -/

theorem roundDiv_within {n : Int} {k d : Nat} (hd : 0 < d) (h : n.natAbs ≤ k * d) : (roundDiv n d).natAbs ≤ k := by
  have quotient : (2 * n.natAbs + d) / (2 * d) ≤ k := by
    rw [← Nat.lt_succ_iff, Nat.div_lt_iff_lt_mul (by omega)]
    calc 2 * n.natAbs + d ≤ 2 * (k * d) + d := by omega
      _ < (k + 1) * (2 * d) := by nlinarith
  unfold roundDiv
  rw [Int.natAbs_mul, Int.natAbs_natCast]
  calc n.sign.natAbs * ((2 * n.natAbs + d) / (2 * d)) ≤ 1 * ((2 * n.natAbs + d) / (2 * d)) :=
        Nat.mul_le_mul_right _ (by rcases Int.sign_trichotomy n with h | h | h <;> simp [h])
    _ ≤ k := by omega

/-- Settles O14: the correction stays within β × 55 °C of 1, and division with remainder loses nothing. -/
theorem correctionIsBoundedAndExact : Obligations.CorrectionIsBoundedAndExact := by
  refine ⟨fun beta t small low high => ?_, fun t => ?_, fun l x ppm positive => ?_⟩
  · have rise : ((beta : Int) * (t - 1500)).natAbs ≤ 110000 * 100 := by
      rw [Int.natAbs_mul, Int.natAbs_natCast]
      calc beta * (t - 1500).natAbs ≤ 2000 * 5500 := Nat.mul_le_mul small (by omega)
        _ = 110000 * 100 := rfl
    have within := roundDiv_within (by omega) rise
    unfold ctl
    omega
  · simp [ctl, roundDiv]
  · have product : ((stepProduct x.factor ppm l.residue : Nat) : Int) = (x.factor : Int) * ppm + l.residue :=
      Int.toNat_of_nonneg (by positivity)
    have divided := Nat.div_add_mod (stepProduct x.factor ppm l.residue) 1000000
    refine ⟨?_, Nat.mod_lt _ (by omega)⟩
    simp only [Line.addStep]
    omega

/-! ### Unassigned steps (R19 to R22) -/

/-- A channel that has counted an unassigned step (R19, R21). -/
def Channel.countUnassigned (x : Channel) : Channel :=
  { x.advance x.factor x.factor with unassigned := satAdd 65535 x.unassigned 1 }

/-- An unassigned step at its arm: ALARM from IDLE and OUT_OF_SERVICE at 20 steps, nothing else (R22). -/
theorem Rack.unassignedStep_cases (r : Rack) (a : ArmId) :
    (∃ back : ReturnState, 20 ≤ ((r.modChannel a Channel.countUnassigned).channel a).unassigned ∧
      (r.arm a).state = back.toState ∧ r.unassignedStep c a =
        ((r.modChannel a Channel.countUnassigned).modArm a (fun x => { x with returnState := some back })).setState c a .alarm) ∨
    ¬(20 ≤ ((r.modChannel a Channel.countUnassigned).channel a).unassigned ∧
      ((r.arm a).state = .idle ∨ (r.arm a).state = .outOfService)) ∧
      r.unassignedStep c a = r.modChannel a Channel.countUnassigned := by
  have counted : (r.modChannel a (fun x => { x.advance x.factor x.factor with unassigned := satAdd 65535 x.unassigned 1 })) =
    r.modChannel a Channel.countUnassigned := rfl
  unfold Rack.unassignedStep
  dsimp only
  rw [counted]
  split
  · rename_i many
    cases state : (r.arm a).state with
    | idle => exact .inl ⟨.idle, many, rfl, rfl⟩
    | outOfService => exact .inl ⟨.outOfService, many, rfl, rfl⟩
    | _ => exact .inr ⟨by simp, rfl⟩
  · rename_i few
    exact .inr ⟨fun h => few h.1, rfl⟩

/-- Settles O7: the step adds to its channel, and moves an arm that is IDLE or OUT_OF_SERVICE at 20 steps. -/
theorem unassignedStepIsCounted : Obligations.UnassignedStepIsCounted := by
  intro a s calibrated full still
  have taken : s.rack.pulse s.cond a = (s.rack.modChannel a
      (fun x => { x with window := min 9999999 (x.window + 1), pulses := 0 })).unassignedStep s.cond a := by
    rw [Rack.pulse_step calibrated full, Rack.step, if_neg (by simpa using still)]
  refine ⟨_, congrArg Host.Outcome.next (State.moveRack_eq taken), rfl, ?_⟩
  simp only [Rack.pump_channel, Rack.pump_arm]
  rcases Rack.unassignedStep_cases (c := s.cond) (s.rack.modChannel a
      (fun x => { x with window := min 9999999 (x.window + 1), pulses := 0 })) a with ⟨back, many, state, alarm⟩ | ⟨few, same⟩
  · rw [alarm]
    have was : ((s.rack.arm a).state = .idle ↔ back = .idle) ∧ ((s.rack.arm a).state = .outOfService ↔ back = .outOfService) := by
      have state' : (s.rack.arm a).state = back.toState := state
      rw [state']
      cases back <;> simp [ReturnState.toState]
    refine ⟨?_, ⟨fun h => ?_, fun h => ?_, fun h => ?_⟩, fun b other => ?_, ?_⟩
    · rw [Rack.channel_eq (Rack.setState_channels _ _ _ _)]
      simp [Channel.countUnassigned, Channel.advance, wrapTotal, satAdd]
    · rw [Rack.setState_arm]
      simp [h.2, was.1.mp h.2]
    · rw [Rack.setState_arm]
      simp [h.2, was.2.mp h.2]
    · refine absurd ⟨?_, ?_⟩ h
      · rw [Rack.channel_eq (Rack.setState_channels _ _ _ _)]
        exact many
      · rw [was.1, was.2]
        cases back <;> simp
    · rw [Rack.channel_eq (Rack.setState_channels _ _ _ _), Rack.setState_arm]
      simp [Ne.symm other]
    · apply Rack.eq_of_fields <;> simp
  · rw [same]
    refine ⟨by simp [Channel.countUnassigned, Channel.advance, wrapTotal, satAdd], ⟨fun h => absurd ⟨h.1, .inl h.2⟩ few,
      fun h => absurd ⟨h.1, .inr h.2⟩ few, fun _ => rfl⟩, fun b other => by simp [Ne.symm other], ?_⟩
    apply Rack.eq_of_fields <;> simp

end Sys2Proof.Machine
end

section
/-! PROOF. The panel lines: send lists and SHOWs (O43). -/

namespace Sys2Proof.Machine

variable {r r' : Rack} {c : Conditions}

/-! ### Lines that begin a SHOW -/

/-- A panel line once it has begun the SHOW of its head subject, if it sends nothing and one waits (R188). -/
def Rack.begun (r : Rack) (b : BayId) : Panel :=
  match (r.panel b).sending, (r.panel b).sendList with
  | none, x :: rest => { sendList := rest, sending := some (r.showOf b x) }
  | _, _ => r.panel b

theorem Rack.begun_sending {b : BayId} {m : ShowMessage} (h : (r.panel b).sending = some m) : r.begun b = r.panel b := by
  unfold Rack.begun
  rw [h]

theorem Rack.begun_empty {b : BayId} (h : (r.panel b).sendList = []) : r.begun b = r.panel b := by
  unfold Rack.begun
  split
  · rename_i listed
    rw [h] at listed
    cases listed
  · rfl

theorem Rack.begun_head {b : BayId} {x : Subject} {rest : List Subject} (idle : (r.panel b).sending = none)
    (listed : (r.panel b).sendList = x :: rest) : r.begun b = { sendList := rest, sending := some (r.showOf b x) } := by
  unfold Rack.begun
  rw [idle, listed]

theorem Rack.pumpLine_panel (r : Rack) (b d : BayId) : (r.pumpLine b).panel d = if b = d then r.begun b else r.panel d := by
  have line : r.pumpLine b = r.modPanel b (fun _ => r.begun b) ∨ r.pumpLine b = r ∧ r.begun b = r.panel b := by
    cases sending : (r.panel b).sending with
    | some m => exact .inr ⟨by simp [Rack.pumpLine, sending], Rack.begun_sending sending⟩
    | none =>
      cases listed : (r.panel b).sendList with
      | nil => exact .inr ⟨by simp [Rack.pumpLine, sending, listed], Rack.begun_empty listed⟩
      | cons x rest => exact .inl (by simp [Rack.pumpLine, sending, listed, Rack.begun_head sending listed])
  rcases line with line | ⟨line, begun⟩
  · rw [line, Rack.modPanel_panel]
  · rw [line, begun]
    split
    · rename_i same
      rw [same]
    · rfl

theorem Rack.pumpLine_showOf (r : Rack) (b d : BayId) (x : Subject) : (r.pumpLine b).showOf d x = r.showOf d x := by
  unfold Rack.pumpLine
  split <;> cases x <;> rfl

theorem Rack.pumpLine_begun {b d : BayId} (h : b ≠ d) : (r.pumpLine b).begun d = r.begun d := by
  unfold Rack.begun
  rw [Rack.pumpLine_panel, if_neg h]
  split
  · rw [Rack.pumpLine_showOf]
  · rfl

/-- After a step each line that could begin a SHOW has begun it (R188). -/
theorem Rack.pump_panel (r : Rack) (b : BayId) : r.pump.panel b = r.begun b := by
  unfold Rack.pump
  match b with
  | 0 => simp [Rack.pumpLine_panel]
  | 1 => simp [Rack.pumpLine_panel, Rack.pumpLine_begun]
  | 2 => simp [Rack.pumpLine_panel, Rack.pumpLine_begun]
  | 3 => simp [Rack.pumpLine_panel, Rack.pumpLine_begun]

/-! ### Subjects that are called for -/

theorem Panel.call_listed {p : Panel} {x : Subject} (h : x ∈ p.sendList) : p.call x = p := if_pos h

theorem Panel.call_unlisted {p : Panel} {x : Subject} (h : x ∉ p.sendList) : p.call x = { p with sendList := p.sendList ++ [x] } :=
  if_neg h

theorem Panel.call_sending (p : Panel) (x : Subject) : (p.call x).sending = p.sending := by
  unfold Panel.call
  split <;> rfl

theorem Panel.call_sendList (p : Panel) (x : Subject) :
    (p.call x).sendList = if x ∈ p.sendList then p.sendList else p.sendList ++ [x] := by
  unfold Panel.call
  split <;> rfl

/-- What a call for a subject does to the panel lines. -/
theorem Rack.modPanel_called (r : Rack) (b : BayId) (x : Subject) :
    (∀ d, d ≠ b → (r.modPanel b (fun p => p.call x)).panel d = r.panel d) ∧
      r.modPanel b (fun p => p.call x) = { r with panels := (r.modPanel b (fun p => p.call x)).panels } ∧
      ((r.modPanel b (fun p => p.call x)).panel b).sending = (r.panel b).sending ∧
      (x ∈ (r.panel b).sendList → ((r.modPanel b (fun p => p.call x)).panel b).sendList = (r.panel b).sendList) ∧
      (x ∉ (r.panel b).sendList → ((r.modPanel b (fun p => p.call x)).panel b).sendList = (r.panel b).sendList ++ [x]) := by
  refine ⟨fun d other => ?_, rfl, ?_, fun listed => ?_, fun unlisted => ?_⟩ <;> rw [Rack.modPanel_panel]
  · exact if_neg (Ne.symm other)
  · rw [if_pos rfl, Panel.call_sending]
  · rw [if_pos rfl, Panel.call_listed listed]
  · rw [if_pos rfl, Panel.call_unlisted unlisted]

/-! ### What a SHOW shows (R189) -/

theorem subjectOf_arm (a : ArmId) :
    subjectOf a = .lower ∧ lowerArm (bayOf a) = a ∨ subjectOf a = .upper ∧ upperArm (bayOf a) = a := by
  revert a
  decide

theorem Rack.showOf_subjectOf (r : Rack) (a : ArmId) : r.showOf (bayOf a) (subjectOf a) = r.showArm a := by
  rcases subjectOf_arm a with ⟨subject, arm⟩ | ⟨subject, arm⟩ <;> rw [subject] <;> simp only [Rack.showOf, arm]

/-- What a SHOW of an arm takes from the arm itself. -/
def Arm.shown (x : Arm) : ArmState × Option QueueEntry × Option Intent × List Cause × Option PanelReason :=
  (x.state, x.current, x.intent, x.causes, x.reason)

theorem Rack.showArm_modArm (r : Rack) (a b : ArmId) {f : Arm → Arm} (h : (f (r.arm a)).shown = (r.arm a).shown) :
    (r.modArm a f).showArm b = r.showArm b := by
  simp only [Arm.shown, Prod.mk.injEq] at h
  obtain ⟨state, current, intent, causes, reason⟩ := h
  by_cases same : a = b
  · subst same
    simp [Rack.showArm, Rack.currentLine, Arm.shownCause, Arm.primaryCause, state, current, intent, causes, reason]
  · simp [Rack.showArm, Rack.currentLine, same]

theorem Rack.showOf_modArm (r : Rack) (a : ArmId) (b : BayId) (x : Subject) {f : Arm → Arm} (h : (f (r.arm a)).shown = (r.arm a).shown) :
    (r.modArm a f).showOf b x = r.showOf b x := by
  cases x with
  | bay => rfl
  | lower => exact r.showArm_modArm a _ h
  | upper => exact r.showArm_modArm a _ h

theorem Rack.showOf_modPanel (r : Rack) (b d : BayId) (x : Subject) (f : Panel → Panel) :
    (r.modPanel b f).showOf d x = r.showOf d x := by
  cases x <;> rfl

/-- The SHOW of an arm, field by field. -/
theorem Rack.showArm_fields (r : Rack) (a : ArmId) :
    ∃ addr preset litres cause, r.showArm a = .ofArm a (r.arm a).state addr preset litres cause (r.arm a).reason ∧
      ((r.arm a).current = none → addr = none ∧ preset = none ∧ litres = none) ∧
      (∀ e l, (r.arm a).current = some e → r.line? e.order e.line = some l →
        addr = some e.addr ∧ preset = some l.preset ∧ litres = some (if l.state = .queued then 0 else l.standard / 1000000)) ∧
      ((r.arm a).state = .suspended ∨ (r.arm a).state = .closing ∧ (r.arm a).intent = some .suspend → cause = (r.arm a).causes.head?) ∧
      ((r.arm a).state ≠ .suspended → ¬((r.arm a).state = .closing ∧ (r.arm a).intent = some .suspend) → cause = none) := by
  refine ⟨_, _, _, _, rfl, fun idle => ?_, fun e l current line => ?_, fun suspending => if_pos suspending, fun running other => ?_⟩
  · simp [Rack.currentLine, idle]
  · simp [Rack.currentLine, current, line, Line.shownLitres]
  · exact if_neg (fun h => h.elim running other)

/-! ### SHOW_SENT and the repeat timer (R188) -/

theorem execShowSent_sending {b : BayId} {s : State} {m : ShowMessage} (h : (s.rack.panel b).sending = some m) :
    execShowSent b s = .next { s with rack := (s.rack.modPanel b Panel.sent).pump } :=
  if_neg (by simp [h])

theorem Rack.begun_sent_empty {b : BayId} (h : (r.panel b).sendList = []) :
    (r.modPanel b Panel.sent).begun b = { sendList := [], sending := none } := by
  rw [Rack.begun_empty (by simp [Panel.sent, h])]
  simp [Panel.sent, h]

theorem Rack.begun_sent_head {b : BayId} {x : Subject} {rest : List Subject} (h : (r.panel b).sendList = x :: rest) :
    (r.modPanel b Panel.sent).begun b = { sendList := rest, sending := some (r.showOf b x) } := by
  rw [Rack.begun_head (x := x) (rest := rest) (by simp [Panel.sent]) (by simp [Panel.sent, h]), Rack.showOf_modPanel]

theorem showSent_advances (b : BayId) (s : State) :
    ((s.rack.panel b).sending = none → exec (.showSent b) s = .next s) ∧
    ∀ m, (s.rack.panel b).sending = some m →
      ∃ t, exec (.showSent b) s = .next t ∧ t.cond = s.cond ∧ t.rack = { s.rack with panels := t.rack.panels } ∧
        ((s.rack.panel b).sendList = [] → t.rack.panel b = { sendList := [], sending := none }) ∧
        ∀ x rest, (s.rack.panel b).sendList = x :: rest →
          t.rack.panel b = { sendList := rest, sending := some (s.rack.showOf b x) } := by
  refine ⟨fun idle => if_pos idle, fun m sending => ⟨_, execShowSent_sending sending, rfl, ?_, fun empty => ?_, fun x rest listed => ?_⟩⟩
  · apply Rack.eq_of_fields <;> simp
  · exact (Rack.pump_panel _ b).trans (Rack.begun_sent_empty empty)
  · exact (Rack.pump_panel _ b).trans (Rack.begun_sent_head listed)

/-- The repeat of a running arm, at the end of its time. -/
theorem showRepeat_due {a : ArmId} {s : State} {x : Stamp} (running : (s.rack.arm a).repeatTimer = some x)
    (out : 1000 ≤ s.cond.age x) : execShowRepeatTimerExpiry a s = .next { s with rack := (s.rack.repeatShow s.cond a).pump } := by
  refine if_pos ?_
  rw [running]
  exact decide_eq_true out

theorem showRepeat_left {a : ArmId} {s : State} {x : Stamp} (running : (s.rack.arm a).repeatTimer = some x)
    (left : s.cond.age x < 1000) : execShowRepeatTimerExpiry a s = .next s := by
  refine if_neg (fun out => ?_)
  rw [running] at out
  exact absurd (of_decide_eq_true out) (Nat.not_le.mpr left)

theorem Rack.repeatShow_panel (r : Rack) (a : ArmId) : (r.repeatShow c a).panel (bayOf a) = (r.panel (bayOf a)).call (subjectOf a) := by
  simp [Rack.repeatShow, Rack.callArm]

theorem Rack.repeatShow_showOf (r : Rack) (a : ArmId) (b : BayId) (x : Subject) : (r.repeatShow c a).showOf b x = r.showOf b x := by
  unfold Rack.repeatShow Rack.callArm
  rw [Rack.showOf_modPanel, Rack.showOf_modArm r a b x (by rfl)]

theorem showRepeat_advances (a : ArmId) (s : State) (x : Stamp) (running : (s.rack.arm a).repeatTimer = some x) :
    (s.cond.age x < 1000 → exec (.showRepeatTimerExpiry a) s = .next s) ∧
    (1000 ≤ s.cond.age x →
      ∃ t, exec (.showRepeatTimerExpiry a) s = .next t ∧
        t.rack = { s.rack with arms := t.rack.arms, panels := t.rack.panels } ∧
        t.rack.arm a = { s.rack.arm a with repeatTimer := some { time := s.cond.time, full := false } } ∧
        ∀ joined, joined = (if subjectOf a ∈ (s.rack.panel (bayOf a)).sendList then (s.rack.panel (bayOf a)).sendList
            else (s.rack.panel (bayOf a)).sendList ++ [subjectOf a]) →
          (∀ m, (s.rack.panel (bayOf a)).sending = some m →
            t.rack.panel (bayOf a) = { sendList := joined, sending := some m }) ∧
          ((s.rack.panel (bayOf a)).sending = none → ∀ y rest, joined = y :: rest →
            t.rack.panel (bayOf a) = { sendList := rest, sending := some (s.rack.showOf (bayOf a) y) })) := by
  refine ⟨showRepeat_left running, fun out => ⟨_, showRepeat_due running out, ?_, ?_, fun joined list => ⟨fun m sending => ?_,
    fun idle y rest head => ?_⟩⟩⟩
  · apply Rack.eq_of_fields <;> simp [Rack.repeatShow]
  · simp [Rack.repeatShow, Rack.callArm, Conditions.stamp]
  · have sending' : ((s.rack.repeatShow s.cond a).panel (bayOf a)).sending = some m := by
      rw [Rack.repeatShow_panel, Panel.call_sending, sending]
    rw [Rack.pump_panel, Rack.begun_sending sending', list, ← Panel.call_sendList, ← Rack.repeatShow_panel (c := s.cond), ← sending']
  · rw [Rack.pump_panel, Rack.begun_head (x := y) (rest := rest), Rack.repeatShow_showOf]
    · rw [Rack.repeatShow_panel, Panel.call_sending, idle]
    · rw [Rack.repeatShow_panel, Panel.call_sendList, ← list, head]

/-- Settles O43: the lines by Rack.pump_panel, the subjects by Panel.call, the SHOWs field by field. -/
theorem showLinesAdvance : Obligations.ShowLinesAdvance := by
  refine ⟨showSent_advances, showRepeat_advances, fun r b => r.modPanel_called b .bay, ?calls, fun r b => ⟨?_, fun m sending => ?_,
    fun empty => ?_, fun y rest idle listed => ?_⟩, fun r b => ?bay, ?arm⟩
  case calls =>
    rintro r a b x rfl rfl
    exact r.modPanel_called (bayOf a) (subjectOf a)
  case bay => cases admitted : (r.bay b).admitted <;> simp [Rack.showOf, Rack.showBay, admitted]
  case arm =>
    rintro r a x rfl
    rw [Rack.showOf_subjectOf]
    exact r.showArm_fields a
  · apply Rack.eq_of_fields <;> simp
  · rw [Rack.pump_panel, Rack.begun_sending sending]
  · rw [Rack.pump_panel, Rack.begun_empty empty]
  · rw [Rack.pump_panel, Rack.begun_head idle listed]

end Sys2Proof.Machine
end

section
/-! PROOF. The field inputs: loss of a permissive (O48), emergency stop and resume (O49). -/

namespace Sys2Proof.Machine

variable {r r' : Rack} {c : Conditions}

/-! ### A cause that reaches an arm in CLOSING -/

/-- An arm in CLOSING that a cause has reached (R111, R112). -/
def Arm.reached (cause : Cause) (x : Arm) : Arm :=
  if x.intent = some .suspend then
    { x with causes := joinCause cause x.causes, probeRefreshed := refreshedAfter cause x.probeRefreshed }
  else if cause = .permissive then x
  else { x with probeRefreshed := refreshedAfter cause x.probeRefreshed }

theorem Rack.raiseCause_closing {a : ArmId} {cause : Cause} (closing : (r.arm a).state = .closing) :
    (r.raiseCause c a cause).arm a = (r.arm a).reached cause := by
  unfold Rack.raiseCause Arm.reached
  rw [if_neg (by simp [closing, ArmState.isFlow]), if_pos closing]
  split
  · simp
  · split
    · exact Rack.modCurrentLine_arm r a a _
    · simp

theorem Arm.reached_state (cause : Cause) (x : Arm) : (x.reached cause).state = x.state := by
  unfold Arm.reached
  repeat' split
  all_goals rfl

/-- A cause that reaches several arms leaves one in CLOSING as it does when it reaches that arm alone. -/
theorem raiseCauses_closing (cause : Cause) (arms : List ArmId) {r : Rack} {b : ArmId} (reached : b ∈ arms) (once : arms.Nodup)
    (closing : (r.arm b).state = .closing) : (raiseCauses c cause arms r).arm b = (r.arm b).reached cause := by
  have passed (rest : List ArmId) (r : Rack) (closing : (r.arm b).state = .closing) (h : b ∉ rest) :
      (raiseCauses c cause rest r).arm b = r.arm b := by
    rcases raiseCauses_other c cause rest r b h with same | ⟨waits, -⟩
    · exact same
    · rw [closing] at waits
      cases waits
  induction arms generalizing r with
  | nil => cases reached
  | cons a rest ih =>
    obtain ⟨notRest, once'⟩ := List.nodup_cons.mp once
    rw [raiseCauses]
    by_cases same : b = a
    · subst same
      have after := Rack.raiseCause_closing (c := c) (cause := cause) closing
      rw [passed rest _ (by rw [after, Arm.reached_state, closing]) notRest, after]
    · have kept : (r.raiseCause c a cause).arm b = r.arm b := by
        rcases Rack.raiseCause_other c r a b cause same with kept | ⟨waits, -⟩
        · exact kept
        · rw [closing] at waits
          cases waits
      rw [ih ((List.mem_cons.mp reached).resolve_left same) once' (kept ▸ closing), kept]

/-! ### PERMISSIVE_LOST on the lines -/

/-- A line with PERMISSIVE_LOST. -/
def Line.lost (l : Line) : Line := { l with flags := { l.flags with permissiveLost := true } }

theorem Line.lost_lost (l : Line) : l.lost.lost = l.lost := rfl

/-- PERMISSIVE gives the line of a close that is no suspension PERMISSIVE_LOST (R157). -/
theorem Rack.raiseCause_permissive {a : ArmId} (closing : (r.arm a).state = .closing) (intent : (r.arm a).intent ≠ some .suspend) :
    r.raiseCause c a .permissive = r.modCurrentLine a Line.lost := by
  unfold Rack.raiseCause
  rw [if_neg (by simp [closing, ArmState.isFlow]), if_pos closing, if_neg intent, if_pos rfl]
  rfl

/-- A cause leaves the orders as they were, or it is PERMISSIVE at a close that is no suspension. -/
theorem Rack.raiseCause_orders_cases (r : Rack) (a : ArmId) (cause : Cause) :
    (r.raiseCause c a cause).orders = r.orders ∨ r.raiseCause c a cause = r.modCurrentLine a Line.lost := by
  by_cases lost : cause = .permissive ∧ (r.arm a).state = .closing ∧ (r.arm a).intent ≠ some .suspend
  · obtain ⟨rfl, closing, intent⟩ := lost
    exact .inr (Rack.raiseCause_permissive closing intent)
  · left
    unfold Rack.raiseCause
    split
    · simp
    · split
      · split
        · rfl
        · split
          · exact absurd ⟨‹_›, ‹_›, ‹_›⟩ lost
          · rfl
      · rfl

/-- A cause leaves a line as it was, or gives it PERMISSIVE_LOST. -/
theorem Rack.raiseCause_line (a : ArmId) (cause : Cause) (n m : Nat) :
    (r.raiseCause c a cause).line? n m = r.line? n m ∨ (r.raiseCause c a cause).line? n m = (r.line? n m).map Line.lost := by
  rcases r.raiseCause_orders_cases (c := c) a cause with same | lost
  · exact .inl (Rack.line_eq same n m)
  · rw [lost]
    cases current : (r.arm a).current with
    | none => exact .inl (by simp [Rack.modCurrentLine, current])
    | some e =>
      rw [Rack.modCurrentLine_line r current Line.lost (fun _ => rfl)]
      split
      · rename_i here
        rw [← here.1, ← here.2]
        exact .inr rfl
      · exact .inl rfl

theorem Rack.raiseCause_current (a b : ArmId) (cause : Cause) : ((r.raiseCause c a cause).arm b).current = (r.arm b).current := by
  by_cases same : b = a
  · subst same
    by_cases flow : (r.arm b).state.isFlow = true
    · rw [Rack.raiseCause_flow c r b cause flow]
      rfl
    · by_cases closing : (r.arm b).state = .closing
      · rw [Rack.raiseCause_closing closing]
        unfold Arm.reached
        repeat' split
        all_goals rfl
      · rw [Rack.raiseCause_still c r b cause (by simp [ArmState.isRunning, flow, closing])]
  · rcases Rack.raiseCause_other c r a b cause same with kept | ⟨-, granted⟩
    · rw [kept]
    · rw [granted]

theorem Rack.raiseCause_currentLine (a b : ArmId) (cause : Cause) {l : Line} (h : r.currentLine b = some l) :
    (r.raiseCause c a cause).currentLine b = some l ∨ (r.raiseCause c a cause).currentLine b = some l.lost := by
  obtain ⟨e, o, current, -, line⟩ := Rack.currentLine_some h
  have current' : ((r.raiseCause c a cause).arm b).current = some e := (Rack.raiseCause_current a b cause).trans current
  unfold Rack.currentLine
  rw [current', Option.bind_some]
  rcases Rack.raiseCause_line (c := c) a cause e.order e.line with same | lost
  · exact .inl (same.trans line)
  · exact .inr (by rw [lost, line]; rfl)

theorem Rack.raiseCause_lost {a : ArmId} {l : Line} (closing : (r.arm a).state = .closing) (intent : (r.arm a).intent ≠ some .suspend)
    (h : r.currentLine a = some l) : (r.raiseCause c a .permissive).currentLine a = some l.lost := by
  rw [Rack.raiseCause_permissive closing intent, Rack.modCurrentLine_currentLine r a Line.lost (fun _ => rfl), h]
  rfl

theorem raiseCauses_currentLine (cause : Cause) (arms : List ArmId) {r : Rack} {b : ArmId} {l : Line} (h : r.currentLine b = some l) :
    (raiseCauses c cause arms r).currentLine b = some l ∨ (raiseCauses c cause arms r).currentLine b = some l.lost := by
  induction arms generalizing r l with
  | nil => exact .inl h
  | cons a rest ih =>
    rcases Rack.raiseCause_currentLine (c := c) a b cause h with same | lost
    · exact ih same
    · exact (ih lost).elim .inr .inr

theorem raiseCauses_lost (arms : List ArmId) {r : Rack} {b : ArmId} {l : Line} (reached : b ∈ arms) (closing : (r.arm b).state = .closing)
    (intent : (r.arm b).intent ≠ some .suspend) (h : r.currentLine b = some l) :
    (raiseCauses c .permissive arms r).currentLine b = some l.lost := by
  induction arms generalizing r l with
  | nil => cases reached
  | cons a rest ih =>
    rw [raiseCauses]
    by_cases same : b = a
    · subst same
      exact (raiseCauses_currentLine .permissive rest (Rack.raiseCause_lost (c := c) closing intent h)).elim id id
    · have kept : (r.raiseCause c a .permissive).arm b = r.arm b := by
        rcases Rack.raiseCause_other c r a b .permissive same with kept | ⟨waits, -⟩
        · exact kept
        · rw [closing] at waits
          cases waits
      have later := (List.mem_cons.mp reached).resolve_left same
      rcases Rack.raiseCause_currentLine (c := c) a b .permissive h with line | line
      · exact ih later (kept ▸ closing) (kept ▸ intent) line
      · exact ih (l := l.lost) later (kept ▸ closing) (kept ▸ intent) line

/-! ### A permissive input (R156 to R159) -/

theorem joinCause_permissive (cs : List Cause) :
    joinCause .permissive cs = if Cause.permissive ∈ cs then cs else cs ++ [.permissive] := by
  have same (x : Cause) : sameCause .permissive x = decide (Cause.permissive = x) := by
    cases x <;> rfl
  have standing : cs.any (sameCause .permissive) = decide (Cause.permissive ∈ cs) := by
    induction cs with
    | nil => rfl
    | cons x rest ih => simp [same, ih]
  unfold joinCause
  rw [standing]
  by_cases h : Cause.permissive ∈ cs <;> simp [h]

/-- The conditions with a permissive level recorded. -/
theorem setInput_eq {b : BayId} {input : PermissiveInput} {level : Bool} {c c' : Conditions}
    (h : input = .ground ∧ c' = { c with ground := c.ground.set b level } ∨
      input = .overfill ∧ c' = { c with overfill := c.overfill.set b level }) : c.setInput b input level = c' := by
  rcases h with ⟨rfl, rfl⟩ | ⟨rfl, rfl⟩ <;> rfl

/-- A change of level at a PERMITTED bay is the loss of it (R156). -/
theorem setInput_blocked {b : BayId} {input : PermissiveInput} {level : Bool} {c : Conditions} (change : c.inputLevel b input ≠ level)
    (permitted : c.permitted b = true) : (c.setInput b input level).permitted b = false := by
  obtain ⟨ground, overfill⟩ := (Bool.and_eq_true _ _).mp permitted
  cases input with
  | ground =>
    have lost : level = false := by simpa [Conditions.inputLevel, ground] using change
    simp [Conditions.permitted, Conditions.setInput, lost]
  | overfill =>
    have lost : level = false := by simpa [Conditions.inputLevel, overfill] using change
    simp [Conditions.permitted, Conditions.setInput, lost]

theorem execPermissiveInputChange_blocked {b : BayId} {input : PermissiveInput} {level : Bool} {s : State}
    (change : s.cond.inputLevel b input ≠ level) (permitted : s.cond.permitted b = true) :
    execPermissiveInputChange b input level s = .next
      (State.raiseToArms { s with cond := s.cond.setInput b input level } .permissive (armsOfBay b)) := by
  unfold execPermissiveInputChange
  rw [if_neg change]
  exact if_pos (by simp [permitted, setInput_blocked change permitted])

theorem execPermissiveInputChange_recorded {b : BayId} {input : PermissiveInput} {level : Bool} {s : State}
    (change : s.cond.inputLevel b input ≠ level) (blocked : s.cond.permitted b = false) :
    execPermissiveInputChange b input level s = .next { s with cond := s.cond.setInput b input level } := by
  unfold execPermissiveInputChange
  rw [if_neg change]
  exact if_neg (by simp [blocked])

/-- An arm of the bay that a loss of permission reaches, by its state (R157, R159). -/
theorem raiseCauses_permissive_arm (arms : List ArmId) {r : Rack} {a : ArmId} (reached : a ∈ arms) (once : arms.Nodup) :
    ((r.arm a).state.isFlow = true → suspendingFor (raiseCauses c .permissive arms r) a .permissive ∧
      ((raiseCauses c .permissive arms r).arm a).state.valve = .closed) ∧
    ((r.arm a).state = .closing → (r.arm a).intent = some .suspend → (raiseCauses c .permissive arms r).arm a = { r.arm a with causes :=
      if Cause.permissive ∈ (r.arm a).causes then (r.arm a).causes else (r.arm a).causes ++ [.permissive] }) ∧
    ((r.arm a).state = .closing → (r.arm a).intent ≠ some .suspend → (raiseCauses c .permissive arms r).arm a = r.arm a ∧
      ∀ l, r.currentLine a = some l → (raiseCauses c .permissive arms r).currentLine a = some l.lost) ∧
    ((r.arm a).state.isRunning = false → (raiseCauses c .permissive arms r).arm a = r.arm a) := by
  refine ⟨fun flow => ?_, fun closing intent => ?_, fun closing intent => ⟨?_, fun l line => ?_⟩, fun still => ?_⟩
  · have suspending := raiseCauses_flow c .permissive arms r a reached once flow
    exact ⟨suspending, by rw [suspending.1]; rfl⟩
  · rw [raiseCauses_closing .permissive arms reached once closing]
    simp [Arm.reached, intent, joinCause_permissive, refreshedAfter]
  · rw [raiseCauses_closing .permissive arms reached once closing]
    simp [Arm.reached, intent]
  · exact raiseCauses_lost arms reached closing intent line
  · exact raiseCauses_still c .permissive arms r a still

theorem raiseCauses_fields (cause : Cause) (arms : List ArmId) (r : Rack) :
    (raiseCauses c cause arms r).pump = { r with
      orders := (raiseCauses c cause arms r).pump.orders, arms := (raiseCauses c cause arms r).pump.arms
      headers := (raiseCauses c cause arms r).pump.headers, panels := (raiseCauses c cause arms r).pump.panels } := by
  obtain ⟨permits, units, accounts, additives, -, injectors, bays, notes, noteCounter⟩ := raiseCauses_tables c cause arms r
  apply Rack.eq_of_fields <;> simp [permits, units, accounts, additives, injectors, bays, notes, noteCounter]

theorem inFreeOrder_once (draw : Nat) {arms : List ArmId} (once : arms.Nodup) : (inFreeOrder draw arms).Nodup :=
  (inFreeOrder_perm draw arms).nodup_iff.mpr once

theorem Rack.pump_currentLine (r : Rack) (a : ArmId) : r.pump.currentLine a = r.currentLine a :=
  Rack.currentLine_eq (Rack.pump_orders r) (by rw [Rack.pump_arm])

/-- Settles O48: the loss raises PERMISSIVE at the two arms of the bay, in either order. -/
theorem permissiveLossSuspends : Obligations.PermissiveLossSuspends := by
  intro b input level s c change recorded
  have cond := setInput_eq recorded
  subst cond
  refine ⟨fun permitted => ⟨_, execPermissiveInputChange_blocked change permitted, rfl, setInput_blocked change permitted,
    fun a here => ?_, fun a other => ?_, raiseCauses_fields _ _ _⟩, execPermissiveInputChange_recorded change⟩
  · have reached : a ∈ inFreeOrder s.choice (armsOfBay b) := (inFreeOrder_perm _ _).mem_iff.mpr ((mem_armsOfBay a b).mpr here)
    have met := raiseCauses_permissive_arm (c := s.cond.setInput b input level) (r := s.rack) _ reached
      (inFreeOrder_once s.choice (armsOfBay_nodup b))
    simpa only [State.raiseToArms, State.moveRack, suspendingFor, Rack.pump_arm, Rack.pump_currentLine, Line.lost] using met
  · have notReached : a ∉ inFreeOrder s.choice (armsOfBay b) := fun h =>
      other ((mem_armsOfBay a b).mp ((inFreeOrder_perm _ _).mem_iff.mp h))
    have met := raiseCauses_other (s.cond.setInput b input level) .permissive _ s.rack a notReached
    simp only [State.raiseToArms, State.moveRack, Rack.pump_arm]
    rcases met with same | ⟨waits, granted⟩
    · exact .inl (by rw [same])
    · exact .inr ⟨waits, by rw [granted]⟩

/-! ### The emergency stop (R160 to R164) -/

theorem execEmergencyStop_halts {s : State} (inactive : s.cond.emergencyStop = false) (normal : s.cond.mode = .normal) :
    execEmergencyStopInputChange true s = .next
      (State.raiseToArms { s with cond := (s.cond.setEmergencyStop true).halt } .halt allArms) := by
  unfold execEmergencyStopInputChange
  rw [if_neg (by simp [inactive]), if_pos ⟨rfl, normal⟩]

theorem execEmergencyStop_halted {s : State} (halted : s.cond.mode = .halted) :
    execEmergencyStopInputChange true s = .next { s with cond := { s.cond with emergencyStop := true } } := by
  unfold execEmergencyStopInputChange
  split
  · rename_i active
    exact congrArg Host.Outcome.next (by rw [← active])
  · rw [if_neg (by simp [halted])]
    rfl

theorem execEmergencyStop_released (s : State) :
    execEmergencyStopInputChange false s = .next { s with cond := { s.cond with emergencyStop := false } } := by
  unfold execEmergencyStopInputChange
  split
  · rename_i inactive
    exact congrArg Host.Outcome.next (by rw [← inactive])
  · rw [if_neg (by simp)]
    rfl

/-- The emergency stop of a NORMAL rack, at every arm (R161). -/
theorem emergencyStop_halts {s : State} (inactive : s.cond.emergencyStop = false) (normal : s.cond.mode = .normal) :
    ∃ t, exec (.emergencyStopInputChange true) s = .next t ∧
      t.cond = { s.cond with emergencyStop := true, mode := .halted } ∧
      (∀ a, (t.rack.arm a).state.isFlow = false) ∧
      (∀ a, (s.rack.arm a).state.isFlow = true → suspendingFor t.rack a .halt) ∧
      (∀ a, (s.rack.arm a).state.isRunning = false → t.rack.arm a = s.rack.arm a) ∧
      t.rack = { s.rack with arms := t.rack.arms, headers := t.rack.headers, panels := t.rack.panels } := by
  have reached (a : ArmId) : a ∈ inFreeOrder s.choice allArms := (inFreeOrder_perm _ _).mem_iff.mpr (mem_allArms a)
  have once := inFreeOrder_once s.choice allArms_nodup
  refine ⟨_, execEmergencyStop_halts inactive normal, rfl, fun a => ?_, fun a flow => ?_, fun a still => ?_, ?_⟩ <;>
    dsimp only [State.raiseToArms, State.moveRack]
  · rw [Rack.pump_arm, raiseCauses_noFlow _ _ _ _ a (reached a)]
  · exact suspendingFor_pump (raiseCauses_flow _ _ _ _ a (reached a) once flow)
  · exact (Rack.pump_arm _ a).trans (raiseCauses_still _ _ _ _ a still)
  · have orders := raiseCauses_orders (s.cond.setEmergencyStop true).halt .halt nofun (inFreeOrder s.choice allArms) s.rack
    refine (raiseCauses_fields .halt (inFreeOrder s.choice allArms) s.rack).trans ?_
    rw [Rack.pump_orders, orders]

/-! ### RACK.RESUME and what keeps the mode -/

theorem takeRequest_mode {p : Prop} {name : Text} {fields : List Text} {answer : Answer} {s t : State} (tidy : answer.Tidy p)
    (h : takeRequest name fields answer s = .next t) : t.cond.mode = s.cond.mode ∨ p ∧ s.cond.emergencyStop = false := by
  rcases takeRequest_cases name fields answer s with discarded | ⟨-, -, taken⟩
  · cases discarded.symm.trans h
    exact .inl rfl
  · cases taken.symm.trans h
    exact (tidy { s with link := s.link.toHunt }).mode

/-- The commands that may take a rack out of HALTED: POWER_ON, and at an INACTIVE input a RACK.RESUME, however its frame comes. -/
def mayResume (s : State) (i : Instr) : Prop :=
  (∃ inputs, i = .powerOn inputs) ∨ s.cond.emergencyStop = false ∧
    ((∃ fields, i = .rackResume fields) ∨ (∃ fields, i = .unknownRequest (txt "RACK.RESUME") fields) ∨
      ∃ chars k body, i = .badFrame chars ∧ s.link.receiveAll chars = (k, some body) ∧ (splitBody body).1 = txt "RACK.RESUME")

theorem requestName_resume {i : Instr} (h : i.requestName = some (txt "RACK.RESUME")) : ∃ fields, i = .rackResume fields := by
  cases i with
  | rackResume fields => exact ⟨fields, rfl⟩
  | _ => exact absurd h (by simp only [Instr.requestName]; decide)

theorem exec_request_mode {i : Instr} {name : Text} (hn : i.requestName = some name) {s t : State} (h : exec i s = .next t) :
    t.cond.mode = s.cond.mode ∨ mayResume s i := by
  obtain ⟨x, hx, named, taken⟩ := exec_owner hn
  rcases takeRequest_mode (owners_tidy x hx _) ((taken s).symm.trans h) with kept | ⟨resume, inactive⟩
  · exact .inl kept
  · exact .inr (.inr ⟨inactive, .inl (requestName_resume (hn.trans (congrArg some (named.symm.trans resume))))⟩)

theorem execBadFrame_mode {chars : Text} {s t : State} (h : execBadFrame chars s = .next t) :
    t.cond.mode = s.cond.mode ∨ mayResume s (.badFrame chars) := by
  unfold execBadFrame at h
  split at h
  · cases h
    exact .inl rfl
  · rename_i k body received
    cases h
    rcases (answerNamed_tidy (splitBody body).1 (splitBody body).2 { s with link := k }).mode with kept | ⟨resume, inactive⟩
    · exact .inl kept
    · exact .inr (.inr ⟨inactive, .inr (.inr ⟨chars, k, body, rfl, received, resume⟩)⟩)

theorem emergencyStop_mode {active : Bool} {s t : State} (h : execEmergencyStopInputChange active s = .next t)
    (halted : s.cond.mode = .halted) : t.cond.mode = .halted := by
  cases active with
  | true =>
    cases (execEmergencyStop_halted halted).symm.trans h
    exact halted
  | false =>
    cases (execEmergencyStop_released s).symm.trans h
    exact halted

theorem permissiveInput_mode {b : BayId} {input : PermissiveInput} {level : Bool} {s t : State}
    (h : execPermissiveInputChange b input level s = .next t) : t.cond.mode = s.cond.mode := by
  have recorded : (s.cond.setInput b input level).mode = s.cond.mode := by cases input <;> rfl
  by_cases same : s.cond.inputLevel b input = level
  · cases (if_pos same).symm.trans h
    rfl
  · cases permitted : s.cond.permitted b with
    | true =>
      cases (execPermissiveInputChange_blocked same permitted).symm.trans h
      exact recorded
    | false =>
      cases (execPermissiveInputChange_recorded same permitted).symm.trans h
      exact recorded

/-- A command that moves the rack when it is due leaves the conditions. -/
theorem cond_of_due {q : Prop} [Decidable q] {f : Conditions → Rack → Rack} {s t : State}
    (h : (if q then Host.Outcome.next (s.moveRack f) else .next s : Result) = .next t) : t.cond = s.cond := by
  split at h <;> cases h <;> rfl

theorem cond_of_notDue {q : Prop} [Decidable q] {f : Conditions → Rack → Rack} {s t : State}
    (h : (if q then Host.Outcome.next s else .next (s.moveRack f) : Result) = .next t) : t.cond = s.cond := by
  split at h <;> cases h <;> rfl

/-- What leaves a HALTED rack HALTED. -/
theorem exec_mode {i : Instr} {s t : State} (h : exec i s = .next t) (halted : s.cond.mode = .halted) :
    t.cond.mode = .halted ∨ mayResume s i := by
  cases hn : i.requestName with
  | some name => exact (exec_request_mode hn h).imp_left (·.trans halted)
  | none =>
    cases i with
    | powerOn inputs => exact .inr (.inl ⟨inputs, rfl⟩)
    | badFrame chars => exact (execBadFrame_mode h).imp_left (·.trans halted)
    | unknownRequest name fields =>
      rcases takeRequest_mode (answerNamed_tidy name fields) h with kept | ⟨rfl, inactive⟩
      · exact .inl (kept.trans halted)
      · exact .inr (.inr ⟨inactive, .inr (.inl ⟨fields, rfl⟩)⟩)
    | emergencyStopInputChange active => exact .inl (emergencyStop_mode h halted)
    | permissiveInputChange b input level => exact .inl ((permissiveInput_mode h).trans halted)
    | panelMessageDiscarded b chars =>
      cases h
      exact .inl ((congrArg Conditions.mode (panelCharacters_move b chars s).1).trans halted)
    | card b permit =>
      change execCard b permit s = .next t at h
      unfold execCard at h
      split at h <;> cases h <;> exact .inl halted
    | timebaseTick | meterPulse | probeReading | calSwitchChange | responseSent | start | stop =>
      cases h
      exact .inl halted
    | feedbackRise a n => exact .inl ((congrArg Conditions.mode (cond_of_notDue h)).trans halted)
    | showSent b => exact .inl ((congrArg Conditions.mode (cond_of_notDue h)).trans halted)
    | rateWindowExpiry a => exact .inl ((congrArg Conditions.mode (cond_of_due h)).trans halted)
    | stalenessExpiry a => exact .inl ((congrArg Conditions.mode (cond_of_due h)).trans halted)
    | noFlowTimerExpiry a => exact .inl ((congrArg Conditions.mode (cond_of_due h)).trans halted)
    | settleTimerExpiry a => exact .inl ((congrArg Conditions.mode (cond_of_due h)).trans halted)
    | feedbackFall a n => exact .inl ((congrArg Conditions.mode (cond_of_due h)).trans halted)
    | riseTimerExpiry a n => exact .inl ((congrArg Conditions.mode (cond_of_due h)).trans halted)
    | activeTimerExpiry a n => exact .inl ((congrArg Conditions.mode (cond_of_due h)).trans halted)
    | showRepeatTimerExpiry a => exact .inl ((congrArg Conditions.mode (cond_of_due h)).trans halted)
    | _ => exact absurd hn (by simp [Instr.requestName])

/-- Settles O49: the input by its position and the mode; a HALTED rack by what every owner keeps (Tidy). -/
theorem emergencyStopHaltsUntilResume : Obligations.EmergencyStopHaltsUntilResume := by
  refine ⟨fun s t moved halted => ?_, fun s => ⟨emergencyStop_halts, execEmergencyStop_halted, execEmergencyStop_released s, fun _ => rfl,
    fun f fields taken => takeRequest_taken taken rfl rfl, fun taken active => ?_, fun taken inactive => ?_⟩⟩
  · unfold step at moved
    split at moved
    · cases moved
      exact .inl halted
    · rename_i c rest queue
      exact (exec_mode moved halted).imp_right (fun resumes => ⟨c, rest, queue, resumes⟩)
  · exact takeRequest_taken (t := s) taken (if_pos active) rfl
  · exact takeRequest_taken (t := { s with cond := { s.cond with mode := .normal } }) taken (if_neg (by simp [inactive])) rfl

end Sys2Proof.Machine
end

section
/-! PROOF. Numbers as text (O27), and what a form check that passes says of the items (R181). -/

namespace Sys2Proof.Machine

/-! ### Decimal numbers (section 11.8) -/

theorem readDigits_append (acc : Nat) (xs : Text) (ch : Char) :
    readDigits acc (xs ++ [ch]) = (readDigits acc xs).bind (fun m => (digitValue ch).map (fun d => m * 10 + d)) := by
  induction xs generalizing acc with
  | nil => cases digit : digitValue ch <;> simp [readDigits, digit]
  | cons x rest ih =>
    simp only [List.cons_append, readDigits]
    cases digitValue x with
    | some d => exact ih _
    | none => rfl

theorem digitValue_digitChar {d : Nat} (h : d < 10) : digitValue d.digitChar = some d := by
  revert d
  decide

theorem readDigits_toDigits (n : Nat) : readDigits 0 (Nat.toDigits 10 n) = some n := by
  induction n using Nat.strong_induction_on with
  | _ n ih =>
    rcases Nat.lt_or_ge n 10 with small | large
    · rw [Nat.toDigits_of_lt_base small]
      simp [readDigits, digitValue_digitChar small]
    · rw [Nat.toDigits_of_base_le (by omega) large, readDigits_append, ih (n / 10) (by omega),
        digitValue_digitChar (Nat.mod_lt n (by omega))]
      simp only [Option.bind_some, Option.map_some, Option.some.injEq]
      omega

theorem natText_ne_nil (n : Nat) : natText n ≠ [] := by
  unfold natText
  rcases Nat.lt_or_ge n 10 with small | large
  · simp [Nat.toDigits_of_lt_base small]
  · simp [Nat.toDigits_of_base_le (by omega) large]

theorem readNat_natText (n : Nat) : readNat (natText n) = some n := by
  have some : (natText n).isEmpty = false := by simpa using natText_ne_nil n
  unfold readNat
  rw [some]
  exact readDigits_toDigits n

theorem readValue_natText {lo hi n : Nat} :
    readValue (.nat lo hi) (some (natText n)) = if lo ≤ n ∧ n ≤ hi then some (.nat n) else none := by
  have clean : '<' ∉ natText n := notMem_of_readNat (by decide) (readNat_natText n)
  simp only [readValue, ValueForm.read, readRange, readNat_natText]
  rw [if_neg (by simpa using clean)]
  split <;> rfl

/-- A plain field of the text of its name, as an item. -/
theorem hasItem_plainItem (name : String) (value : Option FieldValue) : hasItem [plainItem name value] (txt name) 0 = true := by
  simp [hasItem, lastItem, plainItem]

/-- Settles O27: digits read back one by one; the range by the one field's form check. -/
theorem numberFieldReads : Obligations.NumberFieldReads := by
  refine ⟨readNat_natText, fun name lo hi n noEquals noStop => ?_⟩
  have item := readItem_plainField (form := .nat lo hi) (v := natText n) (by simpa using noEquals) (by simpa using noStop)
  rw [readValue_natText] at item
  split at item
  · rename_i inRange
    have required : firstMissing [plainItem name (some (.nat n))] [required name] = none := by
      simp [firstMissing, required, hasItem_plainItem]
    have found : knownItems [plainField name (.nat lo hi)] [txt name ++ '=' :: natText n] = [plainItem name (some (.nat n))] := by
      simp [knownItems, item]
    rw [if_pos inRange]
    unfold checkPlain checkForm
    rw [found]
    simp only [firstBad, item, List.map_cons, List.map_nil, required]
    simp [plainItem]
  · rename_i outside
    rw [if_neg outside]
    simp [checkPlain, checkForm, firstBad, item, plainItem, keyOf,
      RawField.ofText_plain (key := txt name) (by simpa using noEquals) (by simpa using noStop)]

/-! ### The last occurrence of a field (R181) -/

variable {items : List Item} {name : Text} {index : Nat}

theorem lastItem_mem {i : Item} (h : lastItem items name index = some i) : i ∈ items ∧ i.name = name ∧ i.index = index := by
  obtain ⟨mem, here⟩ := List.mem_filter.mp (List.mem_of_getLast? h)
  simpa [mem] using here

theorem hasItem_iff : hasItem items name index = true ↔ ∃ i ∈ items, i.name = name ∧ i.index = index := by
  unfold hasItem
  constructor
  · intro h
    obtain ⟨i, last⟩ := Option.isSome_iff_exists.mp h
    obtain ⟨mem, here⟩ := lastItem_mem last
    exact ⟨i, mem, here⟩
  · rintro ⟨i, mem, rfl, rfl⟩
    have held : i ∈ items.filter (fun j => decide (j.name = i.name) && decide (j.index = i.index)) :=
      List.mem_filter.mpr ⟨mem, by simp⟩
    unfold lastItem
    rw [List.getLast?_isSome]
    exact List.ne_nil_of_mem held

/-- The last occurrence in a list is that of its rest, or the first item where the rest has none. -/
theorem lastItem_cons (i : Item) (rest : List Item) : lastItem (i :: rest) name index =
    (lastItem rest name index).or (if i.name = name ∧ i.index = index then some i else none) := by
  unfold lastItem
  rw [List.filter_cons]
  by_cases here : i.name = name ∧ i.index = index
  · rw [if_pos (by simpa using here), if_pos here, List.getLast?_cons]
    cases (rest.filter (fun j => decide (j.name = name) && decide (j.index = index))).getLast? <;> rfl
  · rw [if_neg (by simpa using here), if_neg here, Option.or_none]

/-! ### A form check that passes -/

variable {forms : List FieldForm} {twice : Bool} {own : List Item → Item → Bool} {needs : List Item → List (Text × Nat × Text)}
  {fields : List Text}

/-- What a form check that passes says: the items are the fields as their forms read them, no value is at fault, none breaks the request's
own rule, and every field the request needs stands there; where none may stand twice, none does. -/
structure Formed (forms : List FieldForm) (twice : Bool) (own : List Item → Item → Bool)
    (needs : List Item → List (Text × Nat × Text)) (fields : List Text) (items : List Item) : Prop where
  known : items = knownItems forms fields
  read : ∀ t ∈ fields, ∃ i ∈ items, readItem forms t = some i
  valued : ∀ i ∈ items, i.value ≠ none
  own : ∀ i ∈ items, own items i = false
  needs : ∀ n ∈ needs items, hasItem items n.1 n.2.1 = true
  once : twice = false → (items.map (fun i => (i.name, i.index))).Nodup

theorem firstMissing_none {needed : List (Text × Nat × Text)} (h : firstMissing items needed = none) :
    ∀ n ∈ needed, hasItem items n.1 n.2.1 = true := by
  induction needed with
  | nil => simp
  | cons n rest ih =>
    obtain ⟨name, index, key⟩ := n
    unfold firstMissing at h
    split at h
    · rename_i here
      exact List.forall_mem_cons.mpr ⟨here, ih h⟩
    · cases h

/-- No field at fault: each is read, holds a value and keeps the request's rule; none that may stand once stands again. -/
theorem firstBad_none {own : Item → Bool} {seen : List (Text × Nat)} (h : firstBad forms twice own seen fields = none) :
    (∀ t ∈ fields, ∃ i, readItem forms t = some i ∧ i.value ≠ none ∧ own i = false) ∧
    (twice = false → ((knownItems forms fields).map (fun i => (i.name, i.index))).Nodup ∧
      ∀ i ∈ knownItems forms fields, (i.name, i.index) ∉ seen) := by
  induction fields generalizing seen with
  | nil => simp [knownItems]
  | cons t rest ih =>
    unfold firstBad at h
    split at h
    · cases h
    · rename_i i read
      split at h
      · cases h
      · rename_i good
        simp only [Bool.or_eq_true, not_or, Bool.not_eq_true, Option.isNone_eq_false_iff] at good
        obtain ⟨⟨valued, own'⟩, again⟩ := good
        obtain ⟨others, apart⟩ := ih h
        have known : knownItems forms (t :: rest) = i :: knownItems forms rest := by simp [knownItems, read]
        refine ⟨List.forall_mem_cons.mpr ⟨⟨i, read, by simpa [Option.isSome_iff_ne_none] using valued, own'⟩, others⟩, fun single => ?_⟩
        obtain ⟨nodup, unseen⟩ := apart single
        rw [known]
        refine ⟨List.nodup_cons.mpr ⟨fun mem => ?_, nodup⟩, List.forall_mem_cons.mpr ⟨?_, fun j hj mem => ?_⟩⟩
        · obtain ⟨j, hj, same⟩ := List.mem_map.mp mem
          exact unseen j hj (same ▸ List.mem_cons_self)
        · simpa [single] using again
        · exact unseen j hj (List.mem_cons_of_mem _ mem)

theorem formed_of_check (h : checkForm forms twice own needs fields = .ok items) : Formed forms twice own needs fields items := by
  have known := checkForm_items h
  subst known
  unfold checkForm at h
  dsimp only at h
  split at h
  · cases h
  · rename_i noFault
    split at h
    · cases h
    · rename_i noneMissing
      obtain ⟨good, apart⟩ := firstBad_none noFault
      have byField {i : Item} (mem : i ∈ knownItems forms fields) : i.value ≠ none ∧ own (knownItems forms fields) i = false := by
        obtain ⟨t, ht, read⟩ := List.mem_filterMap.mp mem
        obtain ⟨j, read', valued, own'⟩ := good t ht
        cases read.symm.trans read'
        exact ⟨valued, own'⟩
      refine ⟨rfl, fun t ht => ?_, fun i mem => (byField mem).1, fun i mem => (byField mem).2, firstMissing_none noneMissing,
        fun single => (apart single).1⟩
      obtain ⟨i, read, -, -⟩ := good t ht
      exact ⟨i, List.mem_filterMap.mpr ⟨t, ht, read⟩, read⟩

/-! ### Values of the forms -/

/-- An item's value was read in the form of its name. -/
theorem Formed.item_read (h : Formed forms twice own needs fields items) {i : Item} (mem : i ∈ items) :
    ∃ f ∈ forms, i.name = f.name ∧ (∃ x, f.index.read x = some i.index) ∧ ∃ t v, i.value = some v ∧ f.value.read t = some v := by
  obtain ⟨f, hf, named, ⟨v, value⟩, index⟩ := mem_knownItems (h.known ▸ mem)
  obtain ⟨x, hx⟩ := Option.ne_none_iff_exists'.mp (h.valued i mem)
  obtain ⟨t, -, read⟩ := readValue_some (value ▸ hx)
  exact ⟨f, hf, named, index, t, x, hx, read⟩

/-- The value taken for a field that stands in the frame. -/
theorem Formed.value (h : Formed forms twice own needs fields items) {name : String} (has : hasItem items (txt name) index = true) :
    ∃ i ∈ items, i.name = txt name ∧ i.index = index ∧ ∃ v, i.value = some v ∧ itemValue items name index = some v := by
  obtain ⟨i, last⟩ := Option.isSome_iff_exists.mp has
  obtain ⟨mem, named, here⟩ := lastItem_mem last
  obtain ⟨v, hv⟩ := Option.ne_none_iff_exists'.mp (h.valued i mem)
  exact ⟨i, mem, named, here, v, hv, by simp [itemValue, last, hv]⟩

theorem itemValue_none {name : String} (h : hasItem items (txt name) index = false) : itemValue items name index = none := by
  have absent : lastItem items (txt name) index = none := by simpa [hasItem] using h
  simp [itemValue, absent]

theorem Formed.itemValue_none_iff (h : Formed forms twice own needs fields items) {name : String} :
    itemValue items name index = none ↔ hasItem items (txt name) index = false := by
  refine ⟨fun none => ?_, itemValue_none⟩
  by_contra has
  obtain ⟨i, -, -, -, v, -, value⟩ := h.value (Bool.not_eq_false _ ▸ has)
  cases value.symm.trans none

/-- A form of numbers. -/
def ValueForm.isNumber : ValueForm → Bool
  | .nat _ _ => true
  | .kFactor => true
  | .width => true
  | _ => false

theorem ValueForm.read_number {f : ValueForm} (number : f.isNumber = true) {t : Text} {v : FieldValue} (h : f.read t = some v) :
    ∃ n, v = .nat n := by
  cases f with
  | nat lo hi =>
    obtain ⟨n, -, rfl⟩ := Option.map_eq_some_iff.mp h
    exact ⟨n, rfl⟩
  | kFactor | width =>
    simp only [ValueForm.read] at h
    split at h
    · split at h
      · cases h
        exact ⟨_, rfl⟩
      · cases h
    · cases h
  | _ => cases number

/-- A number field that stands in the frame carries its number, and one that does not carries none. -/
theorem Formed.natAt?_iff (h : Formed forms twice own needs fields items) {name : String}
    (number : ∀ f ∈ forms, f.name = txt name → f.value.isNumber = true) :
    natAt? items name index ≠ none ↔ hasItem items (txt name) index = true := by
  constructor
  · intro some
    by_contra none
    exact some (by simp [natAt?, itemValue_none (Bool.not_eq_true _ ▸ none)])
  · intro has
    obtain ⟨i, mem, named, -, v, hv, value⟩ := h.value has
    obtain ⟨f, hf, named', -, t, v', hv', read⟩ := h.item_read mem
    cases hv.symm.trans hv'
    obtain ⟨n, rfl⟩ := ValueForm.read_number (number f hf (named'.symm.trans named)) read
    simp [natAt?, value]

theorem natAt_of_natAt? {name : String} {n : Nat} (h : natAt? items name index = some n) : natAt items name index = n := by
  unfold natAt? at h
  unfold natAt
  split at h <;> cases h
  rfl

/-! ### Runs of indexes without a gap -/

/-- A run ends at its bound or before an index that stands nowhere; every index before its end stands. -/
theorem gaplessRun_spec (items : List Item) (names : List Text) (fuel k : Nat) :
    gaplessRun items names fuel k ≤ fuel ∧
    (∀ j, j < gaplessRun items names fuel k → names.any (fun n => hasItem items n (k + j)) = true) ∧
    (gaplessRun items names fuel k = fuel ∨ names.any (fun n => hasItem items n (k + gaplessRun items names fuel k)) = false) := by
  induction fuel generalizing k with
  | zero => simp [gaplessRun]
  | succ fuel ih =>
    obtain ⟨bound, stands, ends⟩ := ih (k + 1)
    unfold gaplessRun
    split
    · rename_i here
      refine ⟨by omega, fun j hj => ?_, ?_⟩
      · cases j with
        | zero => exact here
        | succ j =>
          have later := stands j (by omega)
          rwa [Nat.add_assoc, Nat.add_comm 1 j] at later
      · rcases ends with full | gap
        · exact .inl (by omega)
        · rw [Nat.add_assoc] at gap
          exact .inr gap
    · rename_i gap
      exact ⟨by omega, fun j hj => absurd hj (by omega), .inr (Bool.not_eq_true _ ▸ gap)⟩

end Sys2Proof.Machine
end

section
/-! PROOF. The requests of the permit, unit, account, recipe and additive tables, accepted and refused (O19 to O23), and RACK.SETDAY (O25). -/

namespace Sys2Proof.Machine

variable {fields : List Text} {items : List Item} {s : State} {key : Text} {link : Link}

/-! ### A request that is refused -/

/-- An owner that refuses leaves the state to the link alone (R182). -/
theorem takeRequest_refuses {name : String} {answer : Answer} {status : Status} {named : Named} (taken : s.takes name fields)
    (refused : answer { s with link := s.link.toHunt } = refuse status named { s with link := s.link.toHunt }) :
    takeRequest (txt name) fields answer s = .next (s.answers name (refusal status named)) :=
  takeRequest_taken (t := s) taken refused rfl

theorem withItems_fault {checked : Except Text (List Item)} (answer : List Item → Answer) (h : checked = .error key) :
    withItems checked answer = badField key := by
  rw [h, withItems_error]

theorem withItems_passed {checked : Except Text (List Item)} (answer : List Item → Answer) (h : checked = .ok items) :
    withItems checked answer = answer items := by
  rw [h, withItems_ok]

/-! ### A record named and found, or not -/

theorem onPermit_fault (answer : Permit → Answer) (h : permitItems fields = .error key) : onPermit fields answer = badField key :=
  withItems_fault _ h

theorem onPermit_found (answer : Permit → Answer) {p : Permit} (h : permitItems fields = .ok items)
    (found : s.rack.permit? (natAt items "permit" 0) = some p) : onPermit fields answer { s with link := link } = answer p { s with link := link } := by
  unfold onPermit
  rw [withItems_passed _ h]
  rw [found]

theorem onPermit_missing (answer : Permit → Answer) (h : permitItems fields = .ok items)
    (missing : s.rack.permit? (natAt items "permit" 0) = none) : onPermit fields answer { s with link := link } = refuseWith .notFound { s with link := link } := by
  unfold onPermit
  rw [withItems_passed _ h]
  rw [missing]

theorem onUnit_fault (answer : VehicleUnit → Answer) (h : unitItems fields = .error key) : onUnit fields answer = badField key :=
  withItems_fault _ h

theorem onUnit_found (answer : VehicleUnit → Answer) {u : VehicleUnit} (h : unitItems fields = .ok items)
    (found : s.rack.unit? (natAt items "unit" 0) = some u) : onUnit fields answer { s with link := link } = answer u { s with link := link } := by
  unfold onUnit
  rw [withItems_passed _ h]
  rw [found]

theorem onUnit_missing (answer : VehicleUnit → Answer) (h : unitItems fields = .ok items)
    (missing : s.rack.unit? (natAt items "unit" 0) = none) : onUnit fields answer { s with link := link } = refuseWith .notFound { s with link := link } := by
  unfold onUnit
  rw [withItems_passed _ h]
  rw [missing]

theorem onAccountOf_found (answer : Account → Answer) {x : Account} (found : s.rack.account? (natAt items "account" 0) = some x) :
    onAccountOf items answer { s with link := link } = answer x { s with link := link } := by
  unfold onAccountOf
  rw [found]

theorem onAccountOf_missing (answer : Account → Answer) (missing : s.rack.account? (natAt items "account" 0) = none) :
    onAccountOf items answer { s with link := link } = refuseWith .notFound { s with link := link } := by
  unfold onAccountOf
  rw [missing]

theorem onAccount_fault (answer : Account → Answer) (h : accountItems fields = .error key) : onAccount fields answer = badField key :=
  withItems_fault _ h

theorem onAccount_found (answer : Account → Answer) {x : Account} (h : accountItems fields = .ok items)
    (found : s.rack.account? (natAt items "account" 0) = some x) : onAccount fields answer { s with link := link } = answer x { s with link := link } := by
  unfold onAccount
  rw [withItems_passed _ h, onAccountOf_found answer found]

theorem onAccount_missing (answer : Account → Answer) (h : accountItems fields = .ok items)
    (missing : s.rack.account? (natAt items "account" 0) = none) : onAccount fields answer { s with link := link } = refuseWith .notFound { s with link := link } := by
  unfold onAccount
  rw [withItems_passed _ h, onAccountOf_missing answer missing]

theorem onRecipe_fault (answer : Recipe → Answer) (h : recipeItems fields = .error key) : onRecipe fields answer = badField key :=
  withItems_fault _ h

theorem onRecipe_found (answer : Recipe → Answer) {x : Recipe} (h : recipeItems fields = .ok items)
    (found : s.cond.recipe? (natAt items "recipe" 0) = some x) : onRecipe fields answer { s with link := link } = answer x { s with link := link } := by
  unfold onRecipe
  rw [withItems_passed _ h]
  rw [found]

theorem onRecipe_missing (answer : Recipe → Answer) (h : recipeItems fields = .ok items)
    (missing : s.cond.recipe? (natAt items "recipe" 0) = none) : onRecipe fields answer { s with link := link } = refuseWith .notFound { s with link := link } := by
  unfold onRecipe
  rw [withItems_passed _ h]
  rw [missing]

/-! ### What still names a record -/

/-- A filter that keeps nothing has no length, one that keeps an element has one. -/
theorem filter_length_eq_zero {α : Type} {xs : List α} {q : α → Bool} (h : ∀ x ∈ xs, q x = false) : (xs.filter q).length = 0 := by
  rw [List.length_eq_zero_iff, List.filter_eq_nil_iff]
  exact fun x hx => by simp [h x hx]

theorem filter_length_pos {α : Type} {xs : List α} {q : α → Bool} {x : α} (hx : x ∈ xs) (h : q x = true) : 0 < (xs.filter q).length :=
  List.length_pos_of_mem (List.mem_filter.mpr ⟨hx, h⟩)

/-! ### Permits (O19) -/

theorem permitPut_new (s : State) (h : s.rack.permit? (natAt items "permit" 0) = none) (room : s.rack.permits.length < 512) :
    permitPut items s = okTables (fun r => { r with permits := r.permits ++ [newPermit items] }) (.action true) s := by
  unfold permitPut
  rw [h]
  exact if_neg (by unfold permitSlots; omega)

theorem permitPut_full (s : State) (h : s.rack.permit? (natAt items "permit" 0) = none) (full : 512 ≤ s.rack.permits.length) :
    permitPut items s = refuseWith .tableFull s := by
  unfold permitPut
  rw [h]
  exact if_pos full

theorem permitPut_old (s : State) {p : Permit} (h : s.rack.permit? (natAt items "permit" 0) = some p) :
    permitPut items s = okTables (fun r => r.modPermit p.number (Permit.withTerms items)) (.action false) s := by
  unfold permitPut
  rw [h]

theorem suspendPermit_notAdmitted {c : Conditions} {r : Rack} {p : Permit} (h : p.admittedBay = none) :
    r.suspendPermit c p = r.modPermit p.number (fun q => { q with suspended := true }) := by
  unfold Rack.suspendPermit
  rw [h]

theorem modPermit_bay (r : Rack) (n : Nat) {p : Permit} (h : p.admittedBay = none) (found : r.permit? n = some p) :
    (r.modPermit n (fun q => { q with suspended := true })).admittedBayOf n = none := by
  unfold Rack.admittedBayOf
  rw [Rack.modPermit_permit r n n (fun q => { q with suspended := true }) (fun _ => rfl), if_pos rfl, found]
  exact h

theorem permitSuspend_notAdmitted (s : State) {p : Permit} (valid : p.suspended = false) (h : p.admittedBay = none)
    (found : s.rack.permit? p.number = some p) :
    permitSuspend p s = okRack (fun _ r => r.modPermit p.number (fun q => { q with suspended := true })) (.permitSuspended true none) s := by
  unfold permitSuspend
  rw [if_neg (by simp [valid])]
  unfold okRack State.moveRack
  dsimp only
  rw [suspendPermit_notAdmitted h, modPermit_bay _ _ h found]

theorem permitRetire_unnamed (s : State) {p : Permit} (h : ∀ o ∈ s.rack.orders, o.permit ≠ p.number) :
    permitRetire p s = okTables (fun r => { r with permits := r.permits.filter (fun x => decide (x.number ≠ p.number)) }) .plain s := by
  have none : s.rack.ordersOfPermit p.number = 0 := filter_length_eq_zero (fun o ho => decide_eq_false (h o ho))
  exact if_neg (by simp [none])

theorem permitRetire_named (s : State) {p : Permit} {o : Order} (ho : o ∈ s.rack.orders) (h : o.permit = p.number) :
    permitRetire p s = refuseWith .referenced s :=
  if_pos (filter_length_pos ho (decide_eq_true h))

/-- Settles O19: each request by its owner's answer on the record. -/
theorem permitRequestsComplete : Obligations.PermitRequestsComplete := by
  refine ⟨fun s fields items taken checked missing room => ?_, fun s fields items p taken checked found => ?_,
    fun s fields items p taken checked found => ?_, fun s fields items p taken checked found valid free => ?_,
    fun s fields items p taken checked found suspended => ?_, fun s fields items p taken checked found => ?_,
    fun s fields items p taken checked found unnamed => ?_⟩
  · refine takeRequest_taken (t := { s with rack := { s.rack with permits := s.rack.permits ++ [newPermit items] } }) taken ?_ rfl
    exact (congrFun (withItems_passed _ checked) _).trans (permitPut_new _ missing room)
  · refine takeRequest_taken (t := { s with rack := s.rack.modPermit p.number (Permit.withTerms items) }) taken ?_ rfl
    exact (congrFun (withItems_passed _ checked) _).trans (permitPut_old _ found)
  · exact takeRequest_taken taken (onPermit_found _ checked found) rfl
  · refine takeRequest_taken (t := { s with rack := (s.rack.modPermit p.number (fun q => { q with suspended := true })).pump }) taken ?_ rfl
    have named := Rack.permit_number found
    exact (onPermit_found _ checked found).trans (permitSuspend_notAdmitted _ valid free (named.symm ▸ found))
  · exact takeRequest_taken taken ((onPermit_found _ checked found).trans (if_pos suspended)) rfl
  · refine takeRequest_taken (t := { s with rack := s.rack.modPermit p.number (fun q => { q with suspended := false }) }) taken ?_ rfl
    exact onPermit_found _ checked found
  · refine takeRequest_taken
      (t := { s with rack := { s.rack with permits := s.rack.permits.filter (fun q => decide (q.number ≠ p.number)) } }) taken ?_ rfl
    exact (onPermit_found _ checked found).trans (permitRetire_unnamed _ unnamed)

/-! ### Units (O20) -/

theorem unitPut_new (s : State) (h : s.rack.unit? (natAt items "unit" 0) = none) (room : s.rack.units.length < 256) :
    unitPut items s = okTables (fun r => { r with units := r.units ++
      [{ number := natAt items "unit" 0, expiry := natAt items "expiry" 0, compartments := newCompartments items []
         committed := none }] }) (.action true) s := by
  unfold unitPut
  rw [h]
  exact if_neg (by unfold unitSlots; omega)

theorem unitPut_full (s : State) (h : s.rack.unit? (natAt items "unit" 0) = none) (full : 256 ≤ s.rack.units.length) :
    unitPut items s = refuseWith .tableFull s := by
  unfold unitPut
  rw [h]
  exact if_pos full

theorem unitPut_old (s : State) {u : VehicleUnit} (h : s.rack.unit? (natAt items "unit" 0) = some u) (free : u.committed = none) :
    unitPut items s = okTables (fun r => r.modUnit u.number (fun v =>
      { v with expiry := natAt items "expiry" 0, compartments := newCompartments items v.compartments })) (.action false) s := by
  unfold unitPut
  rw [h]
  exact if_neg (by simp [free])

theorem unitPut_committed (s : State) {u : VehicleUnit} (h : s.rack.unit? (natAt items "unit" 0) = some u) (held : u.committed ≠ none) :
    unitPut items s = refuseWith .referenced s := by
  unfold unitPut
  rw [h]
  exact if_pos (by simpa [Option.isSome_iff_ne_none] using held)

theorem unitClean_free {u : VehicleUnit} (free : u.committed = none) :
    unitClean u = okTables (fun r => r.modUnit u.number VehicleUnit.clean) .plain := if_neg (by simp [free])

theorem unitClean_committed {u : VehicleUnit} (held : u.committed ≠ none) : unitClean u = refuseWith .referenced :=
  if_pos (by simpa [Option.isSome_iff_ne_none] using held)

theorem unitRetire_unnamed (s : State) {u : VehicleUnit} (h : ∀ o ∈ s.rack.orders, o.unit1 ≠ u.number ∧ o.unit2 ≠ some u.number) :
    unitRetire u s = okTables (fun r => { r with units := r.units.filter (fun x => decide (x.number ≠ u.number)) }) .plain s := by
  have none : s.rack.ordersOfUnit u.number = 0 :=
    filter_length_eq_zero (fun o ho => by simp [Order.namesUnit, (h o ho).1, (h o ho).2])
  exact if_neg (by simp [none])

theorem unitRetire_named (s : State) {u : VehicleUnit} {o : Order} (ho : o ∈ s.rack.orders)
    (h : o.unit1 = u.number ∨ o.unit2 = some u.number) : unitRetire u s = refuseWith .referenced s :=
  if_pos (filter_length_pos ho (by simpa [Order.namesUnit] using h))

/-- The compartments a well-formed UNIT.PUT gives: as many as the frame has capacities, from 1 on (R50). -/
theorem capCount_spec (checked : unitPutItems fields = .ok items) :
    1 ≤ capCount items ∧ capCount items ≤ 6 ∧ ∀ j, j < capCount items ↔ natAt? items "cap" (j + 1) ≠ none := by
  have formed := formed_of_check checked
  obtain ⟨bound, stands, -⟩ := gaplessRun_spec items [txt "cap"] 6 1
  have number : ∀ f ∈ unitPutForms, f.name = txt "cap" → f.value.isNumber = true := by decide
  have inRun (j : Nat) (has : hasItem items (txt "cap") (j + 1) = true) : j < capCount items := by
    obtain ⟨i, mem, named, here⟩ := hasItem_iff.mp has
    have kept := formed.own i mem
    have within : ¬capCount items < i.index := by simpa [unitFieldBad, named] using kept
    omega
  have first : hasItem items (txt "cap") (0 + 1) = true := formed.needs (requiredAt "cap" 1) (by simp)
  refine ⟨inRun 0 first, bound, fun j => ⟨fun h => (formed.natAt?_iff number).mpr ?_, fun h => inRun j ((formed.natAt?_iff number).mp h)⟩⟩
  have here := stands j h
  rw [Nat.add_comm] at here
  simpa using here

theorem newCompartments_spec {old : List Compartment} (checked : unitPutItems fields = .ok items) :
    1 ≤ (newCompartments items old).length ∧ (newCompartments items old).length ≤ 6 ∧
    (∀ j, j < (newCompartments items old).length ↔ natAt? items "cap" (j + 1) ≠ none) ∧
    ∀ (j : Nat) (x : Compartment), (newCompartments items old)[j]? = some x →
      natAt? items "cap" (j + 1) = some x.capacity ∧
      (∀ g : Group, itemValue items "last" (j + 1) = some (.nat g.val) → x.lastGroup = some g) ∧
      (itemValue items "last" (j + 1) = some .clean → x.lastGroup = none) ∧
      (itemValue items "last" (j + 1) = none →
        (∀ y, old[j]? = some y → x.lastGroup = y.lastGroup) ∧ (old[j]? = none → x.lastGroup = none)) := by
  obtain ⟨least, most, each⟩ := capCount_spec checked
  have length : (newCompartments items old).length = capCount items := by simp [newCompartments]
  rw [length]
  refine ⟨least, most, each, fun j x here => ?_⟩
  obtain ⟨k, at_j, rfl⟩ := Option.map_eq_some_iff.mp (List.getElem?_map.symm.trans here)
  obtain ⟨inRun, rfl⟩ := List.getElem?_eq_some_iff.mp at_j
  rw [List.length_range] at inRun
  rw [List.getElem_range]
  obtain ⟨n, cap⟩ := Option.ne_none_iff_exists'.mp ((each j).mp inRun)
  refine ⟨by rw [cap, natAt_of_natAt? cap], fun g given => ?_, fun clean => ?_, fun none => ⟨fun y was => ?_, fun was => ?_⟩⟩
  · simp [newLastGroup, given]
  · simp [newLastGroup, clean]
  · simp [newLastGroup, none, was]
  · simp [newLastGroup, none, was]

/-- Settles O20: each request by its owner's answer on the record; the compartments by the run of capacities in the frame. -/
theorem unitRequestsComplete : Obligations.UnitRequestsComplete := by
  refine ⟨fun s fields items taken checked missing room => ?_, fun s fields items u taken checked found free => ?_,
    fun s fields items u taken checked found => ?_, fun s fields items u taken checked found free => ?_,
    fun s fields items u taken checked found unnamed => ?_, fun fields items old xs checked given => ?_⟩
  · refine takeRequest_taken (t := { s with rack := { s.rack with units := s.rack.units ++
        [{ number := natAt items "unit" 0, expiry := natAt items "expiry" 0, compartments := newCompartments items []
           committed := none }] } }) taken ?_ rfl
    exact (congrFun (withItems_passed _ checked) _).trans (unitPut_new _ missing room)
  · refine takeRequest_taken (t := { s with rack := s.rack.modUnit u.number (fun v =>
        { v with expiry := natAt items "expiry" 0, compartments := newCompartments items v.compartments }) }) taken ?_ rfl
    exact (congrFun (withItems_passed _ checked) _).trans (unitPut_old _ found free)
  · exact takeRequest_taken taken (onUnit_found _ checked found) rfl
  · refine takeRequest_taken (t := { s with rack := s.rack.modUnit u.number VehicleUnit.clean }) taken ?_ rfl
    exact (onUnit_found _ checked found).trans (congrFun (unitClean_free free) _)
  · refine takeRequest_taken
      (t := { s with rack := { s.rack with units := s.rack.units.filter (fun v => decide (v.number ≠ u.number)) } }) taken ?_ rfl
    exact (onUnit_found _ checked found).trans (unitRetire_unnamed _ unnamed)
  · subst given
    exact newCompartments_spec checked

end Sys2Proof.Machine
end

section
/-! PROOF. The requests of the account, recipe and additive tables accepted (O21, O22), the refusals of all five tables (O23), and
RACK.SETDAY (O25). -/

namespace Sys2Proof.Machine

variable {fields : List Text} {items : List Item} {s : State} {key : Text} {link : Link}

/-! ### Accounts (O21) -/

theorem accountPut_new (s : State) (h : s.rack.account? (natAt items "account" 0) = none) (room : s.rack.accounts.length < 128) :
    accountPut items s = okTables (fun r => { r with accounts := r.accounts ++
      [{ number := natAt items "account" 0, group := groupOf items, balance := 0, overdraft := natAt items "overdraft" 0
         reserved := 0, held := false }] }) (.action true) s := by
  unfold accountPut
  rw [h]
  exact if_neg (by unfold accountSlots; omega)

theorem accountPut_full (s : State) (h : s.rack.account? (natAt items "account" 0) = none) (full : 128 ≤ s.rack.accounts.length) :
    accountPut items s = refuseWith .tableFull s := by
  unfold accountPut
  rw [h]
  exact if_pos full

theorem accountPut_old (s : State) {x : Account} (h : s.rack.account? (natAt items "account" 0) = some x)
    (may : x.group = groupOf items ∨ x.reserved = 0) :
    accountPut items s = okTables (fun r => r.modAccount x.number (fun y =>
      { y with group := groupOf items, overdraft := natAt items "overdraft" 0 })) (.action false) s := by
  unfold accountPut
  rw [h]
  exact if_neg (fun ⟨moved, drawn⟩ => may.elim moved (fun none => by omega))

theorem accountPut_moved (s : State) {x : Account} (h : s.rack.account? (natAt items "account" 0) = some x)
    (moved : x.group ≠ groupOf items) (drawn : 0 < x.reserved) : accountPut items s = refuseWith .referenced s := by
  unfold accountPut
  rw [h]
  exact if_pos ⟨moved, drawn⟩

/-- A credit raises the one balance named, brought to the limits (R71). -/
theorem credited_account {r : Rack} {x : Account} {n k : Nat} {amount b : Int} (found : r.account? n = some x)
    (clamped : b = max (-999999999) (min 999999999 (x.balance + amount))) :
    (r.modAccount x.number (fun y => { y with balance := clampInt (-balanceLimit) balanceLimit (y.balance + amount) })).account? k =
      if x.number = k then some { x with balance := b } else r.account? k := by
  rw [Rack.modAccount_account r x.number k
    (fun y => { y with balance := clampInt (-balanceLimit) balanceLimit (y.balance + amount) }) (fun _ => rfl)]
  by_cases here : x.number = k
  · have numbered := Rack.account_number found
    have read : r.account? k = some x := by rw [← here, numbered, found]
    rw [if_pos here, if_pos here, read, clamped]
    rfl
  · rw [if_neg here, if_neg here]

/-- Settles O21: each request by its owner's answer on the record. -/
theorem accountRequestsComplete : Obligations.AccountRequestsComplete := by
  refine ⟨fun s fields items taken checked missing room => ?_, fun s fields items x taken checked found may => ?_,
    fun s fields items x taken checked found => ?_, fun s fields items x taken checked found => ?_,
    fun s fields items x taken checked found => ?_, fun s fields items x taken checked found free => ?_,
    fun s fields items x b taken checked found clamped => ?_⟩
  · refine takeRequest_taken (t := { s with rack := { s.rack with accounts := s.rack.accounts ++
        [{ number := natAt items "account" 0, group := Fin.ofNat 8 (natAt items "group" 0), balance := 0
           overdraft := natAt items "overdraft" 0, reserved := 0, held := false }] } }) taken ?_ rfl
    exact (congrFun (withItems_passed _ checked) _).trans (accountPut_new _ missing room)
  · refine takeRequest_taken (t := { s with rack := s.rack.modAccount x.number (fun y =>
        { y with group := Fin.ofNat 8 (natAt items "group" 0), overdraft := natAt items "overdraft" 0 }) }) taken ?_ rfl
    exact (congrFun (withItems_passed _ checked) _).trans (accountPut_old _ found may)
  · exact takeRequest_taken taken (onAccount_found _ checked found) rfl
  · refine takeRequest_taken (t := { s with rack := s.rack.modAccount x.number (fun y => { y with held := true }) }) taken ?_ rfl
    refine (onAccount_found _ checked found).trans ?_
    cases h : x.held <;> simp [accountSetHeld, okTables, h]
  · refine takeRequest_taken (t := { s with rack := s.rack.modAccount x.number (fun y => { y with held := false }) }) taken ?_ rfl
    refine (onAccount_found _ checked found).trans ?_
    cases h : x.held <;> simp [accountSetHeld, okTables, h]
  · refine takeRequest_taken
      (t := { s with rack := { s.rack with accounts := s.rack.accounts.filter (fun y => decide (y.number ≠ x.number)) } }) taken ?_ rfl
    exact (onAccount_found _ checked found).trans (congrFun (if_neg (by simp [free])) _)
  · refine ⟨_, takeRequest_taken (t := { s with rack := s.rack.modAccount x.number (fun y =>
        { y with balance := clampInt (-balanceLimit) balanceLimit (y.balance + signedAt items "amount") }) }) taken ?_ rfl,
      rfl, ?_, fun n other => ?_, by omega, by omega⟩
    · refine (congrFun (withItems_passed _ checked) _).trans ((onAccountOf_found _ found).trans ?_)
      subst clamped
      rfl
    · exact (credited_account found clamped).trans (if_pos rfl)
    · exact (credited_account found clamped).trans (if_neg (Ne.symm other))

/-! ### Recipes and additives (O22) -/

theorem putRecipe_find (x : Recipe) (xs : List Recipe) (n : Nat) :
    (putRecipe x xs).find? (fun y => decide (y.number = n)) =
      if x.number = n then some x else xs.find? (fun y => decide (y.number = n)) := by
  unfold putRecipe
  rw [List.find?_append, List.find?_filter]
  by_cases here : x.number = n
  · subst here
    rw [if_pos rfl, List.find?_eq_none.mpr (by simp)]
    simp
  · have same : (fun y : Recipe => decide (decide (y.number ≠ x.number) = true ∧ decide (y.number = n) = true)) =
        fun y => decide (y.number = n) := by
      funext y
      by_cases named : y.number = n
      · have apart : y.number ≠ x.number := fun eq => here (eq.symm.trans named)
        simp [named, named ▸ apart]
      · simp [named]
    rw [if_neg here, same, List.find?_cons_of_neg (by simpa using here), List.find?_nil, Option.or_none]

theorem Rack.modAdditive_congr {r : Rack} {x : AdditiveId} {f g : Additive → Additive} (h : f (r.additive x) = g (r.additive x)) :
    r.modAdditive x f = r.modAdditive x g := by
  unfold Rack.modAdditive
  rw [h]

/-- A well-formed RECIPE.PUT carries add and dose of each entry up to the run's end, and of none behind it (R136). -/
theorem doseRun_spec (checked : recipePutItems fields = .ok items) {name : String} (isDose : txt name ∈ doseFieldNames) (j : Nat) :
    j < doseRun items ↔ natAt? items name (j + 1) ≠ none := by
  have formed := formed_of_check checked
  have number : ∀ n ∈ doseFieldNames, ∀ f ∈ recipePutForms, f.name = n → f.value.isNumber = true := by decide
  rw [formed.natAt?_iff (number _ isDose)]
  constructor
  · intro inRun
    have needed : (txt name, j + 1, indexedKey name (j + 1)) ∈ recipeNeeds items := by
      refine List.mem_append_right _ (List.mem_flatMap.mpr ⟨j, List.mem_range.mpr inRun, ?_⟩)
      rcases List.mem_cons.mp isDose with add | dose
      · simp [requiredAt, indexedKey, add]
      · simp [requiredAt, indexedKey, List.mem_singleton.mp dose]
    exact formed.needs _ needed
  · intro has
    obtain ⟨i, mem, named, here⟩ := hasItem_iff.mp has
    have kept := formed.own i mem
    have within : ¬doseRun items < i.index := by
      intro behind
      simp [recipeFieldBad, named, isDose, behind] at kept
    omega

theorem recipeRetire_unnamed (s : State) {x : Recipe} (h : ∀ l ∈ s.rack.allLines, l.recipe = x.number → l.state.isFinal = true) :
    recipeRetire x s = okConditions (fun c => { c with recipes := c.recipes.filter (fun y => decide (y.number ≠ x.number)) }) .plain s := by
  have none : s.rack.linesOfRecipe x.number = 0 := filter_length_eq_zero (fun l hl => by
    by_cases named : l.recipe = x.number
    · simp [h l hl named]
    · simp [named])
  exact if_neg (by simp [none])

theorem recipeRetire_named (s : State) {x : Recipe} {l : Line} (hl : l ∈ s.rack.allLines) (named : l.recipe = x.number)
    (live : l.state.isFinal = false) : recipeRetire x s = refuseWith .referenced s :=
  if_pos (filter_length_pos hl (by simp [named, live]))

/-- Settles O22: the table by find after put, the run of dose entries by the form check, each additive request by its own answer. -/
theorem recipeAndAdditiveRequestsComplete : Obligations.RecipeAndAdditiveRequestsComplete := by
  refine ⟨fun s fields items taken checked => ?_, fun fields items checked j => ⟨doseRun_spec checked (by simp [doseFieldNames]) j,
      doseRun_spec checked (by simp [doseFieldNames]) j⟩,
    fun s fields items x taken checked found => ?_, fun s fields items x taken checked found unnamed => ?_,
    fun s fields items x taken checked named => ?_, fun s fields items x n taken checked named filled => ?_,
    fun s fields items x taken checked named => ?_⟩
  · refine ⟨_, takeRequest_taken (t := { s with cond := { s.cond with recipes := putRecipe (recipeOf items) s.cond.recipes } }) taken
        (congrFun (withItems_passed _ checked) _) rfl, rfl, ?_, fun n other => ?_⟩
    · exact (putRecipe_find _ _ _).trans (if_pos rfl)
    · exact (putRecipe_find _ _ _).trans (if_neg (Ne.symm other))
  · exact takeRequest_taken taken (onRecipe_found _ checked found) rfl
  · refine takeRequest_taken (t := { s with
        cond := { s.cond with recipes := s.cond.recipes.filter (fun y => decide (y.number ≠ x.number)) } }) taken ?_ rfl
    exact (onRecipe_found _ checked found).trans (recipeRetire_unnamed _ unnamed)
  · subst named
    exact takeRequest_taken
      (t := { s with rack := s.rack.modAdditive (additiveOf items) (fun y => { y with lowMark := natAt items "low" 0 }) }) taken
      (congrFun (withItems_passed _ checked) _) rfl
  · subst named
    refine takeRequest_taken (t := { s with rack := s.rack.modAdditive (additiveOf items) (fun y => { y with stock := n }) }) taken
      ((congrFun (withItems_passed _ checked) _).trans ?_) rfl
    have same : s.rack.modAdditive (additiveOf items) (fun y => { y with stock := n }) =
        s.rack.modAdditive (additiveOf items) (Additive.refill (natAt items "amount" 0)) := by
      subst filled
      exact Rack.modAdditive_congr rfl
    rw [same]
    subst filled
    rfl
  · subst named
    exact takeRequest_taken taken (congrFun (withItems_passed _ checked) _) rfl

/-! ### The five tables' refusals (O23) -/

/-- Settles O23: the form check names the field, a record that is missing is NOT_FOUND, a full table and a named record stop the owner. -/
theorem tableRequestsAreRefused : Obligations.TableRequestsAreRefused := by
  intro s fields items key
  refine ⟨fun name i mem taken => ?_, fun name i mem taken => ?_, fun name i mem taken => ?_, fun name i mem taken => ?_,
    fun name i checked mem taken bad => ?_, fun taken checked missing full => ?_, fun p o ho taken checked found named => ?_,
    fun taken checked => ⟨fun u found held => ?_, fun missing full => ?_⟩, fun u checked found => ⟨fun taken held => ?_,
      fun o ho taken named => ?_⟩, fun taken checked => ⟨fun x found moved drawn => ?_, fun missing full => ?_⟩,
    fun x taken checked found drawn => ?_, fun taken checked missing => ?_, fun x l hl taken checked found named live => ?_⟩
  · simp only [List.mem_cons, Prod.mk.injEq, List.not_mem_nil, or_false] at mem
    rcases mem with ⟨rfl, rfl⟩ | ⟨rfl, rfl⟩ | ⟨rfl, rfl⟩ | ⟨rfl, rfl⟩ <;>
      exact ⟨fun bad => takeRequest_refuses taken (congrFun (onPermit_fault _ bad) _),
        fun checked missing => takeRequest_refuses taken (onPermit_missing _ checked missing)⟩
  · simp only [List.mem_cons, Prod.mk.injEq, List.not_mem_nil, or_false] at mem
    rcases mem with ⟨rfl, rfl⟩ | ⟨rfl, rfl⟩ | ⟨rfl, rfl⟩ <;>
      exact ⟨fun bad => takeRequest_refuses taken (congrFun (onUnit_fault _ bad) _),
        fun checked missing => takeRequest_refuses taken (onUnit_missing _ checked missing)⟩
  · simp only [List.mem_cons, Prod.mk.injEq, List.not_mem_nil, or_false] at mem
    rcases mem with ⟨rfl, rfl⟩ | ⟨rfl, rfl⟩ | ⟨rfl, rfl⟩ | ⟨rfl, rfl⟩ <;>
      exact ⟨fun bad => takeRequest_refuses taken (congrFun (onAccount_fault _ bad) _),
        fun checked missing => takeRequest_refuses taken (onAccount_missing _ checked missing)⟩
  · simp only [List.mem_cons, Prod.mk.injEq, List.not_mem_nil, or_false] at mem
    rcases mem with ⟨rfl, rfl⟩ | ⟨rfl, rfl⟩ <;>
      exact ⟨fun bad => takeRequest_refuses taken (congrFun (onRecipe_fault _ bad) _),
        fun checked missing => takeRequest_refuses taken (onRecipe_missing _ checked missing)⟩
  · simp only [List.mem_cons, Prod.mk.injEq, List.not_mem_nil, or_false] at mem
    rcases mem with ⟨rfl, rfl, rfl⟩ | ⟨rfl, rfl, rfl⟩ | ⟨rfl, rfl, rfl⟩ | ⟨rfl, rfl, rfl⟩ | ⟨rfl, rfl, rfl⟩ | ⟨rfl, rfl, rfl⟩ |
      ⟨rfl, rfl, rfl⟩ | ⟨rfl, rfl, rfl⟩ <;> exact takeRequest_refuses taken (congrFun (withItems_fault _ bad) _)
  · exact takeRequest_refuses taken ((congrFun (withItems_passed _ checked) _).trans (permitPut_full _ missing full))
  · exact takeRequest_refuses taken ((onPermit_found _ checked found).trans (permitRetire_named _ ho named))
  · exact takeRequest_refuses taken ((congrFun (withItems_passed _ checked) _).trans (unitPut_committed _ found held))
  · exact takeRequest_refuses taken ((congrFun (withItems_passed _ checked) _).trans (unitPut_full _ missing full))
  · exact takeRequest_refuses taken ((onUnit_found _ checked found).trans (congrFun (unitClean_committed held) _))
  · exact takeRequest_refuses taken ((onUnit_found _ checked found).trans (unitRetire_named _ ho named))
  · exact takeRequest_refuses taken ((congrFun (withItems_passed _ checked) _).trans (accountPut_moved _ found moved drawn))
  · exact takeRequest_refuses taken ((congrFun (withItems_passed _ checked) _).trans (accountPut_full _ missing full))
  · exact takeRequest_refuses taken ((onAccount_found _ checked found).trans (congrFun (if_pos drawn) _))
  · exact takeRequest_refuses taken ((congrFun (withItems_passed _ checked) _).trans (onAccountOf_missing _ missing))
  · exact takeRequest_refuses taken ((onRecipe_found _ checked found).trans (recipeRetire_named _ hl named live))

/-! ### The day (O25) -/

/-- Settles O25: the new day by the answer of RACK.SETDAY; a restart leaves the conditions as they are. -/
theorem dayAdvanceClearsLoads : Obligations.DayAdvanceClearsLoads := by
  refine ⟨fun s fields taken => ⟨fun key bad => takeRequest_refuses taken (congrFun (withItems_fault _ bad) _),
      fun items day checked named => ⟨fun advance => ?_, fun other => ?_⟩⟩, fun inputs s t h => ?_, fun s t fields h => ?_⟩
  · subst named
    refine takeRequest_taken (t := { s with
        cond := { s.cond with day := natAt items "day" 0 }
        rack := { s.rack with permits := s.rack.permits.map (fun p => { p with loadsToday := 0 }) } }) taken
      ((congrFun (withItems_passed _ checked) _).trans ?_) rfl
    simp [rackSetDay, advance, Rack.clearLoads]
  · subst named
    refine takeRequest_taken (t := { s with cond := { s.cond with day := natAt items "day" 0 } }) taken
      ((congrFun (withItems_passed _ checked) _).trans ?_) rfl
    simp [rackSetDay, Nat.not_lt.mpr other]
  · cases h
    rfl
  · exact congrArg Conditions.day (execRackRestart_cond h)

end Sys2Proof.Machine
end

section
/-! PROOF. RACK.STATUS, RACK.SWITCHTABLE and RACK.HEADER (O26). -/

namespace Sys2Proof.Machine

variable {fields : List Text} {items : List Item} {c : Conditions}

/-! ### The attention level (R183) -/

theorem attention_eq (c : Conditions) (r : Rack) : attention c r = decide (r.notes ≠ [] ∨ (∃ a, (r.arm a).state = .alarm) ∨
    c.mode = .halted ∨ ∃ x, ((r.additive x).stock : Int) - (r.additive x).reserved < (r.additive x).lowMark) := by
  have alarmed : r.arms.any (fun a => decide (a.state = .alarm)) = true ↔ ∃ a, (r.arm a).state = .alarm := by
    rw [Vector.any_eq_true]
    exact ⟨fun ⟨i, hi, here⟩ => ⟨⟨i, hi⟩, of_decide_eq_true here⟩, fun ⟨a, here⟩ => ⟨a.val, a.isLt, decide_eq_true here⟩⟩
  have low : r.additives.any Additive.low = true ↔
      ∃ x, ((r.additive x).stock : Int) - (r.additive x).reserved < (r.additive x).lowMark := by
    rw [Vector.any_eq_true]
    exact ⟨fun ⟨i, hi, here⟩ => ⟨⟨i, hi⟩, of_decide_eq_true here⟩, fun ⟨a, here⟩ => ⟨a.val, a.isLt, decide_eq_true here⟩⟩
  rw [Bool.eq_iff_iff, decide_eq_true_iff, ← alarmed, ← low]
  simp [attention, or_assoc]

/-! ### The switch-load table (R56) -/

theorem rowKey_reads (row : Fin 9) : '=' ∉ rowKey row.val ∧ before '.' (rowKey row.val) = txt "row" ∧
    IndexForm.lastGroup.read (behind '.' (rowKey row.val)) = some row.val := by
  revert row
  decide

/-- A text split at the first `=`, the part before it holding none. -/
theorem before_append {sep : Char} {key : Text} (h : sep ∉ key) (text : Text) : before sep (key ++ sep :: text) = key := by
  induction key with
  | nil => simp [before]
  | cons x xs ih =>
    obtain ⟨ne, rest⟩ := not_or.mp (List.mem_cons.not.mp h)
    have others := ih rest
    unfold before at others ⊢
    rw [List.cons_append, List.takeWhile_cons_of_pos (by simpa using Ne.symm ne), others]

theorem behind_append {sep : Char} {key : Text} (h : sep ∉ key) (text : Text) : behind sep (key ++ sep :: text) = some text := by
  induction key with
  | nil => simp [behind]
  | cons x xs ih =>
    obtain ⟨ne, rest⟩ := not_or.mp (List.mem_cons.not.mp h)
    rw [List.cons_append, behind, if_neg (Ne.symm ne), ih rest]

theorem readItem_row (row : Fin 9) (text : Text) : readItem switchForms (rowKey row.val ++ '=' :: text) =
    some { key := rowKey row.val, name := txt "row", index := row.val, value := readValue .verdicts (some text) } := by
  obtain ⟨noEq, named, index⟩ := rowKey_reads row
  unfold readItem RawField.ofText switchForms
  simp [before_append noEq, behind_append noEq, named, index]

theorem readVerdicts_length {t : Text} {vs : List Verdict} (h : readVerdicts t = some vs) : vs.length = 8 := by
  unfold readVerdicts at h
  split at h
  · split at h <;> cases h
    assumption
  · cases h

theorem switchTableOf_row {row : Fin 9} {vs : List Verdict} (value : itemValue items "row" row.val = some (.verdicts vs))
    (length : vs.length = 8) (col : Fin 8) : vs[col.val]? = some (switchTableOf items).rows[row][col] := by
  have within : col.val < vs.length := by omega
  simp [switchTableOf, verdictsAt, value, within]

/-- Where no field may stand twice, the item that stands in the frame is the one taken. -/
theorem itemValue_once {name : String} {i : Item} (once : (items.map (fun i => (i.name, i.index))).Nodup) (mem : i ∈ items)
    (named : i.name = txt name) : itemValue items name i.index = i.value := by
  obtain ⟨j, last⟩ := Option.isSome_iff_exists.mp (hasItem_iff.mpr ⟨i, mem, named, rfl⟩)
  obtain ⟨mem', named', here⟩ := lastItem_mem last
  have same : j = i := List.inj_on_of_nodup_map once mem' mem (by rw [named', named, here])
  simp [itemValue, last, same]

/-- Settles the part of O26 that says where the verdicts of a new table stand in the frame. -/
theorem switchItems_rows (checked : switchItems fields = .ok items) (row : Fin 9) :
    (∃ vs, itemValue items "row" row.val = some (.verdicts vs) ∧ vs.length = 8 ∧
      ∀ col : Fin 8, vs[col.val]? = some (switchTableOf items).rows[row][col]) ∧
    ∀ text : Text, rowKey row.val ++ '=' :: text ∈ fields →
      ∃ vs, readVerdicts text = some vs ∧ vs.length = 8 ∧ ∀ col : Fin 8, vs[col.val]? = some (switchTableOf items).rows[row][col] := by
  have formed := formed_of_check checked
  have needed : ∀ row : Fin 9, (txt "row", row.val, rowKey row.val) ∈ switchNeeds := by decide
  have need := needed row
  constructor
  · obtain ⟨i, mem, -, -, v, hv, value⟩ := formed.value (formed.needs _ need)
    obtain ⟨f, hf, -, -, t, v', hv', read⟩ := formed.item_read mem
    cases hv.symm.trans hv'
    cases List.mem_singleton.mp hf
    obtain ⟨vs, read', rfl⟩ := Option.map_eq_some_iff.mp read
    exact ⟨vs, value, readVerdicts_length read', switchTableOf_row value (readVerdicts_length read')⟩
  · intro text mem
    obtain ⟨i, here, read⟩ := formed.read _ mem
    cases (readItem_row row text).symm.trans read
    obtain ⟨v, hv⟩ := Option.ne_none_iff_exists'.mp (formed.valued _ here)
    obtain ⟨t, eq, read'⟩ := readValue_some (f := .verdicts) (v := some text) hv
    cases eq
    obtain ⟨vs, read'', rfl⟩ := Option.map_eq_some_iff.mp read'
    exact ⟨vs, read'', readVerdicts_length read'',
      switchTableOf_row ((itemValue_once (formed.once rfl) here rfl).trans hv) (readVerdicts_length read'')⟩

/-! ### A raised capacity (R127, R131) -/

theorem insertArm_length {a : ArmId} {xs : List ArmId} (fresh : a ∉ xs) : (insertArm a xs).length = xs.length + 1 := by
  induction xs with
  | nil => rfl
  | cons b rest ih =>
    obtain ⟨ne, fresh'⟩ := not_or.mp (List.mem_cons.not.mp fresh)
    rw [insertArm, if_neg ne]
    split
    · rfl
    · rw [List.length_cons, ih fresh', List.length_cons]

/-- A grant to an arm that waits: the header's list and set, and the arm in HIGH (R109, R127). -/
theorem Rack.grantTo_waiting {r : Rack} {h : HeaderId} {a : ArmId} (waits : (r.arm a).state = .waitGrant) :
    (∀ g, (r.grantTo c h a).header g = if h = g then { r.header h with
      waiting := (r.header h).waiting.filter (fun w => decide (w.arm ≠ a)), held := insertArm a (r.header h).held } else r.header g) ∧
    ∀ b, (r.grantTo c h a).arm b = if a = b then { r.arm a with state := .high, reason := none } else r.arm b := by
  have grants : r.grantTo c h a = (r.modHeader h (fun x =>
      { x with waiting := x.waiting.filter (fun w => decide (w.arm ≠ a)), held := insertArm a x.held })).setState c a .high := by
    unfold Rack.grantTo
    simp [waits]
  rw [grants]
  refine ⟨fun g => by rw [Rack.header_eq (Rack.setState_headers _ _ _ _), Rack.modHeader_header], fun b => ?_⟩
  rw [Rack.setState_arm]
  simp [waits, repeatAfter, ArmState.isRunning, ArmState.isFlow]

/-- What grants to the heads of a list leave: as many as list and capacity allow, in list order, every other arm and header as before. -/
structure Granted (h : HeaderId) (r t : Rack) (arms : List ArmId) (ws : List Waiter) (n : Nat) : Prop where
  told : arms = (ws.take n).map (fun w => w.arm)
  capacity : (t.header h).capacity = (r.header h).capacity
  waiting : (t.header h).waiting = ws.drop n
  count : (t.header h).held.length = (r.header h).held.length + n
  held : ∀ a, a ∈ (t.header h).held ↔ a ∈ (r.header h).held ∨ a ∈ (ws.take n).map (fun w => w.arm)
  raised : ∀ a, a ∈ (ws.take n).map (fun w => w.arm) → t.arm a = { r.arm a with state := .high, reason := none }
  arms : ∀ a, a ∉ (ws.take n).map (fun w => w.arm) → t.arm a = r.arm a
  headers : ∀ g, g ≠ h → t.header g = r.header g

theorem Granted.none {h : HeaderId} {r : Rack} {ws : List Waiter} (waiting : (r.header h).waiting = ws) : Granted h r r [] ws 0 where
  told := rfl
  capacity := rfl
  waiting := waiting
  count := rfl
  held a := by simp
  raised a mem := absurd mem (by simp)
  arms _ _ := rfl
  headers _ _ := rfl

theorem grantHeads_granted {h : HeaderId} (ws : List Waiter) {r : Rack} (waiting : (r.header h).waiting = ws)
    (apart : (ws.map (fun w => w.arm)).Nodup) (waits : ∀ w ∈ ws, (r.arm w.arm).state = .waitGrant ∧ w.arm ∉ (r.header h).held) :
    Granted h r (grantHeads c h ws.length r).1 (grantHeads c h ws.length r).2 ws
      (min ws.length ((r.header h).capacity - (r.header h).held.length)) := by
  induction ws generalizing r with
  | nil =>
    rw [List.length_nil, Nat.zero_min]
    exact .none waiting
  | cons w rest ih =>
    obtain ⟨⟨state, fresh⟩, waits'⟩ := List.forall_mem_cons.mp waits
    rw [List.map_cons, List.nodup_cons] at apart
    obtain ⟨alone, apart'⟩ := apart
    have step : grantHeads c h (w :: rest).length r = if (r.header h).held.length < (r.header h).capacity then
        ((grantHeads c h rest.length (r.grantTo c h w.arm)).1, w.arm :: (grantHeads c h rest.length (r.grantTo c h w.arm)).2)
        else (r, []) := by
      rw [List.length_cons, grantHeads, waiting]
    by_cases room : (r.header h).held.length < (r.header h).capacity
    · obtain ⟨headers, arms⟩ := Rack.grantTo_waiting (c := c) (h := h) state
      have others : rest.filter (fun v => decide (v.arm ≠ w.arm)) = rest :=
        List.filter_eq_self.mpr (fun v hv => decide_eq_true (fun eq => alone (eq ▸ List.mem_map_of_mem hv)))
      have own : (r.grantTo c h w.arm).header h =
          { r.header h with waiting := rest, held := insertArm w.arm (r.header h).held } := by
        rw [headers, if_pos rfl, waiting, List.filter_cons_of_neg (by simp), others]
      have apartFrom : ∀ v ∈ rest, v.arm ≠ w.arm := fun v hv eq => alone (eq ▸ List.mem_map_of_mem hv)
      have count : min (w :: rest).length ((r.header h).capacity - (r.header h).held.length) =
          min rest.length (((r.grantTo c h w.arm).header h).capacity - ((r.grantTo c h w.arm).header h).held.length) + 1 := by
        rw [own, List.length_cons]
        dsimp only
        rw [insertArm_length fresh]
        omega
      have granted := ih (r := r.grantTo c h w.arm) (by rw [own]) apart' (fun v hv => by
        rw [arms, if_neg (Ne.symm (apartFrom v hv)), own, mem_insertArm]
        exact ⟨(waits' v hv).1, not_or.mpr ⟨apartFrom v hv, (waits' v hv).2⟩⟩)
      rw [step, if_pos room, count]
      generalize min rest.length (((r.grantTo c h w.arm).header h).capacity - ((r.grantTo c h w.arm).header h).held.length) = n
        at granted
      obtain ⟨told, capacity, left, counted, held, raised, still, headers'⟩ := granted
      have notTaken : w.arm ∉ (rest.take n).map (fun v => v.arm) := fun mem => by
        obtain ⟨v, hv, eq⟩ := List.mem_map.mp mem
        exact apartFrom v (List.mem_of_mem_take hv) eq
      rw [own] at capacity counted held
      refine ⟨?_, capacity, left, ?_, fun a => ?_, fun a mem => ?_, fun a mem => ?_, fun g ne => ?_⟩
      · rw [List.take_succ_cons, List.map_cons, told]
      · rw [counted, insertArm_length fresh]
        omega
      · rw [held, mem_insertArm, List.take_succ_cons, List.map_cons, List.mem_cons]
        tauto
      · rw [List.take_succ_cons, List.map_cons, List.mem_cons] at mem
        rcases mem with rfl | mem
        · rw [still _ notTaken, arms, if_pos rfl]
        · have ne : w.arm ≠ a := fun eq => notTaken (eq ▸ mem)
          rw [raised a mem, arms, if_neg ne]
      · rw [List.take_succ_cons, List.map_cons, List.mem_cons, not_or] at mem
        rw [still a mem.2, arms, if_neg (Ne.symm mem.1)]
      · rw [headers' g ne, headers, if_neg (Ne.symm ne)]
    · have full : (r.header h).capacity - (r.header h).held.length = 0 := by omega
      rw [step, if_neg room, full, Nat.min_zero]
      exact .none waiting

/-! ### RACK.HEADER (R131) -/

theorem rackHeader_read (s : State) (h : natAt? items "cap" 0 = none) :
    rackHeader items s = answerOk (headerAnswer (s.rack.header (numbered 5 (natAt items "header" 0))) none) s := by
  unfold rackHeader
  rw [h]

theorem rackHeader_set (s : State) {cap : Nat} (h : natAt? items "cap" 0 = some cap) :
    rackHeader items s = okRack (fun c r => (setCapacity c (numbered 5 (natAt items "header" 0)) cap r).1)
      (headerAnswer
        ((setCapacity s.cond (numbered 5 (natAt items "header" 0)) cap s.rack).1.header (numbered 5 (natAt items "header" 0)))
        (some (setCapacity s.cond (numbered 5 (natAt items "header" 0)) cap s.rack).2)) s := by
  unfold rackHeader
  rw [h]

theorem setCapacity_kept {r : Rack} {h : HeaderId} {cap : Nat} (kept : cap ≤ (r.header h).capacity) :
    setCapacity c h cap r = (r.modHeader h (fun x => { x with capacity := cap }), []) := if_neg (by omega)

theorem setCapacity_raised {r : Rack} {h : HeaderId} {cap : Nat} (raised : (r.header h).capacity < cap)
    (apart : ((r.header h).waiting.map (fun w => w.arm)).Nodup)
    (waits : ∀ w ∈ (r.header h).waiting, (r.arm w.arm).state = .waitGrant ∧ w.arm ∉ (r.header h).held) :
    Granted h (r.modHeader h (fun x => { x with capacity := cap })) (setCapacity c h cap r).1 (setCapacity c h cap r).2
      (r.header h).waiting (min (r.header h).waiting.length (cap - (r.header h).held.length)) := by
  have header : (r.modHeader h (fun x => { x with capacity := cap })).header h = { r.header h with capacity := cap } := by simp
  have set : setCapacity c h cap r = grantHeads c h (r.header h).waiting.length (r.modHeader h (fun x => { x with capacity := cap })) := by
    refine (if_pos raised).trans ?_
    unfold grantTest
    rw [header]
  have granted := grantHeads_granted (c := c) (h := h) (r := r.modHeader h (fun x => { x with capacity := cap }))
    (r.header h).waiting (by rw [header]) apart (fun w hw => by rw [header]; simpa using waits w hw)
  rw [header] at granted
  rw [set]
  exact granted

theorem setCapacity_frame (r : Rack) (h : HeaderId) (cap : Nat) : (setCapacity c h cap r).1 =
    { r with arms := (setCapacity c h cap r).1.arms, headers := (setCapacity c h cap r).1.headers
             panels := (setCapacity c h cap r).1.panels } := by
  unfold setCapacity
  dsimp only
  split
  · apply Rack.eq_of_fields <;> simp
  · apply Rack.eq_of_fields <;> simp

/-- Settles O26: the status field by field, the table by the rows of the frame, the header by induction on the grants. -/
theorem rackRequestsComplete : Obligations.RackRequestsComplete := by
  refine ⟨fun s taken => ?_, fun s taken => takeRequest_taken taken (if_pos rfl) rfl, fun s fields items taken some checked => ?_,
    fun fields items x row checked made => ?_, fun s fields items h taken checked named read => ?_,
    fun s fields items h cap taken checked named set kept => ?_,
    fun s f fields key => ⟨fun taken => takeRequest_refuses taken rfl, fun taken => takeRequest_refuses taken rfl,
      fun taken bad => ?_, fun taken bad => takeRequest_refuses taken (congrFun (withItems_fault _ bad) _)⟩,
    fun s fields items h cap n ws taken checked named set raised listed apart waits counted => ?_⟩
  · refine takeRequest_taken taken ?_ rfl
    rw [← attention_eq]
    rfl
  · exact takeRequest_taken (t := { s with cond := { s.cond with switchTable := switchTableOf items } }) taken
      ((if_neg some).trans (congrFun (withItems_passed _ checked) _)) rfl
  · subst made
    obtain ⟨held, fields'⟩ := switchItems_rows checked row
    have rowKey_eq : (if row = 8 then txt "row.CLEAN" else indexedKey "row" row.val) = rowKey row.val := by
      unfold rowKey
      simp [Fin.ext_iff]
    exact ⟨held, fun key text keyed mem => fields' text (keyed.trans rowKey_eq ▸ mem)⟩
  · subst named
    exact takeRequest_taken taken ((congrFun (withItems_passed _ checked) _).trans (rackHeader_read _ read)) rfl
  · subst named
    refine takeRequest_taken (t := { s with
      rack := (s.rack.modHeader (numbered 5 (natAt items "header" 0)) (fun x => { x with capacity := cap })).pump }) taken
      ((congrFun (withItems_passed _ checked) _).trans ((rackHeader_set _ set).trans ?_)) rfl
    dsimp only
    rw [setCapacity_kept kept]
    unfold okRack State.moveRack
    dsimp only
    rw [setCapacity_kept kept]
    simp [headerAnswer]
  · exact takeRequest_refuses taken ((if_neg (List.cons_ne_nil _ _)).trans (congrFun (withItems_fault _ bad) _))
  · subst named listed counted
    obtain ⟨told, capacity, waiting, count, held, raise, arms, headers⟩ := setCapacity_raised (c := s.cond) raised apart waits
    rw [Rack.modHeader_header, if_pos rfl] at capacity count held
    refine ⟨_, takeRequest_taken (t := { s with rack := (setCapacity s.cond (numbered 5 (natAt items "header" 0)) cap s.rack).1.pump })
      taken ((congrFun (withItems_passed _ checked) _).trans (rackHeader_set _ set)) rfl, rfl, ?_, ?_, ?_, ?_, fun a => ?_,
      fun a mem => ?_, fun a mem => ?_, fun g ne => ?_, ?_⟩
    · simp [State.answers, headerAnswer, told, capacity, waiting]
    · simpa [State.answers] using capacity
    · simpa [State.answers] using waiting
    · simpa [State.answers] using count
    · simpa [State.answers] using held a
    · have here := raise a mem
      rw [Rack.modHeader_arm_of] at here
      simp [State.answers, here, ArmState.valve]
    · have here := arms a mem
      rw [Rack.modHeader_arm_of] at here
      simpa [State.answers] using here
    · have here := headers g ne
      rw [Rack.modHeader_header, if_neg (Ne.symm ne)] at here
      simpa [State.answers] using here
    · dsimp only [State.answers]
      have frame := setCapacity_frame (c := s.cond) s.rack (numbered 5 (natAt items "header" 0)) cap
      apply Rack.eq_of_fields <;> simp
      all_goals rw [frame]

end Sys2Proof.Machine
end

section
/-! PROOF. CAL.WRITE, CAL.READ and CAL.COMMIT (O15). -/

namespace Sys2Proof.Machine

variable {fields : List Text} {items rest : List Item} {i : Item} {name : String} {index : Nat}

/-! ### The value taken for a field, item by item -/

theorem lastItem_cons_other (h : ¬(i.name = txt name ∧ i.index = index)) :
    lastItem (i :: rest) (txt name) index = lastItem rest (txt name) index := by
  rw [lastItem_cons, if_neg h, Option.or_none]

theorem itemValue_cons_other (h : ¬(i.name = txt name ∧ i.index = index)) : itemValue (i :: rest) name index = itemValue rest name index := by
  simp [itemValue, lastItem_cons_other h]

theorem natAt?_cons_other (h : ¬(i.name = txt name ∧ i.index = index)) : natAt? (i :: rest) name index = natAt? rest name index := by
  simp [natAt?, itemValue_cons_other h]

/-- An item stands behind the later ones of its field, all of which hold a value. -/
theorem itemValue_cons_here (valued : ∀ j ∈ rest, j.value ≠ none) (named : i.name = txt name) (here : i.index = index) :
    itemValue (i :: rest) name index = (itemValue rest name index).or i.value := by
  unfold itemValue
  rw [lastItem_cons, if_pos ⟨named, here⟩]
  cases later : lastItem rest (txt name) index with
  | none => simp
  | some j =>
    obtain ⟨v, hv⟩ := Option.ne_none_iff_exists'.mp (valued j (lastItem_mem later).1)
    simp [hv]

theorem natAt?_cons_here {n : Nat} (numbers : ∀ j ∈ rest, j.name = txt name → ∃ m, j.value = some (.nat m)) (named : i.name = txt name)
    (here : i.index = index) (value : i.value = some (.nat n)) : natAt? (i :: rest) name index = (natAt? rest name index).or (some n) := by
  unfold natAt? itemValue
  rw [lastItem_cons, if_pos ⟨named, here⟩]
  cases later : lastItem rest (txt name) index with
  | none => simp [value]
  | some j =>
    obtain ⟨mem, named', -⟩ := lastItem_mem later
    obtain ⟨m, hm⟩ := numbers j mem named'
    simp [hm]

/-! ### A CAL.WRITE, field by field (R27) -/

/-- A field of a CAL.WRITE that passed its form check. -/
inductive CalItem : Item → Prop where
  | copy {i : Item} (w : Text) (named : i.name = txt "copy") (value : i.value = some (.word w)) : CalItem i
  | k {i : Item} (a : ArmId) (n : Nat) (named : i.name = txt "k") (here : i.index = a.val + 1) (value : i.value = some (.nat n)) : CalItem i
  | curve {i : Item} (a : ArmId) (p : PageId) (named : i.name = txt "curve") (here : i.index = a.val + 1)
      (value : i.value = some (.nat p.val)) : CalItem i
  | points {i : Item} (p : PageId) (ps : List CurvePoint) (named : i.name = txt "points") (here : i.index = p.val)
      (value : i.value = some (.points ps)) : CalItem i
  | beta {i : Item} (q : ProductId) (n : Nat) (named : i.name = txt "beta") (here : i.index = q.val + 1)
      (value : i.value = some (.nat n)) : CalItem i

theorem IndexForm.read_range {lo hi n : Nat} {x : Option Text} (h : (IndexForm.range lo hi).read x = some n) : lo ≤ n ∧ n ≤ hi := by
  cases x with
  | none => cases h
  | some t => exact (readRange_some h).2

theorem calItem_of_check (checked : checkForm calWriteForms true (fun _ _ => false) (fun _ => []) fields = .ok items)
    (mem : i ∈ items) : CalItem i := by
  obtain ⟨f, hf, named, ⟨x, index⟩, t, v, value, read⟩ := (formed_of_check checked).item_read mem
  simp only [calWriteForms, List.mem_cons, List.not_mem_nil, or_false] at hf
  rcases hf with rfl | rfl | rfl | rfl | rfl
  · simp only [plainField, ValueForm.read] at read
    split at read <;> cases read
    exact .copy t named value
  · obtain ⟨least, most⟩ := IndexForm.read_range index
    obtain ⟨n, rfl⟩ := ValueForm.read_number rfl read
    exact .k ⟨i.index - 1, by omega⟩ n named (Nat.succ_pred_eq_of_pos least).symm value
  · obtain ⟨least, most⟩ := IndexForm.read_range index
    obtain ⟨n, here, rfl⟩ := Option.map_eq_some_iff.mp read
    exact .curve ⟨i.index - 1, by omega⟩ ⟨n, by have := (readRange_some here).2; omega⟩ named (Nat.succ_pred_eq_of_pos least).symm value
  · obtain ⟨-, most⟩ := IndexForm.read_range index
    obtain ⟨ps, -, rfl⟩ := Option.map_eq_some_iff.mp read
    exact .points ⟨i.index, by omega⟩ ps named rfl value
  · obtain ⟨least, most⟩ := IndexForm.read_range index
    obtain ⟨n, rfl⟩ := ValueForm.read_number rfl read
    exact .beta ⟨i.index - 1, by omega⟩ n named (Nat.succ_pred_eq_of_pos least).symm value

theorem CalItem.valued (h : CalItem i) : i.value ≠ none := by
  cases h with
  | copy w named value | k a n named here value | curve a p named here value | points p ps named here value | beta q n named here value =>
    simp [value]

theorem CalItem.number (h : CalItem i) (named : i.name = txt "k" ∨ i.name = txt "curve" ∨ i.name = txt "beta") :
    ∃ n, i.value = some (.nat n) := by
  cases h with
  | copy w named' value | points p ps named' here value =>
    rw [named'] at named
    exact absurd named (by decide)
  | k a n named' here value | curve a p named' here value | beta q n named' here value => exact ⟨_, value⟩

theorem numbered_succ (n : Nat) (a : Fin (n + 1)) : numbered n (a.val + 1) = a := Fin.ext (Nat.mod_eq_of_lt a.isLt)

/-- What an item writes into a bank, each case its own field. -/
theorem Bank.write_copy (k : Bank) {w : Text} (value : i.value = some (.word w)) : k.write i = k := by
  simp [Bank.write, value]

theorem Bank.write_k (k : Bank) {a : ArmId} {n : Nat} (named : i.name = txt "k") (here : i.index = a.val + 1)
    (value : i.value = some (.nat n)) : k.write i = { k with meters := k.meters.set a { k.meters[a] with k := n } } := by
  simp [Bank.write, value, named, here, numbered_succ]

theorem Bank.write_curve (k : Bank) {a : ArmId} {p : PageId} (named : i.name = txt "curve") (here : i.index = a.val + 1)
    (value : i.value = some (.nat p.val)) : k.write i = { k with meters := k.meters.set a { k.meters[a] with page := p } } := by
  have other : i.name ≠ txt "k" := by rw [named]; decide
  simp [Bank.write, value, named, here, numbered_succ, named ▸ other]

theorem Bank.write_points (k : Bank) {p : PageId} {ps : List CurvePoint} (here : i.index = p.val)
    (value : i.value = some (.points ps)) : k.write i = { k with pages := k.pages.set p ps } := by
  simp [Bank.write, value, here]

theorem Bank.write_beta (k : Bank) {q : ProductId} {n : Nat} (named : i.name = txt "beta") (here : i.index = q.val + 1)
    (value : i.value = some (.nat n)) : k.write i = { k with beta := k.beta.set q n } := by
  have other : i.name ≠ txt "k" ∧ i.name ≠ txt "curve" := by rw [named]; decide
  simp [Bank.write, value, other, here, numbered_succ]

/-- A K-factor after a CAL.WRITE: the last the frame names, or the one that stood there. -/
theorem Bank.writeAll_k (k : Bank) (all : ∀ i ∈ items, CalItem i) (a : ArmId) :
    (k.writeAll items).meters[a].k = (natAt? items "k" (a.val + 1)).getD k.meters[a].k := by
  induction items generalizing k with
  | nil => rfl
  | cons i rest ih =>
    obtain ⟨item, all'⟩ := List.forall_mem_cons.mp all
    rw [Bank.writeAll, ih _ all']
    by_cases here : i.name = txt "k" ∧ i.index = a.val + 1
    · obtain ⟨named, index⟩ := here
      obtain ⟨n, value⟩ := item.number (.inl named)
      rw [natAt?_cons_here (fun j hj named => (all' j hj).number (.inl named)) named index value, k.write_k named index value]
      cases natAt? rest "k" (a.val + 1) <;> simp
    · rw [natAt?_cons_other here]
      congr 1
      cases item with
      | copy w named value => rw [k.write_copy value]
      | k b n named index value =>
        have apart : (b : Nat) ≠ a := fun eq => here ⟨named, by omega⟩
        simp [k.write_k named index value, apart]
      | curve b p named index value =>
        by_cases same : (b : Nat) = a <;> simp [k.write_curve named index value, same]
      | points p ps named index value => simp [k.write_points index value]
      | beta q n named index value => simp [k.write_beta named index value]

/-- A meter's page after a CAL.WRITE. -/
theorem Bank.writeAll_page (k : Bank) (all : ∀ i ∈ items, CalItem i) (a : ArmId) :
    (k.writeAll items).meters[a].page.val = (natAt? items "curve" (a.val + 1)).getD k.meters[a].page.val := by
  induction items generalizing k with
  | nil => rfl
  | cons i rest ih =>
    obtain ⟨item, all'⟩ := List.forall_mem_cons.mp all
    rw [Bank.writeAll, ih _ all']
    by_cases here : i.name = txt "curve" ∧ i.index = a.val + 1
    · obtain ⟨named, index⟩ := here
      cases item with
      | curve b p named' index' value =>
        have same : b = a := Fin.ext (by omega)
        subst same
        rw [natAt?_cons_here (fun j hj named => (all' j hj).number (.inr (.inl named))) named index value, k.write_curve named index value]
        cases natAt? rest "curve" (b.val + 1) <;> simp
      | copy w named' value | k b n named' index' value | points p ps named' index' value | beta q n named' index' value =>
        exact absurd (named'.symm.trans named) (by decide)
    · rw [natAt?_cons_other here]
      congr 1
      cases item with
      | copy w named value => rw [k.write_copy value]
      | k b n named index value =>
        by_cases same : (b : Nat) = a <;> simp [k.write_k named index value, same]
      | curve b p named index value =>
        have apart : (b : Nat) ≠ a := fun eq => here ⟨named, by omega⟩
        simp [k.write_curve named index value, apart]
      | points p ps named index value => simp [k.write_points index value]
      | beta q n named index value => simp [k.write_beta named index value]

/-- A product's β after a CAL.WRITE. -/
theorem Bank.writeAll_beta (k : Bank) (all : ∀ i ∈ items, CalItem i) (q : ProductId) :
    (k.writeAll items).beta[q] = (natAt? items "beta" (q.val + 1)).getD k.beta[q] := by
  induction items generalizing k with
  | nil => rfl
  | cons i rest ih =>
    obtain ⟨item, all'⟩ := List.forall_mem_cons.mp all
    rw [Bank.writeAll, ih _ all']
    by_cases here : i.name = txt "beta" ∧ i.index = q.val + 1
    · obtain ⟨named, index⟩ := here
      obtain ⟨n, value⟩ := item.number (.inr (.inr named))
      rw [natAt?_cons_here (fun j hj named => (all' j hj).number (.inr (.inr named))) named index value, k.write_beta named index value]
      cases natAt? rest "beta" (q.val + 1) <;> simp
    · rw [natAt?_cons_other here]
      congr 1
      cases item with
      | copy w named value => rw [k.write_copy value]
      | k b n named index value => simp [k.write_k named index value]
      | curve b p named index value => simp [k.write_curve named index value]
      | points p ps named index value => simp [k.write_points index value]
      | beta p n named index value =>
        have apart : (p : Nat) ≠ q := fun eq => here ⟨named, by omega⟩
        simp [k.write_beta named index value, apart]

/-- A page after a CAL.WRITE: the last list of points the frame gives it. -/
theorem Bank.writeAll_points (k : Bank) (all : ∀ i ∈ items, CalItem i) (p : PageId) :
    (∀ ps, itemValue items "points" p.val = some (.points ps) → (k.writeAll items).pages[p] = ps) ∧
    (itemValue items "points" p.val = none → (k.writeAll items).pages[p] = k.pages[p]) := by
  induction items generalizing k with
  | nil => exact ⟨fun ps h => by simp [itemValue, lastItem] at h, fun _ => rfl⟩
  | cons i rest ih =>
    obtain ⟨item, all'⟩ := List.forall_mem_cons.mp all
    obtain ⟨given, absent⟩ := ih (k.write i) all'
    rw [Bank.writeAll]
    by_cases here : i.name = txt "points" ∧ i.index = p.val
    · obtain ⟨named, index⟩ := here
      cases item with
      | points p' ps named' index' value =>
        have same : p' = p := Fin.ext (by omega)
        subst same
        rw [itemValue_cons_here (fun j hj => (all' j hj).valued) named index, value]
        cases later : itemValue rest "points" p'.val with
        | none =>
          refine ⟨fun qs h => ?_, fun h => by simp at h⟩
          cases h
          rw [absent later, k.write_points index value]
          simp
        | some v => exact ⟨fun qs h => given qs (later.trans h), fun h => by simp at h⟩
      | copy w named' value | k b n named' index' value | curve b q named' index' value | beta q n named' index' value =>
        exact absurd (named'.symm.trans named) (by decide)
    · rw [itemValue_cons_other here]
      have same : (k.write i).pages[p] = k.pages[p] := by
        cases item with
        | copy w named value => rw [k.write_copy value]
        | k b n named index value => simp [k.write_k named index value]
        | curve b q named index value => simp [k.write_curve named index value]
        | points q ps named index value =>
          have apart : (q : Nat) ≠ p := fun eq => here ⟨named, by omega⟩
          simp [k.write_points index value, apart]
        | beta q n named index value => simp [k.write_beta named index value]
      exact ⟨given, fun h => (absent h).trans same⟩

/-! ### CAL.COMMIT (R32) -/

theorem allArms_split (a : ArmId) : allArms = allArms.take a.val ++ a :: allArms.drop (a.val + 1) ∧ ∀ b ∈ allArms.take a.val, b < a := by
  revert a
  decide

theorem calCommit_faulty (s : State) {a : ArmId} {named : Named}
    (before : ∀ b, b < a → commitFault s.rack (s.cond.cal.bank s.cond.cal.standby) b = none)
    (fault : commitFault s.rack (s.cond.cal.bank s.cond.cal.standby) a = some named) : calCommit s = refuse .badBank named s := by
  obtain ⟨split, less⟩ := allArms_split a
  have first : allArms.findSome? (commitFault s.rack (s.cond.cal.bank s.cond.cal.standby)) = some named :=
    List.findSome?_eq_some_iff.mpr ⟨_, a, _, split, fault, fun b hb => before b (less b hb)⟩
  unfold calCommit
  rw [first]

theorem calCommit_faultless (s : State) (faultless : ∀ a, commitFault s.rack (s.cond.cal.bank s.cond.cal.standby) a = none) :
    calCommit s = okStore CalStore.commit (.calCommitted s.cond.cal.commit.active s.cond.cal.commit.count) s := by
  unfold calCommit
  rw [List.findSome?_eq_none_iff.mpr (fun a _ => faultless a)]

/-! ### CAL.READ (R31) -/

theorem bankUsers_eq (r : Rack) (id : BankId) : r.bankUsers id = ((r.orders.flatMap (fun o => o.lines)).filter (fun l =>
    decide ((l.state = .active ∨ l.state = .suspended) ∧ l.bank = some id))).length := by
  unfold Rack.bankUsers Rack.allLines
  congr 2
  funext l
  cases h : l.state <;> simp [LineState.holdsBank]

theorem curveUsable_eq (k : Bank) (a : ArmId) :
    k.curveUsable a = decide (2 ≤ k.pages[k.meters[a].page].length ∨ 2 ≤ k.pages[(0 : PageId)].length) := by
  simp [Bank.curveUsable, Bank.pageUsable]

theorem calReadView_eq (s : State) {id : BankId}
    (bank : wordAt items "bank" = txt "A" ∧ id = .a ∨ wordAt items "bank" = txt "B" ∧ id = .b) :
    calReadView s items = { part := (s.cond.cal.bank id).part items, active := s.cond.cal.active, count := s.cond.cal.count
                            switchClosed := s.cond.calClosed, inUse := s.rack.bankUsers id
                            usable := Vector.ofFn (fun a : Fin 8 => (s.cond.cal.bank id).curveUsable a) } := by
  have named : (if wordAt items "bank" = txt "A" then BankId.a else .b) = id := by
    rcases bank with ⟨a, rfl⟩ | ⟨b, rfl⟩
    · rw [if_pos a]
    · rw [b]
      exact if_neg (by decide)
  subst named
  rfl

/-! ### CAL.WRITE (R27) -/

theorem answerCalWrite_fields {s : State} (closed : s.cond.calClosed = true) (some : fields ≠ []) :
    answerCalWrite fields s = withItems (checkForm calWriteForms true (fun _ _ => false) (fun _ => []) fields) (fun items =>
      if 0 < s.rack.bankUsers s.cond.cal.standby then refuseWith .bankInUse
      else okStore (fun k => k.writeStandby items) (.calWritten s.cond.cal.standby)) s :=
  (if_neg (by simp [closed])).trans (if_neg some)

theorem answerCalWrite_formed {s : State} {link : Link} (closed : s.cond.calClosed = true) (some : fields ≠ [])
    (checked : checkForm calWriteForms true (fun _ _ => false) (fun _ => []) fields = .ok items) :
    answerCalWrite fields { s with link := link } = (if 0 < s.rack.bankUsers s.cond.cal.standby then refuseWith .bankInUse
      else okStore (fun k => k.writeStandby items) (.calWritten s.cond.cal.standby)) { s with link := link } :=
  (answerCalWrite_fields (s := { s with link := link }) closed some).trans (congrFun (withItems_passed _ checked) _)

theorem writeStandby_eq {x : CalStore} {base : Bank}
    (based : base = if hasItem items (txt "copy") 0 = true then x.bank x.active else x.bank x.active.other) :
    x.writeStandby items = { x with bankA := if x.active = .a then x.bankA else base.writeAll items
                                    bankB := if x.active = .a then base.writeAll items else x.bankB } := by
  subst based
  unfold CalStore.writeStandby CalStore.standby
  cases h : x.active <;> simp [CalStore.setBank, BankId.other, h]

/-- Settles O15: a CAL.WRITE by induction on the fields written, a CAL.COMMIT by the first arm at fault. -/
theorem calibrationRequestsComplete : Obligations.CalibrationRequestsComplete := by
  refine ⟨fun s fields items base taken closed given checked free based => ⟨base.writeAll items, ?_, ?_, ?_, ?_⟩,
    fun s fields items id k taken checked bank held => ⟨k.part items, ?_, ?_, ?_, ?_⟩, fun s taken closed sound => ?_,
    fun s fields key => ⟨fun taken => ⟨fun opened => ?_, fun closed none => ?_, fun closed bad => ?_, fun items closed given checked used => ?_⟩,
      fun taken bad => ?_, fun taken => ⟨fun opened => ?_, fun f rest closed given => ?_, fun k a closed none held before serves => ?_⟩⟩⟩
  · refine takeRequest_taken
      (t := { s with
        cond := { s.cond with cal := { s.cond.cal with
          bankA := if s.cond.cal.active = .a then s.cond.cal.bankA else base.writeAll items
          bankB := if s.cond.cal.active = .a then base.writeAll items else s.cond.cal.bankB } }
        calBefore := some s.cond.cal }) taken ?_ rfl
    refine (answerCalWrite_formed closed given checked).trans ((congrFun (if_neg (by simpa [CalStore.standby] using free)) _).trans ?_)
    unfold okStore
    dsimp only
    rw [writeStandby_eq based]
    rfl
  · exact fun a => ⟨base.writeAll_k (fun i hi => calItem_of_check checked hi) a, base.writeAll_page (fun i hi => calItem_of_check checked hi) a⟩
  · exact base.writeAll_points (fun i hi => calItem_of_check checked hi)
  · exact base.writeAll_beta (fun i hi => calItem_of_check checked hi)
  · refine takeRequest_taken taken ((congrFun (withItems_passed _ checked) _).trans ?_) rfl
    subst held
    rw [calReadView_eq _ bank, bankUsers_eq]
    simp only [curveUsable_eq]
    rfl
  · exact fun meters => if_pos meters
  · intro p page named
    unfold Bank.part
    have same : Fin.ofNat 16 (natAt items "page" 0) = p :=
      Fin.ext (by rw [natAt_of_natAt? named]; exact Nat.mod_eq_of_lt p.isLt)
    rw [if_neg (by rw [page]; decide), if_pos page]
    simp only [same]
  · intro products
    exact (if_neg (by rw [products]; decide)).trans (if_neg (by rw [products]; decide))
  · refine takeRequest_taken
      (t := { s with
        cond := { s.cond with cal := { s.cond.cal with active := s.cond.cal.active.other, count := min 65535 (s.cond.cal.count + 1) } }
        calBefore := some s.cond.cal }) taken ?_ rfl
    exact (if_neg (by simp [closed])).trans (calCommit_faultless _ (fun a => commitFault_eq_none_iff.mpr (sound a)))
  · exact takeRequest_refuses taken (if_pos opened)
  · subst none
    exact takeRequest_refuses taken ((if_neg (by simp [closed])).trans (if_pos rfl))
  · by_cases empty : fields = []
    · subst empty
      cases bad
    · exact takeRequest_refuses taken ((answerCalWrite_fields (s := { s with link := s.link.toHunt }) closed empty).trans (congrFun (withItems_fault _ bad) _))
  · exact takeRequest_refuses taken ((answerCalWrite_formed closed given checked).trans (congrFun (if_pos used) _))
  · exact takeRequest_refuses taken (congrFun (withItems_fault _ bad) _)
  · exact takeRequest_refuses taken (if_pos opened)
  · subst given
    exact takeRequest_refuses taken (if_neg (by simp [closed]))
  · subst none held
    have sound (b : ArmId) (less : b < a) : commitFault s.rack (s.cond.cal.bank s.cond.cal.standby) b = none :=
      commitFault_eq_none_iff.mpr (before b less)
    refine ⟨fun noFactor => ?_, fun factor unusable => ?_⟩
    · exact takeRequest_refuses taken ((if_neg (by simp [closed])).trans
        (calCommit_faulty _ sound ((if_pos serves).trans (if_pos noFactor))))
    · exact takeRequest_refuses taken ((if_neg (by simp [closed])).trans
        (calCommit_faulty _ sound ((if_pos serves).trans ((if_neg factor).trans (if_neg (by simpa [CalStore.standby] using unusable))))))

end Sys2Proof.Machine
end

section
/-! PROOF. Frames on the request link and on the panel lines: a frame received whole (O60), the link's own events (O50), a panel message
that is discarded (O51). -/

namespace Sys2Proof.Machine

variable {name body digits : Text} {fields : List Text}

/-! ### A body and its pieces (R181) -/

theorem splitAtChar_append {sep : Char} {x : Text} (h : sep ∉ x) (rest : Text) :
    splitAtChar sep (x ++ sep :: rest) = x :: splitAtChar sep rest := by
  induction x with
  | nil => simp [splitAtChar]
  | cons ch x ih =>
    obtain ⟨ne, others⟩ := not_or.mp (List.mem_cons.not.mp h)
    rw [List.cons_append, splitAtChar, if_neg (Ne.symm ne), ih others]

theorem splitAtChar_single {sep : Char} {x : Text} (h : sep ∉ x) : splitAtChar sep x = [x] := by
  induction x with
  | nil => rfl
  | cons ch x ih =>
    obtain ⟨ne, others⟩ := not_or.mp (List.mem_cons.not.mp h)
    rw [splitAtChar, if_neg (Ne.symm ne), ih others]

theorem splitAtChar_bodyText (hn : ';' ∉ name) (hf : ∀ f ∈ fields, ';' ∉ f) :
    splitAtChar ';' (bodyText name fields) = name :: fields := by
  induction fields generalizing name with
  | nil =>
    simp only [bodyText, List.flatMap_nil, List.append_nil]
    exact splitAtChar_single hn
  | cons f rest ih =>
    obtain ⟨first, others⟩ := List.forall_mem_cons.mp hf
    have body : bodyText name (f :: rest) = name ++ ';' :: bodyText f rest := by simp [bodyText]
    rw [body, splitAtChar_append hn, ih first others]

theorem splitBody_bodyText (hn : ';' ∉ name) (hf : ∀ f ∈ fields, ';' ∉ f) : splitBody (bodyText name fields) = (name, fields) := by
  unfold splitBody
  rw [splitAtChar_bodyText hn hf]

/-! ### The check (R179) -/

theorem hexValue_hexDigit {n : Nat} (h : n < 16) : hexValue (hexDigit n) = some n := by
  have all : ∀ d : Fin 16, hexValue (hexDigit d.val) = some d.val := by decide
  exact all ⟨n, h⟩

theorem hexDigit_capital {n : Nat} (h : n < 16) : hexDigit n ∈ txt "0123456789ABCDEF" := by
  have all : ∀ d : Fin 16, hexDigit d.val ∈ txt "0123456789ABCDEF" := by decide
  exact all ⟨n, h⟩

theorem checkDigits_length (crc : BitVec 16) : (checkDigits crc).length = 4 := rfl

theorem checkDigits_forall {p : Char → Prop} (h : ∀ n, n < 16 → p (hexDigit n)) (crc : BitVec 16) : ∀ ch ∈ checkDigits crc, p ch := by
  have less := crc.isLt
  intro ch mem
  simp only [checkDigits, List.mem_cons, List.not_mem_nil, or_false] at mem
  rcases mem with rfl | rfl | rfl | rfl <;> exact h _ (by omega)

theorem hexNumber_checkDigits (crc : BitVec 16) : hexNumber (checkDigits crc) = crc.toNat := by
  have less := crc.isLt
  simp only [hexNumber, checkDigits, List.foldl_cons, List.foldl_nil]
  rw [hexValue_hexDigit (n := crc.toNat / 4096) (by omega), hexValue_hexDigit (n := crc.toNat / 256 % 16) (by omega),
    hexValue_hexDigit (n := crc.toNat / 16 % 16) (by omega), hexValue_hexDigit (n := crc.toNat % 16) (by omega)]
  simp only [Option.getD_some]
  omega

/-! ### A frame received (R178) -/

theorem Link.receiveAll_none {k k1 : Link} {ch : Char} (h : k.receive ch = (k1, none)) (rest : Text) :
    k.receiveAll (ch :: rest) = k1.receiveAll rest := by
  rw [Link.receiveAll, h]

theorem Link.receiveAll_last {k k1 : Link} {ch : Char} {taken : Text} (h : k.receive ch = (k1, some taken)) :
    k.receiveAll [ch] = ({ k1 with responseOwed := true }, some taken) := by
  rw [Link.receiveAll, h]
  rfl

theorem Link.receive_start (k : Link) : k.receive '>' = (k.beginFrame, none) := by
  unfold Link.receive
  split
  · rw [if_pos rfl]
  · rfl
  · rfl

/-- Characters of a body are added one after another while there is room. -/
theorem Link.receiveAll_body (xs rest : Text) {k : Link} (rx : k.rx = .body) (chars : ∀ ch ∈ xs, bodyChar ch = true)
    (room : k.body.length + xs.length < bodyLimit) :
    k.receiveAll (xs ++ rest) = { k with body := k.body ++ xs }.receiveAll rest := by
  induction xs generalizing k with
  | nil => simp
  | cons ch xs ih =>
    obtain ⟨first, others⟩ := List.forall_mem_cons.mp chars
    simp only [bodyChar, Bool.and_eq_true, bne_iff_ne] at first
    obtain ⟨⟨prints, noStar⟩, noStart⟩ := first
    rw [List.length_cons] at room
    have added : k.receive ch = ({ k with body := k.body ++ [ch] }, none) := by
      unfold Link.receive Link.bodyCharacter
      rw [rx]
      simp only [noStart, noStar, prints, if_false, if_true]
      rw [if_pos (by omega)]
    rw [List.cons_append, Link.receiveAll_none added, ih (k := { k with body := k.body ++ [ch] }) rx others (by simpa using by omega)]
    simp

/-- The digits of a check are added one after another, four of them. -/
theorem Link.receiveAll_digits (xs rest : Text) {k : Link} (rx : k.rx = .check) (hex : ∀ ch ∈ xs, (hexValue ch).isSome = true)
    (room : k.digits.length + xs.length ≤ 4) : k.receiveAll (xs ++ rest) = { k with digits := k.digits ++ xs }.receiveAll rest := by
  induction xs generalizing k with
  | nil => simp
  | cons ch xs ih =>
    obtain ⟨first, others⟩ := List.forall_mem_cons.mp hex
    rw [List.length_cons] at room
    have noStart : ch ≠ '>' := by
      rintro rfl
      revert first
      decide
    have added : k.receive ch = ({ k with digits := k.digits ++ [ch] }, none) := by
      unfold Link.receive Link.checkCharacter
      rw [rx]
      simp only [noStart, first, if_false, if_true]
      rw [if_pos (by omega)]
    rw [List.cons_append, Link.receiveAll_none added, ih (k := { k with digits := k.digits ++ [ch] }) rx others (by simpa using by omega)]
    simp

/-- CR behind four digits is kept, and LF behind it ends the frame. -/
theorem Link.receive_end {k : Link} (rx : k.rx = .check) (four : k.digits.length = 4) :
    k.receive charCR = ({ k with digits := k.digits ++ [charCR] }, none) ∧
    { k with digits := k.digits ++ [charCR] }.receive charLF = (k.toHunt, { k with digits := k.digits ++ [charCR] }.bodyTaken) := by
  unfold Link.receive Link.checkCharacter
  rw [rx]
  constructor
  · exact (if_neg (by decide)).trans ((if_neg (by omega)).trans ((if_pos four).trans (if_pos rfl)))
  · exact (if_neg (by decide)).trans ((if_neg (by simp [four])).trans ((if_neg (by simp [four])).trans (if_pos rfl)))

/-- A frame received whole from any state of the receiver: its body is taken if no response is owed, it is not empty and its check agrees. -/
theorem Link.receiveAll_frame (k : Link) (chars : ∀ ch ∈ body, bodyChar ch = true) (room : body.length < bodyLimit)
    (four : digits.length = 4) (hex : ∀ ch ∈ digits, (hexValue ch).isSome = true) :
    k.receiveAll ('>' :: body ++ '*' :: digits ++ [charCR, charLF]) =
      if k.responseOwed = false ∧ body ≠ [] ∧ hexNumber digits = (frameCheck body).toNat
      then ({ k.toHunt with responseOwed := true }, some body) else (k.toHunt, none) := by
  have star : ({ k.beginFrame with body := body } : Link).receive '*' = ({ k.beginFrame with body := body, rx := .check }, none) := rfl
  obtain ⟨cr, lf⟩ := Link.receive_end (k := { k.beginFrame with body := body, rx := .check, digits := digits }) rfl four
  have taken : ({ k.beginFrame with body := body, rx := .check, digits := digits ++ [charCR] } : Link).bodyTaken =
      if k.responseOwed = false ∧ body ≠ [] ∧ hexNumber digits = (frameCheck body).toNat then some body else none := by
    unfold Link.bodyTaken
    rw [List.take_append_of_le_length (by omega), List.take_of_length_le (by omega)]
    rfl
  rw [List.cons_append, List.cons_append, Link.receiveAll_none k.receive_start, List.append_assoc,
    Link.receiveAll_body body _ (k := k.beginFrame) rfl chars (by simpa [Link.beginFrame] using room)]
  simp only [Link.beginFrame, List.nil_append, List.cons_append]
  refine (Link.receiveAll_none star _).trans ((Link.receiveAll_digits digits _ (k := { k.beginFrame with body := body, rx := .check })
    rfl hex (by simp [Link.beginFrame, four])).trans ((Link.receiveAll_none cr _).trans ?_))
  by_cases good : k.responseOwed = false ∧ body ≠ [] ∧ hexNumber digits = (frameCheck body).toNat
  · rw [if_pos good] at taken ⊢
    exact Link.receiveAll_last (lf.trans (congrArg (Prod.mk _) taken))
  · rw [if_neg good] at taken ⊢
    exact Link.receiveAll_none (lf.trans (congrArg (Prod.mk _) taken)) []

/-- A request put in its frame is taken whole. -/
theorem Link.receiveAll_frameText (k : Link) (chars : ∀ ch ∈ body, bodyChar ch = true) (room : body.length < bodyLimit) (some : body ≠ [])
    (free : k.responseOwed = false) : (k.receiveAll (frameText '>' body)).2 = .some body := by
  have hex : ∀ ch ∈ checkDigits (frameCheck body), (hexValue ch).isSome = true :=
    checkDigits_forall (fun n less => by rw [hexValue_hexDigit less]; rfl) _
  unfold frameText
  rw [Link.receiveAll_frame k chars room (checkDigits_length _) hex, if_pos ⟨free, some, hexNumber_checkDigits _⟩]

/-! ### A request and its frame (R181) -/

theorem fitsFrame_iff : fitsFrame name fields = true ↔ (∀ ch ∈ name, fieldChar ch = true) ∧ (∀ f ∈ fields, ∀ ch ∈ f, fieldChar ch = true) ∧
    bodyText name fields ≠ [] ∧ (bodyText name fields).length < bodyLimit := by
  simp [fitsFrame, and_assoc]

theorem not_mem_of_fieldChar {x : Text} (h : ∀ ch ∈ x, fieldChar ch = true) : ';' ∉ x := fun mem => absurd (h _ mem) (by decide)

theorem bodyText_chars (hn : ∀ ch ∈ name, fieldChar ch = true) (hf : ∀ f ∈ fields, ∀ ch ∈ f, fieldChar ch = true) :
    ∀ ch ∈ bodyText name fields, bodyChar ch = true := by
  have field {ch : Char} (h : fieldChar ch = true) : bodyChar ch = true := by
    rw [fieldChar, Bool.and_eq_true] at h
    exact h.1
  intro ch mem
  rcases List.mem_append.mp mem with mem | mem
  · exact field (hn ch mem)
  · obtain ⟨f, hmem, here⟩ := List.mem_flatMap.mp mem
    rcases List.mem_cons.mp here with rfl | here
    · decide
    · exact field (hf f hmem ch here)

/-- What a frame can carry is received as it was sent. -/
theorem commandOfBody_received (k : Link) (fits : fitsFrame name fields = true) (free : k.responseOwed = false) :
    (k.receiveAll (frameText '>' (bodyText name fields))).2.bind commandOfBody = some (commandNamed name fields) := by
  obtain ⟨hn, hf, some, room⟩ := fitsFrame_iff.mp fits
  rw [Link.receiveAll_frameText k (bodyText_chars hn hf) room some free, Option.bind_some, commandOfBody,
    splitBody_bodyText (not_mem_of_fieldChar hn) (fun f mem => not_mem_of_fieldChar (hf f mem)), if_neg (by simpa using some)]

/-- A request of the table is the command of its name. -/
theorem commandNamed_requestName {i : Instr} (h : i.requestName = some name) : commandNamed name i.requestFields = i := by
  cases i <;> cases h <;> rfl

theorem commandNamed_unknown (h : name ∉ requestNames) : commandNamed name fields = .unknownRequest name fields := by
  unfold commandNamed
  rw [List.find?_eq_none.mpr (fun r mem => by simpa using fun eq : r.1 = name => h (eq ▸ List.mem_map_of_mem mem))]

/-- Settles O60: the receiver takes the body, and the body's pieces name the command. -/
theorem frameCarriesCommand : Obligations.FrameCarriesCommand := by
  intro i body k formed carried free
  unfold bodyOfCommand at carried
  split at carried
  · cases carried
    simp only [Instr.wellFormed, Bool.and_eq_true, Bool.not_eq_true', List.contains_eq_mem, decide_eq_false_iff_not] at formed
    obtain ⟨fits, unknown⟩ := formed
    rw [commandOfBody_received k fits free, commandNamed_unknown unknown]
  · obtain ⟨name, request, rfl⟩ := Option.map_eq_some_iff.mp carried
    have fits : fitsFrame name i.requestFields = true := by
      cases i <;> cases request <;> exact formed
    rw [commandOfBody_received k fits free, commandNamed_requestName request]

end Sys2Proof.Machine
end

section
/-! PROOF. The link's own events (O50) and the panel messages that are discarded (O51). -/

namespace Sys2Proof.Machine

variable {name : Text} {fields : List Text} {items : List Item}

/-! ### What a command leaves in the link (R182) -/

/-- The link holds the response it held, none, or one whose frame is the frame of its reply. -/
def KeepsFrame (x : Result) (s : State) : Prop :=
  ∃ t, x = .next t ∧ ∀ y, t.link.response = some y → s.link.response = some y ∨ y.frame = responseFrame y.name y.reply

theorem keepsFrame_next {s t : State} (h : t.link.response = s.link.response) : KeepsFrame (.next t) s :=
  ⟨t, rfl, fun _ hy => .inl (h ▸ hy)⟩

theorem keepsFrame_none {s t : State} (h : t.link.response = none) : KeepsFrame (.next t) s :=
  ⟨t, rfl, fun y hy => by rw [h] at hy; cases hy⟩

theorem keepsFrame_moveRack (s : State) (f : Conditions → Rack → Rack) : KeepsFrame (.next (s.moveRack f)) s := keepsFrame_next rfl

/-- A response formed by the link carries the frame of its reply. -/
theorem keepsFrame_answer {s t : State} {k : Link} {reply : Reply} (h : t.link = k.respond name reply) : KeepsFrame (.next t) s :=
  ⟨t, rfl, fun y hy => .inr (by rw [h] at hy; cases hy; rfl)⟩

theorem keepsFrame_ite {p : Prop} [Decidable p] {x y : Result} {s : State} (hx : KeepsFrame x s) (hy : KeepsFrame y s) :
    KeepsFrame (if p then x else y) s := by
  split
  · exact hx
  · exact hy

theorem takeRequest_keepsFrame (name : Text) (fields : List Text) (answer : Answer) (s : State) :
    KeepsFrame (takeRequest name fields answer s) s :=
  keepsFrame_ite (keepsFrame_answer rfl) (keepsFrame_next rfl)

theorem panelMessage_link (s : State) (b : BayId) (body : Text) : (s.panelMessage b body).link = s.link := by
  unfold State.panelMessage
  split
  · split <;> rfl
  · split
    · split <;> rfl
    · split
      · split <;> rfl
      · rfl

theorem panelCharacters_link (b : BayId) (chars : Text) (s : State) : (panelCharacters b chars s).link = s.link := by
  induction chars generalizing s with
  | nil => rfl
  | cons ch rest ih =>
    unfold panelCharacters
    split
    · rw [ih, panelMessage_link]; rfl
    · rw [ih]; rfl

theorem Link.receive_response (k : Link) (ch : Char) : (k.receive ch).1.response = k.response := by
  unfold Link.receive
  split
  · split <;> rfl
  · unfold Link.bodyCharacter
    repeat' split
    all_goals rfl
  · unfold Link.checkCharacter
    repeat' split
    all_goals rfl

theorem Link.receiveAll_response (k : Link) (chars : Text) : (k.receiveAll chars).1.response = k.response := by
  induction chars generalizing k with
  | nil => rfl
  | cons ch rest ih =>
    have one := k.receive_response ch
    unfold Link.receiveAll
    split
    · rename_i k1 body received
      rw [received] at one
      rw [ih]
      exact one
    · rename_i k1 received
      rw [received] at one
      rw [ih]
      exact one

theorem execBadFrame_keepsFrame (chars : Text) (s : State) : KeepsFrame (execBadFrame chars s) s := by
  have kept := s.link.receiveAll_response chars
  unfold execBadFrame
  split
  · rename_i k received
    rw [received] at kept
    exact keepsFrame_next kept
  · exact keepsFrame_answer rfl

theorem exec_keepsFrame (i : Instr) (s : State) : KeepsFrame (exec i s) s := by
  cases hn : i.requestName with
  | some name =>
    obtain ⟨x, -, -, taken⟩ := exec_owner hn
    rw [taken]
    exact takeRequest_keepsFrame _ _ _ s
  | none =>
    cases i with
    | powerOn | responseSent => exact keepsFrame_none rfl
    | timebaseTick | meterPulse | probeReading | calSwitchChange | start | stop => exact keepsFrame_next rfl
    | rateWindowExpiry a => exact keepsFrame_ite (keepsFrame_moveRack s _) (keepsFrame_next rfl)
    | stalenessExpiry a => exact keepsFrame_ite (keepsFrame_moveRack s _) (keepsFrame_next rfl)
    | noFlowTimerExpiry a => exact keepsFrame_ite (keepsFrame_moveRack s _) (keepsFrame_next rfl)
    | settleTimerExpiry a => exact keepsFrame_ite (keepsFrame_moveRack s _) (keepsFrame_next rfl)
    | riseTimerExpiry a n => exact keepsFrame_ite (keepsFrame_moveRack s _) (keepsFrame_next rfl)
    | activeTimerExpiry a n => exact keepsFrame_ite (keepsFrame_moveRack s _) (keepsFrame_next rfl)
    | showRepeatTimerExpiry a => exact keepsFrame_ite (keepsFrame_moveRack s _) (keepsFrame_next rfl)
    | card b permit => exact keepsFrame_ite (keepsFrame_next rfl) (keepsFrame_next rfl)
    | feedbackFall a n => exact keepsFrame_ite (keepsFrame_moveRack s _) (keepsFrame_next rfl)
    | feedbackRise a n => exact keepsFrame_ite (keepsFrame_next rfl) (keepsFrame_moveRack s _)
    | showSent b => exact keepsFrame_ite (keepsFrame_next rfl) (keepsFrame_moveRack s _)
    | permissiveInputChange b input level =>
      unfold exec execPermissiveInputChange
      exact keepsFrame_ite (keepsFrame_next rfl) (keepsFrame_ite (keepsFrame_next rfl) (keepsFrame_next rfl))
    | emergencyStopInputChange active =>
      unfold exec execEmergencyStopInputChange
      exact keepsFrame_ite (keepsFrame_next rfl) (keepsFrame_ite (keepsFrame_next rfl) (keepsFrame_next rfl))
    | badFrame chars => exact execBadFrame_keepsFrame chars s
    | unknownRequest name fields => exact takeRequest_keepsFrame _ _ _ s
    | panelMessageDiscarded b chars => exact keepsFrame_next (congrArg Link.response (panelCharacters_link b chars s))
    | _ => exact absurd hn (by simp [Instr.requestName])

/-! ### The link's events (R178 to R182) -/

theorem owners_names : owners.map (fun x => x.1) = knownRequests.map (fun x => x.1) := rfl

theorem answerNamed_unknown (unknown : ∀ r ∈ knownRequests, r.1 ≠ name) : answerNamed name fields = refuse .unknownRequest (.text name) := by
  have absent : owners.find? (fun x => decide (x.1 = name)) = none := by
    rw [List.find?_eq_none]
    intro x hx
    have listed : x.1 ∈ knownRequests.map (fun x => x.1) := owners_names ▸ List.mem_map_of_mem hx
    obtain ⟨r, hr, eq⟩ := List.mem_map.mp listed
    simpa using fun here : x.1 = name => unknown r hr (eq.trans here)
  unfold answerNamed
  rw [absent]

/-- Characters without `>` leave a receiver in HUNT as it is. -/
theorem Link.receiveAll_hunt {k : Link} {chars : Text} (rx : k.rx = .hunt) (none : ∀ ch ∈ chars, ch ≠ '>') :
    k.receiveAll chars = (k, .none) := by
  induction chars with
  | nil => rfl
  | cons ch rest ih =>
    obtain ⟨first, others⟩ := List.forall_mem_cons.mp none
    have same : k.receive ch = (k, .none) := by
      unfold Link.receive
      rw [rx]
      simp [first]
    rw [Link.receiveAll_none same, ih others]

/-- Settles O50: frames by what the receiver makes of them whole, the last clause over all commands. -/
theorem linkEventsComplete : Obligations.LinkEventsComplete := by
  refine ⟨fun _ => rfl, fun s name fields fits free unknown => ?_, fun s i name request owed => ?_,
    fun s body digits chars room four hex wrong => ?_, fun s chars rx none => ?_, fun k name reply => ?_, fun i s t x h held here => ?_⟩
  · change takeRequest name fields (answerNamed name fields) s = _
    rw [answerNamed_unknown unknown]
    exact if_pos ⟨fits, free⟩
  · obtain ⟨x, -, -, taken⟩ := exec_owner request
    rw [taken]
    exact takeRequest_discarded (fun ⟨_, free⟩ => by rw [owed] at free; cases free)
  · change execBadFrame _ s = _
    unfold execBadFrame
    rw [Link.receiveAll_frame s.link chars room four hex, if_neg (fun good => wrong good.2.2)]
  · change execBadFrame _ s = _
    unfold execBadFrame
    rw [Link.receiveAll_hunt rx none]
  · refine ⟨reply.texts.tail.flatMap (fun f => ';' :: f), checkDigits (frameCheck (responseBody name reply)), _, rfl, rfl, rfl, rfl, ?_,
      rfl, checkDigits_forall (fun n less => hexDigit_capital less) _, hexNumber_checkDigits _⟩
    cases reply <;> simp [responseBody, bodyText, Reply.texts]
  · obtain ⟨t', eq, kept⟩ := exec_keepsFrame i s
    cases h.symm.trans eq
    exact (kept x here).elim (held x) id

/-! ### The receiver of a panel line (R187) -/

theorem State.setPanelRx_setPanelRx (s : State) (b : BayId) (x y : PanelRx) : (s.setPanelRx b x).setPanelRx b y = s.setPanelRx b y := by
  simp [State.setPanelRx]

theorem State.setPanelRx_panelRx (s : State) (b : BayId) (x : PanelRx) : (s.setPanelRx b x).panelRx[b] = x := by
  simp [State.setPanelRx]

theorem State.setPanelRx_self (s : State) (b : BayId) : s.setPanelRx b s.panelRx[b] = s := by
  simp [State.setPanelRx]

theorem panelCharacters_cons {b : BayId} {ch : Char} {rest : Text} {s : State} {x : PanelRx}
    (h : s.panelRx[b].receive ch = (x, none)) : panelCharacters b (ch :: rest) s = panelCharacters b rest (s.setPanelRx b x) := by
  rw [panelCharacters, h]

/-- Characters of a panel message are added one after another while there is room. -/
theorem panelCharacters_body (xs rest held : Text) {b : BayId} {s : State} (chars : ∀ ch ∈ xs, printable ch = true ∧ ch ≠ '>')
    (room : held.length + xs.length ≤ panelBodyMax) :
    panelCharacters b (xs ++ rest) (s.setPanelRx b { state := .body, body := held }) =
      panelCharacters b rest (s.setPanelRx b { state := .body, body := held ++ xs }) := by
  induction xs generalizing held with
  | nil => simp
  | cons ch xs ih =>
    obtain ⟨⟨prints, noStart⟩, others⟩ := List.forall_mem_cons.mp chars
    rw [List.length_cons] at room
    have noCR : ch ≠ charCR := by
      rintro rfl
      revert prints
      decide
    have added : (s.setPanelRx b { state := .body, body := held }).panelRx[b].receive ch =
        ({ state := .body, body := held ++ [ch] }, none) := by
      rw [State.setPanelRx_panelRx]
      exact (if_neg noStart).trans ((if_neg noCR).trans (if_pos ⟨prints, by dsimp only; omega⟩))
    rw [List.cons_append, panelCharacters_cons added, State.setPanelRx_setPanelRx, ih (held ++ [ch]) others (by simpa using by omega)]
    simp

/-- A panel message received whole acts at its LF. -/
theorem panelCharacters_message {b : BayId} {body : Text} (s : State) (chars : ∀ ch ∈ body, printable ch = true ∧ ch ≠ '>')
    (room : body.length ≤ 60) : panelCharacters b ('>' :: body ++ [charCR, charLF]) s = (s.heard b).panelMessage b body := by
  have start : s.panelRx[b].receive '>' = ({ state := .body, body := [] }, none) := if_pos rfl
  have cr : (s.setPanelRx b { state := .body, body := body }).panelRx[b].receive charCR = ({ state := .lineEnd, body := body }, none) := by
    rw [State.setPanelRx_panelRx]
    rfl
  have lf : (s.setPanelRx b { state := .lineEnd, body := body }).panelRx[b].receive charLF = (.fresh, some body) := by
    rw [State.setPanelRx_panelRx]
    rfl
  rw [List.cons_append, panelCharacters_cons start, panelCharacters_body body _ [] chars (by simpa [panelBodyMax] using room), List.nil_append,
    panelCharacters_cons cr, State.setPanelRx_setPanelRx, panelCharacters, lf]
  simp only [panelCharacters, State.setPanelRx_setPanelRx]
  rfl

theorem panelCharacters_hunt {b : BayId} {chars : Text} {s : State} (hunts : s.panelRx[b].state = .hunt) (none : ∀ ch ∈ chars, ch ≠ '>') :
    panelCharacters b chars s = s := by
  induction chars with
  | nil => rfl
  | cons ch rest ih =>
    obtain ⟨first, others⟩ := List.forall_mem_cons.mp none
    have same : s.panelRx[b].receive ch = (s.panelRx[b], .none) := by
      unfold PanelRx.receive
      rw [if_neg first, hunts]
    rw [panelCharacters_cons same, State.setPanelRx_self, ih others]

/-! ### Messages that are discarded (R187) -/

/-- The three messages a panel line knows, each with its field and the field's upper end. -/
def panelMessages : List (String × String × Nat) := [("CARD", "permit", 99999999), ("START", "arm", 8), ("STOP", "arm", 8)]

theorem panelMessage_unknown (s : State) (b : BayId) {body : Text} (h : (splitBody body).1 ∉ [txt "CARD", txt "START", txt "STOP"]) :
    s.panelMessage b body = s := by
  simp only [List.mem_cons, List.not_mem_nil, or_false, not_or] at h
  obtain ⟨card, start, stop⟩ := h
  exact (if_neg card).trans ((if_neg start).trans (if_neg stop))

theorem panelMessage_fault (s : State) (b : BayId) {body key : Text} {name field : String} {hi : Nat} (mem : (name, field, hi) ∈ panelMessages)
    (named : (splitBody body).1 = txt name) (bad : checkPlain [plainField field (.nat 1 hi)] [field] (splitBody body).2 = .error key) :
    s.panelMessage b body = s := by
  simp only [panelMessages, List.mem_cons, Prod.mk.injEq, List.not_mem_nil, or_false] at mem
  unfold State.panelMessage
  rw [named]
  rcases mem with ⟨rfl, rfl, rfl⟩ | ⟨rfl, rfl, rfl⟩ | ⟨rfl, rfl, rfl⟩
  · rw [if_pos rfl, show longNumber = .nat 1 99999999 from rfl, bad]
  · rw [if_neg (by decide), if_pos rfl, bad]
  · rw [if_neg (by decide), if_neg (by decide), if_pos rfl, bad]

theorem before_none {sep : Char} {key : Text} (h : sep ∉ key) : before sep key = key := by
  unfold before
  rw [List.takeWhile_eq_self_iff]
  intro ch mem
  simpa using fun eq : ch = sep => h (eq ▸ mem)

theorem behind_none {sep : Char} {key : Text} (h : sep ∉ key) : behind sep key = none := by
  induction key with
  | nil => rfl
  | cons ch rest ih =>
    obtain ⟨ne, others⟩ := not_or.mp (List.mem_cons.not.mp h)
    rw [behind, if_neg (Ne.symm ne), ih others]

/-- A field with a plain name, read. -/
theorem readItem_plain {field : String} (form : ValueForm) (noEq : '=' ∉ txt field) (noDot : '.' ∉ txt field) (value : Text) :
    readItem [plainField field form] (txt field ++ '=' :: value) =
      some { key := txt field, name := txt field, index := 0, value := readValue form (some value) } := by
  unfold readItem RawField.ofText plainField
  simp [before_append noEq, behind_append noEq, before_none noDot, behind_none noDot, IndexForm.read]

theorem splitAtChar_eq_single {sep : Char} {x t : Text} (h : splitAtChar sep x = [t]) : sep ∉ x ∧ t = x := by
  induction x generalizing t with
  | nil =>
    cases h
    exact ⟨List.not_mem_nil, rfl⟩
  | cons ch x ih =>
    unfold splitAtChar at h
    split at h
    · have empty : splitAtChar sep x = [] := (List.cons.inj h).2
      revert empty
      unfold splitAtChar
      repeat' split
      all_goals nofun
    · rename_i ne
      split at h
      · rename_i empty
        revert empty
        unfold splitAtChar
        repeat' split
        all_goals nofun
      · rename_i p ps pieces
        cases h
        obtain ⟨others, rfl⟩ := ih pieces
        exact ⟨List.mem_cons.not.mpr (not_or.mpr ⟨Ne.symm ne, others⟩), rfl⟩

/-- A request of one plain field is well formed only with that field alone, once. -/
theorem checkPlain_single {field : String} {form : ValueForm} (checked : checkPlain [plainField field form] [field] fields = .ok items) :
    ∃ t i, fields = [t] ∧ readItem [plainField field form] t = some i ∧ i.value ≠ none := by
  have formed := formed_of_check checked
  have plain {i : Item} (mem : i ∈ items) : (i.name, i.index) = (txt field, 0) := by
    obtain ⟨f, hf, named, ⟨x, index⟩, -⟩ := formed.item_read mem
    cases List.mem_singleton.mp hf
    cases x with
    | none => exact Prod.ext named (Option.some.inj index).symm
    | some t => cases index
  match fields with
  | [] =>
    have needed := formed.needs (required field) (by simp)
    rw [formed.known] at needed
    cases needed
  | [t] =>
    obtain ⟨i, mem, read⟩ := formed.read t List.mem_cons_self
    exact ⟨t, i, rfl, read, formed.valued i mem⟩
  | t :: u :: rest =>
    obtain ⟨i, mem, read⟩ := formed.read t List.mem_cons_self
    obtain ⟨j, mem', read'⟩ := formed.read u (List.mem_cons_of_mem _ List.mem_cons_self)
    have once := formed.once rfl
    have known := formed.known
    simp only [knownItems, List.filterMap_cons, read, read'] at known
    rw [known, List.map_cons, List.map_cons, plain mem, plain mem'] at once
    exact absurd once (by simp)

/-- A text that follows the name of a message is no well-formed field unless it is the field with a number in range. -/
theorem checkPlain_discards {field : String} {hi : Nat} {value : Text} (noEq : '=' ∉ txt field) (noDot : '.' ∉ txt field)
    (bad : ';' ∈ value ∨ readRange 1 hi value = none) :
    ∃ key, checkPlain [plainField field (.nat 1 hi)] [field] (splitAtChar ';' (txt field ++ '=' :: value)) = .error key := by
  cases checked : checkPlain [plainField field (.nat 1 hi)] [field] (splitAtChar ';' (txt field ++ '=' :: value)) with
  | error key => exact ⟨key, rfl⟩
  | ok items =>
    obtain ⟨t, i, single, read, valued⟩ := checkPlain_single checked
    obtain ⟨apart, rfl⟩ := splitAtChar_eq_single single
    cases (readItem_plain _ noEq noDot value).symm.trans read
    rcases bad with extra | range
    · exact absurd (List.mem_append_right _ (List.mem_cons_of_mem _ extra)) apart
    · obtain ⟨v, hv⟩ := Option.ne_none_iff_exists'.mp valued
      obtain ⟨t, eq, read'⟩ := readValue_some (f := .nat 1 hi) (v := some value) hv
      cases eq
      rw [ValueForm.read, range] at read'
      cases read'

/-- Settles O51: the characters by the panel receiver, the body by the form check of its one field. -/
theorem panelMessageIsDiscarded : Obligations.PanelMessageIsDiscarded := by
  have heard (b : BayId) (s : State) (body : Text) (chars : ∀ ch ∈ body, printable ch = true ∧ ch ≠ '>') (room : body.length ≤ 60)
      (passed : (s.heard b).panelMessage b body = s.heard b) :
      exec (.panelMessageDiscarded b ('>' :: body ++ [charCR, charLF])) s = .next (s.heard b) :=
    congrArg Host.Outcome.next ((panelCharacters_message s chars room).trans passed)
  refine ⟨fun b s chars hunts none => congrArg Host.Outcome.next (panelCharacters_hunt hunts none), fun b s body chars room bad => ?_,
    fun b s name field hi body mem chars room bad => ?_, fun b s permit bad => ?_⟩
  · refine heard b s body chars room ?_
    rcases bad with unknown | ⟨name, field, hi, key, mem, named, bad⟩
    · exact panelMessage_unknown _ b unknown
    · exact panelMessage_fault _ b mem named bad
  · refine heard b s body chars room ?_
    have plain : ∀ x ∈ panelMessages, ';' ∉ txt x.1 ∧ '=' ∉ txt x.2.1 ∧ '.' ∉ txt x.2.1 := by decide
    obtain ⟨noSep, noEq, noDot⟩ := plain _ mem
    have discarded {value : Text} (split : splitAtChar ';' body = txt name :: splitAtChar ';' (txt field ++ '=' :: value))
        (bad : ';' ∈ value ∨ readRange 1 hi value = none) : (s.heard b).panelMessage b body = s.heard b := by
      obtain ⟨key, fault⟩ := checkPlain_discards noEq noDot bad
      have pieces : splitBody body = (txt name, splitAtChar ';' (txt field ++ '=' :: value)) := by
        unfold splitBody
        rw [split]
      exact panelMessage_fault _ b mem (by rw [pieces]) (by rw [pieces]; exact fault)
    rcases bad with rfl | ⟨value, unread, rfl⟩ | ⟨v, range, rfl⟩ | ⟨value, extra, rfl⟩
    · have pieces : splitBody (txt name) = (txt name, []) := by
        unfold splitBody
        rw [splitAtChar_single noSep]
      exact panelMessage_fault _ b mem (by rw [pieces]) (key := txt field) (by rw [pieces]; rfl)
    · refine discarded (value := value) ?_ (.inr ?_)
      · rw [List.append_assoc, List.cons_append, splitAtChar_append noSep]
      · unfold readRange
        rw [unread]
    · refine discarded (value := natText v) ?_ (.inr ?_)
      · rw [List.append_assoc, List.cons_append, splitAtChar_append noSep]
      · unfold readRange
        rw [readNat_natText]
        exact if_neg (by omega)
    · refine discarded (value := value ++ ';' :: extra) ?_ (.inl (by simp))
      rw [← splitAtChar_append noSep]
      simp
  · refine if_neg ?_
    simp only [cardPermitOk, Bool.and_eq_true, decide_eq_true_eq]
    omega

end Sys2Proof.Machine
end

section
/-! PROOF. What the ending of a line hands on to its owners, and what it leaves of its arm (R65, R76, R117, R153, R154): the lemmas that the
obligations on settles, stops, cancellations and completions share. -/

namespace Sys2Proof.Machine

variable {c : Conditions} {r r' s : Rack} {a : ArmId} {e : QueueEntry} {l : Line} {final : LineState} {cause : Option StopCause}

/-! ### Tables that an ending reaches -/

/-- Lines, accounts, additives and compartments are as they were. -/
structure SameTables (r s : Rack) : Prop where
  lines : ∀ n m, s.line? n m = r.line? n m
  accounts : ∀ n, s.account? n = r.account? n
  additives : ∀ x, s.additive x = r.additive x
  rooms : ∀ u, (s.unit? u).map (fun v => v.compartments) = (r.unit? u).map (fun v => v.compartments)

theorem SameTables.refl (r : Rack) : SameTables r r := ⟨fun _ _ => rfl, fun _ => rfl, fun _ => rfl, fun _ => rfl⟩

theorem SameTables.trans {q r s : Rack} (h : SameTables q r) (g : SameTables r s) : SameTables q s :=
  ⟨fun n m => (g.lines n m).trans (h.lines n m), fun n => (g.accounts n).trans (h.accounts n),
    fun x => (g.additives x).trans (h.additives x), fun u => (g.rooms u).trans (h.rooms u)⟩

theorem SameTables.of_eq (orders : s.orders = r.orders) (accounts : s.accounts = r.accounts) (additives : s.additives = r.additives)
    (units : s.units = r.units) : SameTables r s where
  lines := Rack.line_eq orders
  accounts n := by simp [Rack.account?, accounts]
  additives x := by simp [Rack.additive, additives]
  rooms u := by simp [Rack.unit?, units]

theorem Rack.uncommitUnits_rooms (o : Order) (u : Nat) :
    ((r.uncommitUnits o).unit? u).map (fun v => v.compartments) = (r.unit? u).map (fun v => v.compartments) := by
  have one (r : Rack) (w : Nat) : ((r.uncommit w).unit? u).map (fun v => v.compartments) = (r.unit? u).map (fun v => v.compartments) := by
    unfold Rack.uncommit
    rw [Rack.modUnit_unit r w u (fun v => { v with committed := none }) (fun _ => rfl)]
    split
    · cases r.unit? u <;> rfl
    · rfl
  unfold Rack.uncommitUnits
  split
  · rw [one, one]
  · exact one r _

theorem Rack.testOrder_tables (n : Nat) : SameTables r (r.testOrder c n) where
  lines := Rack.testOrder_line c r n
  accounts k := by simp [Rack.account?]
  additives x := by simp [Rack.additive]
  rooms u := by
    unfold Rack.testOrder
    repeat' split
    · rename_i o _ _ _
      rw [← Rack.uncommitUnits_rooms (r := r) o u]
      have units : (r.completeOrder c o).units = (r.uncommitUnits o).units := by
        unfold Rack.completeOrder
        dsimp only
        split <;> simp
      simp [Rack.unit?, units]
    · simp [Rack.unit?]
    all_goals rfl

/-! ### The arm that takes its next head (R103, R117) -/

/-- A change of state, and what else it may touch. -/
theorem Rack.setState_fields (a : ArmId) (new : ArmState) : ∃ reason timer,
    (r.setState c a new).arm a = { r.arm a with state := new, reason := reason, repeatTimer := timer } := by
  rw [Rack.setState_arm]
  split
  · exact ⟨_, _, rfl⟩
  · rename_i same
    have already : (r.arm a).state = new := by simpa using same
    exact ⟨(r.arm a).reason, (r.arm a).repeatTimer, by rw [← already]⟩

/-- Taking a head changes no more of an arm than its state, its current entry, the state ALARM returns to, its reason and its SHOW timer. -/
theorem Rack.takeHead_fields (a : ArmId) : ∃ state current back reason timer,
    (r.takeHead c a).arm a =
      { r.arm a with state := state, current := current, returnState := back, reason := reason, repeatTimer := timer } := by
  unfold Rack.takeHead
  split
  · rename_i e _
    obtain ⟨reason, timer, arm⟩ := Rack.setState_fields (c := c) (r := r.modArm a (fun x => { x with current := some e })) a .ready
    refine ⟨.ready, some e, (r.arm a).returnState, reason, timer, ?_⟩
    rw [Rack.callArm_arm_of, arm, Rack.modArm_arm, if_pos rfl]
  · unfold Rack.enterIdle
    dsimp only
    obtain ⟨reason, timer, arm⟩ := Rack.setState_fields (c := c) (r := r.modArm a (fun x => { x with current := none })) a .idle
    split
    · obtain ⟨reason', timer', arm'⟩ := Rack.setState_fields (c := c)
        (r := ((r.modArm a (fun x => { x with current := none })).setState c a .idle).modArm a (fun x => { x with returnState := some .idle }))
        a .alarm
      refine ⟨.alarm, none, some .idle, reason', timer', ?_⟩
      rw [arm', Rack.modArm_arm, if_pos rfl, arm, Rack.modArm_arm, if_pos rfl]
    · refine ⟨.idle, none, (r.arm a).returnState, reason, timer, ?_⟩
      rw [arm, Rack.modArm_arm, if_pos rfl]

/-- What the end of the current line leaves of its arm. -/
theorem Rack.endCurrent_fields (current : (r.arm a).current = some e) (final : LineState) (cause : Option StopCause) :
    ∃ state next back reason timer, (r.endCurrent c a final cause).arm a =
      { (r.arm a).givenUp e with state := state, current := next, returnState := back, reason := reason, repeatTimer := timer } := by
  rw [Rack.endCurrent_some r current]
  obtain ⟨state, next, back, reason, timer, arm⟩ :=
    Rack.takeHead_fields (c := c) (r := (r.endLineRecord e.order e.line final cause).giveUp a e) a
  refine ⟨state, next, back, reason, timer, ?_⟩
  rw [arm, Rack.giveUp_arm, if_pos rfl, Rack.endLineRecord_arm]

theorem Rack.endLine_some (current : (r.arm a).current = some e) (final : LineState) (cause : Option StopCause) :
    r.endLine c a final cause = (r.endCurrent c a final cause).testOrder c e.order := by
  unfold Rack.endLine
  rw [current]

theorem Rack.endLine_arm (current : (r.arm a).current = some e) (final : LineState) (cause : Option StopCause) (b : ArmId) :
    (r.endLine c a final cause).arm b = (r.endCurrent c a final cause).arm b := by
  rw [Rack.endLine_some current]
  exact Rack.arm_eq (Rack.testOrder_arms _ c _) b

/-- The arm whose line ended has given it up, its channels with it. -/
theorem Rack.endLine_freed (current : (r.arm a).current = some e) (final : LineState) (cause : Option StopCause) :
    r.armFreed (r.endLine c a final cause) a e ∧ ((r.endLine c a final cause).arm a).allowance = (r.arm a).allowance := by
  have arm := Rack.endLine_arm (c := c) current final cause
  obtain ⟨state, next, back, reason, timer, fields⟩ := Rack.endCurrent_fields (c := c) current final cause
  have free : ((r.endLine c a final cause).arm a).state.isFree := by
    rw [arm, Rack.endCurrent_some r current]
    exact Rack.takeHead_state _ _ a
  have own := (arm a).trans fields
  have injectors (n : SlotId) : (r.endLine c a final cause).injector a n = (r.injector a n).clear := by
    rw [Rack.endLine_some current, Rack.injector_eq (Rack.testOrder_injectors _ c _), Rack.endCurrent_some r current,
      Rack.injector_eq (Rack.takeHead_injectors _ c _), Rack.giveUp, Rack.modInjectors_injector, if_pos rfl,
      Rack.modArm_injector_of, Rack.injector_eq (Rack.endLineRecord_injectors r _ _ _ _)]
  refine ⟨⟨by rw [own]; rfl, by rw [own]; rfl, by rw [own]; rfl, by rw [own]; rfl, by rw [own]; rfl, by rw [own]; rfl, fun y mem => ?_,
    free, fun n => ?_, ?_, fun b other => ?_⟩, by rw [own]; rfl⟩
  · rw [own] at mem
    obtain ⟨old, kept⟩ := List.mem_filter.mp mem
    exact ⟨old, fun ⟨order, line⟩ => by simp [order, line] at kept⟩
  · rw [injectors]
    exact ⟨rfl, rfl⟩
  · simp
  · rw [arm, Rack.endCurrent_other r a b other]

/-! ### What is handed on (R76) -/

theorem releaseAdditives_additive (ds : List DoseRecord) (r : Rack) (x : AdditiveId) :
    (releaseAdditives ds r).additive x = { r.additive x with
      reserved := (r.additive x).reserved - ((ds.filter (fun d => decide (d.additive = x))).map (fun d => d.remaining)).sum } := by
  induction ds generalizing r with
  | nil => rfl
  | cons d rest ih =>
    rw [releaseAdditives, ih, Rack.modAdditive_additive]
    by_cases same : d.additive = x
    · subst same
      simp [Nat.sub_sub]
    · simp [same]

theorem Rack.endLineRecord_additive (line : r.line? e.order e.line = some l) (final : LineState) (cause : Option StopCause) (x : AdditiveId) :
    (r.endLineRecord e.order e.line final cause).additive x = { r.additive x with reserved := (r.additive x).reserved -
      ((l.doses.filter (fun d => decide (d.additive = x))).map (fun d => d.remaining)).sum } := by
  obtain ⟨o, order, -⟩ := Rack.line_order line
  have same : (r.endLineRecord e.order e.line final cause).additive x =
      (releaseAdditives l.doses (r.modLine e.order e.line (fun x => x.finish final cause (r.strokesFor l)))).additive x := by
    rw [Rack.endLineRecord_some order line]
    simp [Rack.additive]
  rw [same, releaseAdditives_additive]
  rfl

/-- The compartments once a line has ended: the one its address names takes its group from 1 L gross on (R58). -/
theorem Rack.endLineRecord_rooms {o : Order} {u k : Nat} {v : VehicleUnit} (order : r.order? e.order = some o)
    (line : r.line? e.order e.line = some l) (address : resolveAddr o.unit1 o.unit2 l.addr = some (u, k)) (found : r.unit? u = some v)
    (final : LineState) (cause : Option StopCause) :
    ((r.endLineRecord e.order e.line final cause).unit? u).map (fun w => w.compartments) = some (if 1 ≤ roundLitres l.gross then
      v.compartments.modify (k - 1) (fun c => { c with lastGroup := some l.group }) else v.compartments) ∧
    ∀ n, n ≠ u → ((r.endLineRecord e.order e.line final cause).unit? n).map (fun w => w.compartments) =
      (r.unit? n).map (fun w => w.compartments) := by
  have units (n : Nat) : (r.endLineRecord e.order e.line final cause).unit? n = (r.updateLastGroup o l).unit? n := by
    rw [Rack.endLineRecord_some order line]
    unfold Rack.updateLastGroup
    rw [address]
    split <;> simp [Rack.unit?, Rack.modUnit]
  have group := Rack.modUnit_unit r u
  unfold Rack.updateLastGroup at units
  rw [address] at units
  by_cases passed : 1 ≤ roundLitres l.gross
  · simp only [if_pos passed] at units
    refine ⟨?_, fun n ne => ?_⟩
    · rw [units, Rack.modUnit_unit r u u (fun v => v.setLast k (some l.group)) (fun _ => rfl), if_pos rfl, found, if_pos passed]
      rfl
    · rw [units, Rack.modUnit_unit r u n (fun v => v.setLast k (some l.group)) (fun _ => rfl), if_neg (Ne.symm ne)]
  · simp only [if_neg passed] at units
    exact ⟨by rw [units, found, if_neg passed]; rfl, fun n _ => by rw [units]⟩

/-- A line falls short of a dose exactly where one of its entries does (R153). -/
theorem Line.finish_underDose (final : LineState) (cause : Option StopCause) (strokeOf : SlotId → Option Nat) (counts : final ≠ .cancelled) :
    (l.finish final cause strokeOf).flags.underDose = true ↔
      l.flags.underDose = true ∨ ∃ d ∈ l.doses, d.short strokeOf (roundLitres l.gross) = true := by
  simp [Line.finish, counts]

theorem DoseRecord.short_iff {strokeOf : SlotId → Option Nat} {litres : Nat} {d : DoseRecord} :
    d.short strokeOf litres = true ↔ ∃ n stroke, d.slot = some n ∧ strokeOf n = some stroke ∧ 0 < d.dose ∧ 100 * stroke ≤ litres * d.dose ∧
      d.dispensed * 100 < d.dose * litres / 10 * 95 := by
  unfold DoseRecord.short
  split
  · rename_i stroke found
    obtain ⟨n, slot, own⟩ := Option.bind_eq_some_iff.mp found
    dsimp only [doseTarget]
    simp only [Bool.and_eq_true, decide_eq_true_eq]
    refine ⟨fun ⟨⟨dose, enough⟩, less⟩ => ⟨n, stroke, slot, own, dose, enough, of_decide_eq_true less⟩, fun ⟨n', stroke', slot', own', dose, enough, less⟩ => ?_⟩
    cases slot.symm.trans slot'
    cases own.symm.trans own'
    exact ⟨⟨dose, enough⟩, decide_eq_true less⟩
  · rename_i none
    refine ⟨nofun, fun ⟨n, stroke, slot, own, _⟩ => ?_⟩
    rw [slot, Option.bind_some, own] at none
    cases none

/-- The ending of a line as its owners have it, in every rack whose tables are those the ending leaves. -/
theorem SameTables.handedOn (tables : SameTables (r.endLineRecord e.order e.line final cause) r')
    (line : r.line? e.order e.line = some l) (counts : final ≠ .cancelled) :
    r.lineHandedOn r' a e l (l.finish final cause (r.strokesFor l)) (roundLitres l.gross) := by
  obtain ⟨o, order, -⟩ := Rack.line_order line
  have lines (n m : Nat) := (tables.lines n m).trans (Rack.endLineRecord_line r order line final cause n m)
  have accounts (n : Nat) := (tables.accounts n).trans (Rack.endLineRecord_account r order line final cause n)
  refine ⟨(lines _ _).trans (if_pos ⟨rfl, rfl⟩), rfl, rfl, rfl, rfl, fun none => if_pos none, fun some => if_neg some, rfl, fun here => ?_,
    fun y found => ?_, fun n other => (accounts n).trans (if_neg (Ne.symm other)),
    fun x => (tables.additives x).trans (Rack.endLineRecord_additive line final cause x), fun o' u k v order' address found => ?_,
    fun n m other => (lines n m).trans (if_neg (fun same => other ⟨same.1.symm, same.2.symm⟩))⟩
  · rw [Line.finish_underDose final cause _ counts]
    refine or_congr Iff.rfl (exists_congr fun d => and_congr Iff.rfl ?_)
    rw [DoseRecord.short_iff]
    refine exists_congr fun n => ⟨fun ⟨stroke, slot, own, rest⟩ => ?_, fun ⟨k, slot, own, rest⟩ => ⟨k.stroke, slot, ?_, rest⟩⟩
    · rw [Rack.strokesFor, here, Option.bind_some] at own
      obtain ⟨k, config, rfl⟩ := Option.map_eq_some_iff.mp own
      exact ⟨k, slot, config, rest⟩
    · rw [Rack.strokesFor, here, Option.bind_some, own]
      rfl
  · rw [accounts, if_pos rfl, found]
    rfl
  · cases order.symm.trans order'
    have resolved : resolveAddr o.unit1 o.unit2 l.addr = some (u, k) := by
      unfold resolveAddr
      rcases address with ⟨low, high, rfl, rfl⟩ | ⟨low, high, second, rfl⟩
      · rw [if_pos ⟨low, high⟩]
      · rw [if_neg (by omega), if_pos ⟨low, high⟩, second]
        rfl
    obtain ⟨own, others⟩ := Rack.endLineRecord_rooms order line resolved found final cause
    exact ⟨(tables.rooms u).trans own, fun n ne => (tables.rooms n).trans (others n ne)⟩

theorem Rack.giveUp_tables (a : ArmId) (e : QueueEntry) : SameTables r (r.giveUp a e) := .of_eq rfl rfl rfl rfl

theorem Rack.takeHead_tables (a : ArmId) : SameTables r (r.takeHead c a) := .of_eq (by simp) (by simp) (by simp) (by simp)

theorem Rack.pump_tables : SameTables r r.pump := .of_eq (by simp) (by simp) (by simp) (by simp)

theorem Rack.endLine_tables (current : (r.arm a).current = some e) (final : LineState) (cause : Option StopCause) :
    SameTables (r.endLineRecord e.order e.line final cause) (r.endLine c a final cause) := by
  rw [Rack.endLine_some current, Rack.endCurrent_some r current]
  exact ((Rack.giveUp_tables a e).trans (Rack.takeHead_tables a)).trans (Rack.testOrder_tables _)

theorem Rack.armFreed.pump (freed : r.armFreed r' a e) : r.armFreed r'.pump a e := by
  unfold Rack.armFreed
  simp only [Rack.pump_arm, Rack.injector_eq (Rack.pump_injectors r'), Rack.pump_channels]
  exact freed

/-- The end of an arm's current line: handed on, the arm freed (R76, R117). -/
theorem Rack.endLine_ends (current : (r.arm a).current = some e) (line : r.line? e.order e.line = some l) {final : LineState}
    (cause : Option StopCause) (counts : final ≠ .cancelled) :
    r.lineHandedOn (r.endLine c a final cause).pump a e l (l.finish final cause (r.strokesFor l)) (roundLitres l.gross) ∧
    r.armFreed (r.endLine c a final cause).pump a e ∧ ((r.endLine c a final cause).pump.arm a).allowance = (r.arm a).allowance := by
  have tables := (Rack.endLine_tables (c := c) current final cause).trans Rack.pump_tables
  obtain ⟨freed, allowance⟩ := Rack.endLine_freed (c := c) current final cause
  exact ⟨tables.handedOn line counts, freed.pump, by simpa using allowance⟩

end Sys2Proof.Machine
end

section
/-! PROOF. A close that settles carries out its intent (O42). -/

namespace Sys2Proof.Machine

variable {c : Conditions} {q r r' : Rack} {a : ArmId} {e : QueueEntry} {l l' : Line} {litres : Nat}

/-! ### Endings as seen from a rack before -/

/-- Two racks that differ in no more than marks of one arm and flags of its current line, UNDER_DOSE aside. -/
structure Flagged (q r : Rack) (a : ArmId) (e : QueueEntry) (l l1 : Line) : Prop where
  accounts : r.accounts = q.accounts
  additives : r.additives = q.additives
  units : r.units = q.units
  channels : r.channels = q.channels
  orders : ∀ o, q.order? e.order = some o → ∃ o', r.order? e.order = some o' ∧ o'.unit1 = o.unit1 ∧ o'.unit2 = o.unit2
  lines : ∀ n m, ¬(n = e.order ∧ m = e.line) → r.line? n m = q.line? n m
  config : (r.arm a).config = (q.arm a).config
  queue : (r.arm a).queue = (q.arm a).queue
  arms : ∀ b, b ≠ a → r.arm b = q.arm b
  line : ∃ f, l1 = { l with flags := f } ∧ f.underDose = l.flags.underDose

theorem Flagged.handedOn {l1 : Line} (h : Flagged q r a e l l1) (ended : r.lineHandedOn r' a e l1 l' litres) :
    q.lineHandedOn r' a e l l' litres := by
  obtain ⟨f, rfl, underDose⟩ := h.line
  have account (n : Nat) : r.account? n = q.account? n := by simp [Rack.account?, h.accounts]
  have additive (x : AdditiveId) : r.additive x = q.additive x := by simp [Rack.additive, h.additives]
  have unit (u : Nat) : r.unit? u = q.unit? u := by simp [Rack.unit?, h.units]
  have slot (n : SlotId) : r.slotConfig a n = q.slotConfig a n := by simp [Rack.slotConfig, h.config]
  obtain ⟨line, residue, whole, gross, standard, still, average, doses, short, settled, accounts, additives, rooms, lines⟩ := ended
  refine ⟨line, residue, whole, gross, standard, still, average, doses, fun here => ?_, fun y found => settled y ((account _).trans found),
    fun n ne => (accounts n ne).trans (account n), fun x => (additives x).trans (by rw [additive]), fun o u k v order address found => ?_,
    fun n m other => (lines n m other).trans (h.lines n m other)⟩
  · have short' := short here
    simp only [slot, underDose] at short'
    exact short'
  · obtain ⟨o', order', unit1, unit2⟩ := h.orders o order
    obtain ⟨own, others⟩ := rooms o' u k v order' (by rw [unit1, unit2]; exact address) ((unit u).trans found)
    exact ⟨own, fun n ne => (others n ne).trans (by rw [unit])⟩

theorem Flagged.freed {l1 : Line} (h : Flagged q r a e l l1) (freed : r.armFreed r' a e) : q.armFreed r' a e := by
  obtain ⟨causes, pending, restart, intent, timer, quiet, queue, state, injectors, channels, arms⟩ := freed
  exact ⟨causes, pending, restart, intent, timer, quiet, fun y mem => h.queue ▸ queue y mem, state, injectors, channels.trans h.channels,
    fun b ne => (arms b ne).trans (h.arms b ne)⟩

/-! ### Learning (R119) -/

/-- A FULL line with OVER_PRESET judged by how far it missed its preset. -/
def Line.judged (err : Int) (l : Line) : Line :=
  { l with flags := { l.flags with overPreset := l.flags.overPreset ||
    (decide (1 ≤ err) && decide (((l.preset * 5 / 1000 : Nat) : Int) < err)) } }

/-- A line judged by its own standard litres. -/
def Line.learned (l : Line) : Line := l.judged ((roundLitres l.standard : Int) - l.preset)

/-- An arm that has learned from a line. -/
def Arm.learned (l : Line) (x : Arm) : Arm :=
  { x with allowance := x.allowance.map (fun v => learnedAllowance v ((roundLitres l.standard : Int) - l.preset)) }

theorem Rack.currentLine_of (current : (r.arm a).current = some e) : r.currentLine a = r.line? e.order e.line := by
  unfold Rack.currentLine
  rw [current]
  rfl

theorem Rack.learn_some (current : (r.arm a).current = some e) (line : r.line? e.order e.line = some l) :
    (r.learn a).arm a = (r.arm a).learned l ∧ (r.learn a).line? e.order e.line = some l.learned ∧ Flagged r (r.learn a) a e l l.learned := by
  have here : r.currentLine a = some l := (Rack.currentLine_of current).trans line
  have learn : r.learn a = (r.modArm a (Arm.learned l)).modCurrentLine a (Line.judged ((roundLitres l.standard : Int) - l.preset)) := by
    unfold Rack.learn
    rw [here]
    rfl
  have current' : ((r.modArm a (Arm.learned l)).arm a).current = some e := by
    rw [Rack.modArm_arm, if_pos rfl]
    exact current
  have arm (b : ArmId) : (r.learn a).arm b = if a = b then (r.arm a).learned l else r.arm b := by
    rw [learn, Rack.modCurrentLine_arm, Rack.modArm_arm]
  have lines (n m : Nat) := Rack.modCurrentLine_line (r.modArm a (Arm.learned l)) current' (Line.judged ((roundLitres l.standard : Int) - l.preset)) (fun _ => rfl) n m
  rw [← learn] at lines
  refine ⟨(arm a).trans (if_pos rfl), ?_, ?_⟩
  · rw [lines, if_pos ⟨rfl, rfl⟩, Rack.modArm_line_of, line]
    rfl
  · refine ⟨by simp, by simp, by simp, by simp, fun o order => ?_, fun n m other => ?_, ?_, ?_, fun b ne => ?_, ⟨_, rfl, rfl⟩⟩
    · rw [learn]
      unfold Rack.modCurrentLine Rack.modLine
      rw [current']
      dsimp only
      rw [Rack.modOrder_order _ e.order e.order (fun o => o.modLine e.line (Line.judged _)) (fun _ => rfl), if_pos rfl, Rack.modArm_order_of, order]
      exact ⟨_, rfl, rfl, rfl⟩
    · rw [lines, if_neg (fun same => other ⟨same.1.symm, same.2.symm⟩), Rack.modArm_line_of]
    · rw [arm, if_pos rfl]
      rfl
    · rw [arm, if_pos rfl]
      rfl
    · rw [arm, if_neg (Ne.symm ne)]

/-! ### The settle (R115) -/

theorem Rack.settle_finish (h : (r.arm a).intent = some .finish) : r.settle c a = (r.learn a).endLine c a .full none := by
  unfold Rack.settle
  rw [h]

theorem Rack.settle_stop (h : (r.arm a).intent = some .stop) : r.settle c a = r.endLine c a .stopped (r.arm a).pendingStop := by
  unfold Rack.settle
  rw [h]

theorem Rack.settle_interrupt (h : (r.arm a).intent = some .interrupt) : r.settle c a = r.endLine c a .interrupted (some .restart) := by
  unfold Rack.settle
  rw [h]

theorem Rack.settle_restart (h : (r.arm a).intent = some .suspend) (restart : (r.arm a).restartPending = true) :
    r.settle c a = r.endLine c a .interrupted (some .restart) := by
  unfold Rack.settle
  rw [h]
  exact if_pos restart

theorem Rack.settle_suspend (h : (r.arm a).intent = some .suspend) (restart : (r.arm a).restartPending = false) :
    r.settle c a = ((r.modCurrentLine a (fun l => { l with state := .suspended })).modArm a (fun x =>
      { x with intent := none, settleTimer := none, quiet := false })).setState c a .suspended := by
  unfold Rack.settle
  rw [h]
  exact if_neg (by simp [restart])

/-- A suspending close that settles: its line SUSPENDED, its arm keeping line, queue and causes (R115). -/
theorem Rack.settle_suspend_fields (closing : (r.arm a).state = .closing) (current : (r.arm a).current = some e)
    (line : r.line? e.order e.line = some l) (suspend : (r.arm a).intent = some .suspend) (stays : (r.arm a).restartPending = false) :
    (r.settle c a).arm a = { r.arm a with
      state := .suspended, intent := none, settleTimer := none, quiet := false, repeatTimer := none, reason := none } ∧
    (∀ b, b ≠ a → (r.settle c a).arm b = r.arm b) ∧
    ∀ n m, (r.settle c a).line? n m = if e.order = n ∧ e.line = m then some { l with state := .suspended } else r.line? n m := by
  have arm (b : ArmId) : ((r.modCurrentLine a (fun l => { l with state := .suspended })).modArm a (fun x =>
      { x with intent := none, settleTimer := none, quiet := false })).arm b =
      if a = b then { r.arm a with intent := none, settleTimer := none, quiet := false } else r.arm b := by
    rw [Rack.modArm_arm, Rack.modCurrentLine_arm, Rack.modCurrentLine_arm]
  rw [Rack.settle_suspend suspend stays]
  refine ⟨?_, fun b ne => ?_, fun n m => ?_⟩
  · rw [Rack.setState_arm, arm, if_pos rfl, if_pos ⟨rfl, by simp [closing]⟩]
    simp [repeatAfter, ArmState.isRunning, ArmState.isFlow]
  · rw [Rack.setState_arm, arm, if_neg (fun h => ne h.1.symm), arm, if_neg (Ne.symm ne)]
  · rw [Rack.setState_line, Rack.modArm_line_of, Rack.modCurrentLine_line r current (fun l => { l with state := .suspended }) (fun _ => rfl)]
    split
    · rename_i same
      rw [← same.1, ← same.2, line]
      rfl
    · rfl

/-- A close that settles carries out its intent. -/
theorem Rack.settle_settled (closing : (r.arm a).state = .closing) (current : (r.arm a).current = some e)
    (line : r.line? e.order e.line = some l) : r.settled (r.settle c a).pump a e l := by
  refine ⟨fun err finish missed => ?_, fun suspend stays => ?_, fun final cause case => ?_⟩
  · subst missed
    obtain ⟨arm, learned, flagged⟩ := Rack.learn_some current line
    have current' : ((r.learn a).arm a).current = some e := by
      rw [arm]
      exact current
    obtain ⟨ended, freed, allowance⟩ := Rack.endLine_ends (c := c) current' learned (final := .full) none (by decide)
    rw [Rack.settle_finish finish]
    refine ⟨_, _, flagged.handedOn ended, flagged.freed freed, rfl, rfl, rfl, fun v was => ?_⟩
    rw [allowance, arm]
    exact congrArg (Option.map _) was
  · obtain ⟨own, others, lines⟩ := Rack.settle_suspend_fields (c := c) closing current line suspend stays
    refine ⟨by simpa using own, by rw [Rack.pump_arm, own]; rfl, ?_, fun n m other => ?_, fun b ne => ?_, ?_⟩
    · rw [Rack.currentLine_of (e := e) (by simpa [own] using current), Rack.pump_line, lines, if_pos ⟨rfl, rfl⟩]
    · rw [Rack.pump_line, lines, if_neg (fun same => other ⟨same.1.symm, same.2.symm⟩)]
    · rw [Rack.pump_arm, others b ne]
    · rw [Rack.settle_suspend suspend stays]
      apply Rack.eq_of_fields <;> simp
  · have settle : r.settle c a = r.endLine c a final cause ∧ final ≠ .cancelled := by
      rcases case with ⟨stop, rfl, rfl⟩ | ⟨interrupt, rfl, rfl⟩ | ⟨suspend, restart, rfl, rfl⟩
      · exact ⟨Rack.settle_stop stop, by decide⟩
      · exact ⟨Rack.settle_interrupt interrupt, by decide⟩
      · exact ⟨Rack.settle_restart suspend restart, by decide⟩
    obtain ⟨ended, freed, allowance⟩ := Rack.endLine_ends (c := c) current line cause settle.2
    rw [settle.1]
    exact ⟨_, _, ended, freed, rfl, rfl, rfl, allowance⟩

/-! ### The settle timer (R114) -/

/-- An arm whose settle timer has run out. -/
def Arm.quieted (x : Arm) : Arm := { x with settleTimer := none, quiet := true }

theorem Rack.quieted_arm (a b : ArmId) : (r.modArm a Arm.quieted).arm b = if a = b then (r.arm a).quieted else r.arm b :=
  Rack.modArm_arm r a b Arm.quieted

/-- The quiet of an arm is no part of what a settle leaves. -/
theorem Rack.settled_quieted (h : (r.modArm a Arm.quieted).settled r' a e l) : r.settled r' a e l := by
  have own : (r.modArm a Arm.quieted).arm a = (r.arm a).quieted := (Rack.quieted_arm a a).trans (if_pos rfl)
  have others (b : ArmId) (ne : b ≠ a) : (r.modArm a Arm.quieted).arm b = r.arm b := (Rack.quieted_arm a b).trans (if_neg (Ne.symm ne))
  have flagged : Flagged r (r.modArm a Arm.quieted) a e l l :=
    ⟨rfl, rfl, rfl, rfl, fun o order => ⟨o, order, rfl, rfl⟩, fun _ _ _ => rfl, by rw [own]; rfl, by rw [own]; rfl, others, ⟨_, rfl, rfl⟩⟩
  obtain ⟨finish, suspend, ends⟩ := h
  refine ⟨fun err intent missed => ?_, fun intent stays => ?_, fun final cause case => ?_⟩
  · obtain ⟨l', litres, ended, freed, state, stop, flags, allowance⟩ := finish err (by rw [own]; exact intent) missed
    exact ⟨l', litres, flagged.handedOn ended, flagged.freed freed, state, stop, flags, fun v was => allowance v (by rw [own]; exact was)⟩
  · obtain ⟨arm, valve, line, lines, arms, frame⟩ := suspend (by rw [own]; exact intent) (by rw [own]; exact stays)
    refine ⟨by rw [arm, own]; rfl, valve, line, lines, fun b ne => (arms b ne).trans (others b ne), frame.trans rfl⟩
  · have case' : ((r.modArm a Arm.quieted).arm a).intent = some .stop ∧ final = .stopped ∧
          cause = ((r.modArm a Arm.quieted).arm a).pendingStop ∨
        ((r.modArm a Arm.quieted).arm a).intent = some .interrupt ∧ final = .interrupted ∧ cause = some .restart ∨
        ((r.modArm a Arm.quieted).arm a).intent = some .suspend ∧ ((r.modArm a Arm.quieted).arm a).restartPending = true ∧
          final = .interrupted ∧ cause = some .restart := by
      rw [own]
      exact case
    obtain ⟨l', litres, ended, freed, state, stop, flags, allowance⟩ := ends final cause case'
    exact ⟨l', litres, flagged.handedOn ended, flagged.freed freed, state, stop, flags, by rw [allowance, own]; rfl⟩

theorem Rack.becomeQuiet_still (closing : (r.arm a).state = .closing) (still : ∀ n, (r.injector a n).phase = .none) :
    r.becomeQuiet c a = (r.modArm a Arm.quieted).settle c a := by
  have own : (r.modArm a Arm.quieted).arm a = (r.arm a).quieted := (Rack.quieted_arm a a).trans (if_pos rfl)
  exact if_pos ⟨(congrArg Arm.state own).trans closing, congrArg Arm.quiet own, Rack.noStroke_iff.mpr still⟩

theorem Rack.becomeQuiet_stroke {n : SlotId} (flies : (r.injector a n).phase ≠ .none) : r.becomeQuiet c a = r.modArm a Arm.quieted :=
  if_neg (fun ⟨_, _, still⟩ => flies (Rack.noStroke_iff.mp still n))

theorem execSettleTimerExpiry_due {s : State} {k : ArmConfig} {x : Stamp} (config : (s.rack.arm a).config = some k)
    (running : (s.rack.arm a).settleTimer = some x) (out : k.settle * 1000 ≤ s.cond.age x) :
    exec (.settleTimerExpiry a) s = .next { s with rack := (s.rack.becomeQuiet s.cond a).pump } := by
  refine if_pos ?_
  rw [running, Arm.milliseconds, config]
  exact decide_eq_true out

/-- Settles O42: the settle of a quiet close, intent by intent. -/
theorem settleCarriesOutIntent : Obligations.SettleCarriesOutIntent := by
  intro a s k x e l config running out closing current line
  have taken := execSettleTimerExpiry_due config running out
  refine ⟨fun ⟨n, flies⟩ => ?_, fun still => ⟨_, taken, rfl, ?_⟩⟩
  · rw [taken, Rack.becomeQuiet_stroke flies]
    rfl
  · dsimp only
    rw [Rack.becomeQuiet_still closing still]
    have own : (s.rack.modArm a Arm.quieted).arm a = (s.rack.arm a).quieted := (Rack.quieted_arm a a).trans (if_pos rfl)
    exact Rack.settled_quieted (Rack.settle_settled (by rw [own]; exact closing) (by rw [own]; exact current)
      ((Rack.currentLine_of current).symm.trans line))

end Sys2Proof.Machine
end

section
/-! PROOF. STOP from the panel (O40). -/

namespace Sys2Proof.Machine

variable {c : Conditions} {r r' : Rack} {a : ArmId} {e : QueueEntry} {l l' : Line} {litres : Nat}

/-! ### A SHOW called for twice (R188) -/

theorem Panel.call_call (x : Subject) (p : Panel) : (p.call x).call x = p.call x := by
  unfold Panel.call
  by_cases listed : x ∈ p.sendList
  · simp [listed]
  · simp [listed]

/-- A mark on an arm between two calls for its SHOW leaves one call. -/
theorem Rack.callArm_modArm_callArm (a : ArmId) (f g : Arm → Arm) :
    (((r.modArm a f).callArm a).modArm a g).callArm a = (r.modArm a (fun x => g (f x))).callArm a := by
  unfold Rack.callArm Rack.modPanel Rack.modArm Rack.setArm
  simp [Rack.panel, Rack.arm, Panel.call_call]

/-! ### STOP (R107, R116) -/

theorem Rack.stopArm_flow (flow : (r.arm a).state.isFlow = true) (cause : StopCause) :
    r.stopArm c a cause = (r.modArm a (fun x => { x with pendingStop := some cause })).enterClosing c a .stop := if_pos flow

theorem Rack.stopArm_suspending (closing : (r.arm a).state = .closing) (suspend : (r.arm a).intent = some .suspend) (cause : StopCause) :
    r.stopArm c a cause = (r.modArm a (fun x =>
      { x with intent := some .stop, pendingStop := some cause, causes := [], restartPending := false })).callArm a :=
  (if_neg (by simp [closing, ArmState.isFlow])).trans (if_pos ⟨closing, suspend⟩)

theorem Rack.stopArm_suspended (suspended : (r.arm a).state = .suspended) (cause : StopCause) :
    r.stopArm c a cause = r.endLine c a .stopped (some cause) :=
  (if_neg (by simp [suspended, ArmState.isFlow])).trans ((if_neg (by simp [suspended])).trans (if_pos suspended))

theorem Rack.stopArm_other (still : (r.arm a).state.isFlow = false) (noSuspend : ¬((r.arm a).state = .closing ∧ (r.arm a).intent = some .suspend))
    (noLine : (r.arm a).state ≠ .suspended) (cause : StopCause) : r.stopArm c a cause = r :=
  (if_neg (by simp [still])).trans ((if_neg noSuspend).trans (if_neg noLine))

theorem exec_stop {b : BayId} {s : State} (here : bayOf a = b) :
    exec (.stop b a) s = .next { s.heard b with rack := ((s.rack.stopArm s.cond a .panel).answerArm a none).pump } := by
  have pressed : (s.setPanelRx b .fresh).pressStop b a =
      { s.heard b with rack := ((s.rack.stopArm s.cond a .panel).answerArm a none).pump } := by
    unfold State.pressStop State.moveRack
    simp only [if_pos here]
    rfl
  exact congrArg Host.Outcome.next pressed

/-- An answer on the panel touches the reason of the arm alone. -/
theorem Rack.answerArm_arm (a b : ArmId) (reason : Option PanelReason) :
    (r.answerArm a reason).arm b = if a = b then { r.arm a with reason := reason } else r.arm b := by
  unfold Rack.answerArm
  rw [Rack.callArm_arm_of, Rack.modArm_arm]

theorem Rack.answerArm_tables (a : ArmId) (reason : Option PanelReason) : SameTables r (r.answerArm a reason) := .of_eq rfl rfl rfl rfl

theorem Rack.armFreed.answerArm (freed : r.armFreed r' a e) (reason : Option PanelReason) : r.armFreed (r'.answerArm a reason) a e := by
  obtain ⟨causes, pending, restart, intent, timer, quiet, queue, state, injectors, channels, arms⟩ := freed
  have own := (Rack.answerArm_arm (r := r') a a reason).trans (if_pos rfl)
  unfold Rack.armFreed
  rw [own]
  exact ⟨causes, pending, restart, intent, timer, quiet, queue, state, injectors, channels,
    fun b ne => (Rack.answerArm_arm a b reason).trans ((if_neg (Ne.symm ne)).trans (arms b ne))⟩

/-- Settles O40: a STOP by the state of the arm, its answer on the panel after it. -/
theorem stopClosesArm : Obligations.StopClosesArm := by
  intro b a s here
  refine ⟨fun flow => ⟨_, exec_stop here, ?_⟩, fun closing suspend => ?_, fun e l suspended current line => ?_, fun still => ?_⟩
  · have flow' : ((s.rack.modArm a (fun x => { x with pendingStop := some .panel })).arm a).state.isFlow = true := by simpa using flow
    have open' : ((s.rack.modArm a (fun x => { x with pendingStop := some .panel })).arm a).state ≠ .closing := fun h => by
      rw [h] at flow'
      cases flow'
    have own : (s.rack.stopArm s.cond a .panel).arm a = Arm.closed s.cond { s.rack.arm a with pendingStop := some .panel } .stop := by
      rw [Rack.stopArm_flow flow, Rack.enterClosing_arm s.cond _ a .stop open', Rack.modArm_arm, if_pos rfl]
    dsimp only
    rw [Rack.pump_arm, Rack.answerArm_arm, if_pos rfl, own]
    refine ⟨rfl, rfl, rfl, rfl, rfl, rfl, rfl, ?_, fun d ne => ?_⟩
    · rw [Rack.stopArm_flow flow]
      unfold Rack.answerArm
      apply Rack.eq_of_fields <;> simp
    · rw [Rack.pump_arm, Rack.answerArm_arm, if_neg (Ne.symm ne), Rack.stopArm_flow flow]
      have other := Rack.enterClosing_other s.cond (s.rack.modArm a (fun x => { x with pendingStop := some .panel })) a d .stop ne
      rw [Rack.modArm_arm, if_neg (Ne.symm ne)] at other
      rcases other with same | ⟨waits, granted⟩
      · exact .inl (congrArg Arm.state same)
      · exact .inr ⟨waits, congrArg Arm.state granted⟩
  · rw [exec_stop here, Rack.stopArm_suspending closing suspend]
    unfold Rack.answerArm
    rw [Rack.callArm_modArm_callArm]
  · have found : s.rack.line? e.order e.line = some l := (Rack.currentLine_of current).symm.trans line
    have tables := (Rack.endLine_tables (c := s.cond) current .stopped (some .panel)).trans
      ((Rack.answerArm_tables a none).trans Rack.pump_tables)
    obtain ⟨freed, allowance⟩ := Rack.endLine_freed (c := s.cond) current .stopped (some .panel)
    rw [exec_stop here, Rack.stopArm_suspended suspended]
    refine ⟨_, _, _, rfl, tables.handedOn found (by decide), (freed.answerArm none).pump, rfl, rfl, rfl, ?_, ?_, rfl⟩
    · dsimp only
      rw [Rack.pump_arm, Rack.answerArm_arm, if_pos rfl]
      exact allowance
    · dsimp only
      rw [Rack.pump_arm, Rack.answerArm_arm, if_pos rfl]
  · have same : s.rack.stopArm s.cond a .panel = s.rack := by
      rcases still with h | h | h | h | ⟨h, noSuspend⟩ <;> refine Rack.stopArm_other ?_ ?_ ?_ _ <;> simp [h, ArmState.isFlow]
      exact noSuspend
    rw [exec_stop here, same]
    rfl

end Sys2Proof.Machine
end

section
/-! PROOF. The completion of an order (O34): what the test of an order leaves when its last line has become final. -/

namespace Sys2Proof.Machine

variable {c : Conditions} {r r' : Rack} {a : ArmId} {e : QueueEntry} {l : Line} {o : Order}

/-! ### Completion (R95 to R97, R167, R168) -/

/-- What a completion leaves of an order, its notes, units, bay and permit. -/
structure Completed (c : Conditions) (r r' : Rack) (o o' : Order) : Prop where
  order : r'.order? o.number = some o'
  lines : o'.lines = o.lines
  day : o'.day = some c.day
  complete : o.delivered = true → o'.state = .complete ∧ o'.note = some (freeNote r.heldNotes r.orders.length r.noteCounter) ∧
    r'.noteCounter = freeNote r.heldNotes r.orders.length r.noteCounter ∧ r'.notes = r.notes ++ [o.number]
  void : o.delivered = false → o'.state = .void ∧ o'.note = o.note ∧ r'.noteCounter = r.noteCounter ∧ r'.notes = r.notes
  units : ∀ u, (r'.unit? u).map (fun v => v.committed) =
    (r.unit? u).map (fun v => if o.unit1 = u ∨ o.unit2 = some u then none else v.committed)
  bay : ∀ b, o.state = .admitted → o.lastBay = some b → r'.bay b = { admitted := none, reason := none }
  permit : ∀ b, o.state = .admitted → o.lastBay = some b →
    r'.permit? o.permit = (r.permit? o.permit).map (fun p => { p with admittedBay := none })
  others : ∀ m, m ≠ o.number → r'.order? m = r.order? m

theorem Rack.uncommit_unit (w u : Nat) :
    (r.uncommit w).unit? u = if w = u then (r.unit? u).map (fun v => { v with committed := none }) else r.unit? u :=
  Rack.modUnit_unit r w u (fun v => { v with committed := none }) (fun _ => rfl)

theorem Rack.uncommitUnits_committed (o : Order) (u : Nat) : ((r.uncommitUnits o).unit? u).map (fun v => v.committed) =
    (r.unit? u).map (fun v => if o.unit1 = u ∨ o.unit2 = some u then none else v.committed) := by
  unfold Rack.uncommitUnits
  cases second : o.unit2 with
  | none =>
    dsimp only
    rw [Rack.uncommit_unit]
    by_cases first : o.unit1 = u <;> cases r.unit? u <;> simp [first]
  | some w =>
    dsimp only
    rw [Rack.uncommit_unit, Rack.uncommit_unit]
    by_cases first : o.unit1 = u <;> by_cases also : w = u <;> cases r.unit? u <;> simp [first, also]

theorem Rack.releaseBayOf_admitted {b : BayId} (admitted : o.state = .admitted) (last : o.lastBay = some b) :
    r.releaseBayOf o = r.releaseBay b o.permit := by
  unfold Rack.releaseBayOf
  rw [if_pos admitted, last]

theorem Rack.releaseBay_bay (b : BayId) (p : Nat) : (r.releaseBay b p).bay b = { admitted := none, reason := none } := by
  unfold Rack.releaseBay
  rw [Rack.modPermit_bay_of, Rack.callBay_bay_of, Rack.modBay_bay, if_pos rfl]

theorem Rack.releaseBay_permit (b : BayId) (p : Nat) :
    (r.releaseBay b p).permit? p = (r.permit? p).map (fun q => { q with admittedBay := none }) := by
  unfold Rack.releaseBay
  rw [Rack.modPermit_permit _ p p (fun q => { q with admittedBay := none }) (fun _ => rfl), if_pos rfl]
  rfl

/-- The rack of a completion before the order itself is changed. -/
theorem Rack.completing_tables (o : Order) : ((r.uncommitUnits o).releaseBayOf o).orders = r.orders ∧
    ((r.uncommitUnits o).releaseBayOf o).noteCounter = r.noteCounter ∧ ((r.uncommitUnits o).releaseBayOf o).notes = r.notes ∧
    ((r.uncommitUnits o).releaseBayOf o).units = (r.uncommitUnits o).units := by simp

theorem Rack.completeOrder_completed (found : r.order? o.number = some o) : ∃ o', Completed c r (r.completeOrder c o) o o' := by
  obtain ⟨orders, counter, notes, -⟩ := r.completing_tables o
  have held : ((r.uncommitUnits o).releaseBayOf o).heldNotes = r.heldNotes := by simp [Rack.heldNotes]
  have committed (u : Nat) : (((r.uncommitUnits o).releaseBayOf o).unit? u).map (fun v => v.committed) =
      (r.unit? u).map (fun v => if o.unit1 = u ∨ o.unit2 = some u then none else v.committed) := by
    rw [← Rack.uncommitUnits_committed o u]
    simp [Rack.unit?]
  have bay (b : BayId) (admitted : o.state = .admitted) (last : o.lastBay = some b) :
      ((r.uncommitUnits o).releaseBayOf o).bay b = { admitted := none, reason := none } := by
    rw [Rack.releaseBayOf_admitted admitted last, Rack.releaseBay_bay]
  have permit (b : BayId) (admitted : o.state = .admitted) (last : o.lastBay = some b) :
      ((r.uncommitUnits o).releaseBayOf o).permit? o.permit = (r.permit? o.permit).map (fun p => { p with admittedBay := none }) := by
    rw [Rack.releaseBayOf_admitted admitted last, Rack.releaseBay_permit]
    simp [Rack.permit?]
  have order (f : Order → Order) (number : ∀ x, (f x).number = x.number) (m : Nat) :
      (((r.uncommitUnits o).releaseBayOf o).modOrder o.number f).order? m = if o.number = m then (r.order? m).map f else r.order? m := by
    rw [Rack.modOrder_order _ o.number m f number, Rack.order_eq orders]
  unfold Rack.completeOrder
  dsimp only
  rw [held, orders, counter, notes]
  by_cases delivered : o.delivered = true
  · rw [if_pos delivered]
    have changed := order (fun x => { x with state := .complete, day := some c.day, note := some (freeNote r.heldNotes r.orders.length r.noteCounter) })
      (fun _ => rfl)
    refine ⟨{ o with state := .complete, day := some c.day, note := some (freeNote r.heldNotes r.orders.length r.noteCounter) }, ?_, rfl,
      rfl, fun _ => ⟨rfl, rfl, rfl, rfl⟩, fun none => absurd delivered (by simp [none]), committed, bay, permit, fun m ne => ?_⟩
    · exact (changed o.number).trans (by rw [if_pos rfl, found]; rfl)
    · exact (changed m).trans (if_neg (Ne.symm ne))
  · rw [if_neg delivered]
    have changed := order (fun x => { x with state := .void, day := some c.day }) (fun _ => rfl)
    refine ⟨{ o with state := .void, day := some c.day }, ?_, rfl, rfl, fun some => absurd some delivered, fun _ => ⟨rfl, rfl, counter, notes⟩, committed, bay, permit, fun m ne => ?_⟩
    · exact (changed o.number).trans (by rw [if_pos rfl, found]; rfl)
    · exact (changed m).trans (if_neg (Ne.symm ne))

theorem Rack.testOrder_completes (found : r.order? o.number = some o) (stands : o.state = .booked ∨ o.state = .admitted)
    (final : ∀ l ∈ o.lines, l.state.isFinal = true) : r.testOrder c o.number = r.completeOrder c o := by
  unfold Rack.testOrder
  rw [found]
  exact (if_pos stands).trans (if_pos (List.all_eq_true.mpr final))

/-! ### A line changed in the order table -/

/-- A rack whose orders are those of another with one line changed; notes, units' commitments, bays and permits as they were. -/
structure LineChanged (r r' : Rack) (e : QueueEntry) (f : Line → Line) : Prop where
  order : ∀ m, r'.order? m = if e.order = m then (r.order? m).map (fun o => o.modLine e.line f) else r.order? m
  faces : FacesStay r r'
  units : ∀ u, (r'.unit? u).map (fun v => v.committed) = (r.unit? u).map (fun v => v.committed)
  bays : ∀ b, r'.bay b = r.bay b
  permits : ∀ p, r'.permit? p = r.permit? p

theorem LineChanged.of_eq (r' : Rack) {f : Line → Line} (number : ∀ x, (f x).number = x.number)
    (orders : r'.orders = (r.modLine e.order e.line f).orders) (notes : r'.notes = r.notes) (counter : r'.noteCounter = r.noteCounter)
    (units : ∀ u, (r'.unit? u).map (fun v => v.committed) = (r.unit? u).map (fun v => v.committed)) (bays : r'.bays = r.bays)
    (permits : r'.permits = r.permits) : LineChanged r r' e f where
  order m := (Rack.order_eq orders m).trans (Rack.modOrder_order r e.order m (fun o => o.modLine e.line f) (fun _ => rfl))
  faces := (FacesStay.modLine r e.order e.line f number).trans (.of_orders orders notes counter)
  units := units
  bays b := by simp [Rack.bay, bays]
  permits p := by simp [Rack.permit?, permits]

theorem Order.modLine_modLine (o : Order) (n : Nat) {f g : Line → Line} (number : ∀ x, (f x).number = x.number) :
    (o.modLine n f).modLine n g = o.modLine n (fun x => g (f x)) := by
  have lines : (o.lines.map (fun l => if l.number = n then f l else l)).map (fun l => if l.number = n then g l else l) =
      o.lines.map (fun l => if l.number = n then g (f l) else l) := by
    rw [List.map_map]
    refine List.map_congr_left (fun l _ => ?_)
    by_cases here : l.number = n <;> simp [here, number]
  unfold Order.modLine
  rw [lines]

theorem LineChanged.trans {s : Rack} {f g : Line → Line} (h : LineChanged r r' e f) (k : LineChanged r' s e g)
    (number : ∀ x, (f x).number = x.number) : LineChanged r s e (fun x => g (f x)) where
  order m := by
    rw [k.order, h.order]
    split
    · cases r.order? m with
      | none => rfl
      | some o => exact congrArg some (o.modLine_modLine e.line number)
    · rfl
  faces := h.faces.trans k.faces
  units u := (k.units u).trans (h.units u)
  bays b := (k.bays b).trans (h.bays b)
  permits p := (k.permits p).trans (h.permits p)

theorem Rack.updateLastGroup_committed (o : Order) (l : Line) (u : Nat) :
    ((r.updateLastGroup o l).unit? u).map (fun v => v.committed) = (r.unit? u).map (fun v => v.committed) := by
  unfold Rack.updateLastGroup
  split
  · split
    · rename_i w k _
      rw [Rack.modUnit_unit r w u (fun v => v.setLast k (some l.group)) (fun _ => rfl)]
      split
      · cases r.unit? u <;> rfl
      · rfl
    · rfl
  · rfl

theorem Rack.endLineRecord_committed (n m : Nat) (final : LineState) (cause : Option StopCause) (u : Nat) :
    ((r.endLineRecord n m final cause).unit? u).map (fun v => v.committed) = (r.unit? u).map (fun v => v.committed) := by
  cases line : r.line? n m with
  | none => rw [Rack.endLineRecord_none line]
  | some l =>
    obtain ⟨o, order, -⟩ := Rack.line_order line
    rw [Rack.endLineRecord_some order line, Rack.updateLastGroup_committed]
    simp [Rack.unit?]

/-- The end of the current line changes that line alone in the order table. -/
theorem Rack.endCurrent_changes (current : (r.arm a).current = some e) (line : r.line? e.order e.line = some l) (final : LineState)
    (cause : Option StopCause) : LineChanged r (r.endCurrent c a final cause) e (fun x => x.finish final cause (r.strokesFor l)) := by
  rw [Rack.endCurrent_some r current]
  refine .of_eq _ (fun _ => rfl) ?_ (by simp [Rack.giveUp]) (by simp [Rack.giveUp]) (fun u => ?_) (by simp [Rack.giveUp])
    (by simp [Rack.giveUp])
  · rw [← Rack.endLineRecord_orders line]
    simp [Rack.giveUp]
  · have same : (((r.endLineRecord e.order e.line final cause).giveUp a e).takeHead c a).unit? u =
        (r.endLineRecord e.order e.line final cause).unit? u := by simp [Rack.unit?, Rack.giveUp]
    rw [same, Rack.endLineRecord_committed]

theorem Rack.learn_changes (current : (r.arm a).current = some e) (line : r.line? e.order e.line = some l) :
    LineChanged r (r.learn a) e (Line.judged ((roundLitres l.standard : Int) - l.preset)) := by
  have here : r.currentLine a = some l := (Rack.currentLine_of current).trans line
  have learn : r.learn a = (r.modArm a (Arm.learned l)).modCurrentLine a (Line.judged ((roundLitres l.standard : Int) - l.preset)) := by
    unfold Rack.learn
    rw [here]
    rfl
  have current' : ((r.modArm a (Arm.learned l)).arm a).current = some e := by
    rw [Rack.modArm_arm, if_pos rfl]
    exact current
  refine .of_eq _ (fun _ => rfl) ?_ (by simp) (by simp) (fun u => by simp [Rack.unit?]) (by simp) (by simp)
  rw [learn]
  unfold Rack.modCurrentLine
  rw [current']
  rfl

/-! ### The settle that makes an order's last line final (R95) -/

/-- A close that ends its line: the change it makes in the order table before the order's test, and the test. -/
theorem Rack.settle_ends (current : (r.arm a).current = some e) (line : r.line? e.order e.line = some l)
    (ends : (r.arm a).intent = some .finish ∨ (r.arm a).intent = some .stop ∨ (r.arm a).intent = some .interrupt ∨
      (r.arm a).intent = some .suspend ∧ (r.arm a).restartPending = true) :
    ∃ r1 f, r.settle c a = r1.testOrder c e.order ∧ LineChanged r r1 e f ∧ (∀ x, (f x).number = x.number) ∧
      (f l).state.isFinal = true ∧ (f l).standardLitres = some (roundLitres l.standard) := by
  have ended (final : LineState) (cause : Option StopCause) (isFinal : final.isFinal = true)
      (settle : r.settle c a = r.endLine c a final cause) :
      ∃ r1 f, r.settle c a = r1.testOrder c e.order ∧ LineChanged r r1 e f ∧ (∀ x, (f x).number = x.number) ∧
        (f l).state.isFinal = true ∧ (f l).standardLitres = some (roundLitres l.standard) :=
    ⟨_, _, settle.trans (Rack.endLine_some current final cause), Rack.endCurrent_changes current line final cause, fun _ => rfl, isFinal, rfl⟩
  rcases ends with finish | stop | interrupt | ⟨suspend, restart⟩
  · obtain ⟨arm, learned, -⟩ := Rack.learn_some current line
    have current' : ((r.learn a).arm a).current = some e := by
      rw [arm]
      exact current
    exact ⟨_, _, (Rack.settle_finish finish).trans (Rack.endLine_some current' .full none),
      (Rack.learn_changes current line).trans (Rack.endCurrent_changes current' learned .full none) (fun _ => rfl), fun _ => rfl, rfl, rfl⟩
  · exact ended .stopped _ rfl (Rack.settle_stop stop)
  · exact ended .interrupted _ rfl (Rack.settle_interrupt interrupt)
  · exact ended .interrupted _ rfl (Rack.settle_restart suspend restart)

theorem FacesStay.heldNotes (h : FacesStay r r') : r'.heldNotes = r.heldNotes ∧ r'.orders.length = r.orders.length := by
  have notes := congrArg (List.filterMap (fun o => o.note)) h.faces
  have length := congrArg List.length h.faces
  rw [List.filterMap_map, List.filterMap_map] at notes
  rw [List.length_map, List.length_map] at length
  exact ⟨notes, length⟩

/-- Every line of an order of which one line is changed: the changed line, or another as it was. -/
theorem Order.mem_modLine {f : Line → Line} {n : Nat} {m : Line} (h : m ∈ (o.modLine n f).lines) :
    (∃ x ∈ o.lines, x.number = n ∧ m = f x) ∨ (m ∈ o.lines ∧ m.number ≠ n) := by
  obtain ⟨x, hx, rfl⟩ := List.mem_map.mp h
  split
  · rename_i here
    exact .inl ⟨x, hx, here, rfl⟩
  · rename_i other
    exact .inr ⟨hx, other⟩

/-- An order delivered exactly when its line that ended or another did. -/
theorem Order.delivered_modLine {f : Line → Line} {n : Nat} (found : o.line? n = some l) (apart : (o.lines.map (fun m => m.number)).Nodup)
    {litres : Nat} (figure : (f l).standardLitres = some litres) :
    (o.modLine n f).delivered = true ↔ 1 ≤ litres ∨ ∃ m ∈ o.lines, m.number ≠ n ∧ 1 ≤ m.standardLitres.getD 0 := by
  have only {x : Line} (hx : x ∈ o.lines) (here : x.number = n) : x = l :=
    List.inj_on_of_nodup_map apart hx (Order.line_mem found) (here.trans (Order.line_number found).symm)
  unfold Order.delivered
  rw [List.any_eq_true]
  constructor
  · rintro ⟨m, hm, litre⟩
    rcases Order.mem_modLine hm with ⟨x, hx, here, rfl⟩ | ⟨hm, other⟩
    · rw [only hx here, figure] at litre
      exact .inl (of_decide_eq_true litre)
    · exact .inr ⟨m, hm, other, of_decide_eq_true litre⟩
  · rintro (litre | ⟨m, hm, other, litre⟩)
    · refine ⟨f l, List.mem_map.mpr ⟨l, Order.line_mem found, if_pos (Order.line_number found)⟩, ?_⟩
      rw [figure]
      exact decide_eq_true litre
    · exact ⟨m, List.mem_map.mpr ⟨m, hm, if_neg other⟩, decide_eq_true litre⟩

/-- The settle that makes an order's last line final completes the order. -/
theorem Rack.settle_completes (current : (r.arm a).current = some e) (found : r.order? e.order = some o) (line : o.line? e.line = some l)
    (apart : (o.lines.map (fun m => m.number)).Nodup) (stands : o.state = .booked ∨ o.state = .admitted)
    (others : ∀ m ∈ o.lines, m.number ≠ e.line → m.state.isFinal = true)
    (ends : (r.arm a).intent = some .finish ∨ (r.arm a).intent = some .stop ∨ (r.arm a).intent = some .interrupt ∨
      (r.arm a).intent = some .suspend ∧ (r.arm a).restartPending = true) :
    ∃ r1 f o', LineChanged r r1 e f ∧ Completed c r1 (r.settle c a) (o.modLine e.line f) o' ∧
      (∀ m ∈ (o.modLine e.line f).lines, m.state.isFinal = true) ∧
      ((o.modLine e.line f).delivered = true ↔
        1 ≤ roundLitres l.standard ∨ ∃ m ∈ o.lines, m.number ≠ e.line ∧ 1 ≤ m.standardLitres.getD 0) := by
  have line' : r.line? e.order e.line = some l := by
    rw [Rack.line_of_order found]
    exact line
  obtain ⟨r1, f, settle, changed, number, final, figure⟩ := Rack.settle_ends (c := c) current line' ends
  have numbered : (o.modLine e.line f).number = e.order := (Rack.order_number found : o.number = e.order)
  have found' : r1.order? (o.modLine e.line f).number = some (o.modLine e.line f) := by
    rw [numbered, changed.order, if_pos rfl, found]
    rfl
  have allFinal : ∀ m ∈ (o.modLine e.line f).lines, m.state.isFinal = true := by
    intro m hm
    rcases Order.mem_modLine hm with ⟨x, hx, here, rfl⟩ | ⟨hm, other⟩
    · rw [List.inj_on_of_nodup_map apart hx (Order.line_mem line) (here.trans (Order.line_number line).symm)]
      exact final
    · exact others m hm other
  obtain ⟨o', completed⟩ := Rack.completeOrder_completed (c := c) found'
  rw [← Rack.testOrder_completes found' stands allFinal, numbered, ← settle] at completed
  exact ⟨r1, f, o', changed, completed, allFinal, Order.delivered_modLine line apart figure⟩

/-- The number behind another, as R167 says it, over the numbers that can stand in the counter. -/
theorem iterate_next {next : Nat → Nat} {n : Nat} (bound : n ≤ 999999) (is : ∀ m, next m = if m = 999999 then 1 else m + 1) (j : Nat) :
    next^[j] n = advanceNote^[j] n ∧ advanceNote^[j] n ≤ 999999 := by
  induction j with
  | zero => exact ⟨rfl, bound⟩
  | succ j ih =>
    rw [Function.iterate_succ_apply', Function.iterate_succ_apply', ih.1, is]
    refine ⟨?_, (advanceNote_range _).2⟩
    generalize advanceNote^[j] n = m at ih
    unfold advanceNote
    by_cases last : m = 999999
    · rw [if_pos last, if_pos (by omega)]
    · rw [if_neg last, if_neg (by omega)]

/-- Settles O34: the search for a number by its iteration, the completion by the test of the order behind the settle. -/
theorem completionEndsOrder : Obligations.CompletionEndsOrder := by
  refine ⟨fun taken fuel n room small bound => ?_,
    fun a s k x e l o n config running out closing ends still current found line _ apart stands others note => ?_⟩
  · obtain ⟨least, most⟩ := freeNote_range taken fuel n
    refine ⟨freeNote_free room small bound, least, most, fun next is => ?_⟩
    obtain ⟨i, -, reached, before, -⟩ := freeNote_iterate taken fuel n
    have same := iterate_next bound is
    exact ⟨i, reached.trans (same (i + 1)).1.symm, fun j less => (same (j + 1)).1 ▸ before j less⟩
  · have taken := execSettleTimerExpiry_due config running out
    have own : (s.rack.modArm a Arm.quieted).arm a = (s.rack.arm a).quieted := (Rack.quieted_arm a a).trans (if_pos rfl)
    obtain ⟨r1, f, o', changed, completed, final, delivered⟩ := Rack.settle_completes (c := s.cond) (r := s.rack.modArm a Arm.quieted)
      (by rw [own]; exact current) found line apart stands others (by rw [own]; exact ends)
    rw [Rack.becomeQuiet_still closing still] at taken
    obtain ⟨held, length⟩ := changed.faces.heldNotes
    have numbered : (o.modLine e.line f).number = e.order := (Rack.order_number found : o.number = e.order)
    have next : freeNote r1.heldNotes r1.orders.length r1.noteCounter = n := by
      rw [held, length, changed.faces.counter]
      exact note.symm
    obtain ⟨order, lines, day, complete, void, units, bay, permit, orders⟩ := completed
    rw [numbered] at order complete orders
    rw [next, changed.faces.notes] at complete
    rw [changed.faces.counter, changed.faces.notes] at void
    refine ⟨_, o', taken, rfl, (Rack.pump_order _ _).trans order, fun m hm => final m (lines ▸ hm), day, fun some => ?_, fun none rest => ?_,
      fun u => ?_, fun b admitted last => ⟨?_, fun p pass => ?_⟩, fun m ne => ?_⟩
    · obtain ⟨state, held', counter, waiting⟩ := complete (delivered.mpr some)
      exact ⟨state, held', by simpa using counter, by simpa using waiting⟩
    · have not : (o.modLine e.line f).delivered = false := by
        refine Bool.eq_false_iff.mpr (fun yes => ?_)
        rcases delivered.mp yes with litre | ⟨m, hm, other, litre⟩
        · exact absurd none (Nat.pos_iff_ne_zero.mp litre)
        · exact absurd (rest m hm other) (Nat.pos_iff_ne_zero.mp litre)
      obtain ⟨state, held', counter, waiting⟩ := void not
      exact ⟨state, held', by simpa using counter, by simpa using waiting⟩
    · have factor (x : Option VehicleUnit) : x.map (fun v => if o.unit1 = u ∨ o.unit2 = some u then none else v.committed) =
          (x.map (fun v => v.committed)).map (fun held => if o.unit1 = u ∨ o.unit2 = some u then none else held) := by
        rw [Option.map_map]
        rfl
      have was : (r1.unit? u).map (fun v => v.committed) = (s.rack.unit? u).map (fun v => v.committed) := changed.units u
      have now := units u
      rw [factor, ← was, ← factor]
      simp only [Rack.unit?, Rack.pump_units] at now ⊢
      exact now
    · simpa [Rack.bay] using bay b admitted last
    · have pass' := permit b admitted last
      rw [changed.permits] at pass'
      simp only [Rack.permit?, Rack.pump_permits] at pass pass' ⊢
      rw [show (o.modLine e.line f).permit = o.permit from rfl] at pass'
      rw [pass']
      exact congrArg _ pass
    · rw [Rack.pump_order, orders m ne, changed.order, if_neg (Ne.symm ne)]
      rfl

end Sys2Proof.Machine
end

section
/-! PROOF. The outcome of a stroke, said once: what GOOD and a miss leave of channel, additive and line before the next stroke test
(R146, R148 to R150). -/

namespace Sys2Proof.Machine

variable {c : Conditions} {r r' q : Rack} {a : ArmId} {n : SlotId} {k : SlotConfig} {j : Nat} {d : DoseRecord} {e : QueueEntry} {l l' : Line}
  {i : Injector} {x : Additive}

/-! ### Tables that agree entry by entry -/

theorem Rack.additives_ext (h : ∀ y, r'.additive y = r.additive y) : r'.additives = r.additives :=
  Vector.ext (fun y bound => h ⟨y, bound⟩)

theorem Rack.arm_of_arms (h : r'.arms = r.arms) (b : ArmId) : r'.arm b = r.arm b := congrArg (fun v : Vector Arm 8 => v[b]) h

/-! ### What an outcome leaves -/

/-- An outcome's effect: one channel, one additive and one line of the arm are as given, and every other is as it was. -/
structure Outcome (r r' : Rack) (a : ArmId) (n : SlotId) (k : SlotConfig) (e : QueueEntry) (l' : Line) (i : Injector) (x : Additive) : Prop where
  injector : ∀ b m, r'.injector b m = if a = b ∧ n = m then i else r.injector b m
  additive : ∀ y, r'.additive y = if k.additive = y then x else r.additive y
  line : ∀ o m, r'.line? o m = if e.order = o ∧ e.line = m then some l' else r.line? o m
  face : ∀ o, (r'.order? o).map (fun y => { y with lines := [] }) = (r.order? o).map (fun y => { y with lines := [] })
  frame : r' = { r with orders := r'.orders, additives := r'.additives, injectors := r'.injectors }

theorem Outcome.arms (h : Outcome r r' a n k e l' i x) : r'.arms = r.arms := by rw [h.frame]

theorem Outcome.arm (h : Outcome r r' a n k e l' i x) (b : ArmId) : r'.arm b = r.arm b := Rack.arm_of_arms h.arms b

theorem Outcome.slotConfig (h : Outcome r r' a n k e l' i x) (b : ArmId) (m : SlotId) : r'.slotConfig b m = r.slotConfig b m := by
  unfold Rack.slotConfig
  rw [h.arm]

theorem Outcome.injector_own (h : Outcome r r' a n k e l' i x) : r'.injector a n = i := by simp [h.injector]

theorem Outcome.additive_own (h : Outcome r r' a n k e l' i x) : r'.additive k.additive = x := by simp [h.additive]

theorem Outcome.injector_other (h : Outcome r r' a n k e l' i x) {b : ArmId} {m : SlotId} (other : ¬(b = a ∧ m = n)) :
    r'.injector b m = r.injector b m := by
  rw [h.injector, if_neg (fun same => other ⟨same.1.symm, same.2.symm⟩)]

theorem Outcome.additive_other (h : Outcome r r' a n k e l' i x) {y : AdditiveId} (other : y ≠ k.additive) : r'.additive y = r.additive y := by
  rw [h.additive, if_neg (Ne.symm other)]

theorem Outcome.currentLine (h : Outcome r r' a n k e l' i x) (current : (r.arm a).current = some e) : r'.currentLine a = some l' := by
  rw [Rack.currentLine_of (e := e) (by rw [h.arm]; exact current), h.line, if_pos ⟨rfl, rfl⟩]

/-- The level of the channel's input is the outcome's to give. -/
theorem Outcome.of_level {f : Injector → Injector} (h : Outcome (r.modInjector a n f) r' a n k e l' i x) : Outcome r r' a n k e l' i x where
  injector b m := by
    rw [h.injector, Rack.modInjector_injector]
    split <;> rfl
  additive y := by rw [h.additive, Rack.modInjector_additive_of]
  line o m := by rw [h.line, Rack.modInjector_line_of]
  face o := by rw [h.face, Rack.modInjector_order_of]
  frame := h.frame

/-! ### The current line changed -/

theorem Rack.modCurrentLine_face {f : Line → Line} (o : Nat) :
    ((r.modCurrentLine a f).order? o).map (fun y => { y with lines := [] }) = (r.order? o).map (fun y => { y with lines := [] }) := by
  unfold Rack.modCurrentLine
  split
  · rename_i e _
    rw [Rack.modLine, Rack.modOrder_order r e.order o (fun y => y.modLine e.line f) (fun _ => rfl)]
    split
    · cases r.order? o <;> rfl
    · rfl
  · rfl

theorem Rack.modCurrentLine_here (current : (r.arm a).current = some e) (line : r.line? e.order e.line = some l) {f : Line → Line}
    (number : ∀ y, (f y).number = y.number) (o m : Nat) :
    (r.modCurrentLine a f).line? o m = if e.order = o ∧ e.line = m then some (f l) else r.line? o m := by
  rw [Rack.modCurrentLine_line r current f number]
  split
  · rename_i here
    rw [← here.1, ← here.2, line]
    rfl
  · rfl

/-! ### GOOD (R149) -/

/-- A channel whose stroke has ended. -/
def Injector.ended (i : Injector) : Injector := { i with phase := .none, opened := none, riseTime := none }

/-- A line that has gained a good stroke on one of its dose entries. -/
def Line.dispensed (j stroke : Nat) (l : Line) : Line :=
  { l with doses := l.doses.modify j (fun y =>
      { y with dispensed := min 999999999 (y.dispensed + stroke), remaining := y.remaining - stroke }) }

/-- An additive that a good stroke has drawn on. -/
def Additive.drawn (stroke : Nat) (d : DoseRecord) (x : Additive) : Additive :=
  { x with stock := x.stock - stroke, inFlight := x.inFlight - stroke, reserved := x.reserved - min d.remaining stroke }

theorem Rack.servedDose_of (place : (r.injector a n).served = some j) (line : r.currentLine a = some l) : r.servedDose a n = l.doses[j]? := by
  unfold Rack.servedDose
  rw [place, line]
  rfl

theorem Rack.endStroke_injector (b : ArmId) (m : SlotId) :
    (r.endStroke a n).injector b m = if a = b ∧ n = m then (r.injector a n).ended else r.injector b m :=
  Rack.modInjector_injector r a b n m Injector.ended

theorem Rack.goodStroke_outcome (current : (r.arm a).current = some e) (line : r.currentLine a = some l)
    (place : (r.injector a n).served = some j) (dose : l.doses[j]? = some d) :
    Outcome r (r.goodStroke a n k) a n k e (l.dispensed j k.stroke) { (r.injector a n).ended with misses := 0 }
      ((r.additive k.additive).drawn k.stroke d) := by
  have serves : r.servedDose a n = some d := (Rack.servedDose_of place line).trans dose
  have made : r.goodStroke a n k = (((r.endStroke a n).modCurrentLine a (Line.dispensed j k.stroke)).modAdditive k.additive
      (Additive.drawn k.stroke d)).modInjector a n (fun i => { i with misses := 0 }) := by
    unfold Rack.goodStroke
    rw [place, serves]
    rfl
  have line' : (r.endStroke a n).line? e.order e.line = some l := (Rack.currentLine_of current).symm.trans line
  have injectors (b : ArmId) (m : SlotId) :
      ((r.endStroke a n).modCurrentLine a (Line.dispensed j k.stroke)).injector b m = (r.endStroke a n).injector b m :=
    Rack.injector_eq (Rack.modCurrentLine_injectors _ _ _) b m
  have additives (y : AdditiveId) :
      ((r.endStroke a n).modCurrentLine a (Line.dispensed j k.stroke)).additive y = r.additive y :=
    congrArg (fun v : Vector Additive 8 => v[y]) (Rack.modCurrentLine_additives (r.endStroke a n) a _)
  rw [made]
  refine ⟨fun b m => ?_, fun y => ?_, fun o m => ?_, fun o => ?_, ?_⟩
  · rw [Rack.modInjector_injector, Rack.modAdditive_injector_of, Rack.modAdditive_injector_of, injectors, injectors,
      Rack.endStroke_injector, Rack.endStroke_injector]
    split <;> simp
  · rw [Rack.modInjector_additive_of, Rack.modAdditive_additive, additives, additives]
  · rw [Rack.modInjector_line_of, Rack.modAdditive_line_of,
      Rack.modCurrentLine_here (r := r.endStroke a n) (e := e) current line' (f := Line.dispensed j k.stroke) (fun _ => rfl)]
    rfl
  · rw [Rack.modInjector_order_of, Rack.modAdditive_order_of, Rack.modCurrentLine_face]
    rfl
  · apply Rack.eq_of_fields <;> simp

/-! ### A miss (R150) -/

/-- A line whose DOSE_LIMITED is tested: it gains the flag where the test holds (R145). -/
def Line.limited (test : Bool) (l : Line) : Line := { l with flags := { l.flags with doseLimited := l.flags.doseLimited || test } }

/-- A line that counts a miss on one of its dose entries. -/
def Line.missed (j : Nat) (l : Line) : Line :=
  { l with doses := l.doses.modify j (fun y => { y with misses := min 65535 (y.misses + 1) }) }

/-- A channel owes more than it did, and four strokes or more (R145). -/
def owesFour (before owed stroke : Nat) : Bool := decide (before < owed) && decide (400 * stroke ≤ owed)

theorem Rack.addOwed_injector (stroke amount : Nat) (b : ArmId) (m : SlotId) :
    (r.addOwed a n stroke amount).injector b m = if a = b ∧ n = m then
      { r.injector a n with owed := min 999999999 ((r.injector a n).owed + amount) } else r.injector b m := by
  unfold Rack.addOwed
  dsimp only
  split
  · rw [Rack.injector_eq (Rack.modCurrentLine_injectors _ _ _), Rack.modInjector_injector]
    rfl
  · rw [Rack.modInjector_injector]
    rfl

theorem Rack.addOwed_line (current : (r.arm a).current = some e) (line : r.line? e.order e.line = some l) (stroke amount o m : Nat) :
    (r.addOwed a n stroke amount).line? o m = if e.order = o ∧ e.line = m then
      some (l.limited (owesFour (r.injector a n).owed (min 999999999 ((r.injector a n).owed + amount)) stroke)) else r.line? o m := by
  unfold Rack.addOwed
  dsimp only
  split
  · rename_i four
    rw [Rack.modCurrentLine_here (r := r.modInjector a n _) (e := e) (l := l) current line (f := Line.flagDoseLimited) (fun _ => rfl), Rack.modInjector_line_of]
    have holds : owesFour (r.injector a n).owed (min 999999999 ((r.injector a n).owed + amount)) stroke = true := by
      simpa [owesFour, satAdd, owedMax] using four
    rw [holds, Line.limited, Bool.or_true]
    rfl
  · rename_i fewer
    have fails : owesFour (r.injector a n).owed (min 999999999 ((r.injector a n).owed + amount)) stroke = false := by
      simpa [owesFour, satAdd, owedMax] using fewer
    rw [fails, Line.limited, Bool.or_false, Rack.modInjector_line_of]
    split
    · rename_i here
      rw [← here.1, ← here.2, line]
    · rfl

theorem Rack.addOwed_face (stroke amount o : Nat) :
    ((r.addOwed a n stroke amount).order? o).map (fun y => { y with lines := [] }) =
      (r.order? o).map (fun y => { y with lines := [] }) := by
  unfold Rack.addOwed
  dsimp only
  split
  · rw [Rack.modCurrentLine_face, Rack.modInjector_order_of]
  · rw [Rack.modInjector_order_of]

/-- The channel after a miss: its stroke has ended and is owed again, and the miss is counted. -/
def Injector.missed (stroke : Nat) (i : Injector) : Injector :=
  { i.ended with owed := min 999999999 (i.owed + 100 * stroke), misses := min 255 (i.misses + 1) }

/-- The line after a miss: DOSE_LIMITED tested, and the miss counted. -/
def Line.strokeMissed (i : Injector) (j stroke : Nat) (l : Line) : Line :=
  (l.limited (owesFour i.owed (min 999999999 (i.owed + 100 * stroke)) stroke)).missed j

/-- A miss: its counts, and ADDITIVE where they reach the limit. -/
theorem Rack.missStroke_outcome (c : Conditions) (current : (r.arm a).current = some e) (line : r.currentLine a = some l)
    (place : (r.injector a n).served = some j) :
    ∃ q, Outcome r q a n k e (l.strokeMissed (r.injector a n) j k.stroke) ((r.injector a n).missed k.stroke)
        { r.additive k.additive with inFlight := (r.additive k.additive).inFlight - k.stroke } ∧
      r.missStroke c a n k = if k.missLimit ≤ min 255 ((r.injector a n).misses + 1) then q.raiseCause c a .additive else q := by
  let freed := (r.endStroke a n).modAdditive k.additive (fun x => { x with inFlight := x.inFlight - k.stroke })
  let owing := freed.addOwed a n k.stroke (100 * k.stroke)
  let counted := owing.modCurrentLine a (Line.missed j)
  have line' : freed.line? e.order e.line = some l := (Rack.currentLine_of current).symm.trans line
  have channel (b : ArmId) (m : SlotId) : freed.injector b m = if a = b ∧ n = m then (r.injector a n).ended else r.injector b m :=
    Rack.endStroke_injector b m
  have own : freed.injector a n = (r.injector a n).ended := by simp [channel]
  have lines (o m : Nat) := Rack.addOwed_line (n := n) (e := e) (r := freed) current line' k.stroke (100 * k.stroke) o m
  have injectors (b : ArmId) (m : SlotId) : counted.injector b m = owing.injector b m :=
    Rack.injector_eq (Rack.modCurrentLine_injectors _ _ _) b m
  have additives (y : AdditiveId) : counted.additive y = freed.additive y :=
    congrArg (fun v : Vector Additive 8 => v[y]) ((Rack.modCurrentLine_additives owing a _).trans (Rack.addOwed_additives freed a n _ _))
  have current' : (owing.arm a).current = some e := by
    rw [Rack.arm_of_arms (Rack.addOwed_arms freed a n _ _)]
    exact current
  have outcome : Outcome r (counted.modInjector a n (fun i => { i with misses := satAdd 255 i.misses 1 })) a n k e
      (l.strokeMissed (r.injector a n) j k.stroke) ((r.injector a n).missed k.stroke)
      { r.additive k.additive with inFlight := (r.additive k.additive).inFlight - k.stroke } := by
    refine ⟨fun b m => ?_, fun y => ?_, fun o m => ?_, fun o => ?_, ?_⟩
    · rw [Rack.modInjector_injector, injectors, injectors, Rack.addOwed_injector, Rack.addOwed_injector, own, channel]
      split <;> simp [Injector.missed, Injector.ended, satAdd]
    · rw [Rack.modInjector_additive_of, additives]
      exact Rack.modAdditive_additive _ _ _ _
    · rw [Rack.modInjector_line_of,
        Rack.modCurrentLine_here (e := e) current' ((lines e.order e.line).trans (if_pos ⟨rfl, rfl⟩)) (f := Line.missed j) (fun _ => rfl),
        lines, own]
      split <;> rfl
    · rw [Rack.modInjector_order_of, Rack.modCurrentLine_face, Rack.addOwed_face]
      rfl
    · apply Rack.eq_of_fields <;> simp [counted, owing, freed]
  refine ⟨_, outcome, ?_⟩
  have made : r.missStroke c a n k =
      if k.missLimit ≤ ((counted.modInjector a n (fun i => { i with misses := satAdd 255 i.misses 1 })).injector a n).misses then
        (counted.modInjector a n (fun i => { i with misses := satAdd 255 i.misses 1 })).raiseCause c a .additive
      else counted.modInjector a n (fun i => { i with misses := satAdd 255 i.misses 1 }) := by
    unfold Rack.missStroke
    rw [place]
    rfl
  rw [made, outcome.injector_own]
  rfl

end Sys2Proof.Machine
end

section
/-! PROOF. The stroke test and the events that end a stroke: GOOD strokes (O44), misses (O46), and the outcome at which a quiet close
settles (O47). -/

namespace Sys2Proof.Machine

variable {c : Conditions} {r r' q : Rack} {a : ArmId} {n : SlotId} {k : SlotConfig} {j : Nat} {d : DoseRecord} {e : QueueEntry} {l l' : Line}
  {i : Injector} {x : Additive}

/-! ### A cause that is not PERMISSIVE -/

theorem Rack.raiseCause_reached {cause : Cause} (closing : (r.arm a).state = .closing) (other : cause ≠ .permissive) :
    r.raiseCause c a cause = r.modArm a (Arm.reached cause) := by
  unfold Rack.raiseCause
  rw [if_neg (by simp [closing, ArmState.isFlow]), if_pos closing]
  split
  · rename_i suspend
    exact Rack.modArm_congr (by rw [Arm.reached, if_pos suspend])
  · rename_i intent
    exact Rack.modArm_congr (by rw [Arm.reached, if_neg intent, if_neg other])

theorem Rack.raiseCause_orders {cause : Cause} (other : cause ≠ .permissive) : (r.raiseCause c a cause).orders = r.orders := by
  by_cases flow : (r.arm a).state.isFlow = true
  · rw [Rack.raiseCause_flow_fields flow]
  · by_cases closing : (r.arm a).state = .closing
    · rw [Rack.raiseCause_reached closing other]
      rfl
    · rw [Rack.raiseCause_still c r a cause (by simp [ArmState.isRunning, flow, closing])]

theorem Rack.raiseCause_line_same {cause : Cause} (other : cause ≠ .permissive) (b : ArmId) :
    (r.raiseCause c a cause).currentLine b = r.currentLine b :=
  Rack.currentLine_eq (Rack.raiseCause_orders other) (Rack.raiseCause_current a b cause)

theorem Rack.raiseCause_injector (cause : Cause) (b : ArmId) (m : SlotId) : (r.raiseCause c a cause).injector b m = r.injector b m :=
  Rack.injector_eq (Rack.raiseCause_injectors r c a cause) b m

theorem Rack.raiseCause_additive (cause : Cause) (y : AdditiveId) : (r.raiseCause c a cause).additive y = r.additive y :=
  congrArg (fun v : Vector Additive 8 => v[y]) (Rack.raiseCause_additives r c a cause)

theorem joinCause_additive (cs : List Cause) : joinCause .additive cs = if Cause.additive ∈ cs then cs else cs ++ [.additive] := by
  have same (y : Cause) : sameCause .additive y = decide (Cause.additive = y) := by cases y <;> rfl
  unfold joinCause
  congr 1
  simp [List.any_eq_true, same]

theorem joinCause_additiveStock (y : AdditiveId) (n : SlotId) (cs : List Cause) :
    joinCause (.additiveStock y n) cs = cs ++ if ∃ m : SlotId, Cause.additiveStock y m ∈ cs then [] else [.additiveStock y n] := by
  have same (z : Cause) : sameCause (.additiveStock y n) z = true ↔ ∃ m, z = .additiveStock y m := by
    cases z <;> simp [sameCause, eq_comm]
  have standing : cs.any (sameCause (.additiveStock y n)) = true ↔ ∃ m : SlotId, Cause.additiveStock y m ∈ cs := by
    rw [List.any_eq_true]
    constructor
    · rintro ⟨z, mem, is⟩
      obtain ⟨m, rfl⟩ := (same z).mp is
      exact ⟨m, mem⟩
    · rintro ⟨m, mem⟩
      exact ⟨_, mem, (same _).mpr ⟨m, rfl⟩⟩
  unfold joinCause
  by_cases stands : ∃ m : SlotId, Cause.additiveStock y m ∈ cs
  · rw [if_pos (standing.mpr stands), if_pos stands, List.append_nil]
  · rw [if_neg (fun h => stands (standing.mp h)), if_neg stands]

/-! ### The stroke test (R146) -/

theorem Rack.strokeTest_idle (slot : r.slotConfig a n = some k)
    (idle : (r.injector a n).owed < 100 * k.stroke ∨ (r.injector a n).phase ≠ .none ∨ (r.arm a).quiet = true) :
    r.strokeTest c a n = r := by
  unfold Rack.strokeTest
  rw [slot]
  refine if_neg (fun due => ?_)
  unfold Rack.strokeDue at due
  simp only [Bool.and_eq_true, decide_eq_true_eq, Bool.not_eq_true'] at due
  obtain ⟨⟨⟨⟨-, owed⟩, phase⟩, -⟩, quiet⟩ := due
  rcases idle with fewer | inFlight | still
  · omega
  · exact inFlight phase
  · rw [still] at quiet
    cases quiet

theorem Rack.strokeTest_due (slot : r.slotConfig a n = some k) (serves : (r.servedDose a n).isSome = true)
    (owed : 100 * k.stroke ≤ (r.injector a n).owed) (phase : (r.injector a n).phase = .none) (running : (r.arm a).state.isRunning = true)
    (awake : (r.arm a).quiet = false) :
    r.strokeTest c a n = if (r.additive k.additive).inFlight + k.stroke ≤ (r.additive k.additive).stock then r.startStroke c a n k
      else r.shortStock c a n k.additive := by
  unfold Rack.strokeTest
  rw [slot]
  exact if_pos (by simp [Rack.strokeDue, serves, owed, phase, running, awake])

theorem Rack.shortStock_raises (y : AdditiveId)
    (h : (r.arm a).state.isFlow = true ∨ (r.arm a).state = .closing ∧ (r.arm a).intent = some .suspend) :
    r.shortStock c a n y = r.raiseCause c a (.additiveStock y n) := by
  unfold Rack.shortStock
  split
  · rfl
  · rename_i noFlow
    obtain ⟨closing, suspend⟩ := h.resolve_left noFlow
    rw [if_pos closing, if_pos suspend]

theorem Rack.shortStock_marks (y : AdditiveId) (closing : (r.arm a).state = .closing) (intent : (r.arm a).intent ≠ some .suspend) :
    r.shortStock c a n y = r.modCurrentLine a Line.flagUnderDose := by
  unfold Rack.shortStock
  rw [if_neg (by simp [closing, ArmState.isFlow]), if_pos closing, if_neg intent]

theorem Rack.startStroke_additive (y : AdditiveId) :
    (r.startStroke c a n k).additive y = if k.additive = y then
      { r.additive k.additive with inFlight := (r.additive k.additive).inFlight + k.stroke } else r.additive y := by
  unfold Rack.startStroke
  rw [Rack.modInjector_additive_of, Rack.modAdditive_additive]

theorem Rack.settleIfStill_awake (awake : (r.arm a).quiet = false) : r.settleIfStill c a = r :=
  if_neg (fun ⟨_, quiet, _⟩ => by rw [awake] at quiet; cases quiet)

/-! ### The events that end a stroke (R148) -/

/-- An event that ends a stroke in flight: the rise timer or the active timer runs out, or the feedback falls, GOOD from the minimum
feedback time on. `level` is the feedback input after it. -/
def strokeEnds (s : State) (a : ArmId) (n : SlotId) (i : Instr) (level good : Bool) (k : SlotConfig) (x : Stamp) : Prop :=
  (s.rack.injector a n).phase = .waitRise ∧ (s.rack.injector a n).opened = some x ∧ i = .riseTimerExpiry a n ∧
      level = (s.rack.injector a n).feedback ∧ k.fbMax ≤ s.cond.age x ∧ good = false ∨
    (s.rack.injector a n).phase = .feedbackActive ∧ (s.rack.injector a n).riseTime = some x ∧ i = .activeTimerExpiry a n ∧
      level = (s.rack.injector a n).feedback ∧ k.fbMax ≤ s.cond.age x ∧ good = false ∨
    (s.rack.injector a n).phase = .feedbackActive ∧ (s.rack.injector a n).riseTime = some x ∧ i = .feedbackFall a n ∧
      (s.rack.injector a n).feedback = true ∧ level = false ∧ good = decide (k.fbMin ≤ s.cond.age x)

theorem Rack.modInjector_same {f : Injector → Injector} (same : f (r.injector a n) = r.injector a n) : r.modInjector a n f = r := by
  have injectors : (r.modInjector a n f).injectors = r.injectors := by
    unfold Rack.modInjector
    rw [same]
    simp [Rack.injector]
  apply Rack.eq_of_fields <;> simp [injectors]

theorem Rack.strokeOutcome_eq (slot : r.slotConfig a n = some k) (good : Bool) :
    r.strokeOutcome c a n good =
      ((if good then r.goodStroke a n k else r.missStroke c a n k).strokeTest c a n).settleIfStill c a := by
  unfold Rack.strokeOutcome
  rw [slot]

theorem exec_strokeEnds {s : State} {i : Instr} {level good : Bool} {x : Stamp} (ends : strokeEnds s a n i level good k x)
    (slot : s.rack.slotConfig a n = some k) :
    exec i s = .next { s with rack :=
      ((s.rack.modInjector a n (fun y => { y with feedback := level })).strokeOutcome s.cond a n good).pump } := by
  have most : s.rack.feedbackMax a n = k.fbMax := by simp [Rack.feedbackMax, slot]
  rcases ends with ⟨phase, opened, rfl, rfl, out, rfl⟩ | ⟨phase, rise, rfl, rfl, out, rfl⟩ | ⟨phase, rise, rfl, level, rfl, rfl⟩
  · have timedOut : riseTimedOut s.cond s.rack a n = true := by
      simp [riseTimedOut, phase, opened, most, Conditions.timerRunOut, out]
    rw [Rack.modInjector_same rfl]
    exact if_pos timedOut
  · have timedOut : activeTimedOut s.cond s.rack a n = true := by
      simp [activeTimedOut, phase, rise, most, Conditions.timerRunOut, out]
    rw [Rack.modInjector_same rfl]
    exact if_pos timedOut
  · have good : s.rack.activeLongEnough s.cond a n = decide (k.fbMin ≤ s.cond.age x) := by
      simp [Rack.activeLongEnough, rise, slot, Conditions.timerRunOut]
    have falls : s.rack.feedbackFall s.cond a n = (s.rack.modInjector a n (fun y => { y with feedback := false })).strokeOutcome
        s.cond a n (decide (k.fbMin ≤ s.cond.age x)) := by
      unfold Rack.feedbackFall
      rw [if_pos phase, good]
    rw [← falls]
    exact if_pos level

/-- What the outcome leaves of line, channel and additive. -/
def Line.afterStroke (good : Bool) (i : Injector) (j stroke : Nat) (l : Line) : Line :=
  if good = true then l.dispensed j stroke else l.strokeMissed i j stroke

def Injector.afterStroke (good level : Bool) (stroke : Nat) (i : Injector) : Injector :=
  if good = true then { i.ended with feedback := level, misses := 0 } else { i.missed stroke with feedback := level }

def Additive.afterStroke (good : Bool) (stroke : Nat) (d : DoseRecord) (x : Additive) : Additive :=
  if good = true then x.drawn stroke d else { x with inFlight := x.inFlight - stroke }

theorem exec_outcome {s : State} {i : Instr} {level good : Bool} {x : Stamp} (ends : strokeEnds s a n i level good k x)
    (slot : s.rack.slotConfig a n = some k) (place : (s.rack.injector a n).served = some j) (current : (s.rack.arm a).current = some e)
    (line : s.rack.currentLine a = some l) (dose : l.doses[j]? = some d) :
    ∃ q, Outcome s.rack q a n k e (l.afterStroke good (s.rack.injector a n) j k.stroke)
        ((s.rack.injector a n).afterStroke good level k.stroke) ((s.rack.additive k.additive).afterStroke good k.stroke d) ∧
      exec i s = .next { s with rack :=
        (((if good = false ∧ k.missLimit ≤ min 255 ((s.rack.injector a n).misses + 1) then q.raiseCause s.cond a .additive
          else q).strokeTest s.cond a n).settleIfStill s.cond a).pump } := by
  have own : (s.rack.modInjector a n (fun y => { y with feedback := level })).injector a n =
      { s.rack.injector a n with feedback := level } := (Rack.modInjector_injector _ _ _ _ _ _).trans (if_pos ⟨rfl, rfl⟩)
  have place' : ((s.rack.modInjector a n (fun y => { y with feedback := level })).injector a n).served = some j := by
    rw [own]
    exact place
  rw [exec_strokeEnds ends slot,
    Rack.strokeOutcome_eq (r := s.rack.modInjector a n (fun y => { y with feedback := level })) (k := k) slot]
  cases good with
  | true =>
    refine ⟨(s.rack.modInjector a n (fun y => { y with feedback := level })).goodStroke a n k, ?_,
      by simp only [Bool.true_eq_false, false_and, if_true, if_false]⟩
    have outcome := Rack.goodStroke_outcome (k := k) (r := s.rack.modInjector a n (fun y => { y with feedback := level }))
      current line place' dose
    rw [own] at outcome
    exact outcome.of_level
  | false =>
    obtain ⟨q, outcome, made⟩ := Rack.missStroke_outcome (k := k) (r := s.rack.modInjector a n (fun y => { y with feedback := level })) s.cond
      current line place'
    rw [own] at outcome made
    refine ⟨q, outcome.of_level, ?_⟩
    simp only [Bool.false_eq_true, if_false, true_and]
    rw [made]

/-! ### The outcome in CLOSING (R112, R114) -/

/-- The causes of an arm in CLOSING after a stroke: ADDITIVE joins those of a suspending close where a miss has reached the limit (R112). -/
def Arm.joined (missed : Bool) (x : Arm) : List Cause :=
  if missed = true ∧ x.intent = some .suspend ∧ Cause.additive ∉ x.causes then x.causes ++ [.additive] else x.causes

theorem Rack.modArm_same {f : Arm → Arm} (same : f (r.arm a) = r.arm a) : r.modArm a f = r := by
  have arms : (r.modArm a f).arms = r.arms := by
    unfold Rack.modArm Rack.setArm
    rw [same]
    simp [Rack.arm]
  apply Rack.eq_of_fields <;> simp [arms]

theorem Rack.raised_closing (closing : (r.arm a).state = .closing) {p : Prop} [Decidable p] :
    (if p then r.raiseCause c a .additive else r) = r.modArm a (fun x => { x with causes := x.joined (decide p) }) := by
  split
  · rename_i limit
    rw [Rack.raiseCause_reached closing (by decide)]
    refine Rack.modArm_congr ?_
    unfold Arm.reached Arm.joined
    simp only [limit, decide_true, true_and, refreshedAfter, joinCause_additive, reduceCtorEq, if_false]
    by_cases suspend : (r.arm a).intent = some .suspend
    · by_cases stands : Cause.additive ∈ (r.arm a).causes <;> simp [suspend, stands]
    · simp [suspend]
  · rename_i fewer
    exact (Rack.modArm_same (by simp [Arm.joined, fewer])).symm

theorem Rack.marked_arm {f : Arm → Arm} (b : ArmId) (h : b ≠ a) : (r.modArm a f).arm b = r.arm b := by
  rw [Rack.modArm_arm, if_neg (Ne.symm h)]

/-- Settles O47: the last stroke's outcome leaves the arm still, and the close settles on the line as the outcome leaves it. -/
theorem quietOutcomeSettles : Obligations.QuietOutcomeSettles := by
  intro a n s i level good k x j d e l l' owed misses joined ends slot place current line dose closing quiet still owedIs missesIs lineIs joinedIs
  obtain ⟨q, outcome, taken⟩ := exec_outcome ends slot place current line dose
  have closing' : (q.arm a).state = .closing := by rw [outcome.arm]; exact closing
  rw [Rack.raised_closing closing'] at taken
  generalize missed : decide (good = false ∧ k.missLimit ≤ min 255 ((s.rack.injector a n).misses + 1)) = limit at taken
  have after : l.afterStroke good (s.rack.injector a n) j k.stroke = l' := by
    rw [lineIs, owedIs]
    rfl
  rw [after] at outcome
  have causes : (q.arm a).joined limit = joined := by
    rw [outcome.arm, joinedIs, ← missed, missesIs]
    unfold Arm.joined
    congr 1
    simp only [decide_eq_true_eq, eq_iff_iff]
    tauto
  let w := q.modArm a (fun x => { x with causes := x.joined limit })
  have own : w.arm a = { s.rack.arm a with causes := joined } := by
    rw [Rack.modArm_arm, if_pos rfl, causes, outcome.arm]
  have channel : w.injector a n = (s.rack.injector a n).afterStroke good level k.stroke := outcome.injector_own
  have idle : (w.injector a n).phase = .none := by
    rw [channel]
    cases good <;> rfl
  have slot' : w.slotConfig a n = some k := by
    unfold Rack.slotConfig
    rw [own]
    exact slot
  have settles : (w.strokeTest s.cond a n).settleIfStill s.cond a = w.settle s.cond a := by
    rw [Rack.strokeTest_idle slot' (.inr (.inr (by rw [own]; exact quiet)))]
    refine if_pos ⟨by rw [own]; exact closing, by rw [own]; exact quiet, Rack.noStroke_iff.mpr (fun m => ?_)⟩
    by_cases same : m = n
    · rw [same]
      exact idle
    · exact (congrArg Injector.phase (outcome.injector_other (fun h => same h.2))).trans (still m same)
  refine ⟨_, w, taken, rfl, rfl, ?_, ?_, own, fun b ne => (Rack.marked_arm b ne).trans (outcome.arm b), ?_, fun o m other => ?_, outcome.face,
    outcome.additive_own.trans ?_, fun y ne => outcome.additive_other ne, channel.trans ?_, fun b m other => outcome.injector_other other⟩
  · dsimp only
    rw [settles]
    exact Rack.settle_settled (by rw [own]; exact closing) (by rw [own]; exact current) ((outcome.line _ _).trans (if_pos ⟨rfl, rfl⟩))
  · rw [show w = q.modArm a _ from rfl, outcome.frame]
    rfl
  · rw [Rack.currentLine_of (e := e) (by rw [own]; exact current)]
    exact (outcome.line _ _).trans (if_pos ⟨rfl, rfl⟩)
  · exact (outcome.line o m).trans (if_neg (fun same => other ⟨same.1.symm, same.2.symm⟩))
  · cases good <;> rfl
  · rw [owedIs, missesIs]
    cases good <;> rfl

end Sys2Proof.Machine
end

section
/-! PROOF. A GOOD stroke and the next one (O44), a missed stroke and its repetition (O46). -/

namespace Sys2Proof.Machine

variable {c : Conditions} {r r' q : Rack} {a : ArmId} {n : SlotId} {k : SlotConfig} {j : Nat} {d : DoseRecord} {e : QueueEntry} {l l' : Line}
  {i : Injector} {x : Additive}

/-! ### Feedback rises (R148) -/

theorem Rack.modInjector_congr {f g : Injector → Injector} (h : f (r.injector a n) = g (r.injector a n)) :
    r.modInjector a n f = r.modInjector a n g := by
  unfold Rack.modInjector
  rw [h]

theorem exec_feedbackRise {s : State} {f : Injector → Injector} (low : (s.rack.injector a n).feedback = false)
    (rises : (s.rack.injector a n).rise s.cond = f (s.rack.injector a n)) :
    exec (.feedbackRise a n) s = .next { s with rack := (s.rack.modInjector a n f).pump } := by
  rw [← Rack.modInjector_congr rises]
  exact if_neg (by simp [low])

theorem Injector.rise_waiting (c : Conditions) (h : i.phase = .waitRise) : i.rise c =
    { i with feedback := true, phase := .feedbackActive, opened := none, riseTime := some { time := c.time, full := false } } := by
  unfold Injector.rise
  rw [h]
  rfl

theorem Injector.rise_other (c : Conditions) (h : i.phase ≠ .waitRise) : i.rise c = { i with feedback := true } := by
  unfold Injector.rise
  split
  · exact absurd ‹_› h
  · rfl
  · rfl

theorem Rack.pump_injector (r : Rack) (b : ArmId) (m : SlotId) : r.pump.injector b m = r.injector b m :=
  Rack.injector_eq (Rack.pump_injectors r) b m

theorem Rack.pump_additive (r : Rack) (y : AdditiveId) : r.pump.additive y = r.additive y :=
  congrArg (fun v : Vector Additive 8 => v[y]) (Rack.pump_additives r)

/-! ### The stroke test after an outcome -/

theorem Line.afterStroke_dose (good : Bool) (stroke : Nat) (dose : l.doses[j]? = some d) :
    ((l.afterStroke good i j stroke).doses[j]?).isSome = true := by
  obtain ⟨bound, -⟩ := List.getElem?_eq_some_iff.mp dose
  cases good <;>
    simp [Line.afterStroke, Line.dispensed, Line.strokeMissed, Line.missed, Line.limited, bound]

theorem Injector.afterStroke_served (good level : Bool) (stroke : Nat) : (i.afterStroke good level stroke).served = i.served := by
  cases good <;> rfl

theorem Injector.afterStroke_phase (good level : Bool) (stroke : Nat) : (i.afterStroke good level stroke).phase = .none := by
  cases good <;> rfl

/-- A channel as its next stroke starts. -/
def Injector.started (c : Conditions) (stroke : Nat) (i : Injector) : Injector :=
  { i with owed := i.owed - 100 * stroke, phase := .waitRise, opened := some { time := c.time, full := false }, riseTime := none }

/-- Only the channel and the additive of the slot change as a stroke starts. -/
theorem Outcome.startStroke (h : Outcome r q a n k e l' i x) :
    Outcome r (q.startStroke c a n k) a n k e l' (i.started c k.stroke) { x with inFlight := x.inFlight + k.stroke } where
  injector b m := by
    rw [Rack.startStroke_injector, h.injector_own, h.injector]
    split <;> rfl
  additive y := by
    rw [Rack.startStroke_additive, h.additive_own, h.additive]
    split <;> rfl
  line o m := (Rack.line_eq (Rack.startStroke_orders q c a n k) o m).trans (h.line o m)
  face o := (congrArg (Option.map _) (Rack.order_eq (Rack.startStroke_orders q c a n k) o)).trans (h.face o)
  frame := by
    have frame := h.frame
    apply Rack.eq_of_fields <;> simp <;> rw [frame]

theorem Outcome.test_idle (h : Outcome r q a n k e l' i x) (slot : r.slotConfig a n = some k)
    (idle : i.owed < 100 * k.stroke ∨ (r.arm a).quiet = true) : q.strokeTest c a n = q := by
  refine Rack.strokeTest_idle ((h.slotConfig a n).trans slot) ?_
  rw [h.injector_own, h.arm]
  exact idle.elim .inl (fun quiet => .inr (.inr quiet))

/-- A rack in which an outcome stands with its line, channels and additives, while the arm may have met a cause. -/
structure Outcome.Stands (q w : Rack) (a : ArmId) : Prop where
  orders : w.orders = q.orders
  injectors : w.injectors = q.injectors
  additives : w.additives = q.additives
  config : (w.arm a).config = (q.arm a).config
  current : (w.arm a).current = (q.arm a).current

theorem Outcome.Stands.currentLine {w : Rack} (stands : Outcome.Stands q w a) : w.currentLine a = q.currentLine a :=
  Rack.currentLine_eq stands.orders stands.current

/-- The stroke test after an outcome, in an arm that runs and is not quiet. -/
theorem Outcome.test_stands {w : Rack} (h : Outcome r q a n k e l' i x) (stands : Outcome.Stands q w a) (slot : r.slotConfig a n = some k)
    (current : (r.arm a).current = some e) (place : i.served = some j) (dose : l'.doses[j]?.isSome = true) (owed : 100 * k.stroke ≤ i.owed)
    (phase : i.phase = .none) (running : (w.arm a).state.isRunning = true) (awake : (w.arm a).quiet = false) :
    w.strokeTest c a n = if x.inFlight + k.stroke ≤ x.stock then w.startStroke c a n k else w.shortStock c a n k.additive := by
  have channel : w.injector a n = i := (Rack.injector_eq stands.injectors a n).trans h.injector_own
  have additive : w.additive k.additive = x := (congrArg (fun v : Vector Additive 8 => v[k.additive]) stands.additives).trans h.additive_own
  have slot' : w.slotConfig a n = some k := by
    unfold Rack.slotConfig
    rw [stands.config, h.arm]
    exact slot
  have serves : (w.servedDose a n).isSome = true := by
    rw [Rack.servedDose_of (by rw [channel]; exact place) (stands.currentLine.trans (h.currentLine current))]
    exact dose
  rw [Rack.strokeTest_due slot' serves (by rw [channel]; exact owed) (by rw [channel]; exact phase) running awake, additive]

theorem Outcome.test_due (h : Outcome r q a n k e l' i x) (slot : r.slotConfig a n = some k) (current : (r.arm a).current = some e)
    (place : i.served = some j) (dose : l'.doses[j]?.isSome = true) (owed : 100 * k.stroke ≤ i.owed) (phase : i.phase = .none)
    (running : (r.arm a).state.isRunning = true) (awake : (r.arm a).quiet = false) :
    q.strokeTest c a n = if x.inFlight + k.stroke ≤ x.stock then q.startStroke c a n k else q.shortStock c a n k.additive :=
  h.test_stands ⟨rfl, rfl, rfl, rfl, rfl⟩ slot current place dose owed phase (by rw [h.arm]; exact running) (by rw [h.arm]; exact awake)

theorem Rack.startStroke_arm (b : ArmId) : (r.startStroke c a n k).arm b = r.arm b := rfl

/-! ### GOOD strokes (R149) -/

/-- The rack after a stock found short leaves every channel and every additive. -/
theorem Rack.shortStock_injector (y : AdditiveId) (b : ArmId) (m : SlotId) : (r.shortStock c a n y).injector b m = r.injector b m :=
  Rack.injector_eq (Rack.shortStock_injectors r c a n y) b m

theorem Rack.shortStock_additive (y z : AdditiveId) : (r.shortStock c a n y).additive z = r.additive z :=
  congrArg (fun v : Vector Additive 8 => v[z]) (Rack.shortStock_additives r c a n y)

/-- Stock short in a flow state: the line is suspended with ADDITIVE_STOCK. -/
theorem Rack.shortStock_flow (y : AdditiveId) (flow : (r.arm a).state.isFlow = true) :
    suspendingFor (r.shortStock c a n y) a (.additiveStock y n) ∧ (r.shortStock c a n y).currentLine a = r.currentLine a ∧
      ((r.shortStock c a n y).arm a).quiet = false := by
  rw [Rack.shortStock_raises y (.inl flow)]
  exact ⟨Rack.suspendingFor_raiseCause flow, Rack.raiseCause_line_same (by simp) a, by rw [Rack.raiseCause_flow _ _ _ _ flow]; rfl⟩

/-- Stock short in a suspending close: ADDITIVE_STOCK joins it, once for each additive. -/
theorem Rack.shortStock_suspending (y : AdditiveId) (closing : (r.arm a).state = .closing) (suspend : (r.arm a).intent = some .suspend) :
    (r.shortStock c a n y).arm a = { r.arm a with causes := (r.arm a).causes ++
      (if ∃ m : SlotId, Cause.additiveStock y m ∈ (r.arm a).causes then [] else [.additiveStock y n]) } ∧
    (r.shortStock c a n y).currentLine a = r.currentLine a := by
  rw [Rack.shortStock_raises y (.inr ⟨closing, suspend⟩)]
  refine ⟨?_, Rack.raiseCause_line_same (by simp) a⟩
  rw [Rack.raiseCause_closing closing, Arm.reached, if_pos suspend, joinCause_additiveStock]
  rfl

/-- Stock short in any other close: the line gains UNDER_DOSE. -/
theorem Rack.shortStock_closing (y : AdditiveId) (closing : (r.arm a).state = .closing) (intent : (r.arm a).intent ≠ some .suspend) :
    (r.shortStock c a n y).arm a = r.arm a ∧ (r.shortStock c a n y).currentLine a = (r.currentLine a).map Line.flagUnderDose := by
  rw [Rack.shortStock_marks y closing intent]
  exact ⟨Rack.modCurrentLine_arm r a a _, Rack.modCurrentLine_currentLine r a _ (fun _ => rfl)⟩

/-- Stock short leaves an arm that is not quiet so. -/
theorem Rack.shortStock_awake (y : AdditiveId) (awake : (r.arm a).quiet = false) : ((r.shortStock c a n y).arm a).quiet = false := by
  by_cases flow : (r.arm a).state.isFlow = true
  · exact (Rack.shortStock_flow y flow).2.2
  · by_cases closing : (r.arm a).state = .closing
    · by_cases suspend : (r.arm a).intent = some .suspend
      · rw [(Rack.shortStock_suspending y closing suspend).1]
        exact awake
      · rw [(Rack.shortStock_closing y closing suspend).1]
        exact awake
    · unfold Rack.shortStock
      rw [if_neg flow, if_neg closing]
      exact awake

/-- Settles O44: a rise by the channel's phase; a fall by its outcome and the stroke test behind it. -/
theorem goodStrokeDispenses : Obligations.GoodStrokeDispenses := by
  refine ⟨fun a n s low => ⟨fun waits => ?_, fun other => ?_⟩, fun a n s k x j d l level phase rise slot enough place line dose fewer awake => ?_,
    fun a n s k x j d l l' drawn ended level phase rise slot enough place line dose due running awake inFlight lineIs drawnIs endedIs => ?_⟩
  · exact exec_feedbackRise low (Injector.rise_waiting s.cond waits)
  · exact exec_feedbackRise low (Injector.rise_other s.cond other)
  · obtain ⟨e, o, current, -, -⟩ := Rack.currentLine_some line
    have ends : strokeEnds s a n (.feedbackFall a n) false true k x :=
      .inr (.inr ⟨phase, rise, rfl, level, rfl, (decide_eq_true enough).symm⟩)
    obtain ⟨q, outcome, taken⟩ := exec_outcome ends slot place current line dose
    rw [if_neg (by simp), outcome.test_idle slot (.inl (by exact fewer)),
      Rack.settleIfStill_awake (by rw [outcome.arm]; exact awake)] at taken
    refine ⟨_, taken, rfl, ?_, ?_, ?_, ?_, fun y ne => ?_, fun b m other => ?_⟩ <;> dsimp only
    · exact (Rack.pump_injector q a n).trans outcome.injector_own
    · exact (Rack.pump_additive q k.additive).trans outcome.additive_own
    · exact (Rack.pump_currentLine q a).trans (outcome.currentLine current)
    · have frame := outcome.frame
      apply Rack.eq_of_fields <;> simp <;> rw [frame]
    · exact (Rack.pump_additive q y).trans (outcome.additive_other ne)
    · exact (Rack.pump_injector q b m).trans (outcome.injector_other other)
  · obtain ⟨e, o, current, -, -⟩ := Rack.currentLine_some line
    have ends : strokeEnds s a n (.feedbackFall a n) false true k x :=
      .inr (.inr ⟨phase, rise, rfl, level, rfl, (decide_eq_true enough).symm⟩)
    obtain ⟨q, outcome, taken⟩ := exec_outcome ends slot place current line dose
    have lineAfter : l.afterStroke true (s.rack.injector a n) j k.stroke = l' := lineIs.symm
    have channelAfter : (s.rack.injector a n).afterStroke true false k.stroke = ended := endedIs.symm
    have stockAfter : (s.rack.additive k.additive).afterStroke true k.stroke d = drawn := drawnIs.symm
    have dose' := Line.afterStroke_dose (i := s.rack.injector a n) true k.stroke dose
    rw [lineAfter] at outcome dose'
    rw [channelAfter, stockAfter] at outcome
    have stroke : drawn.inFlight + k.stroke = (s.rack.additive k.additive).inFlight := by
      rw [drawnIs]
      exact Nat.sub_add_cancel inFlight
    have stock : drawn.stock = (s.rack.additive k.additive).stock - k.stroke := by rw [drawnIs]
    have awake' : (q.arm a).quiet = false := by rw [outcome.arm]; exact awake
    rw [if_neg (by simp), outcome.test_due slot current (by rw [endedIs]; exact place) dose' (by rw [endedIs]; exact due)
      (by rw [endedIs]) running awake] at taken
    by_cases covers : (s.rack.additive k.additive).inFlight + k.stroke ≤ (s.rack.additive k.additive).stock
    · rw [if_pos (by omega), Rack.settleIfStill_awake (r := q.startStroke s.cond a n k) awake'] at taken
      have started := outcome.startStroke (c := s.cond)
      refine ⟨_, taken, rfl, fun y ne => ?_, fun b m other => ?_, fun _ => ⟨?_, ?_, ?_, ?_⟩, fun short => by omega⟩ <;> dsimp only
      · exact (Rack.pump_additive _ y).trans (started.additive_other ne)
      · exact (Rack.pump_injector _ b m).trans (started.injector_other other)
      · rw [Rack.pump_injector, started.injector_own, endedIs]
        rfl
      · rw [Rack.pump_additive, started.additive_own, stroke]
      · rw [Rack.pump_arm, started.arm]
      · rw [Rack.pump_currentLine, started.currentLine current]
    · rw [if_neg (by omega), Rack.settleIfStill_awake (Rack.shortStock_awake _ awake')] at taken
      have line' := outcome.currentLine current
      refine ⟨_, taken, rfl, fun y ne => ?_, fun b m other => ?_, fun enough => absurd enough covers,
        fun _ => ⟨?_, ?_, fun flow => ?_, fun closing suspend => ?_, fun closing intent => ?_⟩⟩ <;> dsimp only
      · rw [Rack.pump_additive, Rack.shortStock_additive, outcome.additive_other ne]
      · rw [Rack.pump_injector, Rack.shortStock_injector, outcome.injector_other other]
      · rw [Rack.pump_injector, Rack.shortStock_injector, outcome.injector_own]
      · rw [Rack.pump_additive, Rack.shortStock_additive, outcome.additive_own]
      · obtain ⟨suspends, kept, -⟩ := Rack.shortStock_flow (c := s.cond) (n := n) k.additive (r := q) (by rw [outcome.arm]; exact flow)
        exact ⟨suspendingFor_pump suspends, (Rack.pump_currentLine _ a).trans (kept.trans line')⟩
      · obtain ⟨joins, kept⟩ := Rack.shortStock_suspending (c := s.cond) (n := n) k.additive (r := q) (by rw [outcome.arm]; exact closing)
          (by rw [outcome.arm]; exact suspend)
        exact ⟨(Rack.pump_currentLine _ a).trans (kept.trans line'), by rw [Rack.pump_arm, joins, outcome.arm]⟩
      · obtain ⟨kept, marks⟩ := Rack.shortStock_closing (c := s.cond) (n := n) k.additive (r := q) (by rw [outcome.arm]; exact closing)
          (by rw [outcome.arm]; exact intent)
        refine ⟨by rw [Rack.pump_arm, kept, outcome.arm], ?_⟩
        rw [Rack.pump_currentLine, marks, line']
        rfl

/-! ### Misses (R150) -/

theorem exec_riseTimer_left {s : State} {y : Stamp} (slot : s.rack.slotConfig a n = some k) (left : s.cond.age y < k.fbMax)
    (opened : (s.rack.injector a n).opened = some y) : exec (.riseTimerExpiry a n) s = .next s := by
  have most : s.rack.feedbackMax a n = k.fbMax := by simp [Rack.feedbackMax, slot]
  exact if_neg (by simp [riseTimedOut, opened, most, Conditions.timerRunOut, left])

theorem exec_activeTimer_left {s : State} {y : Stamp} (slot : s.rack.slotConfig a n = some k) (left : s.cond.age y < k.fbMax)
    (rise : (s.rack.injector a n).riseTime = some y) : exec (.activeTimerExpiry a n) s = .next s := by
  have most : s.rack.feedbackMax a n = k.fbMax := by simp [Rack.feedbackMax, slot]
  exact if_neg (by simp [activeTimedOut, rise, most, Conditions.timerRunOut, left])

theorem Arm.joined_causes (x : Arm) (p : Prop) [Decidable p] : x.joined (decide p) =
    if x.intent = some .suspend ∧ p ∧ Cause.additive ∉ x.causes then x.causes ++ [.additive] else x.causes := by
  unfold Arm.joined
  congr 1
  simp only [decide_eq_true_eq, eq_iff_iff]
  tauto

/-- ADDITIVE raised in a flow state leaves the outcome standing. -/
theorem Outcome.stands_raised (flow : (q.arm a).state.isFlow = true) : Outcome.Stands q (q.raiseCause c a .additive) a :=
  ⟨Rack.raiseCause_orders (by decide), Rack.raiseCause_injectors q c a _, Rack.raiseCause_additives q c a _,
    by rw [Rack.raiseCause_flow _ _ _ _ flow]; rfl, Rack.raiseCause_current a a _⟩

/-- ADDITIVE raised in CLOSING leaves the outcome standing, and changes at most the causes of the arm. -/
theorem Outcome.raised_stands (h : Outcome r q a n k e l' i x) (closing : (r.arm a).state = .closing) (p : Prop) [Decidable p] :
    ∃ w, (if p then q.raiseCause c a .additive else q) = w ∧
      w.arm a = { r.arm a with causes := if (r.arm a).intent = some .suspend ∧ p ∧ Cause.additive ∉ (r.arm a).causes then
        (r.arm a).causes ++ [.additive] else (r.arm a).causes } ∧ Outcome.Stands q w a := by
  have own : (q.modArm a (fun y => { y with causes := y.joined (decide p) })).arm a = { r.arm a with causes := (r.arm a).joined (decide p) } := by
    rw [Rack.modArm_arm, if_pos rfl, h.arm]
  refine ⟨_, Rack.raised_closing (by rw [h.arm]; exact closing), ?_, rfl, rfl, rfl, by rw [own, h.arm], by rw [own, h.arm]⟩
  rw [own, Arm.joined_causes]

/-- Settles O46: a miss by the state of the arm, its count and the stock. -/
theorem missedStrokeIsRepeated : Obligations.MissedStrokeIsRepeated := by
  refine ⟨fun a n s k y slot left => ⟨fun _ opened => exec_riseTimer_left slot left opened, fun _ rise => exec_activeTimer_left slot left rise⟩,
    ?_⟩
  intro a n s i level k y j d l l' owed misses ended restarted joined event slot place line dose inFlight small owedIs missesIs lineIs endedIs
    restartedIs joinedIs
  obtain ⟨e, o, current, -, -⟩ := Rack.currentLine_some line
  have ends : strokeEnds s a n i level false k y := by
    rcases event with ⟨phase, opened, rfl, rfl, out⟩ | ⟨phase, rise, rfl, rfl, out⟩ | ⟨phase, rise, rfl, high, rfl, soon⟩
    · exact .inl ⟨phase, opened, rfl, rfl, out, rfl⟩
    · exact .inr (.inl ⟨phase, rise, rfl, rfl, out, rfl⟩)
    · exact .inr (.inr ⟨phase, rise, rfl, high, rfl, (decide_eq_false (by omega)).symm⟩)
  obtain ⟨q, outcome, taken⟩ := exec_outcome ends slot place current line dose
  have lineAfter : l.afterStroke false (s.rack.injector a n) j k.stroke = l' := by
    rw [lineIs, owedIs]
    rfl
  have channelAfter : (s.rack.injector a n).afterStroke false level k.stroke = ended := by
    rw [endedIs, owedIs, missesIs]
    rfl
  have dose' := Line.afterStroke_dose (i := s.rack.injector a n) false k.stroke dose
  rw [lineAfter] at outcome dose'
  rw [channelAfter] at outcome
  rw [← missesIs] at taken
  simp only [true_and] at taken
  generalize stock : (s.rack.additive k.additive).afterStroke false k.stroke d = x at outcome
  have stroke : x.inFlight + k.stroke = (s.rack.additive k.additive).inFlight := by
    rw [← stock]
    exact Nat.sub_add_cancel inFlight
  have held : x.stock = (s.rack.additive k.additive).stock := by
    rw [← stock]
    rfl
  have restart : ended.started s.cond k.stroke = restarted := by
    rw [restartedIs, endedIs]
    rfl
  have due : 100 * k.stroke ≤ ended.owed := by
    rw [endedIs]
    dsimp only
    omega
  have place' : ended.served = some j := by rw [endedIs]; exact place
  have phase' : ended.phase = .none := by rw [endedIs]
  have line' := outcome.currentLine current
  refine ⟨fun running awake fewer covers => ?_, fun flow awake limit => ?_, fun closing awake covers => ?_, fun closing quiet others => ?_⟩
  · have awake' : (q.arm a).quiet = false := by rw [outcome.arm]; exact awake
    rw [if_neg (by omega), outcome.test_due slot current place' dose' due phase' running awake, if_pos (by omega),
      Rack.settleIfStill_awake (r := q.startStroke s.cond a n k) awake'] at taken
    have started := outcome.startStroke (c := s.cond)
    have additives : (q.startStroke s.cond a n k).additives = s.rack.additives := Rack.additives_ext (fun z => by
      rw [started.additive, stroke, ← stock]
      split
      · rename_i here
        rw [← here]
        rfl
      · rfl)
    refine ⟨_, taken, rfl, ?_, ?_, ?_, fun b m other => ?_⟩ <;> dsimp only
    · have frame := started.frame
      apply Rack.eq_of_fields <;>
        simp only [Rack.pump_permits, Rack.pump_units, Rack.pump_accounts, Rack.pump_additives, Rack.pump_channels, Rack.pump_arms,
          Rack.pump_headers, Rack.pump_bays, Rack.pump_noteCounter, Rack.pump_notes, additives] <;> rw [frame]
    · rw [Rack.pump_injector, started.injector_own, restart]
    · rw [Rack.pump_currentLine, started.currentLine current]
    · rw [Rack.pump_injector, started.injector_other other]
  · have flow' : (q.arm a).state.isFlow = true := by rw [outcome.arm]; exact flow
    have stands := Outcome.stands_raised (c := s.cond) flow'
    obtain ⟨closing, suspend, causes⟩ := Rack.suspendingFor_raiseCause (c := s.cond) (cause := .additive) flow'
    have awake' : ((q.raiseCause s.cond a .additive).arm a).quiet = false := by rw [Rack.raiseCause_flow _ _ _ _ flow']; rfl
    have channel : (q.raiseCause s.cond a .additive).injector a n = ended :=
      (Rack.raiseCause_injector _ a n).trans outcome.injector_own
    rw [if_pos limit, outcome.test_stands stands slot current place' dose' due phase' (by rw [closing]; rfl) awake'] at taken
    generalize q.raiseCause s.cond a .additive = w at taken stands closing suspend causes awake' channel
    by_cases covers : (s.rack.additive k.additive).inFlight ≤ (s.rack.additive k.additive).stock
    · rw [if_pos (by omega), Rack.settleIfStill_awake (r := w.startStroke s.cond a n k) awake'] at taken
      have started : (w.startStroke s.cond a n k).pump.injector a n = restarted := by
        rw [Rack.pump_injector, Rack.startStroke_injector, if_pos ⟨rfl, rfl⟩, channel, ← restart]
        rfl
      have arm : (w.startStroke s.cond a n k).pump.arm a = w.arm a := Rack.pump_arm _ a
      refine ⟨_, taken, ?_, ?_, ?_, ?_, ?_, fun _ => ⟨⟨?_, ?_, ?_⟩, started⟩⟩ <;> dsimp only
      · rw [arm, closing]
      · rw [arm, suspend]
      · rw [arm, causes]
        rfl
      · rw [started, restartedIs, endedIs]
      · rw [Rack.pump_currentLine]
        exact (Rack.currentLine_eq (Rack.startStroke_orders ..) rfl).trans (stands.currentLine.trans line')
      · rw [arm, closing]
      · rw [arm, suspend]
      · rw [arm, causes]
    · obtain ⟨joins, kept⟩ := Rack.shortStock_suspending (c := s.cond) (n := n) k.additive closing suspend
      rw [if_neg (by omega), Rack.settleIfStill_awake (Rack.shortStock_awake _ awake')] at taken
      refine ⟨_, taken, ?_, ?_, ?_, ?_, ?_, fun enough => absurd enough covers⟩ <;> dsimp only
      · rw [Rack.pump_arm, joins, closing]
      · rw [Rack.pump_arm, joins, suspend]
      · rw [Rack.pump_arm, joins, causes]
        rfl
      · rw [Rack.pump_injector, Rack.shortStock_injector, channel, endedIs]
      · rw [Rack.pump_currentLine, kept, stands.currentLine, line']
  · obtain ⟨w, raised, own, stands⟩ := outcome.raised_stands (c := s.cond) closing (k.missLimit ≤ misses)
    rw [raised] at taken
    rw [← joinedIs] at own
    have channel : w.injector a n = ended := (Rack.injector_eq stands.injectors a n).trans outcome.injector_own
    have awake' : (w.arm a).quiet = false := by rw [own]; exact awake
    rw [outcome.test_stands stands slot current place' dose' due phase' (by rw [own]; simp [closing, ArmState.isRunning]) awake',
      if_pos (by omega), Rack.settleIfStill_awake (r := w.startStroke s.cond a n k) awake'] at taken
    refine ⟨_, taken, ?_, ?_, ?_⟩ <;> dsimp only
    · exact (Rack.pump_arm _ a).trans own
    · rw [Rack.pump_injector, Rack.startStroke_injector, if_pos ⟨rfl, rfl⟩, channel, ← restart]
      rfl
    · rw [Rack.pump_currentLine]
      exact (Rack.currentLine_eq (Rack.startStroke_orders ..) rfl).trans (stands.currentLine.trans line')
  · obtain ⟨m, other, flies⟩ := others
    obtain ⟨w, raised, own, stands⟩ := outcome.raised_stands (c := s.cond) closing (k.missLimit ≤ misses)
    rw [raised] at taken
    rw [← joinedIs] at own
    have slot' : w.slotConfig a n = some k := by
      unfold Rack.slotConfig
      rw [own]
      exact slot
    have moving : ¬((w.arm a).state = .closing ∧ (w.arm a).quiet = true ∧ w.noStroke a = true) := fun ⟨_, _, still⟩ => by
      refine flies ?_
      rw [← outcome.injector_other (b := a) (m := m) (fun h => other h.2), ← Rack.injector_eq stands.injectors]
      exact Rack.noStroke_iff.mp still m
    rw [Rack.strokeTest_idle slot' (.inr (.inr (by rw [own]; exact quiet)))] at taken
    have stays : w.settleIfStill s.cond a = w := if_neg moving
    rw [stays] at taken
    refine ⟨_, taken, ?_, ?_, ?_, ?_, fun z ne => ?_⟩ <;> dsimp only
    · exact (Rack.pump_arm _ a).trans own
    · rw [Rack.pump_injector, Rack.injector_eq stands.injectors, outcome.injector_own]
    · rw [Rack.pump_currentLine, stands.currentLine, line']
    · rw [Rack.pump_additive, Rack.additive, stands.additives]
      exact outcome.additive_own.trans stock.symm
    · rw [Rack.pump_additive, Rack.additive, stands.additives]
      exact outcome.additive_other ne

end Sys2Proof.Machine
end

section
/-! PROOF. The dosing of an assigned step, said once: what it leaves of the four channels, the additives, the arm and the line (R145, R146). -/

namespace Sys2Proof.Machine

variable {c : Conditions} {r r' q : Rack} {a : ArmId} {n : SlotId} {k : SlotConfig} {j : Nat} {d : DoseRecord} {e : QueueEntry} {l l' l2 : Line}
  {i : Injector} {x : Additive} {step : Bool}

/-! ### One channel's dose -/

/-- What a channel owes at its stroke test: at a step once it has taken the step's dose, at a resumption what it owed. -/
def Injector.owes (step : Bool) (i : Injector) (d : DoseRecord) : Nat := if step = true then min 999999999 (i.owed + d.dose) else i.owed

/-- What a channel's stroke test sees: its slot's configuration, what it owes, the slot's additive; none where it serves no entry. -/
def Rack.dosing (step : Bool) (r : Rack) (a : ArmId) (n : SlotId) : Option (SlotConfig × Nat × Additive) :=
  (r.slotConfig a n).bind (fun k => (r.servedDose a n).map (fun d => (k, (r.injector a n).owes step d, r.additive k.additive)))

/-- A channel's turn: at a step the dose and the stroke test, at a resumption the stroke test. -/
def Rack.turn (step : Bool) (c : Conditions) (a : ArmId) (n : SlotId) (r : Rack) : Rack :=
  match step with
  | true => r.doseStep c a n
  | false => r.strokeTest c a n

/-- A stroke is due on a channel that owes so much, and none is in flight. -/
def Injector.due (i : Injector) (k : SlotConfig) (owed : Nat) : Bool :=
  decide (100 * k.stroke ≤ owed) && decide (i.phase = .none)

/-- Stock less what is in flight covers a stroke. -/
def SlotConfig.covered (k : SlotConfig) (x : Additive) : Bool := decide (x.inFlight + k.stroke ≤ x.stock)

/-- A channel after its turn. -/
def Injector.dosed (c : Conditions) (i : Injector) : Option (SlotConfig × Nat × Additive) → Injector
  | some (k, owed, x) => if i.due k owed && k.covered x then ({ i with owed := owed }).started c k.stroke else { i with owed := owed }
  | none => i

/-- How much of an additive a channel's stroke test puts in flight. -/
def Injector.takes (i : Injector) (y : AdditiveId) : Option (SlotConfig × Nat × Additive) → Nat
  | some (k, owed, x) => if (i.due k owed && k.covered x) && decide (k.additive = y) then k.stroke else 0
  | none => 0

/-- The additive and slot of a channel whose stroke test finds stock short. -/
def Injector.shortOf (i : Injector) (n : SlotId) : Option (SlotConfig × Nat × Additive) → Option (AdditiveId × SlotId)
  | some (k, owed, x) => if i.due k owed && !k.covered x then some (k.additive, n) else none
  | none => none

/-- A dose brings a channel to four strokes. -/
def Injector.limits (i : Injector) : Option (SlotConfig × Nat × Additive) → Bool
  | some (k, owed, _) => owesFour i.owed owed k.stroke
  | none => false

/-- The channel of an arm whose stock is short. -/
def Rack.shortAt (step : Bool) (r : Rack) (a : ArmId) (n : SlotId) : Option (AdditiveId × SlotId) :=
  (r.injector a n).shortOf n (r.dosing step a n)

theorem Rack.dosing_some (slot : r.slotConfig a n = some k) (dose : r.servedDose a n = some d) :
    r.dosing step a n = some (k, (r.injector a n).owes step d, r.additive k.additive) := by
  simp [Rack.dosing, slot, dose]

theorem Rack.dosing_none (h : r.slotConfig a n = none ∨ r.servedDose a n = none) : r.dosing step a n = none := by
  rcases h with slot | dose
  · simp [Rack.dosing, slot]
  · unfold Rack.dosing
    rw [dose]
    cases r.slotConfig a n <;> rfl

/-! ### An arm that meets short stock (R111, R112) -/

/-- An arm that meets ADDITIVE_STOCK of an additive and slot: suspended from flow, joined in a suspending close, unmoved elsewhere. -/
def Arm.short (c : Conditions) (x : Arm) (p : AdditiveId × SlotId) : Arm :=
  if x.state.isFlow = true then Arm.closed c { x with causes := [.additiveStock p.1 p.2] } .suspend
  else if x.state = .closing ∧ x.intent = some .suspend then { x with causes := joinCause (.additiveStock p.1 p.2) x.causes }
  else x

/-- The arm is in a close that is no suspension: short stock marks its line. -/
def Arm.marks (x : Arm) : Bool := decide (x.state = .closing) && decide (x.intent ≠ some .suspend)

/-- What the steps of the dosing keep of an arm that runs. -/
structure Arm.Kept (x y : Arm) : Prop where
  running : y.state.isRunning = true
  awake : x.quiet = false → y.quiet = false
  config : y.config = x.config
  current : y.current = x.current
  marks : y.marks = x.marks
  closing : x.state = .closing → y.state = .closing

theorem Arm.Kept.trans {x y z : Arm} (h : Arm.Kept x y) (h' : Arm.Kept y z) : Arm.Kept x z :=
  ⟨h'.running, fun awake => h'.awake (h.awake awake), h'.config.trans h.config, h'.current.trans h.current, h'.marks.trans h.marks, fun was => h'.closing (h.closing was)⟩

theorem Arm.short_kept {x : Arm} (running : x.state.isRunning = true) (p : AdditiveId × SlotId) : Arm.Kept x (x.short c p) := by
  unfold Arm.short
  split
  · rename_i flow
    refine ⟨rfl, fun _ => rfl, rfl, rfl, ?_, fun closing => ?_⟩
    · have flies : x.state ≠ .closing := fun closing => by
        rw [closing] at flow
        cases flow
      simp [Arm.marks, Arm.closed, flies]
    · rw [closing] at flow
      cases flow
  · split <;> exact ⟨running, id, rfl, rfl, rfl, id⟩

theorem Arm.shorts_kept (ps : List (AdditiveId × SlotId)) {x : Arm} (running : x.state.isRunning = true) :
    Arm.Kept x (ps.foldl (Arm.short c) x) := by
  induction ps generalizing x with
  | nil => exact ⟨running, id, rfl, rfl, rfl, id⟩
  | cons p rest ih =>
    have first := Arm.short_kept (c := c) running p
    exact first.trans (ih first.running)

/-- Short stock adds at most causes to an arm in CLOSING. -/
theorem Arm.shorts_closing (ps : List (AdditiveId × SlotId)) {x : Arm} (closing : x.state = .closing) :
    ∃ joined, ps.foldl (Arm.short c) x = { x with causes := x.causes ++ joined } := by
  induction ps generalizing x with
  | nil => exact ⟨[], by rw [List.append_nil]; rfl⟩
  | cons p rest ih =>
    have first : ∃ joined, x.short c p = { x with causes := x.causes ++ joined } := by
      unfold Arm.short
      rw [if_neg (by simp [closing, ArmState.isFlow])]
      split
      · exact ⟨_, by rw [joinCause_additiveStock]⟩
      · exact ⟨[], by rw [List.append_nil]⟩
    obtain ⟨joined, first⟩ := first
    obtain ⟨more, after⟩ := ih (x := x.short c p) (by rw [first]; exact closing)
    exact ⟨joined ++ more, by rw [List.foldl_cons, after, first, List.append_assoc]⟩

/-- Short stock closes an arm in flow, or there was none. -/
theorem Arm.shorts_flow (ps : List (AdditiveId × SlotId)) {x : Arm} (flow : x.state.isFlow = true) :
    ps.foldl (Arm.short c) x = x ∨ ∃ causes, ps.foldl (Arm.short c) x = Arm.closed c { x with causes := causes } .suspend := by
  cases ps with
  | nil => exact .inl rfl
  | cons p rest =>
    obtain ⟨joined, after⟩ := Arm.shorts_closing (c := c) rest (x := Arm.closed c { x with causes := [.additiveStock p.1 p.2] } .suspend) rfl
    refine .inr ⟨[.additiveStock p.1 p.2] ++ joined, ?_⟩
    rw [List.foldl_cons, Arm.short, if_pos flow, after]
    rfl

/-! ### What the dosing of some channels leaves -/

/-- A line whose dosing may have raised DOSE_LIMITED and UNDER_DOSE. -/
def Line.dosed (limited under : Bool) (l : Line) : Line :=
  { l with flags := { l.flags with doseLimited := l.flags.doseLimited || limited, underDose := l.flags.underDose || under } }

/-- The channels of a list have had their turn: what that leaves of channels, additives, arm and line. -/
structure Dosed (step : Bool) (c : Conditions) (r r' : Rack) (a : ArmId) (e : QueueEntry) (l l' : Line) (ns : List SlotId) : Prop where
  injector : ∀ b m, r'.injector b m = if a = b ∧ m ∈ ns then (r.injector a m).dosed c (r.dosing step a m) else r.injector b m
  additive : ∀ y, r'.additive y = { r.additive y with
    inFlight := (r.additive y).inFlight + (ns.map (fun m => (r.injector a m).takes y (r.dosing step a m))).sum }
  arm : r'.arm a = (ns.filterMap (r.shortAt step a)).foldl (Arm.short c) (r.arm a)
  still : (r.arm a).state = .closing → (∀ b, b ≠ a → r'.arm b = r.arm b) ∧ r'.headers = r.headers
  line : ∀ o m, r'.line? o m = if e.order = o ∧ e.line = m then some l' else r.line? o m
  lineIs : l' = l.dosed (ns.any (fun m => (r.injector a m).limits (r.dosing step a m)))
    ((r.arm a).marks && !(ns.filterMap (r.shortAt step a)).isEmpty)

theorem Dosed.none (line : r.line? e.order e.line = some l) : Dosed step c r r a e l l [] where
  injector b m := by simp
  additive y := by simp
  arm := rfl
  still _ := ⟨fun _ _ => rfl, rfl⟩
  line o m := by
    split
    · rename_i here
      rw [← here.1, ← here.2, line]
    · rfl
  lineIs := by simp [Line.dosed]

/-! ### One channel -/

theorem Rack.addOwed_outcome (current : (r.arm a).current = some e) (line : r.line? e.order e.line = some l) (amount : Nat) :
    Outcome r (r.addOwed a n k.stroke amount) a n k e
      (l.limited (owesFour (r.injector a n).owed (min 999999999 ((r.injector a n).owed + amount)) k.stroke))
      { r.injector a n with owed := min 999999999 ((r.injector a n).owed + amount) } (r.additive k.additive) where
  injector b m := Rack.addOwed_injector ..
  additive y := by
    rw [Rack.additive, Rack.addOwed_additives]
    split
    · rename_i here
      rw [here]
      rfl
    · rfl
  line o m := Rack.addOwed_line current line k.stroke amount o m
  face o := Rack.addOwed_face ..
  frame := by apply Rack.eq_of_fields <;> simp

/-- Short stock met by the rack is short stock met by its arm. -/
theorem Rack.shortStock_arm (running : (r.arm a).state.isRunning = true) (y : AdditiveId) :
    (r.shortStock c a n y).arm a = (r.arm a).short c (y, n) := by
  unfold Arm.short
  by_cases flow : (r.arm a).state.isFlow = true
  · rw [if_pos flow, Rack.shortStock_raises y (.inl flow), Rack.raiseCause_flow _ _ _ _ flow]
    rfl
  · have closing : (r.arm a).state = .closing := by simpa [ArmState.isRunning, flow] using running
    rw [if_neg flow]
    by_cases suspend : (r.arm a).intent = some .suspend
    · rw [if_pos ⟨closing, suspend⟩, (Rack.shortStock_suspending y closing suspend).1, joinCause_additiveStock]
    · rw [if_neg (fun h => suspend h.2), (Rack.shortStock_closing y closing suspend).1]

theorem Rack.shortStock_still (y : AdditiveId) (closing : (r.arm a).state = .closing) :
    (∀ b, b ≠ a → (r.shortStock c a n y).arm b = r.arm b) ∧ (r.shortStock c a n y).headers = r.headers := by
  by_cases suspend : (r.arm a).intent = some .suspend
  · rw [Rack.shortStock_raises y (.inr ⟨closing, suspend⟩), Rack.raiseCause_reached closing (by simp)]
    exact ⟨fun b ne => Rack.marked_arm b ne, rfl⟩
  · rw [Rack.shortStock_marks y closing suspend]
    exact ⟨fun b _ => Rack.modCurrentLine_arm r a b _, Rack.modCurrentLine_headers r a _⟩

theorem Rack.shortStock_line (running : (r.arm a).state.isRunning = true) (current : (r.arm a).current = some e)
    (line : r.line? e.order e.line = some l) (y : AdditiveId) (o m : Nat) :
    (r.shortStock c a n y).line? o m = if e.order = o ∧ e.line = m then some (l.dosed false (r.arm a).marks) else r.line? o m := by
  by_cases marks : (r.arm a).marks = true
  · obtain ⟨closing, intent⟩ : (r.arm a).state = .closing ∧ (r.arm a).intent ≠ some .suspend := by simpa [Arm.marks] using marks
    rw [Rack.shortStock_marks y closing intent, Rack.modCurrentLine_here current line (f := Line.flagUnderDose) (fun _ => rfl), marks]
    simp [Line.dosed, Line.flagUnderDose]
  · have raises : (r.arm a).state.isFlow = true ∨ (r.arm a).state = .closing ∧ (r.arm a).intent = some .suspend := by
      by_cases flow : (r.arm a).state.isFlow = true
      · exact .inl flow
      · have closing : (r.arm a).state = .closing := by simpa [ArmState.isRunning, flow] using running
        exact .inr ⟨closing, by simpa [Arm.marks, closing] using marks⟩
    rw [Rack.shortStock_raises y raises, Rack.line_eq (Rack.raiseCause_orders (by simp)), Bool.eq_false_iff.mpr marks]
    split
    · rename_i here
      rw [← here.1, ← here.2, line]
      simp [Line.dosed]
    · rfl

/-- A channel that serves no entry takes no dose and starts no stroke. -/
theorem Rack.turn_none (h : r.slotConfig a n = none ∨ r.servedDose a n = none) : r.turn step c a n = r := by
  have test : r.strokeTest c a n = r := by
    unfold Rack.strokeTest
    split
    · rename_i k slot
      refine if_neg (fun due => ?_)
      rw [Rack.strokeDue, h.resolve_left (by rw [slot]; simp)] at due
      simp at due
    · rfl
  cases step with
  | true =>
    unfold Rack.turn Rack.doseStep
    dsimp only
    rcases h with slot | dose
    · rw [slot]
    · rw [dose]
      cases r.slotConfig a n <;> rfl
  | false => exact test

/-- What a channel owes is owed before its stroke test. -/
theorem Rack.turn_test (slot : r.slotConfig a n = some k) (serves : r.servedDose a n = some d) (current : (r.arm a).current = some e)
    (line : r.line? e.order e.line = some l) :
    ∃ q, Outcome r q a n k e (l.limited (owesFour (r.injector a n).owed ((r.injector a n).owes step d) k.stroke))
        { r.injector a n with owed := (r.injector a n).owes step d } (r.additive k.additive) ∧ r.turn step c a n = q.strokeTest c a n := by
  cases step with
  | true =>
    refine ⟨_, Rack.addOwed_outcome (n := n) (k := k) current line d.dose, ?_⟩
    unfold Rack.turn Rack.doseStep
    dsimp only
    rw [slot, serves]
  | false =>
    have fewer : owesFour (r.injector a n).owed (r.injector a n).owed k.stroke = false := by simp [owesFour]
    refine ⟨r, ⟨fun b m => ?_, fun y => ?_, fun o m => ?_, fun _ => rfl, rfl⟩, rfl⟩
    · split
      · rename_i here
        rw [← here.1, ← here.2]
        rfl
      · rfl
    · split
      · rename_i here
        rw [here]
      · rfl
    · split
      · rename_i here
        rw [← here.1, ← here.2, line]
        dsimp only [Injector.owes]
        rw [if_neg (by decide), fewer, Line.limited, Bool.or_false]
      · rfl

/-- A channel's turn, where it serves an entry. -/
theorem Rack.turn_some (slot : r.slotConfig a n = some k) (serves : r.servedDose a n = some d) (running : (r.arm a).state.isRunning = true)
    (awake : (r.arm a).quiet = false) (current : (r.arm a).current = some e) (line : r.line? e.order e.line = some l) :
    ∃ q, Outcome r q a n k e (l.limited (owesFour (r.injector a n).owed ((r.injector a n).owes step d) k.stroke))
        { r.injector a n with owed := (r.injector a n).owes step d } (r.additive k.additive) ∧
      r.turn step c a n = if (r.injector a n).due k ((r.injector a n).owes step d) = true then
        if k.covered (r.additive k.additive) = true then q.startStroke c a n k else q.shortStock c a n k.additive else q := by
  obtain ⟨q, outcome, test⟩ := Rack.turn_test (c := c) (step := step) slot serves current line
  refine ⟨q, outcome, ?_⟩
  obtain ⟨j, place, dose⟩ : ∃ j, (r.injector a n).served = some j ∧ l.doses[j]?.isSome = true := by
    unfold Rack.servedDose at serves
    obtain ⟨j, place, found⟩ := Option.bind_eq_some_iff.mp serves
    rw [(Rack.currentLine_of current).trans line, Option.bind_some] at found
    exact ⟨j, place, by rw [found]; rfl⟩
  rw [test]
  by_cases due : (r.injector a n).due k ((r.injector a n).owes step d) = true
  · obtain ⟨owed, phase⟩ : 100 * k.stroke ≤ (r.injector a n).owes step d ∧ (r.injector a n).phase = .none := by simpa [Injector.due] using due
    rw [if_pos due, outcome.test_due slot current place dose owed phase running awake]
    simp only [SlotConfig.covered, decide_eq_true_eq]
  · rw [if_neg due]
    refine Rack.strokeTest_idle ((outcome.slotConfig a n).trans slot) ?_
    rw [outcome.injector_own]
    simp only [Injector.due, Bool.and_eq_true, decide_eq_true_eq, not_and_or] at due
    rcases due with fewer | inFlight
    · exact .inl (Nat.lt_of_not_le fewer)
    · exact .inr (.inl inFlight)

theorem Rack.turn_dosed (running : (r.arm a).state.isRunning = true) (awake : (r.arm a).quiet = false)
    (current : (r.arm a).current = some e) (line : r.line? e.order e.line = some l) :
    ∃ l', Dosed step c r (r.turn step c a n) a e l l' [n] := by
  by_cases none : r.slotConfig a n = .none ∨ r.servedDose a n = .none
  · have view := Rack.dosing_none (step := step) none
    have notShort : r.shortAt step a n = .none := by rw [Rack.shortAt, view]; rfl
    rw [Rack.turn_none none]
    have empty := Dosed.none (step := step) (c := c) (a := a) line
    refine ⟨l, fun b m => ?_, fun y => ?_, ?_, empty.still, empty.line, ?_⟩
    · split
      · rename_i here
        rw [List.mem_singleton.mp here.2, view, here.1]
        rfl
      · rfl
    · simp [view, Injector.takes]
    · simp [notShort]
    · simp [view, notShort, Injector.limits, Line.dosed]
  · obtain ⟨k, slot⟩ := Option.ne_none_iff_exists'.mp (fun h => none (.inl h))
    obtain ⟨d, serves⟩ := Option.ne_none_iff_exists'.mp (fun h => none (.inr h))
    have view := Rack.dosing_some (step := step) slot serves
    obtain ⟨q, outcome, turn⟩ := Rack.turn_some (c := c) (step := step) slot serves running awake current line
    have arm : q.arm a = r.arm a := outcome.arm a
    have line' := outcome.line e.order e.line
    rw [if_pos ⟨rfl, rfl⟩] at line'
    rw [turn]
    by_cases due : (r.injector a n).due k ((r.injector a n).owes step d) = true
    · by_cases covers : k.covered (r.additive k.additive) = true
      · have notShort : r.shortAt step a n = .none := by simp [Rack.shortAt, view, Injector.shortOf, covers]
        have started := outcome.startStroke (c := c)
        rw [if_pos due, if_pos covers]
        refine ⟨_, fun b m => ?_, fun y => ?_, ?_, fun _ => ⟨fun b _ => started.arm b, by rw [started.frame]⟩, started.line, ?_⟩
        · rw [started.injector]
          simp only [List.mem_singleton, eq_comm (a := n)]
          split
          · rename_i here
            rw [here.2, view]
            simp [Injector.dosed, due, covers]
          · rfl
        · rw [started.additive]
          simp only [List.map_cons, List.map_nil, List.sum_cons, List.sum_nil, view, Injector.takes, due, covers, Bool.and_self, Bool.true_and,
            decide_eq_true_eq, Nat.add_zero]
          split
          · rename_i here
            rw [here]
          · rfl
        · rw [started.arm]
          simp [notShort]
        · simp [view, notShort, Injector.limits, Line.dosed, Line.limited]
      · have short : r.shortAt step a n = some (k.additive, n) := by simp [Rack.shortAt, view, Injector.shortOf, covers, due]
        rw [if_pos due, if_neg covers]
        refine ⟨(l.limited (owesFour (r.injector a n).owed ((r.injector a n).owes step d) k.stroke)).dosed false (r.arm a).marks, fun b m => ?_,
          fun y => ?_, ?_, fun closing => ?_, fun o m => ?_, ?_⟩
        · rw [Rack.shortStock_injector, outcome.injector]
          simp only [List.mem_singleton, eq_comm (a := n)]
          split
          · rename_i here
            rw [here.2, view]
            simp [Injector.dosed, covers]
          · rfl
        · rw [Rack.shortStock_additive, outcome.additive]
          simp only [List.map_cons, List.map_nil, List.sum_cons, List.sum_nil, view, Injector.takes, covers, Bool.and_false, Bool.false_and,
            Bool.false_eq_true, if_false, Nat.add_zero]
          split
          · rename_i here
            rw [here]
          · rfl
        · rw [Rack.shortStock_arm (by rw [arm]; exact running), arm]
          simp [short]
        · obtain ⟨arms, headers⟩ := Rack.shortStock_still (c := c) (n := n) k.additive (r := q) (by rw [arm]; exact closing)
          exact ⟨fun b ne => (arms b ne).trans (outcome.arm b), headers.trans (by rw [outcome.frame])⟩
        · rw [Rack.shortStock_line (e := e) (by rw [arm]; exact running) (by rw [arm]; exact current) line', outcome.line, arm]
          split
          · rfl
          · rfl
        · simp [view, short, Injector.limits, Line.dosed, Line.limited]
    · have notShort : r.shortAt step a n = .none := by simp [Rack.shortAt, view, Injector.shortOf, due]
      rw [if_neg due]
      refine ⟨_, fun b m => ?_, fun y => ?_, ?_, fun _ => ⟨fun b _ => outcome.arm b, by rw [outcome.frame]⟩, outcome.line, ?_⟩
      · rw [outcome.injector]
        simp only [List.mem_singleton, eq_comm (a := n)]
        split
        · rename_i here
          rw [here.2, view]
          simp [Injector.dosed, due]
        · rfl
      · rw [outcome.additive]
        simp only [List.map_cons, List.map_nil, List.sum_cons, List.sum_nil, view, Injector.takes, due, Bool.false_and,
          Bool.false_eq_true, if_false, Nat.add_zero]
        split
        · rename_i here
          rw [here]
        · rfl
      · rw [outcome.arm]
        simp [notShort]
      · simp [view, notShort, Injector.limits, Line.dosed, Line.limited]

end Sys2Proof.Machine
end

section
/-! PROOF. An assigned step: what it measures and what it leaves of its arm (O8). -/

namespace Sys2Proof.Machine

variable {c : Conditions} {r r' q : Rack} {a : ArmId} {n : SlotId} {k : SlotConfig} {j : Nat} {d : DoseRecord} {e : QueueEntry} {l l' l2 : Line}
  {i : Injector} {x : Additive}

/-! ### The measurement (R4, R9 to R20) -/

/-- A channel after a step: the pulse count begins again and both totalisers advance. -/
def Channel.stepped (gain : Nat) (x : Channel) : Channel :=
  { x with
    window := min 9999999 (x.window + 1), pulses := 0
    grossTotal := wrapTotal (x.grossTotal + x.factor), standardTotal := wrapTotal (x.standardTotal + gain) }

/-- The line has gained a step, and the channel has taken it. -/
structure Measured (c : Conditions) (r r' : Rack) (a : ArmId) (e : QueueEntry) (l : Line) : Prop where
  line : ∀ o m, r'.line? o m = if e.order = o ∧ e.line = m then some (l.addStep (r.channel a) (stepCtl c r a l)) else r.line? o m
  face : ∀ o, (r'.order? o).map (fun y => { y with lines := [] }) = (r.order? o).map (fun y => { y with lines := [] })
  channel : r'.channel a = (r.channel a).stepped (stepProduct (r.channel a).factor (stepCtl c r a l) l.residue / 1000000)
  others : ∀ b, b ≠ a → r'.channel b = r.channel b
  frame : r' = { r with channels := r'.channels, orders := r'.orders }

theorem Measured.arm (h : Measured c r q a e l) (b : ArmId) : q.arm b = r.arm b := Rack.arm_of_arms (by rw [h.frame]) b

theorem Rack.assignedStep_eq (line : r.currentLine a = some l) : r.assignedStep c a = overSlots (fun n r => r.doseStep c a n)
    (((r.modCurrentLine a (fun y => y.addStep (r.channel a) (stepCtl c r a l))).modChannel a (Channel.advance (r.channel a).factor
      (stepProduct (r.channel a).factor (stepCtl c r a l) l.residue / 1000000))).armStep c a) := by
  unfold Rack.assignedStep
  rw [line]

/-- The pulse that reaches K/10 in an arm that runs: measurement, thresholds, dosing, in that order. -/
theorem exec_meterPulse_step {s : State} (calibrated : (effectiveBank s.cond s.rack a).kFactor a ≠ 0)
    (full : (effectiveBank s.cond s.rack a).kFactor a / 10 ≤ (s.rack.channel a).pulses + 1)
    (running : (s.rack.arm a).state.isRunning = true) (current : (s.rack.arm a).current = some e) (line : s.rack.currentLine a = some l) :
    ∃ q, Measured s.cond s.rack q a e l ∧
      exec (.meterPulse a) s = .next { s with rack := (overSlots (fun n r => r.doseStep s.cond a n) (q.armStep s.cond a)).pump } := by
  let counted := s.rack.modChannel a (fun x => { x with window := min 9999999 (x.window + 1), pulses := 0 })
  have step : s.rack.pulse s.cond a = counted.assignedStep s.cond a := (Rack.pulse_step calibrated full).trans (if_pos running)
  have own : counted.channel a = { s.rack.channel a with window := min 9999999 ((s.rack.channel a).window + 1), pulses := 0 } := by
    rw [Rack.modChannel_channel, if_pos rfl]
  have factor : (counted.channel a).factor = (s.rack.channel a).factor := by rw [own]
  have ppm : stepCtl s.cond counted a l = stepCtl s.cond s.rack a l := by
    unfold stepCtl Channel.stepTemperature Channel.heldValue
    rw [own]
    rfl
  have adds : l.addStep (counted.channel a) (stepCtl s.cond s.rack a l) = l.addStep (s.rack.channel a) (stepCtl s.cond s.rack a l) := by
    rw [own]
    rfl
  have line' : counted.line? e.order e.line = some l := (Rack.currentLine_of current).symm.trans line
  have taken : exec (.meterPulse a) s = .next { s with rack := (s.rack.pulse s.cond a).pump } := rfl
  rw [step, Rack.assignedStep_eq (r := counted) line, ppm, factor] at taken
  refine ⟨_, ⟨fun o m => ?_, fun o => ?_, ?_, fun b ne => ?_, ?_⟩, taken⟩
  · rw [Rack.modChannel_line_of, Rack.modCurrentLine_here (r := counted) (e := e) current line'
      (f := fun y => y.addStep (counted.channel a) (stepCtl s.cond s.rack a l)) (fun _ => rfl), adds]
    rfl
  · rw [Rack.modChannel_order_of, Rack.modCurrentLine_face]
    rfl
  · rw [Rack.modChannel_channel, if_pos rfl, Rack.channel_eq (Rack.modCurrentLine_channels counted a _), own]
    rfl
  · rw [Rack.modChannel_channel, if_neg (Ne.symm ne), Rack.channel_eq (Rack.modCurrentLine_channels counted a _), Rack.modChannel_channel,
      if_neg (Ne.symm ne)]
  · apply Rack.eq_of_fields <;> simp [counted]

/-! ### The arm at a step (R108, R110, R113) -/

/-- The SHOW repeat timer runs on between states that run (R188). -/
theorem repeatAfter_running {old new : ArmState} (was : old.isRunning = true) (is : new.isRunning = true) (timer : Option Stamp) :
    repeatAfter c old new timer = timer := (if_pos is).trans (if_pos was)

/-- In a flow state the thresholds close the arm at the close point, and leave it in flow below. -/
theorem Rack.testThresholds_arm (flow : (r.arm a).state.isFlow = true) (line : r.currentLine a = some l) :
    (atClosePoint (r.arm a) l = true ∧ (r.arm a).config ≠ none → (r.testThresholds c a).arm a = Arm.closed c (r.arm a) .finish) ∧
    (atClosePoint (r.arm a) l = false ∨ (r.arm a).config = none → ∃ state reason, state.isFlow = true ∧
      (r.testThresholds c a).arm a = { r.arm a with state := state, reason := reason }) := by
  have running : (r.arm a).state.isRunning = true := by simp [ArmState.isRunning, flow]
  have moved {new : ArmState} (into : new.isFlow = true) {s : Rack} (grants : OnlyGrants (r.setState c a new) s) :
      ∃ state reason, state.isFlow = true ∧ s.arm a = { r.arm a with state := state, reason := reason } := by
    have set : ∃ reason, (r.setState c a new).arm a = { r.arm a with state := new, reason := reason } := by
      rw [Rack.setState_arm]
      split
      · exact ⟨none, by rw [repeatAfter_running running (by simp [ArmState.isRunning, into])]⟩
      · rename_i same
        exact ⟨(r.arm a).reason, by rw [← not_not.mp (fun h => same ⟨rfl, h⟩)]⟩
    obtain ⟨reason, set⟩ := set
    rcases grants a with same | ⟨-, granted⟩
    · exact ⟨new, reason, into, same.trans set⟩
    · exact ⟨.high, none, rfl, by rw [granted, set]⟩
  have stays : ∃ state reason, state.isFlow = true ∧ r.arm a = { r.arm a with state := state, reason := reason } :=
    ⟨(r.arm a).state, (r.arm a).reason, flow, rfl⟩
  refine ⟨fun ⟨close, config⟩ => ?_, fun below => ?_⟩
  · obtain ⟨k, config⟩ := Option.ne_none_iff_exists'.mp config
    unfold Rack.testThresholds
    rw [config, line]
    dsimp only
    rw [if_pos close]
    refine Rack.enterClosing_arm c r a .finish (fun closing => ?_)
    rw [closing] at flow
    cases flow
  · unfold Rack.testThresholds
    rw [line]
    split
    · rename_i k l' config here
      cases here
      rw [if_neg (by rw [below.resolve_right (by rw [config]; simp)]; simp)]
      split
      · split
        · split
          · exact moved rfl (OnlyGrants.refl _)
          · rcases r.joinWaiting_grants (c := c) a with same | grants
            · rw [same]
              exact stays
            · exact moved rfl grants
        · exact stays
      · split
        · exact moved rfl (Rack.afterLeaving_grants c _ a _)
        · exact stays
      · split
        · exact moved rfl (Rack.afterLeaving_grants c _ a _)
        · exact stays
      all_goals exact stays
    · exact stays

theorem Rack.armStep_flow (flow : (r.arm a).state.isFlow = true) : r.armStep c a =
    (r.modArm a (fun x => { x with noFlowTimer := some c.stamp })).testThresholds c a := if_pos flow

theorem Rack.armStep_closing (closing : (r.arm a).state = .closing) : r.armStep c a =
    r.modArm a (fun x => { x with settleTimer := some c.stamp, quiet := false }) := if_neg (by simp [closing, ArmState.isFlow])

/-- In a flow state a step restarts the no-flow timer and leaves the arm in flow, or closes it. -/
theorem Rack.armStep_arm (flow : (r.arm a).state.isFlow = true) (line : r.currentLine a = some l) :
    (atClosePoint (r.arm a) l = true ∧ (r.arm a).config ≠ none →
      (r.armStep c a).arm a = Arm.closed c { r.arm a with noFlowTimer := some c.stamp } .finish) ∧
    (atClosePoint (r.arm a) l = false ∨ (r.arm a).config = none → ∃ state reason, state.isFlow = true ∧
      (r.armStep c a).arm a = { r.arm a with state := state, reason := reason, noFlowTimer := some c.stamp }) := by
  have own : (r.modArm a (fun x => { x with noFlowTimer := some c.stamp })).arm a = { r.arm a with noFlowTimer := some c.stamp } := by
    rw [Rack.modArm_arm, if_pos rfl]
  have line' : (r.modArm a (fun x => { x with noFlowTimer := some c.stamp })).currentLine a = some l :=
    (Rack.currentLine_eq (r := r) (s := r.modArm a (fun x => { x with noFlowTimer := some c.stamp })) rfl (by rw [own])).trans line
  have tests := Rack.testThresholds_arm (c := c) (r := r.modArm a (fun x => { x with noFlowTimer := some c.stamp })) (by rw [own]; exact flow) line'
  rw [own] at tests
  rw [Rack.armStep_flow flow]
  exact tests

/-- What a step leaves of an arm that runs, before the dosing. -/
theorem Rack.armStep_kept (running : (r.arm a).state.isRunning = true) (line : r.currentLine a = some l) :
    ((r.armStep c a).arm a).state.isRunning = true ∧ ((r.armStep c a).arm a).config = (r.arm a).config ∧
      ((r.armStep c a).arm a).current = (r.arm a).current := by
  by_cases flow : (r.arm a).state.isFlow = true
  · obtain ⟨closes, stays⟩ := Rack.armStep_arm (c := c) flow line
    by_cases close : atClosePoint (r.arm a) l = true ∧ (r.arm a).config ≠ none
    · rw [closes close]
      exact ⟨rfl, rfl, rfl⟩
    · obtain ⟨state, reason, inFlow, arm⟩ := stays (by rwa [not_and_or, Bool.not_eq_true, not_not] at close)
      rw [arm]
      exact ⟨by simp [ArmState.isRunning, inFlow], rfl, rfl⟩
  · have closing : (r.arm a).state = .closing := by simpa [ArmState.isRunning, flow] using running
    rw [Rack.armStep_closing closing, Rack.modArm_arm, if_pos rfl]
    exact ⟨running, rfl, rfl⟩

/-! ### The dosing as the measurement meets it -/

/-- What the dosing may do to arm and line, whatever it finds. -/
structure Doses (c : Conditions) (r r' : Rack) (a : ArmId) (e : QueueEntry) (l l' : Line) : Prop where
  arm : ∃ ps, r'.arm a = List.foldl (Arm.short c) (r.arm a) ps
  still : (r.arm a).state = .closing → (∀ b, b ≠ a → r'.arm b = r.arm b) ∧ r'.headers = r.headers
  line : ∀ o m, r'.line? o m = if e.order = o ∧ e.line = m then some l' else r.line? o m
  lineIs : ∃ limited under, l' = l.dosed limited under

theorem Doses.refl (line : r.line? e.order e.line = some l) : Doses c r r a e l l :=
  ⟨⟨[], rfl⟩, fun _ => ⟨fun _ _ => rfl, rfl⟩, (Dosed.none (step := true) (c := c) (a := a) line).line, false, false, by simp [Line.dosed]⟩

theorem Doses.trans (running : (r.arm a).state.isRunning = true) (h : Doses c r q a e l l') (h' : Doses c q r' a e l' l2) :
    Doses c r r' a e l l2 := by
  obtain ⟨ps, arm⟩ := h.arm
  obtain ⟨ps', arm'⟩ := h'.arm
  obtain ⟨limited, under, rfl⟩ := h.lineIs
  obtain ⟨limited', under', rfl⟩ := h'.lineIs
  refine ⟨⟨ps ++ ps', by rw [arm', arm, List.foldl_append]⟩, fun closing => ?_, fun o m => ?_, limited || limited', under || under', ?_⟩
  · obtain ⟨arms, headers⟩ := h.still closing
    obtain ⟨arms', headers'⟩ := h'.still (by rw [arm]; exact (Arm.shorts_kept ps running).closing closing)
    exact ⟨fun b ne => (arms' b ne).trans (arms b ne), headers'.trans headers⟩
  · rw [h'.line, h.line]
    split <;> rfl
  · simp [Line.dosed, Bool.or_assoc]

/-- A channel's dose, whether its arm is quiet or not. -/
theorem Rack.doseStep_doses (running : (r.arm a).state.isRunning = true) (current : (r.arm a).current = some e)
    (line : r.line? e.order e.line = some l) : ∃ l', Doses c r (r.doseStep c a n) a e l l' := by
  by_cases awake : (r.arm a).quiet = false
  · obtain ⟨l', dosed⟩ := Rack.turn_dosed (c := c) (step := true) (n := n) running awake current line
    exact ⟨l', ⟨_, dosed.arm⟩, dosed.still, dosed.line, _, _, dosed.lineIs⟩
  · have quiet : (r.arm a).quiet = true := by simpa using awake
    by_cases none : r.slotConfig a n = .none ∨ r.servedDose a n = .none
    · rw [show r.doseStep c a n = r from Rack.turn_none (step := true) none]
      exact ⟨l, Doses.refl line⟩
    · obtain ⟨k, slot⟩ := Option.ne_none_iff_exists'.mp (fun h => none (.inl h))
      obtain ⟨d, serves⟩ := Option.ne_none_iff_exists'.mp (fun h => none (.inr h))
      have outcome := Rack.addOwed_outcome (n := n) (k := k) current line d.dose
      have step : r.doseStep c a n = r.addOwed a n k.stroke d.dose := by
        unfold Rack.doseStep
        rw [slot, serves]
        exact outcome.test_idle slot (.inr quiet)
      rw [step]
      exact ⟨_, ⟨[], outcome.arm a⟩, fun _ => ⟨fun b _ => outcome.arm b, by rw [outcome.frame]⟩, outcome.line, _, false,
        by simp [Line.limited, Line.dosed]; rfl⟩

theorem Doses.here (running : (r.arm a).state.isRunning = true) (current : (r.arm a).current = some e) (h : Doses c r q a e l l') :
    (q.arm a).state.isRunning = true ∧ (q.arm a).current = some e ∧ q.line? e.order e.line = some l' := by
  obtain ⟨ps, arm⟩ := h.arm
  have kept := Arm.shorts_kept (c := c) ps running
  rw [arm]
  exact ⟨kept.running, kept.current.trans current, (h.line _ _).trans (if_pos ⟨rfl, rfl⟩)⟩

theorem overSlots_doses (running : (r.arm a).state.isRunning = true) (current : (r.arm a).current = some e)
    (line : r.line? e.order e.line = some l) : ∃ l', Doses c r (overSlots (fun n r => r.doseStep c a n) r) a e l l' := by
  have next {q : Rack} {l1 : Line} (n : SlotId) (before : Doses c r q a e l l1) : ∃ l', Doses c r (q.doseStep c a n) a e l l' := by
    obtain ⟨running', current', line'⟩ := before.here running current
    obtain ⟨l', step⟩ := Rack.doseStep_doses (c := c) (n := n) running' current' line'
    exact ⟨l', before.trans running step⟩
  obtain ⟨_, first⟩ := next 0 (Doses.refl line)
  obtain ⟨_, second⟩ := next 1 first
  obtain ⟨_, third⟩ := next 2 second
  exact next 3 third

theorem overSlots_none (none : ∀ n, r.slotConfig a n = .none ∨ r.servedDose a n = .none) :
    overSlots (fun n r => r.doseStep c a n) r = r := by
  have each (n : SlotId) : r.doseStep c a n = r := Rack.turn_none (step := true) (none n)
  simp only [overSlots, each]

/-! ### The whole step -/

/-- The rack as the dosing meets it: the arm has taken its step. -/
structure Stepped (c : Conditions) (r p : Rack) (a : ArmId) (e : QueueEntry) (l : Line) : Prop where
  running : (p.arm a).state.isRunning = true
  current : (p.arm a).current = some e
  config : (p.arm a).config = (r.arm a).config
  injectors : p.injectors = r.injectors
  additives : p.additives = r.additives
  line : ∀ o m, p.line? o m = if e.order = o ∧ e.line = m then some (l.addStep (r.channel a) (stepCtl c r a l)) else r.line? o m

theorem Measured.currentLine (h : Measured c r q a e l) (current : (r.arm a).current = some e) :
    q.currentLine a = some (l.addStep (r.channel a) (stepCtl c r a l)) := by
  rw [Rack.currentLine_of (by rw [h.arm]; exact current), h.line, if_pos ⟨rfl, rfl⟩]

theorem Measured.stepped (h : Measured c r q a e l) (running : (r.arm a).state.isRunning = true) (current : (r.arm a).current = some e) :
    Stepped c r (q.armStep c a) a e l := by
  obtain ⟨runs, config, current'⟩ := Rack.armStep_kept (c := c) (by rw [h.arm]; exact running) (h.currentLine current)
  refine ⟨runs, current'.trans (by rw [h.arm]; exact current), config.trans (by rw [h.arm]), ?_, ?_, fun o m => ?_⟩
  · rw [Rack.armStep_injectors, h.frame]
  · rw [Rack.armStep_additives, h.frame]
  · rw [Rack.line_eq (Rack.armStep_orders q c a), h.line]

/-- A channel doses in the step what it serves before it. -/
theorem Stepped.dosing {p : Rack} (h : Stepped c r p a e l) (line : r.currentLine a = some l) (n : SlotId) :
    p.slotConfig a n = r.slotConfig a n ∧ p.servedDose a n = r.servedDose a n := by
  refine ⟨by unfold Rack.slotConfig; rw [h.config], ?_⟩
  unfold Rack.servedDose
  rw [Rack.injector_eq h.injectors, Rack.currentLine_of h.current, h.line, if_pos ⟨rfl, rfl⟩, line]
  rfl

theorem Rack.serves_none (none : ∀ k d, ¬r.serves a n k d) : r.slotConfig a n = .none ∨ r.servedDose a n = .none := by
  by_contra some
  obtain ⟨slot, serves⟩ := not_or.mp some
  obtain ⟨k, slot⟩ := Option.ne_none_iff_exists'.mp slot
  obtain ⟨d, serves⟩ := Option.ne_none_iff_exists'.mp serves
  exact none k d ((Rack.serves_iff ..).mpr ⟨slot, serves⟩)

/-- The dosing of a step, with the line as it was where no channel serves an entry. -/
theorem Stepped.doses {p : Rack} (h : Stepped c r p a e l) (line : r.currentLine a = some l) :
    ∃ l', Doses c p (overSlots (fun n r => r.doseStep c a n) p) a e (l.addStep (r.channel a) (stepCtl c r a l)) l' ∧
      ((∀ m k d, ¬r.serves a m k d) → l' = l.addStep (r.channel a) (stepCtl c r a l)) := by
  have here := (h.line e.order e.line).trans (if_pos ⟨rfl, rfl⟩)
  by_cases none : ∀ m k d, ¬r.serves a m k d
  · rw [overSlots_none (fun n => by rw [(h.dosing line n).1, (h.dosing line n).2]; exact Rack.serves_none (none n))]
    exact ⟨_, Doses.refl here, fun _ => rfl⟩
  · obtain ⟨l', doses⟩ := overSlots_doses (c := c) h.running h.current here
    exact ⟨l', doses, fun h => absurd h none⟩

/-- Settles O8: the measurement, then the arm's own step, then the dosing. -/
theorem assignedStepIsMeasured : Obligations.AssignedStepIsMeasured := by
  intro a s e l ppm n calibrated full running current line ppmIs nIs
  obtain ⟨q, measured, taken⟩ := exec_meterPulse_step calibrated full running current line
  have stepped := measured.stepped running current
  obtain ⟨l', doses, unserved⟩ := stepped.doses line
  obtain ⟨limited, under, lineIs⟩ := doses.lineIs
  have ppmStep : stepCtl s.cond s.rack a l = ppm := ppmIs.symm
  have product : stepProduct (s.rack.channel a).factor (stepCtl s.cond s.rack a l) l.residue = n := by
    rw [nIs, ppmStep]
    rfl
  have channels : (overSlots (fun n r => r.doseStep s.cond a n) (q.armStep s.cond a)).pump.channels = q.channels := by
    simp [overSlots]
  have ⟨running', current', line'⟩ := doses.here stepped.running stepped.current
  refine ⟨_, l', taken, rfl, ?_, ?_, ?_, ?_, ?_, fun none => ?_, ?_, fun b ne => ?_, fun o m other => ?_, ?_, ?_, ?_, ?_, ?_, ?_,
    fun flow => ?_, fun closing => ?_⟩
  · dsimp only
    rw [Rack.pump_arm, current']
  · dsimp only
    rw [Rack.pump_currentLine, Rack.currentLine_of current', line']
  · rw [lineIs, Line.addStep, product]
    rfl
  · intro was
    rw [lineIs]
    simp [Line.dosed, Line.addStep, was]
  · intro was
    rw [lineIs]
    simp [Line.dosed, Line.addStep, was]
  · rw [unserved none]
    exact ⟨rfl, rfl⟩
  · dsimp only
    rw [Rack.channel_eq channels, measured.channel, product]
    rfl
  · dsimp only
    rw [Rack.channel_eq channels, measured.others b ne]
  · dsimp only
    rw [Rack.pump_line, doses.line, if_neg (fun same => other ⟨same.1.symm, same.2.symm⟩), stepped.line,
      if_neg (fun same => other ⟨same.1.symm, same.2.symm⟩)]
  · exact (by simp [overSlots] : _ = q.accounts).trans (by rw [measured.frame])
  · exact (by simp [overSlots] : _ = q.units).trans (by rw [measured.frame])
  · exact (by simp [overSlots] : _ = q.permits).trans (by rw [measured.frame])
  · exact (by simp [overSlots] : _ = q.bays).trans (by rw [measured.frame])
  · exact (by simp [overSlots] : _ = q.notes).trans (by rw [measured.frame])
  · exact (by simp [overSlots] : _ = q.noteCounter).trans (by rw [measured.frame])
  · obtain ⟨ps, arm⟩ := doses.arm
    obtain ⟨closes, stays⟩ := Rack.armStep_arm (c := s.cond) (r := q) (by rw [measured.arm]; exact flow) (measured.currentLine current)
    dsimp only
    rw [Rack.pump_arm, arm]
    by_cases close : atClosePoint (q.arm a) (l.addStep (s.rack.channel a) (stepCtl s.cond s.rack a l)) = true ∧ (q.arm a).config ≠ none
    · obtain ⟨joined, after⟩ := Arm.shorts_closing (c := s.cond) ps (congrArg Arm.state (closes close))
      rw [after, closes close]
      exact .inr ⟨rfl, rfl, rfl, rfl⟩
    · obtain ⟨state, reason, inFlow, step⟩ := stays (by rwa [not_and_or, Bool.not_eq_true, not_not] at close)
      rcases Arm.shorts_flow (c := s.cond) ps ((congrArg (fun x => x.state.isFlow) step).trans inFlow) with same | ⟨causes, closed⟩
      · rw [same, step]
        exact .inl ⟨inFlow, rfl⟩
      · rw [closed]
        exact .inr ⟨rfl, rfl, rfl, rfl⟩
  · have step := Rack.armStep_closing (c := s.cond) (r := q) (by rw [measured.arm]; exact closing)
    have own : (q.armStep s.cond a).arm a = { s.rack.arm a with settleTimer := some s.cond.stamp, quiet := false } := by
      rw [step, Rack.modArm_arm, if_pos rfl, measured.arm]
    have closing' : ((q.armStep s.cond a).arm a).state = .closing := by rw [own]; exact closing
    obtain ⟨ps, arm⟩ := doses.arm
    obtain ⟨joined, after⟩ := Arm.shorts_closing (c := s.cond) ps closing'
    obtain ⟨arms, headers⟩ := doses.still closing'
    refine ⟨⟨joined, ?_⟩, fun b ne => ?_, ?_⟩ <;> dsimp only
    · rw [Rack.pump_arm, arm, after, own]
      rfl
    · rw [Rack.pump_arm, arms b ne, step, Rack.marked_arm b ne, measured.arm]
    · rw [Rack.pump_headers, headers, step, Rack.modArm_headers, measured.frame]

end Sys2Proof.Machine
end

section
/-! PROOF. The dosing of a step over the four channels of an arm (O45). -/

namespace Sys2Proof.Machine

variable {c : Conditions} {r r' q p : Rack} {a : ArmId} {n : SlotId} {k : SlotConfig} {j : Nat} {d : DoseRecord} {e : QueueEntry}
  {l l' l2 : Line} {i : Injector} {x : Additive} {step : Bool}

/-! ### Channel behind channel -/

theorem Rack.dosing_iff {v : SlotConfig × Nat × Additive} : r.dosing step a n = some v ↔
    r.slotConfig a n = some v.1 ∧ (∃ d, r.servedDose a n = some d ∧ v.2.1 = (r.injector a n).owes step d) ∧ v.2.2 = r.additive v.1.additive := by
  obtain ⟨k, owed, x⟩ := v
  constructor
  · intro dosing
    unfold Rack.dosing at dosing
    obtain ⟨k', slot, rest⟩ := Option.bind_eq_some_iff.mp dosing
    obtain ⟨d', serves, same⟩ := Option.map_eq_some_iff.mp rest
    cases same
    exact ⟨slot, ⟨d', serves, rfl⟩, rfl⟩
  · rintro ⟨slot, ⟨d, serves, owes⟩, same⟩
    dsimp only at slot serves owes same
    rw [same, owes]
    exact Rack.dosing_some slot serves

/-- No two channels of an arm dose one additive. -/
def Rack.dosesDiffer (r : Rack) (a : ArmId) : Prop :=
  ∀ n m k k', n ≠ m → r.slotConfig a n = some k → r.slotConfig a m = some k' → k.additive ≠ k'.additive

theorem Rack.dosesDiffer_of {k : ArmConfig} (config : (r.arm a).config = some k) (differ : k.slotsDiffer) : r.dosesDiffer a := by
  intro n m x y ne slot slot'
  simp only [Rack.slotConfig, config, Option.bind_some] at slot slot'
  exact differ n m ne x slot y slot'

theorem Injector.takes_other {y : AdditiveId} {v : Option (SlotConfig × Nat × Additive)} (other : ∀ w ∈ v, w.1.additive ≠ y) :
    i.takes y v = 0 := by
  cases v with
  | none => rfl
  | some w => exact if_neg (by simp [other w rfl])

/-- What other channels take of a channel's additive is nothing. -/
theorem Rack.takes_none (differ : r.dosesDiffer a) {ns : List SlotId} (new : n ∉ ns) (slot : r.slotConfig a n = some k) :
    (ns.map (fun m => (r.injector a m).takes k.additive (r.dosing step a m))).sum = 0 := by
  refine List.sum_eq_zero (fun v mem => ?_)
  obtain ⟨m, here, rfl⟩ := List.mem_map.mp mem
  refine Injector.takes_other (fun w dosing => ?_)
  exact differ m n _ _ (fun same => new (same ▸ here)) (Rack.dosing_iff.mp dosing).1 slot

/-- A channel whose turn has not come doses what it dosed before the others. -/
theorem Dosed.dosing {ns : List SlotId} (h : Dosed step c r q a e l l' ns) (running : (r.arm a).state.isRunning = true)
    (current : (r.arm a).current = some e) (line : r.line? e.order e.line = some l) (differ : r.dosesDiffer a) (new : n ∉ ns) :
    q.injector a n = r.injector a n ∧ q.dosing step a n = r.dosing step a n := by
  have channel : q.injector a n = r.injector a n := by rw [h.injector, if_neg (fun same => new same.2)]
  have kept := Arm.shorts_kept (c := c) (ns.filterMap (r.shortAt step a)) running
  rw [← h.arm] at kept
  have slot : q.slotConfig a n = r.slotConfig a n := by
    unfold Rack.slotConfig
    rw [kept.config]
  have serves : q.servedDose a n = r.servedDose a n := by
    unfold Rack.servedDose
    rw [channel, Rack.currentLine_of (kept.current.trans current), Rack.currentLine_of current, h.line, if_pos ⟨rfl, rfl⟩, line, h.lineIs]
    rfl
  refine ⟨channel, ?_⟩
  unfold Rack.dosing
  rw [slot, serves]
  cases config : r.slotConfig a n with
  | none => rfl
  | some k =>
    have additive : q.additive k.additive = r.additive k.additive := by
      rw [h.additive, Rack.takes_none differ new config]
      rfl
    dsimp only [Option.bind_some]
    rw [additive, channel]

theorem Dosed.append {ns : List SlotId} (h : Dosed step c r q a e l l' ns) (h' : Dosed step c q r' a e l' l2 [n])
    (running : (r.arm a).state.isRunning = true) (current : (r.arm a).current = some e) (line : r.line? e.order e.line = some l)
    (differ : r.dosesDiffer a) (new : n ∉ ns) : Dosed step c r r' a e l l2 (ns ++ [n]) := by
  obtain ⟨channel, dosing⟩ := h.dosing running current line differ new
  have short : q.shortAt step a n = r.shortAt step a n := by rw [Rack.shortAt, Rack.shortAt, channel, dosing]
  have kept := Arm.shorts_kept (c := c) (ns.filterMap (r.shortAt step a)) running
  rw [← h.arm] at kept
  refine ⟨fun b m => ?_, fun y => ?_, ?_, fun closing => ?_, fun o m => ?_, ?_⟩
  · rw [h'.injector, h.injector b m]
    by_cases same : a = b
    · subst same
      by_cases last : m = n
      · rw [last, if_pos ⟨rfl, List.mem_singleton_self n⟩, if_pos ⟨rfl, by simp⟩, channel, dosing]
      · rw [if_neg (fun at_ => last (List.mem_singleton.mp at_.2))]
        simp [last]
    · rw [if_neg (fun at_ => same at_.1), if_neg (fun at_ => same at_.1), if_neg (fun at_ => same at_.1)]
  · rw [h'.additive, h.additive]
    simp only [List.map_cons, List.map_nil, List.sum_cons, List.sum_nil, Nat.add_zero, List.map_append, List.sum_append, channel, dosing,
      Nat.add_assoc]
  · rw [h'.arm, h.arm, List.filterMap_append, List.foldl_append]
    simp only [List.filterMap_cons, List.filterMap_nil, short]
  · obtain ⟨arms, headers⟩ := h.still closing
    obtain ⟨arms', headers'⟩ := h'.still (kept.closing closing)
    exact ⟨fun b ne => (arms' b ne).trans (arms b ne), headers'.trans headers⟩
  · rw [h'.line, h.line]
    split <;> rfl
  · rw [h'.lineIs, h.lineIs, kept.marks]
    simp only [Line.dosed, List.any_append, List.any_cons, List.any_nil, channel, dosing, List.filterMap_append, List.filterMap_cons,
      List.filterMap_nil, short]
    cases (r.arm a).marks <;> cases ns.filterMap (r.shortAt step a) <;> cases r.shortAt step a n <;> simp [Bool.or_assoc]

/-- The four channels in slot order. -/
theorem overSlots_dosed (running : (r.arm a).state.isRunning = true) (awake : (r.arm a).quiet = false)
    (current : (r.arm a).current = some e) (line : r.line? e.order e.line = some l) (differ : r.dosesDiffer a) :
    ∃ l', Dosed step c r (overSlots (fun n r => r.turn step c a n) r) a e l l' allSlots := by
  have next {ns : List SlotId} {q : Rack} {l1 : Line} (before : Dosed step c r q a e l l1 ns) (n : SlotId) (new : n ∉ ns) :
      ∃ l', Dosed step c r (q.turn step c a n) a e l l' (ns ++ [n]) := by
    have kept := Arm.shorts_kept (c := c) (ns.filterMap (r.shortAt step a)) running
    rw [← before.arm] at kept
    obtain ⟨l', step⟩ := Rack.turn_dosed (c := c) (step := step) (n := n) kept.running (kept.awake awake) (kept.current.trans current)
      ((before.line e.order e.line).trans (if_pos ⟨rfl, rfl⟩))
    exact ⟨l', before.append step running current line differ new⟩
  obtain ⟨_, first⟩ := next (Dosed.none line) 0 (by simp)
  obtain ⟨_, second⟩ := next first 1 (by simp)
  obtain ⟨_, third⟩ := next second 2 (by decide)
  exact next third 3 (by decide)

/-! ### The channels whose stock is short -/

theorem Rack.shortAt_of {p : AdditiveId × SlotId} (h : r.shortAt step a n = some p) :
    p.2 = n ∧ ∃ k, r.slotConfig a n = some k ∧ p.1 = k.additive := by
  unfold Rack.shortAt Injector.shortOf at h
  split at h
  · rename_i k d x dosing
    split at h
    · cases h
      exact ⟨rfl, k, (Rack.dosing_iff.mp dosing).1, rfl⟩
    · cases h
  · cases h

theorem Rack.shortAt_differ (differ : r.dosesDiffer a) {ns : List SlotId} (once : ns.Nodup) :
    ((ns.filterMap (r.shortAt step a)).map Prod.fst).Nodup := by
  rw [List.Nodup, List.pairwise_map, List.pairwise_filterMap]
  refine once.imp (fun ne p short p' short' => ?_)
  obtain ⟨-, k, slot, is⟩ := Rack.shortAt_of short
  obtain ⟨-, k', slot', is'⟩ := Rack.shortAt_of short'
  rw [is, is']
  exact differ _ _ k k' ne slot slot'

/-- The channels whose stock is short, as the owed counts of the step give them. -/
theorem Rack.shortSlots_eq {owed : SlotId → Nat} (owes : ∀ n k d, r.serves a n k d → owed n = (r.injector a n).owes step d) :
    r.shortSlots a owed = allSlots.filterMap (r.shortAt step a) := by
  unfold Rack.shortSlots
  refine List.filterMap_congr (fun n _ => ?_)
  split
  · rename_i k d slot serves
    rw [Rack.shortAt, Rack.dosing_some slot serves, owes n k d ((Rack.serves_iff ..).mpr ⟨slot, serves⟩)]
    simp only [Injector.shortOf, Injector.due, SlotConfig.covered, Bool.and_eq_true, decide_eq_true_eq, Bool.not_eq_true',
      decide_eq_false_iff_not, not_le, and_assoc]
  · rename_i other
    rw [Rack.shortAt]
    cases dosing : r.dosing step a n with
    | none => rfl
    | some v =>
      obtain ⟨slot, ⟨d, serves, -⟩, -⟩ := Rack.dosing_iff.mp dosing
      exact absurd serves (fun serves => other _ _ slot serves)

/-! ### The arm behind several short stocks (R112) -/

/-- Additives that differ each join a suspending close, once. -/
theorem Arm.shorts_suspending (ps : List (AdditiveId × SlotId)) (differ : (ps.map Prod.fst).Nodup) {x : Arm} (closing : x.state = .closing)
    (suspend : x.intent = some .suspend) : ps.foldl (Arm.short c) x = { x with causes := x.causes ++
      (ps.filter (fun p => decide (∀ m : SlotId, Cause.additiveStock p.1 m ∉ x.causes))).map (fun p => .additiveStock p.1 p.2) } := by
  induction ps generalizing x with
  | nil => simp
  | cons p rest ih =>
    obtain ⟨new, differ'⟩ := List.nodup_cons.mp differ
    have first : x.short c p = { x with causes := x.causes ++
        if ∃ m : SlotId, Cause.additiveStock p.1 m ∈ x.causes then [] else [.additiveStock p.1 p.2] } := by
      unfold Arm.short
      rw [if_neg (by simp [closing, ArmState.isFlow]), if_pos ⟨closing, suspend⟩, joinCause_additiveStock]
    have later (p' : AdditiveId × SlotId) (mem : p' ∈ rest) : (∀ m : SlotId, Cause.additiveStock p'.1 m ∉ (x.short c p).causes) ↔
        ∀ m : SlotId, Cause.additiveStock p'.1 m ∉ x.causes := by
      have ne : p'.1 ≠ p.1 := fun same => new (List.mem_map.mpr ⟨p', mem, same⟩)
      rw [first]
      refine forall_congr' (fun m => not_congr ?_)
      rw [List.mem_append]
      refine or_iff_left (fun stands => ?_)
      split at stands
      · cases stands
      · exact ne (Cause.additiveStock.inj (List.mem_singleton.mp stands)).1
    rw [List.foldl_cons, ih differ' (by rw [first]; exact closing) (by rw [first]; exact suspend),
      List.filter_congr (fun p' mem => decide_eq_decide.mpr (later p' mem)), first, List.filter_cons]
    by_cases stands : ∃ m : SlotId, Cause.additiveStock p.1 m ∈ x.causes
    · have absent : ¬∀ m : SlotId, Cause.additiveStock p.1 m ∉ x.causes := fun h => h _ stands.choose_spec
      rw [if_pos stands, if_neg (by simpa using absent), List.append_nil]
    · have free : ∀ m : SlotId, Cause.additiveStock p.1 m ∉ x.causes := fun m mem => stands ⟨m, mem⟩
      rw [if_neg stands, if_pos (by simpa using free)]
      simp [List.append_assoc]

/-- Short stock moves no arm in a close that is no suspension. -/
theorem Arm.shorts_marks (ps : List (AdditiveId × SlotId)) {x : Arm} (marks : x.marks = true) : ps.foldl (Arm.short c) x = x := by
  obtain ⟨closing, intent⟩ : x.state = .closing ∧ x.intent ≠ some .suspend := by simpa [Arm.marks] using marks
  induction ps with
  | nil => rfl
  | cons p rest ih =>
    have first : x.short c p = x := by
      unfold Arm.short
      rw [if_neg (by simp [closing, ArmState.isFlow]), if_neg (fun h => intent h.2)]
    rw [List.foldl_cons, first, ih]

/-- The first short stock suspends an arm in flow, and those behind it join in their order. -/
theorem Arm.shorts_begin {ps : List (AdditiveId × SlotId)} (differ : (ps.map Prod.fst).Nodup) {x : Arm} (flow : x.state.isFlow = true)
    (short : ps ≠ []) : ((ps.foldl (Arm.short c) x).state = .closing ∧ (ps.foldl (Arm.short c) x).intent = some .suspend) ∧
      (ps.foldl (Arm.short c) x).causes = ps.map (fun p => .additiveStock p.1 p.2) := by
  obtain ⟨p, rest, rfl⟩ := List.exists_cons_of_ne_nil short
  obtain ⟨new, differ'⟩ := List.nodup_cons.mp differ
  have first : x.short c p = Arm.closed c { x with causes := [.additiveStock p.1 p.2] } .suspend := if_pos flow
  have all : rest.filter (fun p' => decide (∀ m : SlotId, Cause.additiveStock p'.1 m ∉ (x.short c p).causes)) = rest := by
    refine List.filter_eq_self.mpr (fun p' mem => decide_eq_true (fun m stands => new ?_))
    rw [first] at stands
    exact List.mem_map.mpr ⟨p', mem, (Cause.additiveStock.inj (List.mem_singleton.mp stands)).1⟩
  rw [List.foldl_cons, Arm.shorts_suspending rest differ' (by rw [first]; rfl) (by rw [first]; rfl), all, first]
  exact ⟨⟨rfl, rfl⟩, rfl⟩

/-! ### The dosing of a step (R145, R146) -/

/-- What the channels of an arm take of an additive is what its own channel takes. -/
theorem Rack.takes_own (differ : r.dosesDiffer a) (slot : r.slotConfig a n = some k) :
    (allSlots.map (fun m => (r.injector a m).takes k.additive (r.dosing step a m))).sum = (r.injector a n).takes k.additive (r.dosing step a n) := by
  have counted : ∀ m : SlotId, allSlots.count m = 1 := by decide
  rw [List.sum_map_eq_nsmul_single n, counted, one_smul]
  exact fun m ne _ => Injector.takes_other (fun w dosing => differ m n _ _ ne (Rack.dosing_iff.mp dosing).1 slot)

/-- The channels see in the step what they saw before it. -/
theorem Stepped.same_dosing (h : Stepped c r p a e l) (line : r.currentLine a = some l) (n : SlotId) :
    p.injector a n = r.injector a n ∧ p.dosing step a n = r.dosing step a n := by
  obtain ⟨slot, serves⟩ := h.dosing line n
  refine ⟨Rack.injector_eq h.injectors a n, ?_⟩
  unfold Rack.dosing Rack.additive
  rw [slot, serves, h.additives, Rack.injector_eq h.injectors]

/-- The rack after an assigned step in an arm that is not quiet: the arm's own step, then the four channels. -/
structure StepDosed (step : Bool) (c : Conditions) (r r' : Rack) (a : ArmId) (l1 l' : Line) (x : Arm) : Prop where
  injector : ∀ m, r'.injector a m = (r.injector a m).dosed c (r.dosing step a m)
  additive : ∀ y, r'.additive y = { r.additive y with
    inFlight := (r.additive y).inFlight + (allSlots.map (fun m => (r.injector a m).takes y (r.dosing step a m))).sum }
  arm : r'.arm a = (allSlots.filterMap (r.shortAt step a)).foldl (Arm.short c) x
  line : r'.currentLine a = some l'
  lineIs : l' = l1.dosed (allSlots.any (fun m => (r.injector a m).limits (r.dosing step a m)))
    (x.marks && !(allSlots.filterMap (r.shortAt step a)).isEmpty)

theorem exec_meterPulse_doses {s : State} (calibrated : (effectiveBank s.cond s.rack a).kFactor a ≠ 0)
    (full : (effectiveBank s.cond s.rack a).kFactor a / 10 ≤ (s.rack.channel a).pulses + 1)
    (running : (s.rack.arm a).state.isRunning = true) (awake : (s.rack.arm a).state = .closing ∨ (s.rack.arm a).quiet = false)
    (current : (s.rack.arm a).current = some e) (line : s.rack.currentLine a = some l) (differ : s.rack.dosesDiffer a) :
    ∃ q t l', exec (.meterPulse a) s = .next t ∧ Measured s.cond s.rack q a e l ∧
      StepDosed true s.cond s.rack t.rack a (l.addStep (s.rack.channel a) (stepCtl s.cond s.rack a l)) l' ((q.armStep s.cond a).arm a) := by
  obtain ⟨q, measured, taken⟩ := exec_meterPulse_step calibrated full running current line
  change exec (.meterPulse a) s = .next { s with rack := (overSlots (fun n r => r.turn true s.cond a n) (q.armStep s.cond a)).pump } at taken
  have stepped := measured.stepped running current
  have awake' : ((q.armStep s.cond a).arm a).quiet = false := by
    by_cases flow : (q.arm a).state.isFlow = true
    · obtain ⟨closes, stays⟩ := Rack.armStep_arm (c := s.cond) flow (measured.currentLine current)
      by_cases close : atClosePoint (q.arm a) (l.addStep (s.rack.channel a) (stepCtl s.cond s.rack a l)) = true ∧ (q.arm a).config ≠ none
      · rw [closes close]
        rfl
      · obtain ⟨state, reason, -, step⟩ := stays (by rwa [not_and_or, Bool.not_eq_true, not_not] at close)
        rw [step, measured.arm]
        refine awake.resolve_left (fun closing => ?_)
        rw [measured.arm, closing] at flow
        cases flow
    · have closing : (q.arm a).state = .closing := by
        rw [measured.arm] at flow ⊢
        simpa [ArmState.isRunning, flow] using running
      rw [Rack.armStep_closing closing, Rack.modArm_arm, if_pos rfl]
  have differ' : (q.armStep s.cond a).dosesDiffer a := fun n m k k' ne slot slot' =>
    differ n m k k' ne ((stepped.dosing line n).1.symm.trans slot) ((stepped.dosing line m).1.symm.trans slot')
  obtain ⟨l', dosed⟩ := overSlots_dosed (c := s.cond) (step := true) stepped.running awake' stepped.current ((stepped.line _ _).trans (if_pos ⟨rfl, rfl⟩)) differ'
  have kept := Arm.shorts_kept (c := s.cond) (allSlots.filterMap ((q.armStep s.cond a).shortAt true a)) stepped.running
  rw [← dosed.arm] at kept
  have short : (q.armStep s.cond a).shortAt true a = s.rack.shortAt true a := by
    funext n
    rw [Rack.shortAt, Rack.shortAt, (stepped.same_dosing (step := true) line n).1, (stepped.same_dosing (step := true) line n).2]
  refine ⟨q, _, l', taken, measured, fun m => ?_, fun y => ?_, ?_, ?_, ?_⟩
  · dsimp only
    rw [Rack.pump_injector, dosed.injector, if_pos ⟨rfl, mem_allSlots m⟩, (stepped.same_dosing (step := true) line m).1, (stepped.same_dosing (step := true) line m).2]
  · dsimp only
    rw [Rack.pump_additive, dosed.additive]
    simp only [fun m => (stepped.same_dosing (step := true) line m).1, fun m => (stepped.same_dosing (step := true) line m).2, Rack.additive, stepped.additives]
  · dsimp only
    rw [Rack.pump_arm, dosed.arm, short]
  · dsimp only
    rw [Rack.pump_currentLine, Rack.currentLine_of (kept.current.trans stepped.current), dosed.line, if_pos ⟨rfl, rfl⟩]
  · rw [dosed.lineIs, short]
    simp only [fun m => (stepped.same_dosing (step := true) line m).1, fun m => (stepped.same_dosing (step := true) line m).2]

theorem StepDosed.unserved {l1 : Line} {y : Arm} (h : StepDosed step c r r' a l1 l' y) (none : ∀ k d, ¬r.serves a n k d) :
    r'.injector a n = r.injector a n := by
  rw [h.injector, Rack.dosing_none (Rack.serves_none none)]
  rfl

theorem StepDosed.unnamed {l1 : Line} {y : Arm} (h : StepDosed step c r r' a l1 l' y) {z : AdditiveId}
    (none : ∀ n k d, r.serves a n k d → k.additive ≠ z) : r'.additive z = r.additive z := by
  rw [h.additive, List.sum_eq_zero]
  · rfl
  · intro v mem
    obtain ⟨m, -, rfl⟩ := List.mem_map.mp mem
    refine Injector.takes_other (fun w dosing => ?_)
    obtain ⟨slot, ⟨d, serves, -⟩, -⟩ := Rack.dosing_iff.mp dosing
    exact none m _ d ((Rack.serves_iff ..).mpr ⟨slot, serves⟩)

/-- A channel that serves an entry, and its additive, by its stroke test. -/
theorem StepDosed.served {l1 : Line} {y : Arm} (h : StepDosed step c r r' a l1 l' y) (differ : r.dosesDiffer a) {owed : Nat} (serves : r.serves a n k d)
    (owes : owed = (r.injector a n).owes step d) :
    (owed < 100 * k.stroke ∨ (r.injector a n).phase ≠ .none →
      r'.injector a n = { r.injector a n with owed := owed } ∧ r'.additive k.additive = r.additive k.additive) ∧
    (100 * k.stroke ≤ owed → (r.injector a n).phase = .none →
      ((r.additive k.additive).inFlight + k.stroke ≤ (r.additive k.additive).stock →
        r'.injector a n = { r.injector a n with
          owed := owed - 100 * k.stroke, phase := .waitRise, riseTime := none, opened := some { time := c.time, full := false } } ∧
        r'.additive k.additive = { r.additive k.additive with inFlight := (r.additive k.additive).inFlight + k.stroke }) ∧
      ((r.additive k.additive).stock < (r.additive k.additive).inFlight + k.stroke →
        r'.injector a n = { r.injector a n with owed := owed } ∧ r'.additive k.additive = r.additive k.additive)) := by
  obtain ⟨slot, dose⟩ := (Rack.serves_iff ..).mp serves
  have channel := h.injector n
  have additive := h.additive k.additive
  rw [Rack.takes_own differ slot] at additive
  rw [Rack.dosing_some slot dose] at channel additive
  subst owes
  refine ⟨fun idle => ?_, fun enough free => ⟨fun covers => ?_, fun short => ?_⟩⟩
  · have notDue : (r.injector a n).due k ((r.injector a n).owes step d) = false := by
      rcases idle with fewer | flies
      · simp [Injector.due, fewer]
      · simp [Injector.due, flies]
    rw [channel, additive]
    exact ⟨if_neg (by simp [notDue]), by simp [Injector.takes, notDue]⟩
  · have due : (r.injector a n).due k ((r.injector a n).owes step d) = true := by simp [Injector.due, enough, free]
    have covered : k.covered (r.additive k.additive) = true := decide_eq_true covers
    rw [channel, additive]
    exact ⟨if_pos (by simp [due, covered]), by simp [Injector.takes, due, covered]⟩
  · have uncovered : k.covered (r.additive k.additive) = false := decide_eq_false (by omega)
    rw [channel, additive]
    exact ⟨if_neg (by simp [uncovered]), by simp [Injector.takes, uncovered]⟩

/-- The line gains DOSE_LIMITED by a channel that comes to owe four strokes. -/
theorem limits_iff {owed : SlotId → Nat} (owes : ∀ n k d, r.serves a n k d → owed n = (r.injector a n).owes step d) :
    allSlots.any (fun m => (r.injector a m).limits (r.dosing step a m)) = true ↔
      ∃ n k d, r.serves a n k d ∧ (r.injector a n).owed < owed n ∧ 400 * k.stroke ≤ owed n := by
  rw [List.any_eq_true]
  constructor
  · rintro ⟨n, -, limits⟩
    cases dosing : r.dosing step a n with
    | none =>
      rw [dosing] at limits
      cases limits
    | some v =>
      obtain ⟨k, owing, x⟩ := v
      obtain ⟨slot, ⟨d, serves, same⟩, -⟩ := Rack.dosing_iff.mp dosing
      dsimp only at same
      subst same
      have here := (Rack.serves_iff ..).mpr ⟨slot, serves⟩
      rw [dosing] at limits
      refine ⟨n, k, d, here, ?_⟩
      rw [owes n k d here]
      simpa [Injector.limits, owesFour] using limits
  · rintro ⟨n, k, d, here, four⟩
    obtain ⟨slot, serves⟩ := (Rack.serves_iff ..).mp here
    refine ⟨n, mem_allSlots n, ?_⟩
    rw [owes n k d here] at four
    rw [Rack.dosing_some slot serves]
    simpa [Injector.limits, owesFour] using four

/-- Settles O45: the arm's own step, then its channels in slot order. -/
theorem stepOwesDoseAndStrokes : Obligations.StepOwesDoseAndStrokes := by
  intro a s e l k closeAt owed short calibrated full running awake current line config slotsDiffer closeIs owes shortIs
  have differ := Rack.dosesDiffer_of config slotsDiffer
  obtain ⟨q, t, l', taken, measured, dosed⟩ := exec_meterPulse_doses calibrated full running awake current line differ
  have shorts : allSlots.filterMap (s.rack.shortAt true a) = short := (shortIs.trans (Rack.shortSlots_eq (step := true) owes)).symm
  have once : (short.map Prod.fst).Nodup := shorts ▸ Rack.shortAt_differ differ (by decide)
  have arm := dosed.arm
  have lineIs := dosed.lineIs
  rw [shorts] at arm lineIs
  have under : l'.flags.underDose = (l.flags.underDose || (((q.armStep s.cond a).arm a).marks && !short.isEmpty)) := by
    rw [lineIs]
    rfl
  have standard : l'.standard = (l.addStep (s.rack.channel a) (stepCtl s.cond s.rack a l)).standard := by
    rw [lineIs]
    rfl
  have point : closePoint (s.rack.arm a) (l.addStep (s.rack.channel a) (stepCtl s.cond s.rack a l)) = closeAt := closeIs.symm
  refine ⟨t, l', taken, dosed.line, by rw [lineIs]; rfl, ?_, fun n none => dosed.unserved none, fun y none => dosed.unnamed none,
    fun n k d serves => dosed.served differ serves (owes n k d serves), fun flow below => ?_, fun closing suspend => ?_, fun other => ?_⟩
  · rw [← limits_iff (step := true) owes, lineIs]
    simp [Line.dosed, Line.addStep]
  · obtain ⟨state, reason, inFlow, step⟩ := (Rack.armStep_arm (c := s.cond) (r := q) (by rw [measured.arm]; exact flow)
      (measured.currentLine current)).2 (.inl (by rw [measured.arm, atClosePoint, point, ← standard]; simpa using below))
    have flow' : ((q.armStep s.cond a).arm a).state.isFlow = true := by rw [step]; exact inFlow
    have notMarks : ((q.armStep s.cond a).arm a).marks = false := by
      rw [step]
      cases state <;> simp_all [Arm.marks, ArmState.isFlow]
    refine ⟨by rw [under, notMarks]; simp, fun empty => ?_, fun found => ?_⟩
    · rw [arm, empty]
      exact flow'
    · obtain ⟨⟨closing, suspend⟩, causes⟩ := Arm.shorts_begin (c := s.cond) once flow' found
      rw [arm]
      exact ⟨closing, suspend, causes⟩
  · have step := Rack.armStep_closing (c := s.cond) (r := q) (by rw [measured.arm]; exact closing)
    have own : (q.armStep s.cond a).arm a = { s.rack.arm a with settleTimer := some s.cond.stamp, quiet := false } := by
      rw [step, Rack.modArm_arm, if_pos rfl, measured.arm]
    rw [own] at arm under
    refine ⟨by rw [under]; simp [Arm.marks, suspend], ?_⟩
    rw [arm, Arm.shorts_suspending (x := { s.rack.arm a with settleTimer := some s.cond.stamp, quiet := false }) short once closing suspend]
    exact ⟨closing, suspend, rfl⟩
  · have marks : ((q.armStep s.cond a).arm a).marks = true := by
      rcases other with ⟨closing, intent⟩ | ⟨flow, reached⟩
      · rw [Rack.armStep_closing (by rw [measured.arm]; exact closing), Rack.modArm_arm, if_pos rfl, measured.arm]
        simp [Arm.marks, closing, intent]
      · rw [(Rack.armStep_arm (c := s.cond) (r := q) (by rw [measured.arm]; exact flow) (measured.currentLine current)).1
          ⟨by rw [measured.arm, atClosePoint, point, ← standard]; simpa using reached, by rw [measured.arm, config]; simp⟩]
        rfl
    obtain ⟨closing, intent⟩ : ((q.armStep s.cond a).arm a).state = .closing ∧ ((q.armStep s.cond a).arm a).intent ≠ some .suspend := by
      simpa [Arm.marks] using marks
    rw [arm, Arm.shorts_marks short marks, under, marks]
    exact ⟨by simp, closing, intent⟩

end Sys2Proof.Machine
end

section
/-! PROOF. The volume thresholds of a step and the grants they move (O9). -/

namespace Sys2Proof.Machine

variable {c : Conditions} {r r' q : Rack} {a : ArmId} {h : HeaderId} {k : ArmConfig} {e : QueueEntry} {l l' : Line} {w : Waiter}
  {rest : List Waiter}

/-! ### The grant test (R127) -/

theorem grantHeads_other (n : Nat) {g : HeaderId} (other : g ≠ h) : (grantHeads c h n r).1.header g = r.header g := by
  induction n generalizing r with
  | zero => rfl
  | succ n ih =>
    have granted (b : ArmId) : (r.grantTo c h b).header g = r.header g := by
      unfold Rack.grantTo
      dsimp only
      split
      · rw [Rack.header_eq (Rack.setState_headers _ _ _ _), Rack.modHeader_header, if_neg (Ne.symm other)]
      · rw [Rack.modHeader_header, if_neg (Ne.symm other)]
    unfold grantHeads
    split
    · rfl
    · split
      · exact ih.trans (granted _)
      · rfl

theorem grantHeads_stops (n : Nat) (stops : (r.header h).waiting = [] ∨ (r.header h).capacity ≤ (r.header h).held.length) :
    (grantHeads c h n r).1 = r := by
  cases n with
  | zero => rfl
  | succ n =>
    unfold grantHeads
    rcases stops with empty | full
    · rw [empty]
    · split
      · rfl
      · rw [if_neg (by omega)]

/-- A header with room for one more grants the head of its list alone. -/
theorem grantTest_one (waiting : (r.header h).waiting = w :: rest) (room : (r.header h).held.length + 1 = (r.header h).capacity)
    (fresh : w.arm ∉ (r.header h).held) (waits : (r.arm w.arm).state = .waitGrant) : (grantTest c h r).1 = r.grantTo c h w.arm := by
  obtain ⟨headers, -⟩ := Rack.grantTo_waiting (c := c) (h := h) waits
  have first : (grantTest c h r).1 = (grantHeads c h rest.length (r.grantTo c h w.arm)).1 := by
    unfold grantTest
    rw [waiting, List.length_cons, grantHeads, waiting]
    dsimp only
    rw [if_pos (by omega)]
  refine first.trans (grantHeads_stops _ (.inr ?_))
  rw [headers, if_pos rfl]
  dsimp only
  rw [insertArm_length fresh]
  omega

/-- A list of one, with room, is granted. -/
theorem grantTest_single (waiting : (r.header h).waiting = [w]) (room : (r.header h).held.length < (r.header h).capacity) :
    (grantTest c h r).1 = r.grantTo c h w.arm := by
  unfold grantTest
  rw [waiting, List.length_singleton, grantHeads, waiting]
  dsimp only
  rw [if_pos room]
  rfl

/-! ### Leaving for LOW_RUN (R128, R129) -/

/-- An arm in another flow state goes to LOW_RUN: state and reason alone change. -/
theorem Rack.toLowRun_arm (running : (r.arm a).state.isRunning = true) (other : (r.arm a).state ≠ .lowRun) (b : ArmId) :
    (r.setState c a .lowRun).arm b = if a = b then { r.arm a with state := .lowRun, reason := none } else r.arm b := by
  rw [Rack.setState_arm, repeatAfter_running running rfl]
  simp [other]

theorem Rack.toLowRun_header (g : HeaderId) : (r.setState c a .lowRun).header g = r.header g :=
  Rack.header_eq (Rack.setState_headers r c a _) g

theorem Rack.withdrawn (on : r.headerOf a = some h) : r.afterLeaving c a .waitGrant = r.modHeader h (fun x =>
    { x with waiting := x.waiting.filter (fun w => decide (w.arm ≠ a)) }) := by
  have leaves : r.afterLeaving c a .waitGrant = r.withdraw a := by
    unfold Rack.afterLeaving
    rw [if_neg (by decide), if_pos rfl]
  rw [leaves, Rack.withdraw, on]

theorem Rack.released (on : r.headerOf a = some h) : r.afterLeaving c a .high =
    (grantTest c h (r.modHeader h (fun x => { x with held := x.held.filter (fun b => decide (b ≠ a)) }))).1 := by
  have leaves : r.afterLeaving c a .high = r.releaseGrant c a := by
    unfold Rack.afterLeaving
    rw [if_pos rfl]
  rw [leaves, Rack.releaseGrant, on]

theorem Rack.joined (on : r.headerOf a = some h) : r.joinWaiting c a = (grantTest c h ((r.setState c a .waitGrant).modHeader h (fun x =>
    { x with waiting := insertWaiter { arm := a, priority := r.priorityOf a, position := joinPosition x.waiting } x.waiting }))).1 := by
  unfold Rack.joinWaiting
  rw [on]

/-! ### The tests by the state of the arm (R108, R109) -/

section
variable (config : (r.arm a).config = some k) (line : r.currentLine a = some l) (below : atClosePoint (r.arm a) l = false)
include config line below

theorem Rack.testThresholds_lowStart (state : (r.arm a).state = .lowStart) : r.testThresholds c a =
    if (r.arm a).startMark.getD 0 ≤ l.standard then if r.staysLow k l then r.setState c a .lowRun else r.joinWaiting c a else r := by
  unfold Rack.testThresholds
  rw [config, line, state]
  exact if_neg (by simp [below])

theorem Rack.testThresholds_waitGrant (state : (r.arm a).state = .waitGrant) : r.testThresholds c a =
    if atTaperPoint k l then (r.setState c a .lowRun).afterLeaving c a .waitGrant else r := by
  unfold Rack.testThresholds
  rw [config, line, state]
  exact if_neg (by simp [below])

theorem Rack.testThresholds_high (state : (r.arm a).state = .high) : r.testThresholds c a =
    if atTaperPoint k l then (r.setState c a .lowRun).afterLeaving c a .high else r := by
  unfold Rack.testThresholds
  rw [config, line, state]
  exact if_neg (by simp [below])

theorem Rack.testThresholds_lowRun (state : (r.arm a).state = .lowRun) : r.testThresholds c a = r := by
  unfold Rack.testThresholds
  rw [config, line, state]
  exact if_neg (by simp [below])

end

/-! ### Joining the waiting list (R126, R127) -/

theorem Rack.toWaitGrant_arm (lowStart : (r.arm a).state = .lowStart) (b : ArmId) :
    (r.setState c a .waitGrant).arm b = if a = b then { r.arm a with state := .waitGrant, reason := none } else r.arm b := by
  rw [Rack.setState_arm, repeatAfter_running (by simp [lowStart, ArmState.isRunning, ArmState.isFlow]) rfl]
  simp [lowStart]

/-- Room and an empty list: the joiner goes to HIGH with the grant. -/
theorem Rack.joinWaiting_room (on : r.headerOf a = some h) (lowStart : (r.arm a).state = .lowStart) (empty : (r.header h).waiting = [])
    (room : (r.header h).held.length < (r.header h).capacity) :
    ((r.joinWaiting c a).arm a).state = .high ∧ a ∈ ((r.joinWaiting c a).header h).held ∧ ((r.joinWaiting c a).header h).waiting = [] := by
  let listed := (r.setState c a .waitGrant).modHeader h (fun x =>
    { x with waiting := insertWaiter { arm := a, priority := r.priorityOf a, position := joinPosition x.waiting } x.waiting })
  have own : listed.header h = { r.header h with
      waiting := [{ arm := a, priority := r.priorityOf a, position := joinPosition [] }] } := by
    rw [Rack.modHeader_header, if_pos rfl, Rack.header_eq (Rack.setState_headers _ _ _ _), empty]
    rfl
  have waits : (listed.arm a).state = .waitGrant := by
    rw [Rack.modHeader_arm_of, Rack.toWaitGrant_arm lowStart, if_pos rfl]
  obtain ⟨headers, arms⟩ := Rack.grantTo_waiting (c := c) (h := h) waits
  rw [Rack.joined on, grantTest_single (r := listed) (by rw [own]) (by rw [own]; exact room)]
  refine ⟨by rw [arms, if_pos rfl], ?_, ?_⟩
  · rw [headers, if_pos rfl]
    exact (mem_insertArm a a _).mpr (.inl rfl)
  · rw [headers, if_pos rfl, own]
    simp

/-- A full set: the joiner waits, behind those it finds. -/
theorem Rack.joinWaiting_full (on : r.headerOf a = some h) (lowStart : (r.arm a).state = .lowStart)
    (full : (r.header h).capacity ≤ (r.header h).held.length) :
    ((r.joinWaiting c a).arm a).state = .waitGrant ∧ ((r.joinWaiting c a).header h).held = (r.header h).held ∧
      ((r.joinWaiting c a).header h).waiting.length = (r.header h).waiting.length + 1 ∧
      ∃ w ∈ ((r.joinWaiting c a).header h).waiting, w.arm = a ∧ w.priority = r.priorityOf a := by
  let w : Waiter := { arm := a, priority := r.priorityOf a, position := joinPosition (r.header h).waiting }
  let listed := (r.setState c a .waitGrant).modHeader h (fun x =>
    { x with waiting := insertWaiter { arm := a, priority := r.priorityOf a, position := joinPosition x.waiting } x.waiting })
  have own : listed.header h = { r.header h with waiting := insertWaiter w (r.header h).waiting } := by
    rw [Rack.modHeader_header, if_pos rfl, Rack.header_eq (Rack.setState_headers _ _ _ _)]
  have stops : (grantTest c h listed).1 = listed := grantHeads_stops _ (.inr (by rw [own]; exact full))
  rw [Rack.joined on, stops, own]
  refine ⟨?_, rfl, (insertWaiter_perm _ _).length_eq, w, (insertWaiter_perm _ _).mem_iff.mpr (List.mem_cons_self), rfl, rfl⟩
  rw [Rack.modHeader_arm_of, Rack.toWaitGrant_arm lowStart, if_pos rfl]

/-! ### Giving a grant back (R128) -/

theorem Rack.headerOf_same (config : (r'.arm a).config = (r.arm a).config) : r'.headerOf a = r.headerOf a := by
  unfold Rack.headerOf
  rw [config]

theorem Rack.left_arm (high : (r.arm a).state = .high) (b : ArmId) : (((r.setState c a .lowRun).modHeader h (fun x =>
    { x with held := x.held.filter (fun b => decide (b ≠ a)) })).arm b) =
      if a = b then { r.arm a with state := .lowRun, reason := none } else r.arm b := by
  rw [Rack.modHeader_arm_of, Rack.toLowRun_arm (by simp [high, ArmState.isRunning, ArmState.isFlow]) (by simp [high])]

theorem Rack.left_header : ((r.setState c a .lowRun).modHeader h (fun x =>
    { x with held := x.held.filter (fun b => decide (b ≠ a)) })).header h =
      { r.header h with held := (r.header h).held.filter (fun b => decide (b ≠ a)) } := by
  rw [Rack.modHeader_header, if_pos rfl, Rack.toLowRun_header]

theorem Rack.left_released (on : r.headerOf a = some h) : (r.setState c a .lowRun).afterLeaving c a .high = (grantTest c h ((r.setState c a .lowRun).modHeader h (fun x =>
    { x with held := x.held.filter (fun b => decide (b ≠ a)) }))).1 :=
  Rack.released ((Rack.headerOf_same (by rw [Rack.setState_config])).trans on)

/-- The list is empty or the set full without the arm: its grant goes back, and no more. -/
theorem Rack.leaveHigh_still (on : r.headerOf a = some h) (high : (r.arm a).state = .high) (stops : (r.header h).waiting = [] ∨
      (r.header h).capacity ≤ ((r.header h).held.filter (fun b => decide (b ≠ a))).length) (b : ArmId) :
    ((r.setState c a .lowRun).afterLeaving c a .high).header h =
      { r.header h with held := (r.header h).held.filter (fun b => decide (b ≠ a)) } ∧
    ((r.setState c a .lowRun).afterLeaving c a .high).arm b =
      if a = b then { r.arm a with state := .lowRun, reason := none } else r.arm b := by
  let left := (r.setState c a .lowRun).modHeader h (fun x => { x with held := x.held.filter (fun b => decide (b ≠ a)) })
  have stays : (grantTest c h left).1 = left := grantHeads_stops _ (by rw [Rack.left_header]; exact stops)
  rw [Rack.left_released on, stays]
  exact ⟨Rack.left_header, Rack.left_arm high b⟩

/-- The head of the list takes the grant that goes back. -/
theorem Rack.leaveHigh_granted (on : r.headerOf a = some h) (high : (r.arm a).state = .high) (waiting : (r.header h).waiting = w :: rest)
    (room : ((r.header h).held.filter (fun b => decide (b ≠ a))).length + 1 = (r.header h).capacity) (other : w.arm ≠ a)
    (fresh : w.arm ∉ (r.header h).held.filter (fun b => decide (b ≠ a))) (alone : w.arm ∉ rest.map (fun v => v.arm))
    (waits : (r.arm w.arm).state = .waitGrant) :
    ((r.setState c a .lowRun).afterLeaving c a .high).header h = { r.header h with
      waiting := rest, held := insertArm w.arm ((r.header h).held.filter (fun b => decide (b ≠ a))) } ∧
    ∀ b, ((r.setState c a .lowRun).afterLeaving c a .high).arm b = if w.arm = b then { r.arm w.arm with state := .high, reason := none }
      else if a = b then { r.arm a with state := .lowRun, reason := none } else r.arm b := by
  have waits' : (((r.setState c a .lowRun).modHeader h (fun x =>
      { x with held := x.held.filter (fun b => decide (b ≠ a)) })).arm w.arm).state = .waitGrant := by
    rw [Rack.left_arm high, if_neg (Ne.symm other)]
    exact waits
  obtain ⟨headers, arms⟩ := Rack.grantTo_waiting (c := c) (h := h) waits'
  have remains : rest.filter (fun v => decide (v.arm ≠ w.arm)) = rest :=
    List.filter_eq_self.mpr (fun v mem => decide_eq_true (fun same => alone (same ▸ List.mem_map_of_mem mem)))
  rw [Rack.left_released on, grantTest_one (w := w) (rest := rest) (by rw [Rack.left_header]; exact waiting)
    (by rw [Rack.left_header]; exact room) (by rw [Rack.left_header]; exact fresh) waits']
  refine ⟨?_, fun b => ?_⟩
  · rw [headers, if_pos rfl, Rack.left_header, waiting, List.filter_cons_of_neg (by simp), remains]
  · rw [arms, Rack.left_arm high, Rack.left_arm high, if_neg (Ne.symm other)]

/-- Only the arm's own header is touched at a threshold. -/
theorem Rack.testThresholds_header (config : (r.arm a).config = some k) (flow : (r.arm a).state.isFlow = true)
    (line : r.currentLine a = some l) (below : atClosePoint (r.arm a) l = false) {g : HeaderId} (other : g ≠ k.header) :
    (r.testThresholds c a).header g = r.header g := by
  have on : r.headerOf a = some k.header := by rw [Rack.headerOf, config]; rfl
  have on' (new : ArmState) : (r.setState c a new).headerOf a = some k.header := (Rack.headerOf_same (by rw [Rack.setState_config])).trans on
  have set (new : ArmState) : (r.setState c a new).header g = r.header g := Rack.header_eq (Rack.setState_headers r c a new) g
  have mod {r : Rack} (f : Header → Header) : (r.modHeader k.header f).header g = r.header g := by
    rw [Rack.modHeader_header, if_neg (Ne.symm other)]
  cases state : (r.arm a).state with
  | lowStart =>
    rw [Rack.testThresholds_lowStart config line below state]
    split
    · split
      · exact set _
      · rw [Rack.joined on]
        exact (grantHeads_other _ other).trans ((mod _).trans (set _))
    · rfl
  | waitGrant =>
    rw [Rack.testThresholds_waitGrant config line below state]
    split
    · rw [Rack.withdrawn (on' _)]
      exact (mod _).trans (set _)
    · rfl
  | high =>
    rw [Rack.testThresholds_high config line below state]
    split
    · rw [Rack.released (on' _)]
      exact (grantHeads_other _ other).trans ((mod _).trans (set _))
    · rfl
  | lowRun => rw [Rack.testThresholds_lowRun config line below state]
  | _ => simp [state, ArmState.isFlow] at flow

/-! ### The step in flow -/

/-- The rack as the thresholds meet it: the line measured, the no-flow timer restarted (R108, R110). -/
structure Tested (c : Conditions) (r q : Rack) (a : ArmId) (k : ArmConfig) (l : Line) : Prop where
  own : q.arm a = { r.arm a with noFlowTimer := some c.stamp }
  arms : ∀ b, b ≠ a → q.arm b = r.arm b
  headers : q.headers = r.headers
  config : (q.arm a).config = some k
  line : q.currentLine a = some l
  priority : ∀ e o, (r.arm a).current = some e → r.order? e.order = some o → q.priorityOf a = o.priority

theorem Measured.tested (h : Measured c r q a e l) (current : (r.arm a).current = some e) (config : (r.arm a).config = some k) :
    Tested c r (q.modArm a (fun x => { x with noFlowTimer := some c.stamp })) a k (l.addStep (r.channel a) (stepCtl c r a l)) := by
  have own : (q.modArm a (fun x => { x with noFlowTimer := some c.stamp })).arm a = { r.arm a with noFlowTimer := some c.stamp } := by
    rw [Rack.modArm_arm, if_pos rfl, h.arm]
  refine ⟨own, fun b ne => (Rack.marked_arm b ne).trans (h.arm b), ?_, by rw [own]; exact config, ?_, fun e' o current' order => ?_⟩
  · rw [Rack.modArm_headers, h.frame]
  · exact (Rack.currentLine_eq (r := q) (by rfl) (by rw [own, h.arm])).trans (h.currentLine current)
  · have face := h.face e'.order
    rw [order] at face
    obtain ⟨o', order', same⟩ := Option.map_eq_some_iff.mp face
    have found : (q.modArm a (fun x => { x with noFlowTimer := some c.stamp })).order? e'.order = some o' := order'
    unfold Rack.priorityOf
    rw [own]
    dsimp only
    rw [current', Option.bind_some, found]
    have priority := congrArg Order.priority same
    exact priority

theorem Tested.header (h : Tested c r q a k l) (g : HeaderId) : q.header g = r.header g := Rack.header_eq h.headers g

theorem Tested.headerOf (h : Tested c r q a k l) : q.headerOf a = some k.header := by
  rw [Rack.headerOf, h.config]
  rfl

/-- A step that moves the arm to LOW_RUN alone. -/
theorem Tested.toLowRun (h : Tested c r q a k l) (running : (r.arm a).state.isRunning = true) (other : (r.arm a).state ≠ .lowRun) :
    (q.setState c a .lowRun).arm a = { r.arm a with state := .lowRun, reason := none, noFlowTimer := some c.stamp } ∧
      (q.setState c a .lowRun).headers = r.headers ∧ ∀ b, b ≠ a → (q.setState c a .lowRun).arm b = r.arm b := by
  have arms := Rack.toLowRun_arm (c := c) (r := q) (by rw [h.own]; exact running) (by rw [h.own]; exact other)
  refine ⟨by rw [arms, if_pos rfl, h.own], (Rack.setState_headers q c a _).trans h.headers, fun b ne => ?_⟩
  rw [arms, if_neg (Ne.symm ne), h.arms b ne]

/-- The start mark takes the line to LOW_RUN or to its header's list (R109). -/
theorem Tested.mark (h : Tested c r q a k l) (below : atClosePoint (q.arm a) l = false) (state : (r.arm a).state = .lowStart) {v : Nat}
    (mark : (r.arm a).startMark = some v) (reached : v ≤ l.standard) :
    q.testThresholds c a = if q.staysLow k l then q.setState c a .lowRun else q.joinWaiting c a := by
  rw [Rack.testThresholds_lowStart h.config h.line below (by rw [h.own]; exact state), if_pos]
  rw [h.own]
  dsimp only
  rw [mark]
  exact reached

/-- Settles O9: the close point first, then the figure of the arm's state. -/
theorem thresholdsMoveArm : Obligations.ThresholdsMoveArm := by
  intro a s l l' k g closeAt taperAt now calibrated full flow line config gIs lineIs nowIs closeIs taperIs
  subst gIs nowIs
  obtain ⟨e, -, current, -, -⟩ := Rack.currentLine_some line
  have running : (s.rack.arm a).state.isRunning = true := by simp [ArmState.isRunning, flow]
  obtain ⟨q, measured, taken⟩ := exec_meterPulse_step calibrated full running current line
  have stepped := measured.stepped running current
  have tested := measured.tested current config
  rw [← lineIs] at tested
  have close : atClosePoint (s.rack.arm a) l' = decide (closeAt ≤ (l'.standard : Int)) := by
    rw [closeIs, lineIs]
    rfl
  have taper : atTaperPoint k l' = decide (taperAt ≤ (l'.standard : Int)) := by
    rw [taperIs, lineIs]
    rfl
  have step := Rack.armStep_flow (c := s.cond) (r := q) (by rw [measured.arm]; exact flow)
  refine ⟨fun reached => ?_, fun short unserved => ?_⟩
  · obtain ⟨final, doses, -⟩ := stepped.doses line
    obtain ⟨ps, arm⟩ := doses.arm
    have closed := (Rack.armStep_arm (c := s.cond) (r := q) (by rw [measured.arm]; exact flow) (measured.currentLine current)).1
      ⟨by rw [measured.arm, ← lineIs, close]; exact decide_eq_true reached, by rw [measured.arm, config]; simp⟩
    rw [closed, Arm.shorts_marks ps (by rfl), measured.arm] at arm
    refine ⟨_, taken, ?_⟩
    dsimp only
    rw [Rack.pump_arm, arm]
    exact ⟨rfl, rfl, rfl, rfl, rfl, rfl, rfl, config⟩
  · have idle (n : SlotId) : (q.armStep s.cond a).slotConfig a n = none ∨ (q.armStep s.cond a).servedDose a n = none := by
      refine .inr ((stepped.dosing line n).2.trans ?_)
      unfold Rack.servedDose
      rw [unserved n]
      rfl
    rw [overSlots_none idle, step] at taken
    generalize q.modArm a (fun x => { x with noFlowTimer := some s.cond.stamp }) = p at taken tested
    have below : atClosePoint (p.arm a) l' = false := by
      rw [tested.own]
      exact close.trans (decide_eq_false (by omega))
    have inFlow : (p.arm a).state.isFlow = true := by rw [tested.own]; exact flow
    have highArm (high : (s.rack.arm a).state = .high) : (p.arm a).state = .high := by rw [tested.own]; exact high
    refine ⟨_, taken, fun g ne => ?_, fun stays => ?_, fun v lowStart mark reached => ⟨fun low => ?_, fun asks notTaper capacity => ⟨fun empty room => ?_,
      fun held => ?_⟩⟩, fun waits reached => ?_, fun kept high reached keptIs => ?_⟩ <;> dsimp only
    · rw [Rack.pump_header, Rack.testThresholds_header tested.config inFlow tested.line below ne, tested.header]
    · have same : p.testThresholds s.cond a = p := by
        rcases stays with lowRun | ⟨lowStart, v, mark, short⟩ | ⟨waits | high, short⟩
        · exact Rack.testThresholds_lowRun tested.config tested.line below (by rw [tested.own]; exact lowRun)
        · rw [Rack.testThresholds_lowStart tested.config tested.line below (by rw [tested.own]; exact lowStart), if_neg]
          rw [tested.own]
          dsimp only
          rw [mark]
          exact Nat.not_le.mpr short
        · rw [Rack.testThresholds_waitGrant tested.config tested.line below (by rw [tested.own]; exact waits), taper,
            decide_eq_false (by omega)]
          rfl
        · rw [Rack.testThresholds_high tested.config tested.line below (highArm high), taper, decide_eq_false (by omega)]
          rfl
      rw [same, Rack.pump_arm, tested.own, Rack.pump_headers, tested.headers]
      exact ⟨rfl, rfl, fun b ne => by rw [Rack.pump_arm, tested.arms b ne]⟩
    · have stays : p.staysLow k l' = true := by
        unfold Rack.staysLow
        rw [taper, tested.header, lineIs]
        rcases low with low | reached | zero
        · simp [Line.addStep, low]
        · rw [lineIs] at reached
          simp [reached]
        · simp [zero]
      obtain ⟨own, headers, others⟩ := tested.toLowRun running (by rw [lowStart]; decide)
      rw [tested.mark below lowStart mark reached, if_pos stays, Rack.pump_headers]
      exact ⟨by rw [Rack.pump_arm, own]; rfl, headers, fun b ne => by rw [Rack.pump_arm, others b ne]⟩
    · have asks' : p.staysLow k l' ≠ true := by
        unfold Rack.staysLow
        rw [taper, tested.header, decide_eq_false (by omega), lineIs]
        simp [Line.addStep, asks, capacity]
      obtain ⟨high, held, waiting⟩ := Rack.joinWaiting_room (c := s.cond) tested.headerOf (by rw [tested.own]; exact lowStart)
        (by rw [tested.header]; exact empty) (by rw [tested.header]; exact room)
      rw [tested.mark below lowStart mark reached, if_neg asks', Rack.pump_header]
      exact ⟨by rw [Rack.pump_arm, high], by rw [Rack.pump_arm, high]; rfl, held, waiting⟩
    · have asks' : p.staysLow k l' ≠ true := by
        unfold Rack.staysLow
        rw [taper, tested.header, decide_eq_false (by omega), lineIs]
        simp [Line.addStep, asks, capacity]
      obtain ⟨waits, kept, length, w, mem, here, priority⟩ := Rack.joinWaiting_full (c := s.cond) tested.headerOf
        (by rw [tested.own]; exact lowStart) (by rw [tested.header]; exact held)
      rw [tested.header] at kept length
      rw [tested.mark below lowStart mark reached, if_neg asks', Rack.pump_header]
      exact ⟨by rw [Rack.pump_arm, waits], by rw [Rack.pump_arm, waits]; rfl, kept, length, w, mem, here,
        fun e o current order => priority.trans (tested.priority e o current order)⟩
    · obtain ⟨own, headers, others⟩ := tested.toLowRun running (by rw [waits]; decide)
      have on : (p.setState s.cond a .lowRun).headerOf a = some k.header := (Rack.headerOf_same (by rw [Rack.setState_config])).trans tested.headerOf
      rw [Rack.testThresholds_waitGrant tested.config tested.line below (by rw [tested.own]; exact waits), taper, decide_eq_true reached,
        if_pos rfl, Rack.withdrawn on]
      refine ⟨by rw [Rack.pump_arm, Rack.modHeader_arm_of, own]; rfl, by rw [Rack.pump_arm, Rack.modHeader_arm_of, own]; rfl, ?_,
        fun b ne => by rw [Rack.pump_arm, Rack.modHeader_arm_of, others b ne]⟩
      rw [Rack.pump_header, Rack.modHeader_header, if_pos rfl, Rack.header_eq headers]
    · have taken' : p.testThresholds s.cond a = (p.setState s.cond a .lowRun).afterLeaving s.cond a .high := by
        rw [Rack.testThresholds_high tested.config tested.line below (highArm high), taper, decide_eq_true reached, if_pos rfl]
      have free : (p.header k.header).held.filter (fun b => decide (b ≠ a)) = kept := by rw [tested.header, keptIs]
      obtain ⟨own, -, others⟩ := tested.toLowRun running (by rw [high]; decide)
      have left : (p.testThresholds s.cond a).arm a = { s.rack.arm a with state := .lowRun, reason := none, noFlowTimer := some s.cond.stamp } := by
        rw [taken', (Rack.afterLeaving_grants s.cond (p.setState s.cond a .lowRun) a .high).same (by rw [own]; simp), own]
      refine ⟨by rw [Rack.pump_arm, left]; rfl, by rw [Rack.pump_arm, left]; rfl, fun still => ?_, fun w rest waiting room other fresh alone waits => ?_⟩
      · have stays := Rack.leaveHigh_still (c := s.cond) tested.headerOf (highArm high) (by rw [free, tested.header]; exact still)
        refine ⟨?_, fun b ne => ?_⟩
        · rw [Rack.pump_header, taken', (stays a).1, free, tested.header]
        · rw [Rack.pump_arm, taken', (stays b).2, if_neg (Ne.symm ne), tested.arms b ne]
      · obtain ⟨header, arms⟩ := Rack.leaveHigh_granted (c := s.cond) tested.headerOf (highArm high) (by rw [tested.header]; exact waiting)
          (by rw [free, tested.header]; exact room) other (by rw [free]; exact fresh) alone (by rw [tested.arms _ other]; exact waits)
        have granted : (p.testThresholds s.cond a).arm w.arm = { s.rack.arm w.arm with state := .high, reason := none } := by
          rw [taken', arms, if_pos rfl, tested.arms _ other]
        rw [free, tested.header] at header
        rw [Rack.pump_arm, granted, Rack.pump_header, taken', header]
        refine ⟨rfl, rfl, rfl, rfl, fun b => ?_, fun b notA notW => ?_⟩
        · rw [mem_insertArm, or_comm]
        · rw [Rack.pump_arm, arms, if_neg (Ne.symm notW), if_neg (Ne.symm notA), tested.arms b notA]

end Sys2Proof.Machine
end

section
/-! PROOF. START at an arm: the entry to LOW_START (R5, R12, R105) and the first start of a line (O38). -/

namespace Sys2Proof.Machine

variable {c : Conditions} {r r' q : Rack} {a : ArmId} {n : SlotId} {k : ArmConfig} {e : QueueEntry} {l l' : Line}

/-! ### A START that reaches its arm (R187) -/

theorem exec_start {b : BayId} {s : State} (here : bayOf a = b) :
    exec (.start b a) s = .next { s.heard b with rack := (s.rack.startArm s.cond a).pump } := by
  have pressed : (s.setPanelRx b .fresh).pressStart b a = { s.heard b with rack := (s.rack.startArm s.cond a).pump } := by
    unfold State.pressStart State.moveRack
    simp only [if_pos here]
    rfl
  exact congrArg Host.Outcome.next pressed

theorem Rack.startArm_ready (ready : (r.arm a).state = .ready) (passes : startRefusal c r a = none) :
    r.startArm c a = (r.firstStart c a).callArm a := by
  unfold Rack.startArm
  rw [ready, passes]

theorem Rack.startArm_suspended (suspended : (r.arm a).state = .suspended) (passes : resumeRefusal c r a = none) :
    r.startArm c a = (r.resume c a).callArm a := by
  unfold Rack.startArm
  rw [suspended, passes]

/-! ### The entry to LOW_START (R5, R12, R105) -/

/-- An arm as it enters LOW_START from a state that does not run. -/
def Arm.lowStarted (c : Conditions) (mark : Nat) (x : Arm) : Arm :=
  { x with state := .lowStart, reason := none, repeatTimer := some c.stamp, startMark := some mark, noFlowTimer := some c.stamp }

/-- An arm that a stale temperature closes as it enters LOW_START. -/
def Arm.staleStarted (c : Conditions) (mark : Nat) (x : Arm) : Arm :=
  Arm.closed c { x.lowStarted c mark with causes := [.probe], probeRefreshed := false } .suspend

/-- An arm and its channel have changed, and nothing else but panel lines. -/
structure Entered (r r' : Rack) (a : ArmId) (x : Arm) (y : Channel) : Prop where
  arm : r'.arm a = x
  arms : ∀ b, b ≠ a → r'.arm b = r.arm b
  channel : r'.channel a = y
  channels : ∀ b, b ≠ a → r'.channel b = r.channel b
  frame : r' = { r with arms := r'.arms, channels := r'.channels, panels := r'.panels }

/-- An arm that stands on no list and holds no grant closes without the arbiter. -/
theorem Rack.enterClosing_plain (intent : Intent) (noGrant : (r.arm a).state ≠ .high) (noWait : (r.arm a).state ≠ .waitGrant) :
    r.enterClosing c a intent = (r.setState c a .closing).modArm a (fun x =>
      { x with intent := some intent, noFlowTimer := none, settleTimer := some c.stamp, quiet := false }) := by
  unfold Rack.enterClosing Rack.afterLeaving
  rw [if_neg noGrant, if_neg noWait]

theorem Rack.enterClosing_entered (intent : Intent) (noGrant : (r.arm a).state ≠ .high) (noWait : (r.arm a).state ≠ .waitGrant)
    (notClosing : (r.arm a).state ≠ .closing) : Entered r (r.enterClosing c a intent) a (Arm.closed c (r.arm a) intent) (r.channel a) where
  arm := Rack.enterClosing_arm c r a intent notClosing
  arms b ne := by rw [Rack.enterClosing_plain intent noGrant noWait, Rack.marked_arm b ne, Rack.setState_arm, if_neg (fun h => ne h.1.symm)]
  channel := Rack.channel_eq (Rack.enterClosing_channels r c a intent) a
  channels b _ := Rack.channel_eq (Rack.enterClosing_channels r c a intent) b
  frame := by
    rw [Rack.enterClosing_plain intent noGrant noWait]
    apply Rack.eq_of_fields <;> simp

theorem Entered.trans {p : Rack} {x x' : Arm} {y y' : Channel} (h : Entered r q a x y) (h' : Entered q p a x' y') : Entered r p a x' y' where
  arm := h'.arm
  arms b ne := (h'.arms b ne).trans (h.arms b ne)
  channel := h'.channel
  channels b ne := (h'.channels b ne).trans (h.channels b ne)
  frame := by
    have frame := h.frame
    have frame' := h'.frame
    rw [frame] at frame'
    exact frame'

theorem Rack.enterLowStart_entered (still : (r.arm a).state.isRunning = false) (mark : Nat) : Entered r (r.enterLowStart c a k mark) a
    (if staleNow c (r.channel a) = true then (r.arm a).staleStarted c (mark + k.lowStart * 100000)
      else (r.arm a).lowStarted c (mark + k.lowStart * 100000))
    ((r.channel a).restart c ((effectiveBank c r a).factorAt a 0)) := by
  let low := ((r.modChannel a (Channel.restart c ((effectiveBank c r a).factorAt a 0))).setState c a .lowStart).modArm a
    (fun x => { x with startMark := some (mark + k.lowStart * 100000), noFlowTimer := some c.stamp })
  have notLow : (r.arm a).state ≠ .lowStart := fun h => by
    rw [h] at still
    cases still
  have starts : repeatAfter c (r.arm a).state .lowStart (r.arm a).repeatTimer = some c.stamp :=
    (if_pos rfl).trans (if_neg (by simp [still]))
  have own : low.arm a = (r.arm a).lowStarted c (mark + k.lowStart * 100000) := by
    rw [Rack.modArm_arm, if_pos rfl, Rack.setState_arm, if_pos ⟨rfl, notLow⟩, Rack.modChannel_arm_of, starts]
    rfl
  have channels (b : ArmId) : low.channel b =
      if a = b then (r.channel a).restart c ((effectiveBank c r a).factorAt a 0) else r.channel b := by
    rw [Rack.modArm_channel_of, Rack.channel_eq (Rack.setState_channels _ _ _ _), Rack.modChannel_channel]
  have entered : Entered r low a ((r.arm a).lowStarted c (mark + k.lowStart * 100000))
      ((r.channel a).restart c ((effectiveBank c r a).factorAt a 0)) := by
    refine ⟨own, fun b ne => ?_, by rw [channels, if_pos rfl], fun b ne => by rw [channels, if_neg (Ne.symm ne)], ?_⟩
    · rw [Rack.marked_arm b ne, Rack.setState_arm, if_neg (fun h => ne h.1.symm), Rack.modChannel_arm_of]
    · apply Rack.eq_of_fields <;> simp [low]
  have stale : staleNow c (low.channel a) = staleNow c (r.channel a) := by
    rw [channels, if_pos rfl]
    rfl
  have enters : r.enterLowStart c a k mark = if staleNow c (r.channel a) = true then low.raiseCause c a .probe else low := by
    rw [← stale]
    rfl
  rw [enters]
  split
  · have flow : (low.arm a).state.isFlow = true := by rw [own]; rfl
    have raised : low.raiseCause c a .probe = (low.modArm a (fun x =>
        { x with causes := [.probe], probeRefreshed := refreshedAfter .probe x.probeRefreshed })).enterClosing c a .suspend := if_pos flow
    let marked := low.modArm a (fun x => { x with causes := [.probe], probeRefreshed := refreshedAfter .probe x.probeRefreshed })
    have markedArm : marked.arm a =
        { (r.arm a).lowStarted c (mark + k.lowStart * 100000) with causes := [.probe], probeRefreshed := false } := by
      rw [Rack.modArm_arm, if_pos rfl, own]
      rfl
    have marks : Entered low marked a (marked.arm a) (marked.channel a) :=
      ⟨rfl, fun b ne => Rack.marked_arm b ne, rfl, fun _ _ => rfl, rfl⟩
    have closed := Rack.enterClosing_entered (c := c) (a := a) (r := marked) .suspend (by rw [markedArm]; simp [Arm.lowStarted])
      (by rw [markedArm]; simp [Arm.lowStarted]) (by rw [markedArm]; simp [Arm.lowStarted])
    rw [markedArm, show marked.channel a = _ from (channels a).trans (if_pos rfl)] at closed
    rw [raised]
    exact entered.trans (marks.trans closed)
  · exact entered

/-! ### The first start of a line (R5, R34, R105, R144) -/

/-- The line of a READY arm has begun: the line, the arm's causes and the arm's channels have changed. -/
structure Begun (c : Conditions) (r r' : Rack) (a : ArmId) (e : QueueEntry) (l : Line) : Prop where
  arm : r'.arm a = { r.arm a with causes := [], probeRefreshed := false }
  arms : ∀ b, b ≠ a → r'.arm b = r.arm b
  line : ∀ o m, r'.line? o m = if e.order = o ∧ e.line = m then some (l.firstStart c) else r.line? o m
  injector : ∀ b m, r'.injector b m = if a = b then (r.injector b m).begin (servedPlace l m) else r.injector b m
  frame : r' = { r with orders := r'.orders, arms := r'.arms, injectors := r'.injectors }

theorem Rack.firstStart_begun (current : (r.arm a).current = some e) (line : r.currentLine a = some l) (config : (r.arm a).config = some k) :
    ∃ q, Begun c r q a e l ∧ r.firstStart c a = q.enterLowStart c a k 0 := by
  have line' : r.line? e.order e.line = some l := (Rack.currentLine_of current).symm.trans line
  refine ⟨((r.modCurrentLine a (Line.firstStart c)).modArm a (fun x => { x with causes := [], probeRefreshed := false })).beginInjectors a l,
    ⟨?_, fun b ne => ?_, fun o m => ?_, fun b m => ?_, ?_⟩, ?_⟩
  · rw [Rack.beginInjectors_arm, Rack.modArm_arm, if_pos rfl, Rack.modCurrentLine_arm]
  · rw [Rack.beginInjectors_arm, Rack.marked_arm b ne, Rack.modCurrentLine_arm]
  · rw [Rack.line_eq (by rw [Rack.beginInjectors_tables]; rfl : _ = (r.modCurrentLine a (Line.firstStart c)).orders),
      Rack.modCurrentLine_here current line' (f := Line.firstStart c) (fun _ => rfl)]
  · rw [Rack.beginInjectors_injector, Rack.modArm_injector_of, Rack.injector_eq (Rack.modCurrentLine_injectors _ _ _)]
  · unfold Rack.beginInjectors overSlots
    apply Rack.eq_of_fields <;> simp
  · unfold Rack.firstStart
    rw [config, line]

theorem Begun.currentLine (h : Begun c r q a e l) (current : (r.arm a).current = some e) : q.currentLine a = some (l.firstStart c) := by
  rw [Rack.currentLine_of (by rw [h.arm]; exact current), h.line, if_pos ⟨rfl, rfl⟩]

/-- A line that has begun holds the active bank (R34). -/
theorem Begun.bank (h : Begun c r q a e l) (current : (r.arm a).current = some e) : effectiveBank c q a = c.cal.bank c.cal.active := by
  unfold effectiveBank bankInEffect
  rw [h.currentLine current]
  rfl

theorem startRefusal_passes {x : HeldTemperature} (permitted : c.permitted (bayOf a) = true) (normal : c.mode = .normal)
    (held : (r.channel a).temperature = some x) : startRefusal c r a = none := by
  simp [startRefusal, permitted, normal, held]

/-- An arm called for a SHOW is as it was. -/
theorem Rack.callArm_arm (b : ArmId) : (r.callArm a).arm b = r.arm b := Rack.arm_of_arms (Rack.callArm_arms r a) b

theorem staleNow_held {x : HeldTemperature} {y : Channel} (held : y.temperature = some x) : staleNow c y = decide (30000 < c.age x.arrived) := by
  unfold staleNow
  rw [held]

/-- Settles O38: the line begins, and its arm enters LOW_START. -/
theorem startBeginsLine : Obligations.StartBeginsLine := by
  intro b a s e l k x here ready permitted normal held current line config
  have passes : startRefusal s.cond s.rack a = none := startRefusal_passes (by rw [here]; exact permitted) normal held
  obtain ⟨q, begun, starts⟩ := Rack.firstStart_begun (c := s.cond) current line config
  have sameChannel (d : ArmId) : q.channel d = s.rack.channel d := Rack.channel_eq (by rw [begun.frame]) d
  have entered := Rack.enterLowStart_entered (c := s.cond) (k := k) (r := q) (a := a) (by rw [begun.arm]; simp [ready, ArmState.isRunning, ArmState.isFlow]) 0
  have stale : staleNow s.cond (q.channel a) = decide (30000 < s.cond.age x.arrived) := by
    rw [sameChannel]
    exact staleNow_held held
  rw [begun.bank current, stale, sameChannel, begun.arm] at entered
  have taken : exec (.start b a) s = .next { s.heard b with rack := ((q.enterLowStart s.cond a k 0).callArm a).pump } := by
    rw [exec_start here, Rack.startArm_ready ready passes, starts]
  have arm (d : ArmId) : ((q.enterLowStart s.cond a k 0).callArm a).pump.arm d = (q.enterLowStart s.cond a k 0).arm d := by
    rw [Rack.pump_arm, Rack.callArm_arm]
  have orders : ((q.enterLowStart s.cond a k 0).callArm a).pump.orders = q.orders := by
    rw [Rack.pump_orders, Rack.callArm_orders, entered.frame]
  have channel (d : ArmId) : ((q.enterLowStart s.cond a k 0).callArm a).pump.channel d = (q.enterLowStart s.cond a k 0).channel d :=
    Rack.channel_eq (by rw [Rack.pump_channels, Rack.callArm_channels]) d
  have injector (d : ArmId) (m : SlotId) : ((q.enterLowStart s.cond a k 0).callArm a).pump.injector d m = q.injector d m :=
    Rack.injector_eq (by rw [Rack.pump_injectors, Rack.callArm_injectors, entered.frame]) d m
  have current' : (((q.enterLowStart s.cond a k 0).callArm a).pump.arm a).current = (q.arm a).current := by
    rw [arm, entered.arm, begun.arm]
    split <;> rfl
  refine ⟨_, taken, rfl, rfl, fun fresh => ?_, fun old => ?_, ?_, ?_, fun n => ?_, fun d ne => ⟨?_, ?_, fun n => ?_⟩, fun o m other => ?_, ?_⟩ <;>
    dsimp only
  · rw [arm, entered.arm, decide_eq_false (by omega), if_neg (by decide), Arm.lowStarted, Nat.zero_add]
    exact ⟨rfl, rfl⟩
  · rw [arm, entered.arm, decide_eq_true old, if_pos rfl, Arm.staleStarted, Nat.zero_add]
    unfold Arm.closed Arm.lowStarted
    rw [repeatAfter_running (by rfl) rfl]
    exact ⟨rfl, rfl⟩
  · rw [channel, entered.channel]
    rfl
  · rw [Rack.currentLine_eq orders current', begun.currentLine current]
    rfl
  · rw [injector, begun.injector, if_pos rfl]
    rfl
  · rw [arm, entered.arms d ne, begun.arms d ne]
  · rw [channel, entered.channels d ne, sameChannel]
  · rw [injector, begun.injector, if_neg (Ne.symm ne)]
  · rw [Rack.line_eq orders, begun.line, if_neg (fun same => other ⟨same.1.symm, same.2.symm⟩)]
  · apply Rack.eq_of_fields <;> simp <;> rw [entered.frame, begun.frame]

end Sys2Proof.Machine
end

section
/-! PROOF. The resumption of a SUSPENDED line (O39). -/

namespace Sys2Proof.Machine

variable {c : Conditions} {r r' q : Rack} {a : ArmId} {n : SlotId} {k : ArmConfig} {e : QueueEntry} {l l' : Line} {step : Bool}

/-! ### The checks (R106) -/

theorem resumeRefusal_passes (permitted : c.permitted (bayOf a) = true) (normal : c.mode = .normal)
    (refreshed : Cause.probe ∈ (r.arm a).causes → (r.arm a).probeRefreshed = true)
    (stocked : ∀ x n y, Cause.additiveStock x n ∈ (r.arm a).causes → r.slotConfig a n = some y → y.stroke ≤ (r.additive x).stock) :
    resumeRefusal c r a = none := by
  have enough : (r.arm a).causes.any (r.stockShort a) = false := by
    refine List.any_eq_false.mpr (fun cause mem => ?_)
    cases cause with
    | additiveStock x n =>
      cases slot : r.slotConfig a n with
      | none => simp [Rack.stockShort, slot]
      | some y => simpa [Rack.stockShort, slot] using stocked x n y mem slot
    | _ => simp [Rack.stockShort]
  unfold resumeRefusal
  rw [if_neg (by simp [permitted]), if_neg (by simp [normal]), if_neg (fun ⟨probe, stale⟩ => by simp [refreshed probe] at stale),
    if_neg (by simp [enough])]

/-! ### The line resumed (R106, R144) -/

/-- The line of a SUSPENDED arm is ACTIVE again, its causes and the misses of its channels gone. -/
structure Resumed (r r' : Rack) (a : ArmId) (e : QueueEntry) (l : Line) : Prop where
  arm : r'.arm a = { r.arm a with causes := [], probeRefreshed := false }
  arms : ∀ b, b ≠ a → r'.arm b = r.arm b
  line : ∀ o m, r'.line? o m = if e.order = o ∧ e.line = m then some { l with state := .active } else r.line? o m
  injector : ∀ m, r'.injector a m = { r.injector a m with misses := 0 }
  frame : r' = { r with orders := r'.orders, arms := r'.arms, injectors := r'.injectors }

theorem Rack.resume_resumed (c : Conditions) (current : (r.arm a).current = some e) (line : r.currentLine a = some l)
    (config : (r.arm a).config = some k) :
    ∃ q, Resumed r q a e l ∧ r.resume c a = overSlots (fun n r => r.turn false c a n)
      (if atClosePoint (r.arm a) l = true then q.enterClosing c a .finish else q.enterLowStart c a k l.standard) := by
  have line' : r.line? e.order e.line = some l := (Rack.currentLine_of current).symm.trans line
  refine ⟨((r.modCurrentLine a (fun l => { l with state := .active })).modArm a (fun x =>
      { x with causes := [], probeRefreshed := false })).modInjectors a (fun i => { i with misses := 0 }),
    ⟨?_, fun b ne => ?_, fun o m => ?_, fun m => ?_, ?_⟩, ?_⟩
  · rw [Rack.modInjectors_arm_of, Rack.modArm_arm, if_pos rfl, Rack.modCurrentLine_arm]
  · rw [Rack.modInjectors_arm_of, Rack.marked_arm b ne, Rack.modCurrentLine_arm]
  · rw [Rack.modInjectors_line_of, Rack.modArm_line_of,
      Rack.modCurrentLine_here current line' (f := fun l => { l with state := .active }) (fun _ => rfl)]
  · rw [Rack.modInjectors_injector, if_pos rfl, Rack.modArm_injector_of, Rack.injector_eq (Rack.modCurrentLine_injectors _ _ _)]
  · apply Rack.eq_of_fields <;> simp
  · unfold Rack.resume
    rw [config, line]
    rfl

/-- How the arm of a resumed line goes on: to a close with intent FINISH at the close point, to LOW_START below it, or from there to a
close that suspends it at a stale temperature. -/
def Arm.resumed (c : Conditions) (close stale : Bool) (mark : Nat) (x : Arm) : Arm :=
  if close = true then Arm.closed c { x with causes := [], probeRefreshed := false } .finish
  else if stale = true then ({ x with causes := [], probeRefreshed := false } : Arm).staleStarted c mark
  else ({ x with causes := [], probeRefreshed := false } : Arm).lowStarted c mark

/-- The rack as the stroke tests of a resumption meet it. -/
structure Readmitted (c : Conditions) (r r' : Rack) (a : ArmId) (e : QueueEntry) (l : Line) (k : ArmConfig) : Prop where
  arm : r'.arm a = (r.arm a).resumed c (atClosePoint (r.arm a) l) (staleNow c (r.channel a)) (l.standard + k.lowStart * 100000)
  arms : ∀ b, b ≠ a → r'.arm b = r.arm b
  close : atClosePoint (r.arm a) l = true → r'.channel a = r.channel a
  low : atClosePoint (r.arm a) l = false → ∃ f, r'.channel a = (r.channel a).restart c f
  line : ∀ o m, r'.line? o m = if e.order = o ∧ e.line = m then some { l with state := .active } else r.line? o m
  injector : ∀ m, r'.injector a m = { r.injector a m with misses := 0 }
  frame : r' = { r with
    orders := r'.orders, channels := r'.channels, arms := r'.arms, injectors := r'.injectors, panels := r'.panels }

theorem Rack.resume_readmitted (c : Conditions) (suspended : (r.arm a).state = .suspended) (current : (r.arm a).current = some e)
    (line : r.currentLine a = some l) (config : (r.arm a).config = some k) :
    ∃ q, Readmitted c r q a e l k ∧ r.resume c a = overSlots (fun n r => r.turn false c a n) q := by
  obtain ⟨q, resumed, turns⟩ := Rack.resume_resumed c current line config
  have channel (b : ArmId) : q.channel b = r.channel b := Rack.channel_eq (by rw [resumed.frame]) b
  have state : (q.arm a).state = .suspended := by rw [resumed.arm]; exact suspended
  have readmits {p : Rack} {x : Arm} {y : Channel} (entered : Entered q p a x y) :
      (∀ o m, p.line? o m = if e.order = o ∧ e.line = m then some { l with state := .active } else r.line? o m) ∧
      (∀ m, p.injector a m = { r.injector a m with misses := 0 }) ∧
      p = { r with orders := p.orders, channels := p.channels, arms := p.arms, injectors := p.injectors, panels := p.panels } := by
    refine ⟨fun o m => (Rack.line_eq (by rw [entered.frame]) o m).trans (resumed.line o m),
      fun m => (Rack.injector_eq (by rw [entered.frame]) a m).trans (resumed.injector m), ?_⟩
    apply Rack.eq_of_fields <;> rw [entered.frame, resumed.frame]
  refine ⟨_, ?_, turns⟩
  by_cases close : atClosePoint (r.arm a) l = true
  · have entered := Rack.enterClosing_entered (c := c) (r := q) (a := a) .finish (by simp [state]) (by simp [state]) (by simp [state])
    obtain ⟨lines, injectors, frame⟩ := readmits entered
    rw [if_pos close]
    refine ⟨?_, fun b ne => (entered.arms b ne).trans (resumed.arms b ne), fun _ => entered.channel.trans (channel a),
      fun below => absurd close (by simp [below]), lines, injectors, frame⟩
    rw [entered.arm, resumed.arm, Arm.resumed, if_pos close]
  · have entered := Rack.enterLowStart_entered (c := c) (k := k) (r := q) (a := a)
      (by rw [state]; rfl) l.standard
    obtain ⟨lines, injectors, frame⟩ := readmits entered
    rw [if_neg close]
    refine ⟨?_, fun b ne => (entered.arms b ne).trans (resumed.arms b ne), fun reached => absurd reached close,
      fun _ => ⟨_, by rw [entered.channel, channel]⟩, lines, injectors, frame⟩
    rw [entered.arm, resumed.arm, channel, Arm.resumed, if_neg close]

theorem staleNow_iff {y : Channel} : staleNow c y = true ↔ ∃ x, y.temperature = some x ∧ 30000 < c.age x.arrived := by
  unfold staleNow
  cases y.temperature <;> simp

/-! ### The stroke tests (R146) -/

section
variable {p : Rack} (h : Readmitted c r p a e l k)
include h

theorem Readmitted.kept : (p.arm a).config = (r.arm a).config ∧ (p.arm a).queue = (r.arm a).queue ∧ (p.arm a).current = (r.arm a).current ∧
    (p.arm a).probeRefreshed = false := by
  rw [h.arm]
  unfold Arm.resumed
  split
  · exact ⟨rfl, rfl, rfl, rfl⟩
  · split <;> exact ⟨rfl, rfl, rfl, rfl⟩

theorem Readmitted.running : (p.arm a).state.isRunning = true := by
  rw [h.arm]
  unfold Arm.resumed
  split
  · rfl
  · split <;> rfl

theorem Readmitted.awake (awake : (r.arm a).quiet = false) : (p.arm a).quiet = false := by
  rw [h.arm]
  unfold Arm.resumed
  split
  · rfl
  · split
    · rfl
    · exact awake

theorem Readmitted.currentLine (current : (r.arm a).current = some e) : p.currentLine a = some { l with state := .active } := by
  rw [Rack.currentLine_of (h.kept.2.2.1.trans current), h.line, if_pos ⟨rfl, rfl⟩]

theorem Readmitted.additive (y : AdditiveId) : p.additive y = r.additive y :=
  congrArg (fun v : Vector Additive 8 => v[y]) (by rw [h.frame])

/-- The channels serve what they served. -/
theorem Readmitted.serving (current : (r.arm a).current = some e) (line : r.currentLine a = some l) (n : SlotId) :
    p.slotConfig a n = r.slotConfig a n ∧ p.servedDose a n = r.servedDose a n := by
  refine ⟨by unfold Rack.slotConfig; rw [h.kept.1], ?_⟩
  unfold Rack.servedDose
  rw [h.injector, h.currentLine current, line]
  rfl

theorem Readmitted.serves_iff (current : (r.arm a).current = some e) (line : r.currentLine a = some l) {y : SlotConfig} {d : DoseRecord} :
    p.serves a n y d ↔ r.serves a n y d := by
  rw [Rack.serves_iff, Rack.serves_iff, (h.serving current line n).1, (h.serving current line n).2]

theorem Readmitted.shortSlots (current : (r.arm a).current = some e) (line : r.currentLine a = some l) (owed : SlotId → Nat) :
    p.shortSlots a owed = r.shortSlots a owed := by
  unfold Rack.shortSlots
  simp only [fun n => (h.serving current line n).1, fun n => (h.serving current line n).2, h.injector, h.additive]

end

/-- The stroke tests of a rack as they find it. -/
theorem Dosed.stepDosed {ns : List SlotId} (dosed : Dosed step c r q a e l l' ns) (all : ns = allSlots) (running : (r.arm a).state.isRunning = true)
    (current : (r.arm a).current = some e) : StepDosed step c r q a l l' (r.arm a) := by
  subst all
  have kept := Arm.shorts_kept (c := c) (allSlots.filterMap (r.shortAt step a)) running
  rw [← dosed.arm] at kept
  refine ⟨fun m => by rw [dosed.injector, if_pos ⟨rfl, mem_allSlots m⟩], dosed.additive, dosed.arm, ?_, dosed.lineIs⟩
  rw [Rack.currentLine_of (kept.current.trans current), dosed.line, if_pos ⟨rfl, rfl⟩]

theorem StepDosed.shown {p : Rack} {x : Arm} (h : StepDosed step c r p a l l' x) : StepDosed step c r (p.callArm a).pump a l l' x where
  injector m := (Rack.injector_eq (by rw [Rack.pump_injectors, Rack.callArm_injectors]) a m).trans (h.injector m)
  additive y := (congrArg (fun v : Vector Additive 8 => v[y]) (by rw [Rack.pump_additives, Rack.callArm_additives])).trans (h.additive y)
  arm := by rw [Rack.pump_arm, Rack.callArm_arm, h.arm]
  line := (Rack.currentLine_eq (by rw [Rack.pump_orders, Rack.callArm_orders]) (by rw [Rack.pump_arm, Rack.callArm_arm])).trans h.line
  lineIs := h.lineIs

/-- Stroke tests at which nothing is due leave the rack. -/
theorem overSlots_idle (idle : ∀ n y, r.slotConfig a n = some y → (r.injector a n).owed < 100 * y.stroke) :
    overSlots (fun n r => r.turn false c a n) r = r := by
  have each (n : SlotId) : r.turn false c a n = r := by
    cases slot : r.slotConfig a n with
    | none => exact Rack.turn_none (.inl slot)
    | some y => exact Rack.strokeTest_idle slot (.inl (idle n y slot))
  simp only [overSlots, each]

/-- A resumption brings no channel to four strokes. -/
theorem limits_none (ns : List SlotId) : ns.any (fun m => (r.injector a m).limits (r.dosing false a m)) = false := by
  refine List.any_eq_false.mpr (fun m _ => ?_)
  cases dosing : r.dosing false a m with
  | none => simp [Injector.limits]
  | some v =>
    obtain ⟨-, ⟨d, -, owes⟩, -⟩ := Rack.dosing_iff.mp dosing
    obtain ⟨k, owed, x⟩ := v
    dsimp only at owes
    simp [owes, Injector.limits, Injector.owes, owesFour]

theorem exec_start_resumes {b : BayId} {s : State} (here : bayOf a = b) (suspended : (s.rack.arm a).state = .suspended)
    (passes : resumeRefusal s.cond s.rack a = none) (current : (s.rack.arm a).current = some e) (line : s.rack.currentLine a = some l)
    (config : (s.rack.arm a).config = some k) :
    ∃ p, Readmitted s.cond s.rack p a e l k ∧
      exec (.start b a) s = .next { s.heard b with rack := ((overSlots (fun n r => r.turn false s.cond a n) p).callArm a).pump } := by
  obtain ⟨p, readmitted, turns⟩ := Rack.resume_readmitted s.cond suspended current line config
  exact ⟨p, readmitted, by rw [exec_start here, Rack.startArm_suspended suspended passes, turns]⟩

/-- Settles O39: the entry the resumption makes, then the stroke tests. -/
theorem resumeContinuesLine : Obligations.ResumeContinuesLine := by
  intro b a s e l k closeAt stale now here suspended permitted normal refreshed stocked current line config closeIs staleIs nowIs
  have passes := resumeRefusal_passes (r := s.rack) (a := a) (by rw [here]; exact permitted) normal refreshed stocked
  obtain ⟨p, readmitted, taken⟩ := exec_start_resumes here suspended passes current line config
  obtain ⟨configKept, queueKept, currentKept, refreshedKept⟩ := readmitted.kept
  have point : atClosePoint (s.rack.arm a) l = decide (closeAt ≤ (l.standard : Int)) := by rw [closeIs]; rfl
  have staleNow : staleNow s.cond (s.rack.channel a) = true ↔ stale := staleNow_iff.trans staleIs.symm
  have armLow (below : (l.standard : Int) < closeAt) (fresh : ¬stale) : p.arm a =
      ({ s.rack.arm a with causes := [], probeRefreshed := false } : Arm).lowStarted s.cond (l.standard + k.lowStart * 100000) := by
    rw [readmitted.arm, point, Arm.resumed, if_neg (by simpa using below), if_neg (fun h => fresh (staleNow.mp h))]
  have armStale (below : (l.standard : Int) < closeAt) (old : stale) : p.arm a =
      ({ s.rack.arm a with causes := [], probeRefreshed := false } : Arm).staleStarted s.cond (l.standard + k.lowStart * 100000) := by
    rw [readmitted.arm, point, Arm.resumed, if_neg (by simpa using below), if_pos (staleNow.mpr old)]
  have armClosed (reached : closeAt ≤ (l.standard : Int)) : p.arm a =
      Arm.closed s.cond { s.rack.arm a with causes := [], probeRefreshed := false } .finish := by
    rw [readmitted.arm, point, Arm.resumed, if_pos (by simpa using reached)]
  subst nowIs
  refine ⟨fun idle => ?_, fun short awake differ shortIs => ?_⟩
  · rw [overSlots_idle (fun n y slot => by
      rw [readmitted.injector]
      exact idle n y ((readmitted.serving current line n).1.symm.trans slot))] at taken
    have arm (d : ArmId) : ((p.callArm a).pump).arm d = p.arm d := by rw [Rack.pump_arm, Rack.callArm_arm]
    have channel : ((p.callArm a).pump).channel a = p.channel a := Rack.channel_eq (by rw [Rack.pump_channels, Rack.callArm_channels]) a
    refine ⟨_, taken, rfl, ?_, ?_, ?_, ?_, fun n => ?_, fun below => ⟨?_, ?_, ?_, ?_, fun fresh => ?_, fun old => ?_⟩, fun reached => ?_,
      fun d ne => ?_, fun o m other => ?_, ?_⟩ <;> dsimp only
    · rw [arm, refreshedKept]
    · rw [arm, queueKept]
    · rw [arm, currentKept, current]
    · rw [Rack.pump_currentLine]
      exact (Rack.currentLine_eq (Rack.callArm_orders p a) (by rw [Rack.callArm_arm])).trans (readmitted.currentLine current)
    · rw [Rack.pump_injector, Rack.injector_eq (Rack.callArm_injectors p a), readmitted.injector]
    · rw [arm]
      by_cases old : stale
      · rw [armStale below old]
        rfl
      · rw [armLow below old]
        rfl
    · obtain ⟨f, restarted⟩ := readmitted.low (by rw [point]; simpa using below)
      rw [channel, restarted]
      rfl
    · obtain ⟨f, restarted⟩ := readmitted.low (by rw [point]; simpa using below)
      rw [channel, restarted]
      rfl
    · obtain ⟨f, restarted⟩ := readmitted.low (by rw [point]; simpa using below)
      rw [channel, restarted]
      rfl
    · rw [arm, armLow below fresh]
      exact ⟨rfl, rfl, rfl⟩
    · unfold suspendingFor
      rw [arm, armStale below old]
      exact ⟨⟨rfl, rfl, rfl⟩, rfl, rfl, rfl⟩
    · rw [arm, armClosed reached, channel, readmitted.close (by rw [point]; simpa using reached)]
      exact ⟨rfl, rfl, rfl, rfl, rfl⟩
    · rw [arm, readmitted.arms d ne]
    · rw [Rack.pump_line, Rack.line_eq (Rack.callArm_orders p a), readmitted.line, if_neg (fun same => other ⟨same.1.symm, same.2.symm⟩)]
    · apply Rack.eq_of_fields <;> simp <;> rw [readmitted.frame]
  · have current' : (p.arm a).current = some e := currentKept.trans current
    have differ' : p.dosesDiffer a := Rack.dosesDiffer_of (configKept.trans config) differ
    have line' : p.line? e.order e.line = some { l with state := .active } := (readmitted.line _ _).trans (if_pos ⟨rfl, rfl⟩)
    obtain ⟨l', dosed⟩ := overSlots_dosed (c := s.cond) (step := false) readmitted.running (readmitted.awake awake) current' line' differ'
    have tested := (dosed.stepDosed rfl readmitted.running current').shown
    have shorts : allSlots.filterMap (p.shortAt false a) = short := by
      rw [shortIs, ← readmitted.shortSlots current line]
      refine (Rack.shortSlots_eq (step := false) (fun n y d _ => ?_)).symm
      rw [readmitted.injector]
      rfl
    have once : (short.map Prod.fst).Nodup := shorts ▸ Rack.shortAt_differ differ' (by decide)
    have arm := tested.arm
    have lineIs := tested.lineIs
    rw [shorts] at arm lineIs
    rw [limits_none] at lineIs
    refine ⟨_, taken, rfl, fun n none => ?_, fun z none => ?_, fun n y d serves => ?_, fun below => ?_, fun reached => ?_⟩ <;> dsimp only
    · rw [tested.unserved (fun y d serves => none y d ((readmitted.serves_iff current line).mp serves)), readmitted.injector]
    · rw [tested.unnamed (fun n y d serves => none n y d ((readmitted.serves_iff current line).mp serves)), readmitted.additive]
    · have served := tested.served differ' ((readmitted.serves_iff current line).mpr serves) rfl
      simp only [readmitted.injector, readmitted.additive, Injector.owes] at served
      exact served
    · have unmarked : (p.arm a).marks = false := by
        by_cases old : stale
        · rw [armStale below old]
          rfl
        · rw [armLow below old]
          rfl
      have suspends (old : stale) : (p.arm a).state = .closing ∧ (p.arm a).intent = some .suspend ∧ (p.arm a).causes = [.probe] := by
        rw [armStale below old]
        exact ⟨rfl, rfl, rfl⟩
      have starts (fresh : ¬stale) : (p.arm a).state = .lowStart ∧ (p.arm a).causes = [] := by
        rw [armLow below fresh]
        exact ⟨rfl, rfl⟩
      have flows (fresh : ¬stale) : (p.arm a).state.isFlow = true := by
        rw [(starts fresh).1]
        rfl
      refine ⟨by rw [tested.line, lineIs, unmarked]; simp [Line.dosed], fun fresh empty => ?_, fun closes => ?_, fun fresh => ?_, fun old => ?_⟩
      · rw [arm, empty]
        exact starts fresh
      · by_cases old : stale
        · obtain ⟨closing, suspend, -⟩ := suspends old
          rw [arm, Arm.shorts_suspending short once closing suspend]
          exact ⟨closing, suspend⟩
        · rw [arm]
          exact (Arm.shorts_begin once (flows old) (closes.resolve_left old)).1
      · rw [arm]
        by_cases empty : short = []
        · rw [empty]
          exact (starts fresh).2
        · exact (Arm.shorts_begin once (flows fresh) empty).2
      · obtain ⟨closing, suspend, causes⟩ := suspends old
        rw [arm, Arm.shorts_suspending short once closing suspend, causes]
        simp
    · have marked : (p.arm a).marks = true := by
        rw [armClosed reached]
        rfl
      rw [arm, Arm.shorts_marks short marked, armClosed reached, tested.line, lineIs, marked]
      refine ⟨rfl, rfl, ?_⟩
      cases short <;> simp [Line.dosed]

end Sys2Proof.Machine
end

section
/-! PROOF. The arms of a bay and the assignment of lines to them (R87), and what a panel is told where a START, a STOP or a card is turned
away (O37). -/

namespace Sys2Proof.Machine

variable {c : Conditions} {r r' q : Rack} {a : ArmId} {b : BayId} {k : ArmConfig} {l : Line} {given xs : List (Nat × ArmId)}

/-! ### The arms of a bay -/

theorem bayOf_iff (a : ArmId) (b : BayId) : bayOf a = b ↔ a = lowerArm b ∨ a = upperArm b := by revert a b; decide

theorem lowerArm_lt (b : BayId) : lowerArm b < upperArm b := by revert b; decide

theorem bayOf_lowerArm (b : BayId) : bayOf (lowerArm b) = b := (bayOf_iff _ _).mpr (.inl rfl)

theorem bayOf_upperArm (b : BayId) : bayOf (upperArm b) = b := (bayOf_iff _ _).mpr (.inr rfl)

theorem ArmConfig.slotFor_isSome (k : ArmConfig) (x : AdditiveId) :
    (k.slotFor x).isSome = true ↔ ∃ (n : SlotId) (y : SlotConfig), k.slots[n] = some y ∧ y.additive = x := by
  unfold ArmConfig.slotFor
  rw [List.find?_isSome]
  constructor
  · rintro ⟨n, -, here⟩
    obtain ⟨y, slot, additive⟩ := Option.map_eq_some_iff.mp (of_decide_eq_true here)
    exact ⟨n, y, slot, additive⟩
  · rintro ⟨n, y, slot, additive⟩
    exact ⟨n, mem_allSlots n, by simp only [slot, Option.map_some, additive, decide_true]⟩

theorem Arm.qualifies_iff : (r.arm a).qualifies l = true ↔ r.armFits a l := by
  unfold Arm.qualifies
  split
  · rename_i k config
    simp only [Bool.and_eq_true, decide_eq_true_eq, List.all_eq_true, ArmConfig.slotFor_isSome]
    constructor
    · rintro ⟨⟨idle, header⟩, slots⟩
      exact ⟨idle, k, config, header, slots⟩
    · rintro ⟨idle, k', config', header, slots⟩
      rw [config] at config'
      cases config'
      exact ⟨⟨idle, header⟩, slots⟩
  · rename_i config
    refine ⟨fun h => (Bool.false_ne_true h).elim, fun fits => ?_⟩
    obtain ⟨-, k, found, -⟩ := fits
    rw [config] at found
    cases found

/-! ### The arm of a line (R87) -/

theorem Rack.loadWith_append (given xs : List (Nat × ArmId)) (a : ArmId) :
    r.loadWith (given ++ xs) a = r.loadWith given a + (xs.filter (fun x => decide (x.2 = a))).length := by
  simp [Rack.loadWith, Nat.add_assoc]

theorem Rack.loadWith_given (given : List (Nat × ArmId)) (n : Nat) (a d : ArmId) :
    r.loadWith (given ++ [(n, a)]) d = if a = d then r.loadWith given d + 1 else r.loadWith given d := by
  rw [Rack.loadWith_append]
  by_cases same : a = d <;> simp [same]

theorem chooseArm_none : chooseArm r b l (r.loadWith given (lowerArm b)) (r.loadWith given (upperArm b)) = none ↔
    ∀ a, bayOf a = b → ¬r.armFits a l := by
  have arms : (∀ a, bayOf a = b → ¬r.armFits a l) ↔ ¬r.armFits (lowerArm b) l ∧ ¬r.armFits (upperArm b) l := by
    simp only [bayOf_iff, forall_eq_or_imp, forall_eq]
  rw [arms]
  simp only [← Arm.qualifies_iff]
  unfold chooseArm
  cases (r.arm (lowerArm b)).qualifies l <;> cases (r.arm (upperArm b)).qualifies l <;> simp
  split <;> simp

/-- The arm chosen is the one R87 names. -/
theorem chooseArm_iff : chooseArm r b l (r.loadWith given (lowerArm b)) (r.loadWith given (upperArm b)) = some a ↔
    r.chosenFor b l given a := by
  have less := lowerArm_lt b
  have apart : lowerArm b ≠ upperArm b := ne_of_lt less
  have others (p : ArmId → Prop) : (∀ d, bayOf d = b → p d) ↔ p (lowerArm b) ∧ p (upperArm b) := by
    simp only [bayOf_iff, forall_eq_or_imp, forall_eq]
  unfold Rack.chosenFor
  rw [others, bayOf_iff]
  simp only [← Arm.qualifies_iff]
  unfold chooseArm
  by_cases lower : a = lowerArm b
  · subst lower
    cases (r.arm (lowerArm b)).qualifies l <;> cases (r.arm (upperArm b)).qualifies l <;> simp [apart.symm, less]
    exact Nat.le_iff_lt_or_eq
  · by_cases upper : a = upperArm b
    · subst upper
      cases (r.arm (lowerArm b)).qualifies l <;> cases (r.arm (upperArm b)).qualifies l <;> simp [apart, not_lt_of_gt less]
    · cases (r.arm (lowerArm b)).qualifies l <;> cases (r.arm (upperArm b)).qualifies l <;>
        simp [lower, upper, Ne.symm lower, Ne.symm upper]
      split <;> simp [Ne.symm lower, Ne.symm upper]

/-! ### The assignment of lines (R87) -/

/-- The assignment of lines behind those given before. -/
def Rack.assignsFrom (r : Rack) (b : BayId) (given : List (Nat × ArmId)) (ls : List Line) (xs : List (Nat × ArmId)) : Prop :=
  xs.map (fun x => x.1) = ls.map (fun l => l.number) ∧
  ∀ (i n : Nat) (a : ArmId) (l : Line), xs[i]? = some (n, a) → ls[i]? = some l →
    r.chosenFor b l (given ++ xs.take i) a ∧ r.loadWith (given ++ xs.take i) a < 8

theorem Rack.assigns_iff {ls : List Line} : r.assigns b ls xs ↔ r.assignsFrom b [] ls xs := by
  simp only [Rack.assigns, Rack.assignsFrom, List.nil_append]

theorem Rack.assignsFrom_nil : r.assignsFrom b given [] xs ↔ xs = [] := by
  constructor
  · exact fun h => List.map_eq_nil_iff.mp h.1
  · rintro rfl
    exact ⟨rfl, fun i n a l here => by simp at here⟩

theorem Rack.assignsFrom_cons {ls : List Line} {x : Nat × ArmId} : r.assignsFrom b given (l :: ls) (x :: xs) ↔
    x.1 = l.number ∧ (r.chosenFor b l given x.2 ∧ r.loadWith given x.2 < 8) ∧ r.assignsFrom b (given ++ [x]) ls xs := by
  constructor
  · rintro ⟨numbers, chosen⟩
    obtain ⟨number, rest⟩ := List.cons.inj numbers
    have first := chosen 0 x.1 x.2 l rfl rfl
    rw [List.take_zero, List.append_nil] at first
    refine ⟨number, first, rest, fun i n a l' here here' => ?_⟩
    have later := chosen (i + 1) n a l' here here'
    rwa [List.take_succ_cons, List.append_cons] at later
  · rintro ⟨number, first, rest, chosen⟩
    refine ⟨by rw [List.map_cons, List.map_cons, number, rest], fun i n a l' here here' => ?_⟩
    cases i with
    | zero =>
      cases here
      cases here'
      rw [List.take_zero, List.append_nil]
      exact first
    | succ i =>
      rw [List.take_succ_cons, List.append_cons]
      exact chosen i n a l' here here'

/-- The check of an assignment for the first of several lines. -/
theorem assignLines_cons {ls : List Line} (chosen : r.chosenFor b l given a) (room : r.loadWith given a < 8) :
    assignLines r b (l :: ls) (r.loadWith given (lowerArm b)) (r.loadWith given (upperArm b)) =
      (assignLines r b ls (r.loadWith (given ++ [(l.number, a)]) (lowerArm b)) (r.loadWith (given ++ [(l.number, a)]) (upperArm b))).map
        (fun xs => (l.number, a) :: xs) := by
  have apart := lowerArm_ne_upperArm b
  rw [assignLines, chooseArm_iff.mpr chosen, Rack.loadWith_given, Rack.loadWith_given]
  dsimp only
  rcases (bayOf_iff a b).mp chosen.1 with rfl | rfl
  · rw [if_neg (by rw [if_pos rfl]; omega), if_pos rfl, if_pos rfl, if_neg apart]
    cases assignLines r b ls (r.loadWith given (lowerArm b) + 1) (r.loadWith given (upperArm b)) <;> rfl
  · rw [if_neg (by rw [if_neg apart.symm]; omega), if_neg apart.symm, if_neg apart.symm, if_pos rfl]
    cases assignLines r b ls (r.loadWith given (lowerArm b)) (r.loadWith given (upperArm b) + 1) <;> rfl

/-- The check of an assignment goes on behind the lines that get their arms. -/
theorem assignLines_append {ls rest : List Line} (assigned : r.assignsFrom b given ls xs) :
    assignLines r b (ls ++ rest) (r.loadWith given (lowerArm b)) (r.loadWith given (upperArm b)) =
      (assignLines r b rest (r.loadWith (given ++ xs) (lowerArm b)) (r.loadWith (given ++ xs) (upperArm b))).map (fun ys => xs ++ ys) := by
  induction ls generalizing given xs with
  | nil =>
    cases Rack.assignsFrom_nil.mp assigned
    rw [List.append_nil, List.nil_append]
    cases assignLines r b rest (r.loadWith given (lowerArm b)) (r.loadWith given (upperArm b)) <;> rfl
  | cons l ls ih =>
    cases xs with
    | nil => cases assigned.1
    | cons x xs =>
      obtain ⟨number, ⟨chosen, room⟩, rest'⟩ := Rack.assignsFrom_cons.mp assigned
      have here : (l.number, x.2) = x := by rw [← number]
      have joined : given ++ x :: xs = given ++ [x] ++ xs := List.append_cons given x xs
      rw [List.cons_append, assignLines_cons chosen room, here, ih rest', joined]
      cases assignLines r b rest (r.loadWith (given ++ [x] ++ xs) (lowerArm b)) (r.loadWith (given ++ [x] ++ xs) (upperArm b)) <;> rfl

/-- An order whose PENDING lines get their arms is assigned to them. -/
theorem assignment_ok {o : Order} (assigned : r.assigns b o.pendingLines xs) : assignment r b o = .ok xs := by
  have all := assignLines_append (rest := []) (Rack.assigns_iff.mp assigned)
  rw [List.append_nil] at all
  refine all.trans ?_
  rw [assignLines]
  exact congrArg Except.ok (List.append_nil xs)

/-- The first line that gets no arm refuses the card. -/
theorem assignment_refused {o : Order} {ls rest : List Line} (lines : o.pendingLines = ls ++ l :: rest) (assigned : r.assigns b ls xs) :
    ((∀ a, bayOf a = b → ¬r.armFits a l) → assignment r b o = .error .noArm) ∧
    (r.chosenFor b l xs a → 8 ≤ r.loadWith xs a → assignment r b o = .error .queueFull) := by
  have all := assignLines_append (rest := l :: rest) (Rack.assigns_iff.mp assigned)
  rw [← lines, List.nil_append] at all
  refine ⟨fun none => all.trans ?_, fun chosen full => all.trans ?_⟩
  · rw [assignLines, chooseArm_none.mpr none]
    rfl
  · rw [assignLines, chooseArm_iff.mpr chosen]
    dsimp only
    rw [if_pos]
    · rfl
    · have apart := lowerArm_ne_upperArm b
      rcases (bayOf_iff a b).mp chosen.1 with rfl | rfl
      · rwa [if_pos rfl]
      · rwa [if_neg apart.symm]

/-! ### START and STOP turned away (R105 to R107, R187) -/

theorem exec_start_other {s : State} (other : bayOf a ≠ b) :
    exec (.start b a) s = .next (s.baySays b .notReady) ∧ exec (.stop b a) s = .next (s.baySays b .notReady) := by
  have start : (s.setPanelRx b .fresh).pressStart b a = s.baySays b .notReady := by
    unfold State.pressStart State.moveRack
    simp only [if_neg other]
    rfl
  have stop : (s.setPanelRx b .fresh).pressStop b a = s.baySays b .notReady := by
    unfold State.pressStop State.moveRack
    simp only [if_neg other]
    rfl
  exact ⟨congrArg Host.Outcome.next start, congrArg Host.Outcome.next stop⟩

theorem exec_start_says {s : State} {reason : PanelReason} (here : bayOf a = b)
    (refused : s.rack.startArm s.cond a = s.rack.answerArm a (some reason)) : exec (.start b a) s = .next (s.armSays b a reason) := by
  rw [exec_start here, refused]
  rfl

theorem Rack.startArm_notReady (still : (r.arm a).state = .outOfService ∨ (r.arm a).state = .idle ∨ (r.arm a).state = .alarm) :
    r.startArm c a = r.answerArm a (some .notReady) := by
  unfold Rack.startArm
  rcases still with h | h | h <;> rw [h]

theorem Rack.startArm_running (running : (r.arm a).state.isRunning = true) : r.startArm c a = r.answerArm a (some .running) := by
  unfold Rack.startArm
  cases state : (r.arm a).state <;> simp_all [ArmState.isRunning, ArmState.isFlow]

/-- Both starts turn on the checks of their arm's state. -/
theorem Rack.startArm_refused {reason : PanelReason} (refused : (r.arm a).state = .ready ∧ startRefusal c r a = some reason ∨
    (r.arm a).state = .suspended ∧ resumeRefusal c r a = some reason) : r.startArm c a = r.answerArm a (some reason) := by
  unfold Rack.startArm
  rcases refused with ⟨state, refusal⟩ | ⟨state, refusal⟩ <;> rw [state, refusal]

theorem startRefusals_first (blocked : c.permitted (bayOf a) = false) :
    startRefusal c r a = some .permissive ∧ resumeRefusal c r a = some .permissive := ⟨if_pos blocked, if_pos blocked⟩

theorem startRefusals_halted (permitted : c.permitted (bayOf a) = true) (halted : c.mode = .halted) :
    startRefusal c r a = some .halted ∧ resumeRefusal c r a = some .halted := by
  have open' : ¬c.permitted (bayOf a) = false := by simp [permitted]
  exact ⟨(if_neg open').trans (if_pos halted), (if_neg open').trans (if_pos halted)⟩

section
variable (permitted : c.permitted (bayOf a) = true) (normal : c.mode = .normal)
include permitted normal

theorem startRefusal_cold (none : (r.channel a).temperature = none) : startRefusal c r a = some .noTemperature := by
  simp [startRefusal, permitted, normal, none]

theorem resumeRefusal_probe (raised : Cause.probe ∈ (r.arm a).causes) (stale : (r.arm a).probeRefreshed = false) :
    resumeRefusal c r a = some .probe := by
  simp [resumeRefusal, permitted, normal, raised, stale]

theorem resumeRefusal_stock (refreshed : Cause.probe ∈ (r.arm a).causes → (r.arm a).probeRefreshed = true) {x : AdditiveId} {n : SlotId}
    {y : SlotConfig} (raised : Cause.additiveStock x n ∈ (r.arm a).causes) (slot : r.slotConfig a n = some y)
    (short : (r.additive x).stock < y.stroke) : resumeRefusal c r a = some .additiveStock := by
  have stocks : (r.arm a).causes.any (r.stockShort a) = true :=
    List.any_eq_true.mpr ⟨_, raised, by simpa [Rack.stockShort, slot] using short⟩
  unfold resumeRefusal
  rw [if_neg (by simp [permitted]), if_neg (by simp [normal]), if_neg (fun ⟨probe, stale⟩ => by simp [refreshed probe] at stale), if_pos stocks]

end

/-! ### Cards turned away (R85 to R87) -/

theorem exec_card {permit : Nat} {s : State} (least : 1 ≤ permit) (most : permit ≤ 99999999) :
    exec (.card b permit) s = .next { s.heard b with rack := (s.rack.cardAt s.cond b permit).pump } :=
  if_pos (by simp [cardPermitOk, least, most])

theorem exec_card_says {permit : Nat} {s : State} {reason : PanelReason} (least : 1 ≤ permit) (most : permit ≤ 99999999)
    (refused : s.rack.cardAt s.cond b permit = s.rack.answerBay b (some reason)) :
    exec (.card b permit) s = .next (s.baySays b reason) := by
  rw [exec_card least most, refused]
  rfl

theorem cardMatch_iff {permit : Nat} (o : Order) :
    (decide (o.state = .booked) && decide (o.permit = permit) && (decide (o.bay = none) || decide (o.bay = some b))) = true ↔
      o.state = .booked ∧ o.permit = permit ∧ (o.bay = none ∨ o.bay = some b) := by
  simp [and_assoc]

theorem Rack.orderForCard_earliest {permit : Nat} {o : Order} (earliest : r.earliestFor b permit o) : r.orderForCard b permit = some o := by
  obtain ⟨matching, earlier, later, split, none⟩ := earliest
  refine List.find?_eq_some_iff_append.mpr ⟨(cardMatch_iff o).mpr matching, earlier, later, split, fun x mem => ?_⟩
  rw [Bool.not_eq_true', ← Bool.not_eq_true, cardMatch_iff]
  exact none x mem

theorem Rack.orderForCard_none {permit : Nat}
    (none : ∀ o ∈ r.orders, ¬(o.state = .booked ∧ o.permit = permit ∧ (o.bay = .none ∨ o.bay = some b))) :
    r.orderForCard b permit = .none :=
  List.find?_eq_none.mpr (fun o mem found => none o mem ((cardMatch_iff o).mp found))

/-- A card that finds its order and permit meets the seven checks. -/
theorem Rack.cardAt_refused {permit : Nat} {o : Order} {p : Permit} {reason : PanelReason} (free : (r.bay b).admitted = none)
    (earliest : r.earliestFor b permit o) (found : r.permit? permit = some p) (refused : cardRefusal c r p o = some reason) :
    r.cardAt c b permit = r.answerBay b (some reason) := by
  unfold Rack.cardAt
  rw [if_neg (by simp [free]), Rack.orderForCard_earliest earliest]
  dsimp only
  rw [found]
  dsimp only
  rw [refused]

/-- A card that passes the seven checks meets the assignment of its lines. -/
theorem Rack.cardAt_passed {permit : Nat} {o : Order} {p : Permit} (free : (r.bay b).admitted = none)
    (earliest : r.earliestFor b permit o) (found : r.permit? permit = some p) (passes : cardRefusal c r p o = none) :
    (∀ reason, assignment r b o = .error reason → r.cardAt c b permit = r.answerBay b (some reason)) ∧
    ∀ xs, assignment r b o = .ok xs → r.cardAt c b permit = r.admitOrder c b p o xs := by
  unfold Rack.cardAt
  rw [if_neg (by simp [free]), Rack.orderForCard_earliest earliest]
  dsimp only
  rw [found]
  dsimp only
  rw [passes]
  exact ⟨fun reason refused => by rw [refused], fun xs ok => by rw [ok]⟩

/-- The first four checks passed (R86). -/
structure CardOpen (c : Conditions) (p : Permit) (o : Order) : Prop where
  active : p.suspended = false
  valid : c.day ≤ p.expiry
  free : p.admittedBay = none
  loads : o.counted = true ∨ p.loadsToday < p.dailyLimit

/-- What is left of the checks where the first four pass. -/
theorem CardOpen.rest {p : Permit} {o : Order} (h : CardOpen c p o) : cardRefusal c r p o =
    if o.pendingLines.any (fun l => decide (p.level < l.hazard)) then some .level
    else if o.pendingLines.any (fun l => !(p.endorsements[l.group])) then some .endorsement
    else if r.unitExpired c o.unit1 ∨ (o.unit2.map (r.unitExpired c)).getD false then some .unitExpired
    else none := by
  obtain ⟨active, valid, free, loads⟩ := h
  have counted : ¬(o.counted = false ∧ p.dailyLimit ≤ p.loadsToday) := by
    rintro ⟨uncounted, full⟩
    rcases loads with counted | less
    · rw [counted] at uncounted
      cases uncounted
    · omega
  unfold cardRefusal
  rw [if_neg (by simp [active]), if_neg (by omega), if_neg (by simp [free]), if_neg counted]

theorem Order.pending_any (o : Order) (test : Line → Bool) :
    o.pendingLines.any test = true ↔ ∃ l ∈ o.lines, l.state = .pending ∧ test l = true := by
  simp [Order.pendingLines]

theorem Rack.unitExpired_of {u : Nat} {v : VehicleUnit} (found : r.unit? u = some v) : r.unitExpired c u = decide (v.expiry < c.day) := by
  unfold Rack.unitExpired
  rw [found]

/-- The units of an order that passes check 7. -/
theorem Rack.units_pass {o : Order} (valid : ∀ u, o.unit1 = u ∨ o.unit2 = some u → ∃ v, r.unit? u = some v ∧ c.day ≤ v.expiry) :
    ¬(r.unitExpired c o.unit1 = true ∨ (o.unit2.map (r.unitExpired c)).getD false = true) := by
  have passes (u : Nat) (here : o.unit1 = u ∨ o.unit2 = some u) : r.unitExpired c u = false := by
    obtain ⟨v, found, until_⟩ := valid u here
    rw [Rack.unitExpired_of found]
    exact decide_eq_false (by omega)
  rintro (first | second)
  · rw [passes _ (.inl rfl)] at first
    cases first
  · cases unit : o.unit2 with
    | none => simp [unit] at second
    | some u =>
      rw [unit, Option.map_some, Option.getD_some, passes u (.inr unit)] at second
      cases second

/-- An order whose lines all pass a test has no line that fails it. -/
theorem Order.pending_none {o : Order} {test : Line → Bool} (passes : ∀ l ∈ o.lines, l.state = .pending → test l = false) :
    ¬o.pendingLines.any test = true := by
  rw [o.pending_any]
  rintro ⟨l, mem, pending, fails⟩
  rw [passes l mem pending] at fails
  cases fails

/-- The levels and endorsements of the lines (R86). -/
theorem cardRefusal_lines {p : Permit} {o : Order} (h : CardOpen c p o) :
    ((∃ l ∈ o.lines, l.state = .pending ∧ p.level < l.hazard) → cardRefusal c r p o = some .level) ∧
    ((∀ l ∈ o.lines, l.state = .pending → l.hazard ≤ p.level) →
      ((∃ l ∈ o.lines, l.state = .pending ∧ p.endorsements[l.group] = false) → cardRefusal c r p o = some .endorsement) ∧
      ((∀ l ∈ o.lines, l.state = .pending → p.endorsements[l.group] = true) → cardRefusal c r p o =
        if r.unitExpired c o.unit1 ∨ (o.unit2.map (r.unitExpired c)).getD false then some .unitExpired else none)) := by
  rw [h.rest]
  refine ⟨fun ⟨l, mem, pending, less⟩ => ?_, fun levels => ?_⟩
  · rw [if_pos ((o.pending_any _).mpr ⟨l, mem, pending, decide_eq_true less⟩)]
  · rw [if_neg (Order.pending_none (fun l mem pending => decide_eq_false (Nat.not_lt.mpr (levels l mem pending))))]
    refine ⟨fun ⟨l, mem, pending, missing⟩ => ?_, fun endorsed => ?_⟩
    · rw [if_pos ((o.pending_any _).mpr ⟨l, mem, pending, by rw [missing]; rfl⟩)]
    · rw [if_neg (Order.pending_none (fun l mem pending => by rw [endorsed l mem pending]; rfl))]

/-- The last check (R86). -/
theorem Rack.units_expired {o : Order} {u : Nat} {v : VehicleUnit} (here : o.unit1 = u ∨ o.unit2 = some u) (found : r.unit? u = some v)
    (expired : v.expiry < c.day) : r.unitExpired c o.unit1 = true ∨ (o.unit2.map (r.unitExpired c)).getD false = true := by
  have fails : r.unitExpired c u = true := (Rack.unitExpired_of found).trans (decide_eq_true expired)
  rcases here with first | second
  · exact .inl (first ▸ fails)
  · exact .inr (by rw [second, Option.map_some, Option.getD_some, fails])

/-- The panel's reasons for a START or STOP that is turned away. -/
theorem start_reasons (b : BayId) (a : ArmId) (s : State) (here : bayOf a = b) :
    ((s.rack.arm a).state = .outOfService ∨ (s.rack.arm a).state = .idle ∨ (s.rack.arm a).state = .alarm →
      exec (.start b a) s = .next (s.armSays b a .notReady)) ∧
    ((s.rack.arm a).state.isRunning = true → exec (.start b a) s = .next (s.armSays b a .running)) ∧
    ∀ reason, ((s.rack.arm a).state = .ready ∧ startRefusal s.cond s.rack a = some reason ∨
        (s.rack.arm a).state = .suspended ∧ resumeRefusal s.cond s.rack a = some reason) →
      exec (.start b a) s = .next (s.armSays b a reason) :=
  ⟨fun still => exec_start_says here (Rack.startArm_notReady still), fun running => exec_start_says here (Rack.startArm_running running),
    fun _ refused => exec_start_says here (Rack.startArm_refused refused)⟩

/-- Settles O37: each reason where every check before it passes, the checks of a card taken in their order and its lines up to the first
without an arm. -/
theorem panelRefusalsShowReason : Obligations.PanelRefusalsShowReason := by
  unfold Obligations.PanelRefusalsShowReason
  refine ⟨fun b a s => ⟨exec_start_other, fun here => ?_⟩, fun b permit s least most => ⟨fun busy => ?_, fun free none => ?_, ?_⟩⟩
  · obtain ⟨still, running, refused⟩ := start_reasons b a s here
    subst here
    refine ⟨still, running, fun states blocked => ?_, fun states permitted halted => ?_, fun ready permitted normal cold => ?_,
      fun suspended permitted normal raised stale => ?_, fun suspended permitted normal refreshed x n k raised slot short => ?_⟩
    · exact refused _ (states.imp (⟨·, (startRefusals_first blocked).1⟩) (⟨·, (startRefusals_first blocked).2⟩))
    · exact refused _ (states.imp (⟨·, (startRefusals_halted permitted halted).1⟩) (⟨·, (startRefusals_halted permitted halted).2⟩))
    · exact refused _ (.inl ⟨ready, startRefusal_cold permitted normal cold⟩)
    · exact refused _ (.inr ⟨suspended, resumeRefusal_probe permitted normal raised stale⟩)
    · exact refused _ (.inr ⟨suspended, resumeRefusal_stock permitted normal refreshed raised slot short⟩)
  · refine exec_card_says least most ?_
    unfold Rack.cardAt
    rw [if_pos (Option.isSome_iff_ne_none.mpr busy)]
  · refine exec_card_says least most ?_
    unfold Rack.cardAt
    rw [if_neg (by simp [free]), Rack.orderForCard_none none]
  · intro o p free earliest found
    have refused {reason : PanelReason} (h : cardRefusal s.cond s.rack p o = some reason) :
        exec (.card b permit) s = .next (s.baySays b reason) :=
      exec_card_says least most (Rack.cardAt_refused free earliest found h)
    refine ⟨fun suspended => refused (if_pos suspended), fun active expired => refused ?_, fun active valid elsewhere => refused ?_,
      fun active valid nowhere uncounted full => refused ?_, fun active valid nowhere loads => ?_⟩
    · unfold cardRefusal
      rw [if_neg (by simp [active]), if_pos expired]
    · unfold cardRefusal
      rw [if_neg (by simp [active]), if_neg (by omega), if_pos elsewhere]
    · unfold cardRefusal
      rw [if_neg (by simp [active]), if_neg (by omega), if_neg (by simp [nowhere]), if_pos ⟨uncounted, full⟩]
    · obtain ⟨level, low⟩ := cardRefusal_lines (r := s.rack) (CardOpen.mk active valid nowhere loads)
      refine ⟨fun high => refused (level high), fun levels => ?_⟩
      obtain ⟨endorsement, rest⟩ := low levels
      refine ⟨fun missing => refused (endorsement missing), fun endorsed => ?_⟩
      refine ⟨fun ⟨u, v, here, unit, expired⟩ => refused ((rest endorsed).trans (if_pos (Rack.units_expired here unit expired))),
        fun valid' ls l rest' xs lines assigned => ?_⟩
      have passes := (rest endorsed).trans (if_neg (Rack.units_pass valid'))
      obtain ⟨turned, -⟩ := Rack.cardAt_passed free earliest found passes
      exact ⟨fun none => exec_card_says least most (turned _ ((assignment_refused (a := 0) lines assigned).1 none)),
        fun a chosen full => exec_card_says least most (turned _ ((assignment_refused (a := a) lines assigned).2 chosen full))⟩

end Sys2Proof.Machine
end

section
/-! PROOF. A card that admits its order: the lines at the arms R87 chooses, and the record of the admission (O36). -/

namespace Sys2Proof.Machine

variable {c : Conditions} {r r' q : Rack} {a : ArmId} {b : BayId} {l : Line} {given xs : List (Nat × ArmId)} {ks : ArmId → Option ArmConfig}

/-! ### The lines of an order, queued -/

/-- An order whose lines are queued at the arms of an assignment. -/
def Order.queuedAt (ks : ArmId → Option ArmConfig) : List (Nat × ArmId) → Order → Order
  | [], o => o
  | x :: rest, o => Order.queuedAt ks rest (o.modLine x.1 (Line.queueAt x.2 (ks x.2)))

theorem Order.queuedAt_fields (xs : List (Nat × ArmId)) (o : Order) : o.queuedAt ks xs = { o with lines := (o.queuedAt ks xs).lines } := by
  induction xs generalizing o with
  | nil => rfl
  | cons x rest ih =>
    rw [Order.queuedAt, ih]
    rfl

theorem Order.queuedAt_other {o : Order} {n : Nat} (apart : n ∉ xs.map (fun x => x.1)) : (o.queuedAt ks xs).line? n = o.line? n := by
  induction xs generalizing o with
  | nil => rfl
  | cons x rest ih =>
    rw [List.map_cons, List.mem_cons, not_or] at apart
    rw [Order.queuedAt, ih apart.2, Order.modLine_line o x.1 n (Line.queueAt x.2 (ks x.2)) (fun _ => rfl), if_neg (Ne.symm apart.1)]

theorem Order.queuedAt_line {o : Order} {n : Nat} (numbers : (xs.map (fun x => x.1)).Nodup) (given : (n, a) ∈ xs) (line : o.line? n = some l) :
    (o.queuedAt ks xs).line? n = some (l.queueAt a (ks a)) := by
  induction xs generalizing o with
  | nil => cases given
  | cons x rest ih =>
    obtain ⟨fresh, tail⟩ := List.nodup_cons.mp numbers
    rcases List.mem_cons.mp given with rfl | later
    · rw [Order.queuedAt, Order.queuedAt_other fresh]
      refine (Order.modLine_line o n n (Line.queueAt a (ks a)) (fun _ => rfl)).trans ?_
      rw [if_pos rfl, line]
      rfl
    · have apart : x.1 ≠ n := fun same => fresh (List.mem_map.mpr ⟨_, later, same.symm⟩)
      refine ih tail later ?_
      rw [Order.modLine_line o x.1 n (Line.queueAt x.2 (ks x.2)) (fun _ => rfl), if_neg apart, line]

/-- The order table once the lines of an order are queued. -/
theorem queueLines_order {n m : Nat} (xs : List (Nat × ArmId)) (same : ∀ a, (r.arm a).config = ks a) :
    (queueLines n xs r).order? m = if n = m then (r.order? m).map (Order.queuedAt ks xs) else r.order? m := by
  induction xs generalizing r with
  | nil => split <;> simp [queueLines, Order.queuedAt]
  | cons x rest ih =>
    unfold queueLines
    dsimp only
    rw [ih (fun a => ?_)]
    · rw [Rack.order_eq (Rack.modArm_orders _ _ _), Rack.modLine,
        Rack.modOrder_order r n m (fun o => o.modLine x.1 (Line.queueAt x.2 (r.arm x.2).config)) (fun _ => rfl), same]
      split <;> simp [Function.comp_def, Order.queuedAt]
    · rw [Rack.modArm_arm]
      split
      · rename_i here
        rw [← same, ← here]
        rfl
      · exact same a

/-- The queues once the lines of an order have joined them. -/
theorem queueLines_queue {n : Nat} (xs : List (Nat × ArmId)) (a : ArmId) :
    ((queueLines n xs r).arm a).queue.map (fun e => (e.order, e.line)) =
      (r.arm a).queue.map (fun e => (e.order, e.line)) ++ (xs.filter (fun x => decide (x.2 = a))).map (fun x => (n, x.1)) := by
  induction xs generalizing r with
  | nil => simp [queueLines]
  | cons x rest ih =>
    unfold queueLines
    dsimp only
    rw [ih, Rack.modArm_arm]
    by_cases here : x.2 = a
    · rw [if_pos here, List.filter_cons_of_pos (p := fun x : Nat × ArmId => decide (x.2 = a)) (decide_eq_true here), ← here]
      simp only [Arm.joinQueue, List.map_append, List.map_cons, List.map_nil, List.append_assoc, List.singleton_append]
      rfl
    · rw [if_neg here, List.filter_cons_of_neg (p := fun x : Nat × ArmId => decide (x.2 = a)) (by simpa using here)]
      rfl

/-! ### The record of an admission (R88) -/

theorem Rack.bay_of_bays (h : r'.bays = r.bays) (b : BayId) : r'.bay b = r.bay b := by rw [Rack.bay, Rack.bay, h]

theorem Rack.permit_of_permits (h : r'.permits = r.permits) (n : Nat) : r'.permit? n = r.permit? n := by rw [Rack.permit?, Rack.permit?, h]

/-- The tables of an admission. -/
theorem Rack.admitOrder_fields (b : BayId) (p : Permit) (o : Order) (xs : List (Nat × ArmId)) :
    (r.admitOrder c b p o xs).bays = (r.admitted b p o xs).bays ∧ (r.admitOrder c b p o xs).permits = (r.admitted b p o xs).permits ∧
      (r.admitOrder c b p o xs).accounts = r.accounts ∧ (r.admitOrder c b p o xs).units = r.units ∧
      (r.admitOrder c b p o xs).additives = r.additives ∧ (r.admitOrder c b p o xs).channels = r.channels ∧
      (r.admitOrder c b p o xs).headers = r.headers ∧ (r.admitOrder c b p o xs).notes = r.notes := by
  have ready (s : Rack) (a : ArmId) : (s.readyIfGiven c xs a).bays = s.bays ∧ (s.readyIfGiven c xs a).permits = s.permits ∧
      (s.readyIfGiven c xs a).accounts = s.accounts ∧ (s.readyIfGiven c xs a).units = s.units ∧
      (s.readyIfGiven c xs a).additives = s.additives ∧ (s.readyIfGiven c xs a).channels = s.channels ∧
      (s.readyIfGiven c xs a).headers = s.headers ∧ (s.readyIfGiven c xs a).notes = s.notes := by
    rcases s.readyIfGiven_cases (c := c) xs a with ⟨-, same⟩ | ⟨-, same⟩ <;> rw [same] <;> simp
  obtain ⟨bays, permits, accounts, units, additives, channels, headers, notes⟩ := ready ((r.admitted b p o xs).readyIfGiven c xs (lowerArm b)) (upperArm b)
  obtain ⟨bays', permits', accounts', units', additives', channels', headers', notes'⟩ := ready (r.admitted b p o xs) (lowerArm b)
  rw [Rack.admitOrder_eq, bays, permits, accounts, units, additives, channels, headers, notes, bays', permits', accounts', units', additives',
    channels', headers', notes']
  refine ⟨rfl, rfl, ?_, ?_, ?_, ?_, ?_, ?_⟩ <;>
  · unfold Rack.admitted
    rw [queueLines_tables]
    rfl

theorem Rack.admitOrder_bay (b d : BayId) (p : Permit) (o : Order) (xs : List (Nat × ArmId)) : (r.admitOrder c b p o xs).bay d =
    if b = d then { admitted := some { permit := p.number, order := o.number }, reason := none } else r.bay d := by
  obtain ⟨bays, -⟩ := Rack.admitOrder_fields (c := c) (r := r) b p o xs
  have before : (queueLines o.number xs r).bay d = r.bay d := by rw [queueLines_tables]; rfl
  rw [Rack.bay_of_bays bays d]
  unfold Rack.admitted
  rw [Rack.modPermit_bay_of, Rack.callBay_bay_of, Rack.modBay_bay]
  split
  · rfl
  · exact before

theorem Rack.admitOrder_permit (b : BayId) {p : Permit} (found : r.permit? p.number = some p) (o : Order) (xs : List (Nat × ArmId)) :
    (r.admitOrder c b p o xs).permit? p.number =
      some { p with admittedBay := some b, loadsToday := if o.counted = true then p.loadsToday else min 255 (p.loadsToday + 1) } := by
  obtain ⟨-, permits, -⟩ := Rack.admitOrder_fields (c := c) (r := r) b p o xs
  have before : (queueLines o.number xs r).permit? p.number = r.permit? p.number := by rw [queueLines_tables]; rfl
  rw [Rack.permit_of_permits permits]
  unfold Rack.admitted
  rw [Rack.modPermit_permit _ p.number p.number (fun x =>
    { x with admittedBay := some b, loadsToday := if o.counted then x.loadsToday else satAdd 255 x.loadsToday 1 }) (fun _ => rfl), if_pos rfl]
  exact congrArg (Option.map _) (before.trans found)

theorem Rack.admitOrder_order (b : BayId) (p : Permit) (o : Order) (xs : List (Nat × ArmId)) (m : Nat) :
    (r.admitOrder c b p o xs).order? m = if o.number = m then (r.order? m).map (fun x =>
      { x.queuedAt (fun a => (r.arm a).config) xs with state := .admitted, lastBay := some b, counted := true }) else r.order? m := by
  rw [Rack.order_eq (Rack.admitOrder_orders r b p o xs).1,
    Rack.modOrder_order _ o.number m (fun x => { x with state := .admitted, lastBay := some b, counted := true }) (fun _ => rfl),
    queueLines_order xs (fun _ => rfl)]
  split <;> simp [Function.comp_def]

/-! ### The arms that received lines -/

theorem Arm.head_congr {x y : Arm} (queue : x.queue = y.queue) (config : x.config = y.config) : x.head = y.head := by
  unfold Arm.head
  rw [queue, config]

/-- An arm with a queue takes its head and is READY. -/
theorem Rack.takeHead_ready (queue : (r.arm a).queue ≠ []) : ((r.takeHead c a).arm a).state = .ready ∧
    ∃ e, ((r.takeHead c a).arm a).current = some e ∧ e ∈ ((r.takeHead c a).arm a).queue ∧ ((r.takeHead c a).arm a).head = some e := by
  obtain ⟨e, head⟩ := Option.isSome_iff_exists.mp (Arm.head_isSome queue)
  have queue' := r.takeHead_queue c a
  refine ⟨?_, e, (r.takeHead_current a).trans head, queue' ▸ Arm.head_mem head, (Arm.head_congr queue' (r.takeHead_config a a)).trans head⟩
  unfold Rack.takeHead
  rw [head]
  dsimp only
  rw [Rack.callArm_arm, Rack.setState_state]

/-- An arm given a line takes the head of its queue as the queued lines leave it. -/
theorem Rack.admitOrder_taken (b : BayId) (p : Permit) (o : Order) (here : bayOf a = b) (given : a ∈ xs.map (fun x => x.2)) :
    ∃ s : Rack, s.arm a = (queueLines o.number xs r).arm a ∧ (r.admitOrder c b p o xs).arm a = (s.takeHead c a).arm a := by
  have takes (s : Rack) : s.readyIfGiven c xs a = s.takeHead c a :=
    (s.readyIfGiven_cases xs a).elim And.right (fun not => absurd given not.1)
  rw [Rack.admitOrder_eq, Rack.readyBoth_arm _ _ _ _ ((bayOf_iff a b).mp here), takes, takes]
  split
  · exact ⟨_, r.admitted_arm b p o xs a, rfl⟩
  · rename_i upper
    exact ⟨_, (Rack.readyIfGiven_other _ xs _ a upper).trans (r.admitted_arm b p o xs a), rfl⟩

theorem Rack.admitOrder_queue (b : BayId) (p : Permit) (o : Order) (assigned : ∀ x ∈ xs, bayOf x.2 = b) (a : ArmId) :
    ((r.admitOrder c b p o xs).arm a).queue = ((queueLines o.number xs r).arm a).queue := by
  by_cases given : a ∈ xs.map (fun x => x.2)
  · obtain ⟨x, mem, same⟩ := List.mem_map.mp given
    obtain ⟨s, before, after⟩ := Rack.admitOrder_taken (c := c) (r := r) b p o (same ▸ assigned x mem) given
    rw [after, Rack.takeHead_queue, before]
  · rw [Rack.admitOrder_notGiven r b p o given]

/-- An arm given a line is READY with the head of its queue. -/
theorem Rack.admitOrder_ready (b : BayId) (p : Permit) (o : Order) (here : bayOf a = b) {n : Nat} (given : (n, a) ∈ xs) :
    ((r.admitOrder c b p o xs).arm a).state = .ready ∧ ∃ e, ((r.admitOrder c b p o xs).arm a).current = some e ∧
      e ∈ ((r.admitOrder c b p o xs).arm a).queue ∧ ((r.admitOrder c b p o xs).arm a).head = some e := by
  obtain ⟨s, before, after⟩ := Rack.admitOrder_taken (c := c) (r := r) b p o here (List.mem_map_of_mem (f := fun x => x.2) given)
  rw [after]
  refine Rack.takeHead_ready (fun empty => ?_)
  have keys := queueLines_queue (r := r) (n := o.number) xs a
  rw [← before, empty] at keys
  have joins : (o.number, n) ∈ (xs.filter (fun x => decide (x.2 = a))).map (fun x => (o.number, x.1)) :=
    List.mem_map.mpr ⟨_, List.mem_filter.mpr ⟨given, decide_eq_true rfl⟩, rfl⟩
  have none := List.append_eq_nil_iff.mp keys.symm
  rw [none.2] at joins
  cases joins

/-! ### The slots of a queued line (R88) -/

theorem Line.queueAt_doses {j : Nat} {d : DoseRecord} (fits : r.armFits a l) (here : l.doses[j]? = some d) :
    ∃ m y, (l.queueAt a (r.arm a).config).doses[j]? = some { d with slot := some m } ∧ r.slotConfig a m = some y ∧ y.additive = d.additive := by
  obtain ⟨-, k, config, -, slots⟩ := fits
  obtain ⟨n, y, slot, additive⟩ := slots d (List.mem_of_getElem? here)
  obtain ⟨m, found⟩ := Option.isSome_iff_exists.mp ((k.slotFor_isSome d.additive).mpr ⟨n, y, slot, additive⟩)
  obtain ⟨z, slot', additive'⟩ := Option.map_eq_some_iff.mp (ArmConfig.slotFor_some found)
  refine ⟨m, z, ?_, ?_, additive'⟩
  · rw [Line.queueAt, List.getElem?_map, here, Option.map_some, DoseRecord.takeSlot, config, Option.bind_some, found]
  · rw [Rack.slotConfig, config]
    exact slot'

/-! ### Enough room for all (R87) -/

/-- Where an arm fits every line and the queues have room for all of them, each gets its arm in turn. -/
theorem Rack.assignsFrom_exists {ls : List Line} (fits : ∀ l ∈ ls, ∃ a, bayOf a = b ∧ r.armFits a l)
    (room : ∀ a, bayOf a = b → r.loadWith given a + ls.length ≤ 8) : ∃ xs, r.assignsFrom b given ls xs := by
  induction ls generalizing given with
  | nil => exact ⟨[], Rack.assignsFrom_nil.mpr rfl⟩
  | cons l ls ih =>
    obtain ⟨a, chosen⟩ : ∃ a, r.chosenFor b l given a := by
      cases choice : chooseArm r b l (r.loadWith given (lowerArm b)) (r.loadWith given (upperArm b)) with
      | none =>
        obtain ⟨d, here, fit⟩ := fits l (List.mem_cons_self ..)
        exact absurd fit (chooseArm_none.mp choice d here)
      | some a => exact ⟨a, chooseArm_iff.mp choice⟩
    have less := room a chosen.1
    rw [List.length_cons] at less
    obtain ⟨xs, rest⟩ := ih (given := given ++ [(l.number, a)]) (fun m mem => fits m (List.mem_cons_of_mem _ mem)) (fun d here => by
      have before := room d here
      rw [List.length_cons] at before
      rw [Rack.loadWith_given]
      split <;> omega)
    exact ⟨(l.number, a) :: xs, Rack.assignsFrom_cons.mpr ⟨rfl, ⟨chosen, by dsimp only; omega⟩, rest⟩⟩

/-! ### The assignment, entry by entry -/

theorem Rack.assigns_entry {ls : List Line} (assigned : r.assigns b ls xs) {i n : Nat} (at_ : xs[i]? = some (n, a)) :
    ∃ l, ls[i]? = some l ∧ l.number = n ∧ r.chosenFor b l (xs.take i) a := by
  obtain ⟨numbers, chosen⟩ := assigned
  have number : (ls.map (fun l => l.number))[i]? = some n := by rw [← numbers, List.getElem?_map, at_]; rfl
  rw [List.getElem?_map] at number
  obtain ⟨l, line, same⟩ := Option.map_eq_some_iff.mp number
  exact ⟨l, line, same, (chosen i n a l at_ line).1⟩

/-- Settles O36: the checks and the assignment of the card are those of the statement, and the admission is read off table by table, its
lines in the order as the queued lines leave them. -/
theorem cardAdmitsOrder : Obligations.CardAdmitsOrder := by
  unfold Obligations.CardAdmitsOrder
  refine ⟨fun b permit s p o xs least most free earliest found active valid nowhere loads lines units assigned order numbers => ?_,
    fun b r ls fits room => ?_⟩
  · obtain ⟨-, low⟩ := cardRefusal_lines (r := s.rack) (CardOpen.mk active valid nowhere loads)
    have passes : cardRefusal s.cond s.rack p o = none :=
      ((low (fun l mem pending => (lines l mem pending).1)).2 (fun l mem pending => (lines l mem pending).2)).trans
        (if_neg (Rack.units_pass units))
    have admits := (Rack.cardAt_passed free earliest found passes).2 xs (assignment_ok assigned)
    have number : p.number = permit := Rack.permit_number found
    subst number
    have exec' := exec_card (b := b) (s := s) least most
    rw [admits] at exec'
    have stands (x : Nat × ArmId) (mem : x ∈ xs) : bayOf x.2 = b := by
      obtain ⟨i, at_⟩ := List.getElem?_of_mem mem
      obtain ⟨l, -, -, chosen⟩ := Rack.assigns_entry assigned at_
      exact chosen.1
    have nodup : (xs.map (fun x => x.1)).Nodup := by
      rw [assigned.1]
      exact numbers.sublist (List.filter_sublist.map _)
    have ordered := Rack.admitOrder_order (c := s.cond) (r := s.rack) b p o xs
    obtain ⟨-, -, accounts, units', additives, channels, headers, notes⟩ := Rack.admitOrder_fields (c := s.cond) (r := s.rack) b p o xs
    let queued := o.queuedAt (fun a => (s.rack.arm a).config) xs
    refine ⟨_, { queued with state := .admitted, lastBay := some b, counted := true }, exec', rfl, rfl, ?_, fun d ne => ?_, ?_, ?_, ?_,
      fun n a mem => ?_, fun i n a l at_ here => ?_, fun l mem other => ?_, fun a => ?_, fun n ne => ?_, ?_, ?_, ?_, ?_, ?_, ?_⟩
    · exact (Rack.bay_of_bays (Rack.pump_bays _) b).trans ((Rack.admitOrder_bay b b p o xs).trans (if_pos rfl))
    · exact (Rack.bay_of_bays (Rack.pump_bays _) d).trans ((Rack.admitOrder_bay b d p o xs).trans (if_neg (Ne.symm ne)))
    · exact (Rack.permit_of_permits (Rack.pump_permits _) _).trans (Rack.admitOrder_permit b found o xs)
    · refine (Rack.pump_order _ _).trans ((ordered _).trans ((if_pos rfl).trans ?_))
      rw [order]
      rfl
    · rw [show queued = _ from Order.queuedAt_fields xs o]
    · dsimp only
      rw [Rack.pump_arm]
      exact ⟨stands _ mem, Rack.admitOrder_ready b p o (stands _ mem) mem⟩
    · obtain ⟨l', here', same, chosen⟩ := Rack.assigns_entry assigned at_
      rw [here] at here'
      cases here'
      have mem := List.mem_of_mem_filter (List.mem_of_getElem? here)
      have line : o.line? n = some l := same ▸ Order.line_of_mem numbers mem
      refine ⟨l.queueAt a (s.rack.arm a).config, Order.queuedAt_line nodup (List.mem_of_getElem? at_) line, rfl, ?_, fun j d dose => ?_⟩
      · simp [Line.queueAt]
      · exact Line.queueAt_doses chosen.2.1 dose
    · refine (Order.queuedAt_other (fun given => ?_)).trans (Order.line_of_mem numbers mem)
      rw [assigned.1] at given
      obtain ⟨m, memM, same⟩ := List.mem_map.mp given
      obtain ⟨memM, pending⟩ := List.mem_filter.mp memM
      have lineM := Order.line_of_mem numbers memM
      rw [same, Order.line_of_mem numbers mem] at lineM
      cases lineM
      exact other (of_decide_eq_true pending)
    · dsimp only
      rw [Rack.pump_arm, Rack.admitOrder_queue b p o stands, queueLines_queue]
    · exact (Rack.pump_order _ _).trans ((ordered n).trans (if_neg (Ne.symm ne)))
    all_goals simp only [Rack.pump_accounts, Rack.pump_units, Rack.pump_additives, Rack.pump_channels, Rack.pump_headers, Rack.pump_notes,
      accounts, units', additives, channels, headers, notes]
  · have room' (a : ArmId) (here : bayOf a = b) : r.loadWith [] a + ls.length ≤ 8 := by
      simpa [Rack.loadWith] using room a here
    obtain ⟨xs, assigned⟩ := Rack.assignsFrom_exists fits room'
    exact ⟨xs, Rack.assigns_iff.mpr assigned⟩

end Sys2Proof.Machine
end

section
/-! PROOF. The requests of orders and of notes, accepted and refused (O30, O32, O33). -/

namespace Sys2Proof.Machine

variable {fields : List Text} {items : List Item} {s : State} {key : Text} {link : Link} {r : Rack} {o : Order} {l : Line} {new : Nat}

/-! ### A request that names an order -/

theorem onOrder_fault (answer : Order → Answer) (h : orderItems fields = .error key) : onOrder fields answer = badField key :=
  withItems_fault _ h

theorem onOrder_found (answer : Order → Answer) (h : orderItems fields = .ok items) (found : s.rack.order? (natAt items "order" 0) = some o) :
    onOrder fields answer { s with link := link } = answer o { s with link := link } := by
  unfold onOrder
  rw [withItems_passed _ h]
  rw [found]

theorem onOrder_missing (answer : Order → Answer) (h : orderItems fields = .ok items)
    (missing : s.rack.order? (natAt items "order" 0) = none) :
    onOrder fields answer { s with link := link } = refuseWith .notFound { s with link := link } := by
  unfold onOrder
  rw [withItems_passed _ h]
  rw [missing]

/-! ### The first check that fails -/

theorem firstRefusal_passed {x : Option Refuse} (rest : List (Option Refuse)) (passed : x = none) : firstRefusal (x :: rest) = firstRefusal rest := by
  rw [passed, firstRefusal]

theorem firstRefusal_failed {x : Option Refuse} {why : Refuse} (rest : List (Option Refuse)) (failed : x = some why) :
    firstRefusal (x :: rest) = some why := by
  rw [failed, firstRefusal]

theorem refuseIf_failed {p : Bool} {status : Status} {named : Named} (fails : p = true) :
    refuseIf p status named = some { status := status, named := named } := if_pos fails

/-- The first of a list to answer. -/
theorem findSome_first {α β : Type} {f : α → Option β} {x : α} {v : β} {before : List α} (behind : List α) (passed : ∀ y ∈ before, f y = none)
    (here : f x = some v) : (before ++ x :: behind).findSome? f = some v := by
  rw [List.findSome?_append, List.findSome?_eq_none_iff.mpr passed, Option.none_or, List.findSome?_cons, here]

theorem presetFits_iff {room : Option Compartment} : presetFits new room = true ↔
    100 ≤ new ∧ new ≤ 30000 ∧ ∃ x, room = some x ∧ new ≤ x.capacity := by
  unfold presetFits
  cases room <;> simp [and_assoc]

theorem Account.covers_iff {x : Account} {need : Nat} : x.covers need = true ↔ (need : Int) ≤ x.balance + x.overdraft - x.reserved :=
  decide_eq_true_iff

theorem Additive.covers_iff {x : Additive} {need : Nat} : x.covers need = true ↔ (need : Int) ≤ (x.stock : Int) - x.reserved :=
  decide_eq_true_iff

/-! ### The checks of an amendment (R90) -/

theorem amendRefusal_state (pending : l.state ≠ .pending) (queued : l.state ≠ .queued) :
    amendRefusal r o l new = some { status := .wrongState, named := .nothing } :=
  firstRefusal_failed _ (refuseIf_failed (decide_eq_true ⟨pending, queued⟩))

section
variable (state : l.state = .pending ∨ l.state = .queued)
include state

theorem amendRefusal_stateOpen : refuseIf (decide (l.state ≠ .pending ∧ l.state ≠ .queued)) .wrongState .nothing = none :=
  refuseIf_none.mpr (decide_eq_false (fun ⟨pending, queued⟩ => state.elim pending queued))

theorem amendRefusal_capacity
    (bad : new < 100 ∨ 30000 < new ∨ ∀ room, r.compartment? o.unit1 o.unit2 l.addr = some room → room.capacity < new) :
    amendRefusal r o l new = some { status := .capacity, named := .nothing } := by
  unfold amendRefusal
  rw [List.cons_append, firstRefusal_passed _ (amendRefusal_stateOpen state), List.cons_append]
  refine firstRefusal_failed _ (refuseIf_failed ?_)
  rw [Bool.not_eq_true', ← Bool.not_eq_true, presetFits_iff]
  rintro ⟨least, most, room, found, fits⟩
  rcases bad with less | more | small
  · omega
  · omega
  · have := small room found
    omega

variable {room : Compartment} (found : r.compartment? o.unit1 o.unit2 l.addr = some room) (least : 100 ≤ new) (most : new ≤ 30000)
  (fits : new ≤ room.capacity)
include found least most fits

/-- Behind the first checks a rise alone is tested. -/
theorem amendRefusal_rest : amendRefusal r o l new = firstRefusal
    (if l.preset < new then
      [refuseIf (((r.account? l.account).map (fun x => x.held)).getD false) .held .nothing,
       refuseIf (!(((r.account? l.account).map (fun x => x.covers (new - l.preset))).getD false)) .noCover .nothing,
       l.doses.findSome? (riseUncovered r l.preset new)]
     else []) := by
  have preset : presetFits new (r.compartment? o.unit1 o.unit2 l.addr) = true := presetFits_iff.mpr ⟨least, most, room, found, fits⟩
  unfold amendRefusal
  rw [List.cons_append, firstRefusal_passed _ (amendRefusal_stateOpen state), List.cons_append,
    firstRefusal_passed _ (refuseIf_none.mpr (by rw [preset]; rfl)), List.nil_append]

theorem amendRefusal_rise (rise : l.preset < new) {x : Account} (account : r.account? l.account = some x) : amendRefusal r o l new =
    firstRefusal [refuseIf x.held .held .nothing, refuseIf (!x.covers (new - l.preset)) .noCover .nothing,
      l.doses.findSome? (riseUncovered r l.preset new)] := by
  rw [amendRefusal_rest state found least most fits, if_pos rise, account]
  rfl

end

theorem riseUncovered_none {d : DoseRecord} {old : Nat} : riseUncovered r old new d = none ↔
    ((doseNeed d.dose new - doseNeed d.dose old : Nat) : Int) ≤ ((r.additive d.additive).stock : Int) - (r.additive d.additive).reserved := by
  unfold riseUncovered
  rw [refuseIf_none, Bool.not_eq_false', Additive.covers_iff]
  rfl

theorem riseUncovered_some {d : DoseRecord} {old : Nat}
    (short : ((r.additive d.additive).stock : Int) - (r.additive d.additive).reserved < ((doseNeed d.dose new - doseNeed d.dose old : Nat) : Int)) :
    riseUncovered r old new d = some { status := .noStock, named := .additive d.additive } := by
  refine refuseIf_failed ?_
  rw [Bool.not_eq_true', ← Bool.not_eq_true, Additive.covers_iff]
  exact Int.not_le.mpr short

/-! ### The effects of an amendment (R91) -/

theorem moveAdditives_other (ds : List DoseRecord) (r : Rack) {x : AdditiveId} (apart : ∀ d ∈ ds, d.additive ≠ x) :
    (moveAdditives new ds r).additive x = r.additive x := by
  induction ds generalizing r with
  | nil => rfl
  | cons d rest ih =>
    rw [List.forall_mem_cons] at apart
    rw [moveAdditives, ih _ apart.2, Rack.modAdditive_additive, if_neg apart.1]

theorem moveAdditives_named {ds : List DoseRecord} (r : Rack) (once : (ds.map (fun d => d.additive)).Nodup) {d : DoseRecord} (mem : d ∈ ds) :
    (moveAdditives new ds r).additive d.additive = { r.additive d.additive with
      reserved := (r.additive d.additive).reserved + doseNeed d.dose new - d.remaining } := by
  induction ds generalizing r with
  | nil => cases mem
  | cons y rest ih =>
    obtain ⟨fresh, tail⟩ := List.nodup_cons.mp once
    have apart (z : DoseRecord) (hz : z ∈ rest) : z.additive ≠ y.additive := fun same => fresh (List.mem_map.mpr ⟨z, hz, same⟩)
    rw [moveAdditives]
    rcases List.mem_cons.mp mem with rfl | later
    · rw [moveAdditives_other _ _ apart, Rack.modAdditive_additive, if_pos rfl]
      rfl
    · rw [ih _ tail later, Rack.modAdditive_additive, if_neg (apart d later).symm]

/-- The tables an amendment may change. -/
theorem Rack.amend_fields (r : Rack) (o : Order) (l : Line) (new : Nat) : r.amend o l new = { r with
    orders := (r.modLine o.number l.number (fun y => { y with preset := new, doses := y.doses.map (DoseRecord.rebook new) })).orders
    accounts := r.accounts.map (fun x => if x.number = l.account then { x with reserved := x.reserved + new - l.preset } else x)
    additives := (moveAdditives new l.doses r).additives } := by
  unfold Rack.amend
  rw [moveAdditives_tables]
  rfl

/-- An amendment that passes its checks is made. -/
theorem orderAmend_amends (order : s.rack.order? (natAt items "order" 0) = some o) (line : o.line? (natAt items "line" 0) = some l) :
    (∀ why, amendRefusal s.rack o l (natAt items "preset" 0) = some why → orderAmend items { s with link := link } = ({ s with link := link }, .refused why)) ∧
    (amendRefusal s.rack o l (natAt items "preset" 0) = none → orderAmend items { s with link := link } =
      ({ s with rack := s.rack.amend o l (natAt items "preset" 0), link := link }, .ok (.amended l.preset (natAt items "preset" 0)))) := by
  unfold orderAmend
  dsimp only
  rw [order]
  dsimp only
  rw [line]
  dsimp only
  exact ⟨fun why refused => by rw [refused], fun passed => by rw [passed]; rfl⟩

theorem exec_orderAmend (taken : s.takes "ORDER.AMEND" fields) (checked : amendItems fields = .ok items)
    (order : s.rack.order? (natAt items "order" 0) = some o) (line : o.line? (natAt items "line" 0) = some l) :
    (∀ status named, amendRefusal s.rack o l (natAt items "preset" 0) = some { status := status, named := named } →
      s.refuses (.orderAmend fields) "ORDER.AMEND" status named) ∧
    (amendRefusal s.rack o l (natAt items "preset" 0) = none → exec (.orderAmend fields) s =
      .next (State.answers { s with rack := s.rack.amend o l (natAt items "preset" 0) } "ORDER.AMEND"
        (.ok (.amended l.preset (natAt items "preset" 0))))) := by
  obtain ⟨refuses, amends⟩ := orderAmend_amends (link := s.link.toHunt) order line
  refine ⟨fun status named refused => takeRequest_refuses taken ?_, fun passed => ?_⟩
  · exact (congrFun (withItems_passed _ checked) _).trans (refuses _ refused)
  · exact takeRequest_taken (t := { s with rack := s.rack.amend o l (natAt items "preset" 0) }) taken
      ((congrFun (withItems_passed _ checked) _).trans (amends passed)) rfl

/-! ### An order as it is read (R83) -/

theorem bookingPosition_at {before behind : List Order} (split : r.orders = before ++ o :: behind)
    (fresh : ∀ x ∈ before, x.number ≠ o.number) : r.bookingPosition o.number = before.length + 1 := by
  unfold Rack.bookingPosition
  rw [split, List.takeWhile_append_of_pos (fun x mem => decide_eq_true (fresh x mem)), List.takeWhile_cons_of_neg (by simp), List.append_nil]

/-- Settles O30: each request through the check of its fields and the record it names, the amendment table by table. -/
theorem orderRequestsComplete : Obligations.OrderRequestsComplete := by
  unfold Obligations.OrderRequestsComplete
  refine ⟨fun s fields items o taken checked found => takeRequest_taken taken (onOrder_found _ checked found) rfl,
    fun s fields items o l room new taken checked found line amended state fitted least most fits rise => ?_,
    fun s fields items o taken checked found finished => ?_, fun r o v view => ?_⟩
  · subst amended
    have number := Rack.order_number found
    have lineNumber := Order.line_number line
    have passed : amendRefusal s.rack o l (natAt items "preset" 0) = none := by
      by_cases rises : l.preset < natAt items "preset" 0
      · obtain ⟨⟨x, account, free, covered⟩, stocks⟩ := rise rises
        rw [amendRefusal_rise state fitted least most fits rises account, firstRefusal_passed _ (refuseIf_none.mpr free),
          firstRefusal_passed _ (refuseIf_none.mpr (by rw [Account.covers_iff.mpr covered]; rfl))]
        exact firstRefusal_passed _ (List.findSome?_eq_none_iff.mpr (fun d mem => riseUncovered_none.mpr (stocks d mem)))
      · rw [amendRefusal_rest state fitted least most fits, if_neg rises]
        rfl
    refine ⟨_, (exec_orderAmend taken checked found line).2 passed, ?_, ?_, fun n m ne => ?_, ?_, fun x apart => ?_, fun once d mem => ?_⟩
    · rw [Rack.amend_fields]
      rfl
    · have before : s.rack.line? o.number l.number = some l := by
        rw [number, lineNumber]
        exact (Rack.line_of_order found).trans line
      rw [State.answers, Rack.amend_fields]
      refine (Rack.line_eq rfl _ _).trans ((Rack.modLine_line s.rack o.number l.number o.number l.number
        (fun y => { y with preset := natAt items "preset" 0, doses := y.doses.map (DoseRecord.rebook (natAt items "preset" 0)) })
        (fun _ => rfl)).trans ?_)
      rw [if_pos ⟨rfl, rfl⟩, before]
      rfl
    · rw [State.answers, Rack.amend_fields]
      refine (Rack.line_eq rfl _ _).trans ((Rack.modLine_line s.rack o.number l.number n m
        (fun y => { y with preset := natAt items "preset" 0, doses := y.doses.map (DoseRecord.rebook (natAt items "preset" 0)) })
        (fun _ => rfl)).trans (if_neg (fun same => ne ⟨same.1.symm, same.2.symm⟩)))
    · rw [State.answers, Rack.amend_fields]
    · rw [State.answers, Rack.amend_fields]
      exact moveAdditives_other l.doses s.rack apart
    · rw [State.answers, Rack.amend_fields]
      exact moveAdditives_named s.rack once mem
  · refine takeRequest_taken (t := { s with rack := s.rack.retireOrder o.number }) taken ((onOrder_found _ checked found).trans ?_) rfl
    unfold orderRetire
    rcases finished with state | state <;> rw [state] <;> rfl
  · subst view
    refine ⟨rfl, fun admitted => if_pos admitted, fun other => if_neg other, fun xs ys split fresh => bookingPosition_at split fresh,
      List.length_map .., fun i l here => ⟨l.view, ?_, rfl, ?_, ?_, ?_, ?_⟩⟩
    · exact (List.getElem?_map ..).trans (congrArg _ here)
    all_goals
      intros
      simp_all [Line.view, litresShown]

end Sys2Proof.Machine
end

section
/-! PROOF. The delivery note and its requests (O32), and the order and note requests that are refused (O33). -/

namespace Sys2Proof.Machine

variable {fields : List Text} {items : List Item} {s : State} {key : Text} {link : Link} {r : Rack} {o : Order} {l : Line} {new : Nat}

/-! ### The entry behind one named -/

theorem entryBehind_at {m : Nat} {before behind : List Nat} (fresh : m ∉ before) : entryBehind m (before ++ m :: behind) = behind.head? := by
  induction before with
  | nil => rw [List.nil_append, entryBehind, if_pos rfl]
  | cons x rest ih =>
    rw [List.mem_cons, not_or] at fresh
    rw [List.cons_append, entryBehind, if_neg (Ne.symm fresh.1), ih fresh.2]

theorem placeOf_at {n : Nat} {before behind : List Nat} (fresh : n ∉ before) : placeOf n (before ++ n :: behind) = before.length + 1 := by
  rw [placeOf, List.idxOf_append_of_notMem fresh, List.idxOf_cons_self, Nat.add_zero]

theorem nextWaiting_behind {m n : Nat} {before behind : List Nat} (fresh : m ∉ before) :
    nextWaiting (before ++ m :: n :: behind) (some m) = .ok n := by
  unfold nextWaiting
  dsimp only
  rw [if_pos (by simp), entryBehind_at fresh]
  rfl

theorem nextWaiting_last {m : Nat} {before : List Nat} (fresh : m ∉ before) : nextWaiting (before ++ [m]) (some m) = .error .nothing := by
  unfold nextWaiting
  dsimp only
  rw [if_pos (by simp), entryBehind_at fresh]
  rfl

theorem nextWaiting_unknown {m : Nat} {notes : List Nat} (missing : m ∉ notes) : nextWaiting notes (some m) = .error (.field (txt "after")) :=
  if_neg missing

/-- NOTE.NEXT turns on the entry it reaches. -/
theorem noteNext_found {n : Nat} (reached : nextWaiting s.rack.notes (natAt? items "after" 0) = .ok n) (order : s.rack.order? n = some o) :
    noteNext items { s with link := link } = noteAnswer (some s.rack.noteCounter) o { s with link := link } := by
  unfold noteNext
  dsimp only
  rw [reached]
  dsimp only
  rw [order]

theorem noteNext_refused {named : Named} (reached : nextWaiting s.rack.notes (natAt? items "after" 0) = .error named) :
    noteNext items { s with link := link } = refuse .notFound named { s with link := link } := by
  unfold noteNext
  dsimp only
  rw [reached]

/-! ### The content of a note (R172 to R176) -/

theorem fitRemark_eq (width : Nat) (remark : Text) :
    fitRemark width remark = (remark ++ List.replicate (width - remark.length) ' ').take width := by
  rw [fitRemark, List.take_append, List.take_replicate, Nat.min_self]

theorem fitRemark_length (width : Nat) (remark : Text) : (fitRemark width remark).length = width := by
  rw [fitRemark, List.length_append, List.length_take, List.length_replicate]
  omega

theorem noteLine_room (o : Order) (l : Line) :
    (1 ≤ l.addr → l.addr ≤ 6 → (noteLine o l).unit = o.unit1 ∧ (noteLine o l).compartment = l.addr) ∧
    ∀ u, 7 ≤ l.addr → l.addr ≤ 12 → o.unit2 = some u → (noteLine o l).unit = u ∧ (noteLine o l).compartment = l.addr - 6 := by
  refine ⟨fun least most => ?_, fun u least most second => ?_⟩
  · have room : resolveAddr o.unit1 o.unit2 l.addr = some (o.unit1, l.addr) := if_pos ⟨least, most⟩
    simp [noteLine, room]
  · have room : resolveAddr o.unit1 o.unit2 l.addr = some (u, l.addr - 6) := by
      unfold resolveAddr
      rw [if_neg (by omega), if_pos ⟨least, most⟩, second]
      rfl
    simp [noteLine, room]

/-- The additives a note shows. -/
theorem additiveTotals_mem {ls : List Line} {x : AdditiveId} :
    x ∈ (additiveTotals (ls.map (noteLine o))).map (fun y => y.1) ↔ ∃ l ∈ ls, ∃ d ∈ l.doses, d.additive = x := by
  have all : x ∈ allAdditives := by revert x; decide
  simp [additiveTotals, noteLine, all, Function.comp_def]

theorem additiveTotals_rising (ls : List NoteLine) : ((additiveTotals ls).map (fun x => x.1)).Pairwise (fun x y => x < y) := by
  have rising : allAdditives.Pairwise (fun x y => x < y) := by decide
  have named : (additiveTotals ls).map (fun x => x.1) =
      allAdditives.filter (fun x => ls.any (fun l => l.additives.any (fun d => decide (d.1 = x)))) := by
    simp [additiveTotals, Function.comp_def]
  rw [named]
  exact rising.filter _

/-- What a note's lines dispensed of an additive is what the order's dose entries did. -/
theorem dispensedOf_lines (ls : List Line) (x : AdditiveId) : dispensedOf (ls.map (noteLine o)) x =
    ((ls.flatMap (fun l => l.doses.filter (fun d => decide (d.additive = x)))).map (fun d => d.dispensed)).sum := by
  unfold dispensedOf
  induction ls with
  | nil => rfl
  | cons l rest ih =>
    rw [List.flatMap_cons, List.map_append, List.sum_append, ← ih]
    simp [noteLine, List.filter_map, Function.comp_def]

theorem additiveTotals_sum {ls : List Line} {x : AdditiveId} {v : Nat} (mem : (x, v) ∈ additiveTotals (ls.map (noteLine o))) :
    v = ((ls.flatMap (fun l => l.doses.filter (fun d => decide (d.additive = x)))).map (fun d => d.dispensed)).sum := by
  rw [← dispensedOf_lines (o := o)]
  obtain ⟨y, -, same⟩ := List.mem_map.mp mem
  cases same
  rfl

theorem noteOf_line {i : Nat} (w : Nat) (here : o.lines[i]? = some l) : (noteOf w o).lines[i]? = some (noteLine o l) :=
  (List.getElem?_map ..).trans (congrArg _ here)

/-- Settles O32: the requests by the entry they reach, the note field by field. -/
theorem noteRequestsComplete : Obligations.NoteRequestsComplete := by
  unfold Obligations.NoteRequestsComplete
  refine ⟨fun s n rest o taken waiting found => ?_, fun s taken empty => ?_,
    fun s fields items m n xs ys o taken checked named waiting fresh fresh' found => ?_,
    fun s fields items o taken checked found complete waits => ?_, fun w o n note => ?_⟩
  · have reached : nextWaiting s.rack.notes (natAt? [] "after" 0) = .ok n := by rw [waiting]; rfl
    have place : placeOf o.number s.rack.notes = 1 := by
      rw [waiting, Rack.order_number found]
      exact placeOf_at (before := []) List.not_mem_nil
    refine takeRequest_taken taken ((noteNext_found (items := []) reached found).trans ?_) rfl
    rw [noteAnswer, answerOk]
    dsimp only
    rw [place, waiting]
    rfl
  · have reached : nextWaiting s.rack.notes (natAt? [] "after" 0) = .error .nothing := by rw [empty]; rfl
    exact takeRequest_refuses taken (noteNext_refused (items := []) reached)
  · have reached : nextWaiting s.rack.notes (natAt? items "after" 0) = .ok n := by rw [waiting, named, nextWaiting_behind fresh]
    have place : placeOf o.number s.rack.notes = xs.length + 2 := by
      rw [waiting, Rack.order_number found, List.append_cons, placeOf_at fresh']
      simp
    have count : s.rack.notes.length = xs.length + ys.length + 2 := by rw [waiting]; simp; omega
    refine takeRequest_taken taken ((congrFun (withItems_passed _ checked) _).trans ((noteNext_found reached found).trans ?_)) rfl
    rw [noteAnswer, answerOk]
    dsimp only
    rw [place, count]
  · refine takeRequest_taken taken ((onOrder_found _ checked found).trans ?_) rfl
    unfold noteRead
    rw [complete]
    rfl
  · subst note
    refine ⟨fun number here => by simp [noteOf, here], fun day here => by simp [noteOf, here], rfl, rfl, rfl, rfl, rfl,
      fitRemark_length .., fitRemark_eq .., List.length_map .., fun i l here => ⟨noteLine o l, noteOf_line w here, rfl, (noteLine_room o l).1,
        (noteLine_room o l).2, fun litres final => by simp [noteLine, final], fun litres final => by simp [noteLine, final],
        List.length_map .., fun j d target dose final => ?_⟩, rfl, rfl, additiveTotals_rising _, fun x => additiveTotals_mem,
      fun x v mem => additiveTotals_sum mem⟩
    refine (List.getElem?_map ..).trans ?_
    rw [dose, Option.map_some, final]
    rfl

/-! ### Refusals -/

/-- Settles O33: the form, the record and the checks of each request in their order. -/
theorem orderAndNoteRequestsAreRefused : Obligations.OrderAndNoteRequestsAreRefused := by
  unfold Obligations.OrderAndNoteRequestsAreRefused
  refine fun s fields items key => ⟨fun name i listed taken => ?_, fun o checked found => ⟨fun taken finished => ?_, fun taken live => ?_,
    fun taken other => ?_⟩, fun taken bad => takeRequest_refuses taken (congrFun (withItems_fault _ bad) _), fun taken => ⟨fun bad => ?_,
    fun checked missing => ?_, fun o new checked found amended => ⟨fun missing => ?_, fun l line => ⟨fun pending queued => ?_, fun state =>
      ⟨fun bad => ?_, fun room x fitted least most fits rise account => ⟨fun held => ?_, fun free short => ?_,
        fun before behind d free covered doses passed short => ?_⟩⟩⟩⟩⟩, fun taken => ⟨fun bad => ?_, fun m checked named => ⟨fun missing => ?_,
    fun before waiting fresh => ?_⟩⟩⟩
  · simp only [List.mem_cons, Prod.mk.injEq, List.not_mem_nil, or_false] at listed
    rcases listed with ⟨rfl, rfl⟩ | ⟨rfl, rfl⟩ | ⟨rfl, rfl⟩ | ⟨rfl, rfl⟩ <;>
      exact ⟨fun bad => takeRequest_refuses taken (congrFun (onOrder_fault _ bad) _),
        fun checked missing => takeRequest_refuses taken (onOrder_missing _ checked missing)⟩
  · refine takeRequest_refuses taken ((onOrder_found _ checked found).trans ?_)
    unfold orderCancel
    rcases finished with state | state <;> rw [state] <;> rfl
  · refine takeRequest_refuses taken ((onOrder_found _ checked found).trans ?_)
    unfold orderRetire
    rcases live with state | state <;> rw [state] <;> rfl
  · refine takeRequest_refuses taken ((onOrder_found _ checked found).trans ?_)
    unfold noteRead
    cases state : o.state with
    | complete => exact absurd state other
    | _ => rfl
  · exact takeRequest_refuses taken (congrFun (withItems_fault _ bad) _)
  · refine takeRequest_refuses taken ((congrFun (withItems_passed _ checked) _).trans ?_)
    unfold orderAmend
    dsimp only
    rw [missing]
  · refine takeRequest_refuses taken ((congrFun (withItems_passed _ checked) _).trans ?_)
    unfold orderAmend
    dsimp only
    rw [found]
    dsimp only
    rw [missing]
  · exact (exec_orderAmend taken checked found line).1 _ _ (amendRefusal_state pending queued)
  · subst amended
    exact (exec_orderAmend taken checked found line).1 _ _ (amendRefusal_capacity state bad)
  · subst amended
    refine (exec_orderAmend taken checked found line).1 _ _ ((amendRefusal_rise state fitted least most fits rise account).trans ?_)
    exact firstRefusal_failed _ (refuseIf_failed held)
  · subst amended
    refine (exec_orderAmend taken checked found line).1 _ _ ((amendRefusal_rise state fitted least most fits rise account).trans ?_)
    rw [firstRefusal_passed _ (refuseIf_none.mpr free)]
    refine firstRefusal_failed _ (refuseIf_failed ?_)
    rw [Bool.not_eq_true', ← Bool.not_eq_true, Account.covers_iff]
    exact Int.not_le.mpr short
  · subst amended
    refine (exec_orderAmend taken checked found line).1 _ _ ((amendRefusal_rise state fitted least most fits rise account).trans ?_)
    rw [firstRefusal_passed _ (refuseIf_none.mpr free),
      firstRefusal_passed _ (refuseIf_none.mpr (by rw [Account.covers_iff.mpr covered]; rfl)), doses]
    exact firstRefusal_failed _ (findSome_first _ (fun y mem => riseUncovered_none.mpr (passed y mem)) (riseUncovered_some short))
  · exact takeRequest_refuses taken (congrFun (withItems_fault _ bad) _)
  · refine takeRequest_refuses taken ((congrFun (withItems_passed _ checked) _).trans (noteNext_refused ?_))
    rw [named, nextWaiting_unknown missing]
  · refine takeRequest_refuses taken ((congrFun (withItems_passed _ checked) _).trans (noteNext_refused ?_))
    rw [named, waiting, nextWaiting_last fresh]

end Sys2Proof.Machine
end

section
/-! PROOF. The checks of a booking, each in its turn (O29). -/

namespace Sys2Proof.Machine

variable {c : Conditions} {r : Rack} {k : Booking} {l : BookLine} {u : Nat}

/-! ### The first check that fails, and the first of a list that does -/

theorem firstRefusal_at {cs : List (Option Refuse)} {i : Nat} {why : Refuse} (here : cs[i]? = some (some why))
    (passed : ∀ j x, j < i → cs[j]? = some x → x = none) : firstRefusal cs = some why := by
  induction cs generalizing i with
  | nil => cases here
  | cons x rest ih =>
    cases i with
    | zero =>
      cases here
      rfl
    | succ i =>
      rw [firstRefusal_passed _ (passed 0 x (by omega) rfl)]
      exact ih here (fun j y less at_ => passed (j + 1) y (by omega) at_)

theorem refuseIf_fails {p : Bool} {status : Status} {named : Named} (fails : refuseIf p status named ≠ none) :
    refuseIf p status named = some { status := status, named := named } := by
  cases p with
  | true => rfl
  | false => exact absurd rfl fails

/-- The first of a list that fails a test answers it, where passing and failing are what the answer says. -/
theorem findSome_failing {α β : Type} {f : α → Option β} {xs : List α} {passes : α → Prop} {x : α} {v : β} (first : firstFailing xs passes x)
    (silent : ∀ y ∈ xs, passes y → f y = none) (answers : ¬passes x → f x = some v) : xs.findSome? f = some v := by
  obtain ⟨before, behind, split, passed, fails⟩ := first
  rw [split]
  refine findSome_first behind (fun y mem => silent y ?_ (passed y mem)) (answers fails)
  rw [split]
  exact List.mem_append_left _ mem

/-! ### Each check alone (R79 to R81) -/

theorem unitUnknown_none : unitUnknown r u = none ↔ r.unit? u ≠ none := by
  rw [unitUnknown, refuseIf_none]
  cases r.unit? u <;> simp

theorem unitOutOfDate_none : unitOutOfDate c r u = none ↔ ∃ v, r.unit? u = some v ∧ c.day ≤ v.expiry := by
  rw [unitOutOfDate, refuseIf_none]
  unfold Rack.unitExpired
  cases r.unit? u <;> simp

theorem unitBusy_none : unitBusy r u = none ↔ ∀ v ∈ r.unit? u, v.committed = none := by
  unfold unitBusy
  cases r.unit? u with
  | none => simp
  | some v => cases committed : v.committed <;> simp [committed]

theorem addressBad_none {used : List Nat} {ls : List BookLine} : addressBad r k used ls = none ↔
    (∀ l ∈ ls, r.compartment? k.unit1 k.unit2 l.addr ≠ none ∧ l.addr ∉ used) ∧ (ls.map (fun l => l.addr)).Nodup := by
  induction ls generalizing used with
  | nil => simp [addressBad]
  | cons l rest ih =>
    unfold addressBad
    rw [List.forall_mem_cons, List.map_cons, List.nodup_cons]
    split
    · rename_i bad
      refine ⟨fun h => by simp at h, fun ⟨⟨⟨found, fresh⟩, _⟩, _⟩ => ?_⟩
      rcases bad with missing | again
      · exact absurd (Option.isNone_iff_eq_none.mp missing) found
      · exact absurd again fresh
    · rename_i good
      rw [not_or, Option.isNone_iff_eq_none] at good
      rw [ih]
      constructor
      · rintro ⟨others, apart⟩
        refine ⟨⟨good, fun m mem => ⟨(others m mem).1, fun used => (others m mem).2 (List.mem_cons_of_mem _ used)⟩⟩, fun again => ?_, apart⟩
        obtain ⟨m, mem, same⟩ := List.mem_map.mp again
        exact (others m mem).2 (same ▸ List.mem_cons_self ..)
      · rintro ⟨⟨-, others⟩, fresh, apart⟩
        refine ⟨fun m mem => ⟨(others m mem).1, fun used => ?_⟩, apart⟩
        rcases List.mem_cons.mp used with same | before
        · exact fresh (List.mem_map.mpr ⟨m, mem, same⟩)
        · exact (others m mem).2 before

/-- The first address at fault (R79). -/
theorem addressBad_first {used : List Nat} {before : List BookLine} (behind : List BookLine)
    (found : ∀ x ∈ before, r.compartment? k.unit1 k.unit2 x.addr ≠ none ∧ x.addr ∉ used) (apart : (before.map (fun x => x.addr)).Nodup)
    (bad : r.compartment? k.unit1 k.unit2 l.addr = none ∨ l.addr ∈ used ∨ l.addr ∈ before.map (fun x => x.addr)) :
    addressBad r k used (before ++ l :: behind) = some { status := .badField, named := .field (indexedKey "addr" l.number) } := by
  induction before generalizing used with
  | nil =>
    rw [List.nil_append, addressBad]
    refine if_pos (bad.imp Option.isNone_iff_eq_none.mpr (fun again => again.resolve_right List.not_mem_nil))
  | cons x rest ih =>
    rw [List.forall_mem_cons] at found
    rw [List.map_cons, List.nodup_cons] at apart
    obtain ⟨⟨here, unused⟩, others⟩ := found
    rw [List.cons_append, addressBad, if_neg (by rw [not_or, Option.isNone_iff_eq_none]; exact ⟨here, unused⟩)]
    refine ih (fun y mem => ⟨(others y mem).1, fun again => ?_⟩) apart.2 ?_
    · rcases List.mem_cons.mp again with same | before
      · exact apart.1 (List.mem_map.mpr ⟨y, mem, same⟩)
      · exact (others y mem).2 before
    · rcases bad with missing | again | again
      · exact .inl missing
      · exact .inr (.inl (List.mem_cons_of_mem _ again))
      · rcases List.mem_cons.mp again with same | later
        · exact .inr (.inl (same ▸ List.mem_cons_self ..))
        · exact .inr (.inr later)

theorem recipeUnknown_none : recipeUnknown c l = none ↔ c.recipe? l.recipe ≠ none := by
  rw [recipeUnknown, refuseIf_none]
  cases c.recipe? l.recipe <;> simp

theorem presetBad_none : presetBad r k l = none ↔
    100 ≤ l.preset ∧ l.preset ≤ 30000 ∧ ∃ x, r.compartment? k.unit1 k.unit2 l.addr = some x ∧ l.preset ≤ x.capacity := by
  rw [presetBad, refuseIf_none, Bool.not_eq_false', presetFits_iff]

theorem verdictOf_found {x : Recipe} {room : Compartment} (recipe : c.recipe? l.recipe = some x)
    (found : r.compartment? k.unit1 k.unit2 l.addr = some room) : verdictOf c r k l = c.switchTable.verdict room.lastGroup x.group := by
  unfold verdictOf
  rw [recipe, found]

theorem verdictBad_none {x : Recipe} {room : Compartment} (recipe : c.recipe? l.recipe = some x)
    (found : r.compartment? k.unit1 k.unit2 l.addr = some room) :
    verdictBad c r k l = none ↔ c.switchTable.verdict room.lastGroup x.group ≠ .forbid := by
  rw [verdictBad, refuseIf_none, decide_eq_false_iff_not, verdictOf_found recipe found]

theorem accountClosed_none : accountClosed r l = none ↔ (r.account? l.account).map (fun y => y.held) = some false := by
  unfold accountClosed
  cases r.account? l.account <;> simp [refuseIf_none]

theorem groupBad_none {x : Recipe} {y : Account} (recipe : c.recipe? l.recipe = some x) (account : r.account? l.account = some y) :
    groupBad c r l = none ↔ y.group = x.group := by
  rw [groupBad, refuseIf_none, decide_eq_false_iff_not, not_not, recipe, account, Option.map_some, Option.map_some, Option.some.injEq]

theorem coverBad_none : coverBad r k l.account = none ↔ ∀ y ∈ r.account? l.account,
    (((k.lines.filter (fun m => decide (m.account = l.account))).map (fun m => m.preset)).sum : Int) ≤
      y.balance + y.overdraft - y.reserved := by
  unfold coverBad
  cases r.account? l.account with
  | none => simp
  | some y =>
    simp only [refuseIf_none, Bool.not_eq_false', Account.covers_iff, Option.mem_def, Option.some.injEq, forall_eq', Booking.needOf,
      Nat.cast_list_sum, List.map_map, Function.comp_def]

theorem stockBad_none {x : AdditiveId} : stockBad c r k x = none ↔
    (k.usesAdditive c x = true → (k.additiveNeed c x : Int) ≤ ((r.additive x).stock : Int) - (r.additive x).reserved) := by
  rw [stockBad, refuseIf_none, ← Additive.covers_iff]
  cases k.usesAdditive c x <;> simp

/-! ### What the checks of a unit and of a line ask (R79, R80, R61, R62) -/

theorem unitPasses_known : k.unitPasses c r 5 u ↔ r.unit? u ≠ none := by simp [Booking.unitPasses]

theorem unitPasses_valid : k.unitPasses c r 6 u ↔ ∀ v ∈ r.unit? u, c.day ≤ v.expiry := by simp [Booking.unitPasses]

theorem unitPasses_free : k.unitPasses c r 7 u ↔ ∀ v ∈ r.unit? u, v.committed = none := by simp [Booking.unitPasses]

theorem linePasses_recipe : k.linePasses c r 9 l ↔ c.recipe? l.recipe ≠ none := by simp [Booking.linePasses]

theorem linePasses_preset : k.linePasses c r 10 l ↔ 100 ≤ l.preset ∧ l.preset ≤ 30000 ∧
    ∀ room ∈ r.compartment? k.unit1 k.unit2 l.addr, l.preset ≤ room.capacity := by simp [Booking.linePasses]

theorem linePasses_verdict : k.linePasses c r 11 l ↔ ∀ room ∈ r.compartment? k.unit1 k.unit2 l.addr, ∀ x ∈ c.recipe? l.recipe,
    c.switchTable.verdict room.lastGroup x.group ≠ .forbid := by simp [Booking.linePasses]

theorem linePasses_account : k.linePasses c r 12 l ↔ (r.account? l.account).map (fun y => y.held) = some false := by
  simp [Booking.linePasses]

theorem linePasses_group : k.linePasses c r 13 l ↔ ∀ x ∈ c.recipe? l.recipe, ∀ y ∈ r.account? l.account, y.group = x.group := by
  simp [Booking.linePasses]

theorem linePasses_cover : k.linePasses c r 14 l ↔ ∀ y ∈ r.account? l.account,
    (((k.lines.filter (fun m => decide (m.account = l.account))).map (fun m => m.preset)).sum : Int) ≤
      y.balance + y.overdraft - y.reserved := by simp [Booking.linePasses]

theorem presetBad_passes (found : r.compartment? k.unit1 k.unit2 l.addr ≠ none)
    (passes : 100 ≤ l.preset ∧ l.preset ≤ 30000 ∧ ∀ room ∈ r.compartment? k.unit1 k.unit2 l.addr, l.preset ≤ room.capacity) :
    presetBad r k l = none := by
  obtain ⟨room, here⟩ := Option.ne_none_iff_exists'.mp found
  exact presetBad_none.mpr ⟨passes.1, passes.2.1, room, here, passes.2.2 room here⟩

theorem verdictBad_passes (found : r.compartment? k.unit1 k.unit2 l.addr ≠ none) (known : c.recipe? l.recipe ≠ none)
    (passes : ∀ room ∈ r.compartment? k.unit1 k.unit2 l.addr, ∀ x ∈ c.recipe? l.recipe,
      c.switchTable.verdict room.lastGroup x.group ≠ .forbid) : verdictBad c r k l = none := by
  obtain ⟨room, here⟩ := Option.ne_none_iff_exists'.mp found
  obtain ⟨x, recipe⟩ := Option.ne_none_iff_exists'.mp known
  exact (verdictBad_none recipe here).mpr (passes room here x recipe)

theorem groupBad_passes (known : c.recipe? l.recipe ≠ none) (account : (r.account? l.account).map (fun y => y.held) = some false)
    (passes : ∀ x ∈ c.recipe? l.recipe, ∀ y ∈ r.account? l.account, y.group = x.group) : groupBad c r l = none := by
  obtain ⟨x, recipe⟩ := Option.ne_none_iff_exists'.mp known
  obtain ⟨y, found, -⟩ := Option.map_eq_some_iff.mp account
  exact (groupBad_none recipe found).mpr (passes x recipe y found)

/-! ### The checks in their order (R78) -/

/-- The checks of a booking as a list; the eighth check of R78 has two places in it. -/
def bookChecks (c : Conditions) (r : Rack) (k : Booking) : List (Option Refuse) :=
  [refuseIf (r.order? k.order).isSome .duplicate .nothing,
   refuseIf (decide (orderSlots ≤ r.orders.length)) .tableFull .nothing,
   refuseIf (r.permit? k.permit).isNone .notFound (.field (txt "permit")),
   refuseIf (((r.permit? k.permit).map (fun p => p.suspended)).getD false) .suspended .nothing,
   k.units.findSome? (unitUnknown r), k.units.findSome? (unitOutOfDate c r), k.units.findSome? (unitBusy r),
   refuseIf (decide (k.unit2 = some k.unit1)) .badField (.field (txt "unit2")), addressBad r k [] k.lines,
   k.lines.findSome? (recipeUnknown c), k.lines.findSome? (presetBad r k), k.lines.findSome? (verdictBad c r k),
   k.lines.findSome? (accountClosed r), k.lines.findSome? (groupBad c r), k.lines.findSome? (fun l => coverBad r k l.account),
   allAdditives.findSome? (stockBad c r k)]

theorem bookRefusal_eq (c : Conditions) (r : Rack) (k : Booking) : bookRefusal c r k = firstRefusal (bookChecks c r k) := rfl

/-- The number in R78 of the check at a place of the list. -/
def checkAt (j : Nat) : Nat := if j < 8 then j + 1 else j

/-- What a booking that passes its checks up to one of them has settled. -/
theorem bookChecks_passed {last j : Nat} {x : Option Refuse} (passed : k.passesTo c r last) (below : j < 15) (within : checkAt j ≤ last)
    (at_ : (bookChecks c r k)[j]? = some x) : x = none := by
  obtain ⟨fresh, space, permit, active, units, rooms, lines⟩ := passed
  interval_cases j <;> cases at_
  · exact refuseIf_none.mpr (by rw [fresh within]; rfl)
  · exact refuseIf_none.mpr (decide_eq_false (Nat.not_le.mpr (space within)))
  · obtain ⟨p, found⟩ := Option.ne_none_iff_exists'.mp (permit within)
    exact refuseIf_none.mpr (by rw [found]; rfl)
  · cases found : r.permit? k.permit with
    | none => rfl
    | some p => exact refuseIf_none.mpr (active within p found)
  · exact List.findSome?_eq_none_iff.mpr (fun u mem => unitUnknown_none.mpr ((units 5 within u mem).1 rfl))
  · refine List.findSome?_eq_none_iff.mpr (fun u mem => unitOutOfDate_none.mpr ?_)
    obtain ⟨v, found⟩ := Option.ne_none_iff_exists'.mp ((units 5 (Nat.le_of_succ_le within) u mem).1 rfl)
    exact ⟨v, found, ((units 6 within u mem).2 v found).1 rfl⟩
  · exact List.findSome?_eq_none_iff.mpr (fun u mem => unitBusy_none.mpr (fun v found => ((units 7 within u mem).2 v found).2 rfl))
  · exact refuseIf_none.mpr (decide_eq_false (rooms within).1)
  · obtain ⟨-, found, apart⟩ := rooms within
    exact addressBad_none.mpr ⟨fun l mem => ⟨found l mem, List.not_mem_nil⟩, apart⟩
  · exact List.findSome?_eq_none_iff.mpr (fun l mem => recipeUnknown_none.mpr ((lines 9 within l mem).1 rfl))
  · refine List.findSome?_eq_none_iff.mpr (fun l mem => presetBad_passes ((rooms (Nat.le_trans (by decide) within)).2.1 l mem) ?_)
    exact linePasses_preset.mp (lines 10 within l mem)
  · refine List.findSome?_eq_none_iff.mpr (fun l mem => verdictBad_passes ((rooms (Nat.le_trans (by decide) within)).2.1 l mem) ?_ ?_)
    · exact linePasses_recipe.mp (lines 9 (Nat.le_trans (by decide) within) l mem)
    · exact linePasses_verdict.mp (lines 11 within l mem)
  · exact List.findSome?_eq_none_iff.mpr (fun l mem => accountClosed_none.mpr (linePasses_account.mp (lines 12 within l mem)))
  · refine List.findSome?_eq_none_iff.mpr (fun l mem => groupBad_passes ?_ ?_ (linePasses_group.mp (lines 13 within l mem)))
    · exact linePasses_recipe.mp (lines 9 (Nat.le_trans (by decide) within) l mem)
    · exact linePasses_account.mp (lines 12 (Nat.le_trans (by decide) within) l mem)
  · exact List.findSome?_eq_none_iff.mpr (fun l mem => coverBad_none.mpr (linePasses_cover.mp (lines 14 within l mem)))

/-- A booking that passes the checks before one that fails is refused by that one. -/
theorem bookRefusal_fails {last i : Nat} {why : Refuse} (passed : k.passesTo c r last) (before : ∀ j, j < i → j < 15 ∧ checkAt j ≤ last)
    (here : (bookChecks c r k)[i]? = some (some why)) : bookRefusal c r k = some why :=
  firstRefusal_at here (fun j _ less at_ => bookChecks_passed passed (before j less).1 (before j less).2 at_)

/-! ### Acceptance and refusal -/

theorem bookRefusal_none_iff : bookRefusal c r k = none ↔
    r.order? k.order = none ∧ r.orders.length < 64 ∧ (∃ p, r.permit? k.permit = some p ∧ p.suspended = false) ∧
    (∀ u ∈ k.unit1 :: k.unit2.toList, ∃ v, r.unit? u = some v ∧ c.day ≤ v.expiry ∧ v.committed = none) ∧
    k.unit2 ≠ some k.unit1 ∧ (k.lines.map (fun l => l.addr)).Nodup ∧
    (∀ l ∈ k.lines, ∃ room x a,
      r.compartment? k.unit1 k.unit2 l.addr = some room ∧ c.recipe? l.recipe = some x ∧
      100 ≤ l.preset ∧ l.preset ≤ 30000 ∧ l.preset ≤ room.capacity ∧
      c.switchTable.verdict room.lastGroup x.group ≠ .forbid ∧
      r.account? l.account = some a ∧ a.held = false ∧ a.group = x.group ∧
      (((k.lines.filter (fun m => decide (m.account = l.account))).map (fun m => m.preset)).sum : Int) ≤
        a.balance + a.overdraft - a.reserved) ∧
    ∀ x : AdditiveId, k.usesAdditive c x = true →
      (k.additiveNeed c x : Int) ≤ ((r.additive x).stock : Int) - (r.additive x).reserved := by
  have additives (x : AdditiveId) : x ∈ allAdditives := by revert x; decide
  have named : k.unit1 :: k.unit2.toList = k.units := rfl
  rw [bookRefusal_eq, firstRefusal_none, named]
  simp only [bookChecks, List.forall_mem_cons, List.not_mem_nil, false_imp_iff, implies_true, and_true, List.findSome?_eq_none_iff]
  constructor
  · rintro ⟨fresh, space, permit, active, known, valid, free, apart, rooms, recipes, presets, verdicts, accounts, groups, covers, stocks⟩
    obtain ⟨found, addresses⟩ := addressBad_none.mp rooms
    refine ⟨?_, ?_, ?_, fun u mem => ?_, of_decide_eq_false (refuseIf_none.mp apart), addresses, fun l mem => ?_,
      fun x => stockBad_none.mp (stocks x (additives x))⟩
    · simpa using refuseIf_none.mp fresh
    · exact Nat.not_le.mp (of_decide_eq_false (refuseIf_none.mp space))
    · obtain ⟨p, here⟩ : ∃ p, r.permit? k.permit = some p := Option.isSome_iff_exists.mp (by simpa using refuseIf_none.mp permit)
      rw [here] at active
      exact ⟨p, here, refuseIf_none.mp active⟩
    · obtain ⟨v, here, until_⟩ := unitOutOfDate_none.mp (valid u mem)
      exact ⟨v, here, until_, unitBusy_none.mp (free u mem) v here⟩
    · obtain ⟨least, most, room, here, fits⟩ := presetBad_none.mp (presets l mem)
      obtain ⟨x, recipe⟩ := Option.ne_none_iff_exists'.mp (recipeUnknown_none.mp (recipes l mem))
      obtain ⟨a, account, open'⟩ := Option.map_eq_some_iff.mp (accountClosed_none.mp (accounts l mem))
      exact ⟨room, x, a, here, recipe, least, most, fits, (verdictBad_none recipe here).mp (verdicts l mem), account, open',
        (groupBad_none recipe account).mp (groups l mem), coverBad_none.mp (covers l mem) a account⟩
  · rintro ⟨fresh, space, ⟨p, permit, active⟩, units, apart, addresses, lines, stocks⟩
    have unit (u : Nat) (mem : u ∈ k.units) : unitUnknown r u = none ∧ unitOutOfDate c r u = none ∧ unitBusy r u = none := by
      obtain ⟨v, here, until_, free⟩ := units u mem
      refine ⟨unitUnknown_none.mpr (by simp [here]), unitOutOfDate_none.mpr ⟨v, here, until_⟩, unitBusy_none.mpr (fun w there => ?_)⟩
      cases here.symm.trans there
      exact free
    have line (l : BookLine) (mem : l ∈ k.lines) : r.compartment? k.unit1 k.unit2 l.addr ≠ none ∧ recipeUnknown c l = none ∧
        presetBad r k l = none ∧ verdictBad c r k l = none ∧ accountClosed r l = none ∧ groupBad c r l = none ∧
        coverBad r k l.account = none := by
      obtain ⟨room, x, a, here, recipe, least, most, fits, verdict, account, open', group, cover⟩ := lines l mem
      refine ⟨by simp [here], recipeUnknown_none.mpr (by simp [recipe]), presetBad_none.mpr ⟨least, most, room, here, fits⟩,
        (verdictBad_none recipe here).mpr verdict, accountClosed_none.mpr (by simp [account, open']),
        (groupBad_none recipe account).mpr group, coverBad_none.mpr (fun y there => ?_)⟩
      cases account.symm.trans there
      exact cover
    simp only [imp_and, forall_and] at unit line
    obtain ⟨known, valid, free⟩ := unit
    obtain ⟨rooms, recipes, presets, verdicts, accounts, groups, covers⟩ := line
    exact ⟨refuseIf_none.mpr (by rw [fresh]; rfl), refuseIf_none.mpr (decide_eq_false (Nat.not_le.mpr space)),
      refuseIf_none.mpr (by rw [permit]; rfl), refuseIf_none.mpr (by rw [permit]; exact active), known, valid, free,
      refuseIf_none.mpr (decide_eq_false apart), addressBad_none.mpr ⟨fun l mem => ⟨rooms l mem, List.not_mem_nil⟩, addresses⟩,
      recipes, presets, verdicts, accounts, groups, covers, fun x _ => stockBad_none.mpr (stocks x)⟩

/-- Settles O29: acceptance is that every check of the list is silent; each refusal that the checks before it are, and it is not. -/
theorem bookingAcceptedExactlyWhen : Obligations.BookingAcceptedExactlyWhen := by
  unfold Obligations.BookingAcceptedExactlyWhen
  refine ⟨fun c r k => bookRefusal_none_iff, fun c r k refused told => ?_⟩
  have fails {last i : Nat} {status : Status} {named : Named} (passed : k.passesTo c r last) (before : ∀ j, j < i → j < 15 ∧ checkAt j ≤ last)
      (here : (bookChecks c r k)[i]? = some (some { status := status, named := named })) : refused status named :=
    (told status named).mpr (bookRefusal_fails passed before here)
  refine ⟨fun duplicate => ?_, fun passed full => ?_, fun passed missing => ?_, fun passed p found suspended => ?_,
    fun u v => ⟨fun passed first => ?_, fun passed first => ?_, fun passed first o found committed => ?_⟩, fun passed same => ?_,
    fun ls l ms passed apart split found distinct bad => ?_, fun l => ⟨fun passed first => ?_, fun passed first => ?_, fun passed first => ?_,
      fun passed first => ⟨fun missing => ?_, fun present => ?_⟩, fun passed first => ?_, fun passed first => ?_⟩, fun x passed first => ?_⟩
  · refine (told _ _).mpr (firstRefusal_failed _ (refuseIf_failed ?_))
    exact Option.isSome_iff_ne_none.mpr duplicate
  · exact fails (i := 1) passed (by decide) (congrArg some (refuseIf_failed (decide_eq_true full)))
  · exact fails (i := 2) passed (by decide) (congrArg some (refuseIf_failed (by rw [missing]; rfl)))
  · exact fails (i := 3) passed (by decide) (congrArg some (refuseIf_failed (by rw [found]; exact suspended)))
  · exact fails (i := 4) passed (by decide) (congrArg some (findSome_failing first
      (fun y _ passes => unitUnknown_none.mpr (unitPasses_known.mp passes))
      (fun fail => refuseIf_fails (mt unitUnknown_none.mp (mt unitPasses_known.mpr fail)))))
  · refine fails (i := 5) passed (by decide) (congrArg some (findSome_failing first (fun y mem passes => unitOutOfDate_none.mpr ?_)
      (fun fail => refuseIf_fails (fun none => fail (unitPasses_valid.mpr (fun w found => ?_))))))
    · obtain ⟨w, found⟩ := Option.ne_none_iff_exists'.mp (unitPasses_known.mp (passed.2.2.2.2.1 5 (Nat.le_refl 5) y mem))
      exact ⟨w, found, unitPasses_valid.mp passes w found⟩
    · obtain ⟨w', found', until_⟩ := unitOutOfDate_none.mp none
      cases found.symm.trans found'
      exact until_
  · refine fails (i := 6) passed (by decide) (congrArg some (findSome_failing first
      (fun y _ passes => unitBusy_none.mpr (unitPasses_free.mp passes)) (fun _ => ?_)))
    unfold unitBusy
    rw [found, Option.bind_some, committed]
  · exact fails (i := 7) passed (by decide) (congrArg some (refuseIf_failed (decide_eq_true same)))
  · have first := addressBad_first (k := k) (used := []) ms (fun x mem => ⟨found x mem, List.not_mem_nil⟩) distinct (bad.imp id .inr)
    rw [← split] at first
    refine (told _ _).mpr (firstRefusal_at (cs := bookChecks c r k) (i := 8) (congrArg some first) (fun j x less at_ => ?_))
    by_cases here : j = 7
    · subst here
      cases at_
      exact refuseIf_none.mpr (decide_eq_false apart)
    · exact bookChecks_passed passed (by omega) (by unfold checkAt; split <;> omega) at_
  · exact fails (i := 9) passed (by decide) (congrArg some (findSome_failing first
      (fun y _ passes => recipeUnknown_none.mpr (linePasses_recipe.mp passes))
      (fun fail => refuseIf_fails (mt recipeUnknown_none.mp (mt linePasses_recipe.mpr fail)))))
  · obtain ⟨-, -, -, -, -, rooms, -⟩ := id passed
    refine fails (i := 10) passed (by decide) (congrArg some (findSome_failing first
      (fun y mem passes => presetBad_passes ((rooms (by decide)).2.1 y mem) (linePasses_preset.mp passes))
      (fun fail => refuseIf_fails (fun none => fail (linePasses_preset.mpr ?_)))))
    obtain ⟨least, most, room, found, fits⟩ := presetBad_none.mp none
    refine ⟨least, most, fun room' found' => ?_⟩
    cases found.symm.trans found'
    exact fits
  · obtain ⟨-, -, -, -, -, rooms, lines⟩ := id passed
    exact fails (i := 11) passed (by decide) (congrArg some (findSome_failing first
      (fun y mem passes => verdictBad_passes ((rooms (by decide)).2.1 y mem) (linePasses_recipe.mp (lines 9 (by decide) y mem))
        (linePasses_verdict.mp passes))
      (fun fail => refuseIf_fails (fun none => fail (linePasses_verdict.mpr (fun room found x recipe =>
        (verdictBad_none recipe found).mp none))))))
  · refine fails (i := 12) passed (by decide) (congrArg some (findSome_failing first
      (fun y _ passes => accountClosed_none.mpr (linePasses_account.mp passes)) (fun _ => ?_)))
    unfold accountClosed
    rw [missing]
  · refine fails (i := 12) passed (by decide) (congrArg some (findSome_failing first
      (fun y _ passes => accountClosed_none.mpr (linePasses_account.mp passes)) (fun fail => ?_)))
    obtain ⟨y, account⟩ := Option.ne_none_iff_exists'.mp present
    unfold accountClosed
    rw [account]
    refine refuseIf_failed (Bool.not_eq_false _ ▸ fun free => fail (linePasses_account.mpr ?_))
    rw [account, Option.map_some, free]
  · obtain ⟨-, -, -, -, -, -, lines⟩ := id passed
    exact fails (i := 13) passed (by decide) (congrArg some (findSome_failing first
      (fun y mem passes => groupBad_passes (linePasses_recipe.mp (lines 9 (by decide) y mem))
        (linePasses_account.mp (lines 12 (by decide) y mem)) (linePasses_group.mp passes))
      (fun fail => refuseIf_fails (fun none => fail (linePasses_group.mpr (fun x recipe y account =>
        (groupBad_none recipe account).mp none))))))
  · refine fails (i := 14) passed (by decide) (congrArg some (findSome_failing first
      (fun y _ passes => coverBad_none.mpr (linePasses_cover.mp passes)) (fun fail => ?_)))
    have short : coverBad r k l.account ≠ none := fun none => fail (linePasses_cover.mpr (coverBad_none.mp none))
    unfold coverBad at short ⊢
    cases account : r.account? l.account with
    | none => simp [account] at short
    | some y =>
      rw [account] at short
      exact refuseIf_fails short
  · exact fails (i := 15) passed (by decide) (congrArg some (findSome_failing first (fun y _ passes => stockBad_none.mpr passes)
      (fun fail => refuseIf_fails (mt stockBad_none.mp fail))))

end Sys2Proof.Machine
end

section
/-! PROOF. ORDER.BOOK: the booking its fields ask for, and the order, reservations and commitments it makes together (O28). -/

namespace Sys2Proof.Machine

variable {fields : List Text} {items : List Item} {c : Conditions} {r : Rack} {k : Booking} {l : BookLine} {s : State} {link : Link}

/-! ### The booking of a frame (R77) -/

theorem hasItem_of_needs (checked : bookItems fields = .ok items) {name : String} (plain : required name ∈ bookNeeds items) :
    hasItem items (txt name) 0 = true := (formed_of_check checked).needs _ plain

/-- A required plain number is the one the booking takes. -/
theorem bookNumber (checked : bookItems fields = .ok items) {name : String} (plain : required name ∈ bookNeeds items)
    (number : ∀ f ∈ bookForms, f.name = txt name → f.value.isNumber = true) : natAt? items name 0 = some (natAt items name 0) := by
  obtain ⟨n, here⟩ := Option.ne_none_iff_exists'.mp (((formed_of_check checked).natAt?_iff number).mpr (hasItem_of_needs checked plain))
  rw [here, natAt_of_natAt? here]

theorem bookNeeds_line {name : String} {j : Nat} (named : txt name ∈ lineFieldNames) (inRun : j < max 1 (lineRun items)) :
    requiredAt name (j + 1) ∈ bookNeeds items := by
  refine List.mem_append_right _ (List.mem_flatMap.mpr ⟨j, List.mem_range.mpr inRun, ?_⟩)
  simp only [lineFieldNames, List.mem_cons, List.not_mem_nil, or_false] at named
  rcases named with h | h | h | h <;> simp [lineNeeds, requiredAt, indexedKey, h]

/-- Line 1 is always described, and no line behind line 12. -/
theorem lineRun_bounds (checked : bookItems fields = .ok items) : 1 ≤ lineRun items ∧ lineRun items ≤ 12 := by
  obtain ⟨most, -, ends⟩ := gaplessRun_spec items lineFieldNames 12 1
  refine ⟨?_, most⟩
  by_contra none
  have zero : lineRun items = 0 := by omega
  have first : hasItem items (txt "addr") 1 = true :=
    (formed_of_check checked).needs _ (bookNeeds_line (name := "addr") (j := 0) (by simp [lineFieldNames]) (by omega))
  rcases ends with full | gap
  · unfold lineRun at zero
    omega
  · unfold lineRun at zero
    rw [zero, Nat.add_zero, lineFieldNames, List.any_cons, first] at gap
    cases gap

/-- A frame describes a line exactly when it carries each of its fields: no line stands behind a gap (R77). -/
theorem lineRun_spec (checked : bookItems fields = .ok items) {name : String} (named : txt name ∈ lineFieldNames) (j : Nat) :
    j < lineRun items ↔ natAt? items name (j + 1) ≠ none := by
  have formed := formed_of_check checked
  have number : ∀ n ∈ lineFieldNames, ∀ f ∈ bookForms, f.name = n → f.value.isNumber = true := by decide
  rw [formed.natAt?_iff (number _ named)]
  refine ⟨fun inRun => formed.needs _ (bookNeeds_line named (by omega)), fun has => ?_⟩
  by_contra behind
  obtain ⟨i, mem, here, index⟩ := hasItem_iff.mp has
  obtain ⟨f, hf, from', ⟨x, read⟩, -⟩ := formed.item_read mem
  have ranges : ∀ n ∈ lineFieldNames, ∀ f ∈ bookForms, f.name = n → f.index = .range 1 12 := by decide
  rw [ranges _ named f hf (from'.symm.trans here)] at read
  have last := (IndexForm.read_range read).2
  have described : hasLine items (j + 1) = true := List.any_eq_true.mpr ⟨_, named, has⟩
  obtain ⟨m, gap⟩ : ∃ m, lineBehindGap items = some m := by
    refine Option.isSome_iff_exists.mp (List.find?_isSome.mpr ⟨j + 1, List.mem_range.mpr (by omega), ?_⟩)
    rw [described, Bool.and_true]
    exact decide_eq_true (by omega)
  have stands := List.find?_some gap
  rw [Bool.and_eq_true] at stands
  obtain ⟨n, isLine, held⟩ := List.any_eq_true.mp stands.2
  obtain ⟨y, memY, nameY, indexY⟩ := hasItem_iff.mp held
  have kept := formed.own y memY
  rw [bookFieldBad, nameY, indexY, gap, List.contains_iff_mem.mpr isLine] at kept
  simp at kept

theorem bookLine_number (checked : bookItems fields = .ok items) {name : String} (named : txt name ∈ lineFieldNames) {j : Nat}
    (inRun : j < lineRun items) : natAt? items name (j + 1) = some (natAt items name (j + 1)) := by
  obtain ⟨n, here⟩ := Option.ne_none_iff_exists'.mp ((lineRun_spec checked named j).mp inRun)
  rw [here, natAt_of_natAt? here]

theorem bookingOf_line {i : Nat} : (bookingOf items).lines[i]? = if i < lineRun items then some
    { number := i + 1, addr := natAt items "addr" (i + 1), recipe := natAt items "recipe" (i + 1)
      account := natAt items "account" (i + 1), preset := natAt items "preset" (i + 1) } else none := by
  rw [bookingOf, List.getElem?_map]
  split
  · rename_i inRun
    rw [List.getElem?_range inRun]
    rfl
  · rename_i behind
    rw [List.getElem?_eq_none (by simpa using Nat.not_lt.mp behind)]
    rfl

theorem bookingOf_length : (bookingOf items).lines.length = lineRun items := by simp [bookingOf]

/-- The bay of a booking is the number its field carries; ANY is none. -/
theorem bookBay_number (checked : bookItems fields = .ok items) : natAt? items "bay" 0 = (bookBay items).map (fun b => b.val + 1) := by
  unfold bookBay
  cases read : natAt? items "bay" 0 with
  | none => rfl
  | some n =>
    have formed := formed_of_check checked
    have has : hasItem items (txt "bay") 0 = true := hasItem_of_needs checked (by simp [bookNeeds])
    obtain ⟨i, mem, named, -, v, value, taken⟩ := formed.value has
    obtain ⟨f, hf, from', -, t, v', value', read'⟩ := formed.item_read mem
    have form : ∀ f ∈ bookForms, f.name = txt "bay" → f.value = .bayOrAny := by decide
    cases value.symm.trans value'
    rw [form f hf (from'.symm.trans named)] at read'
    have small : 1 ≤ n ∧ n ≤ 4 := by
      unfold natAt? at read
      rw [taken] at read
      unfold ValueForm.read readNatOr at read'
      dsimp only at read'
      split at read'
      · cases read'
        cases read
      · obtain ⟨m, range, rfl⟩ := Option.map_eq_some_iff.mp read'
        cases read
        exact (readRange_some range).2
    obtain ⟨least, most⟩ := small
    simp only [Option.map_some, Option.some.injEq, numbered, Fin.val_ofNat]
    omega

/-! ### The lines of a booking (R75, R81) -/

theorem filterMap_getElem? {α β : Type} {f : α → Option β} {xs : List α} (total : ∀ x ∈ xs, f x ≠ none) (i : Nat) :
    (xs.filterMap f)[i]? = xs[i]?.bind f := by
  induction xs generalizing i with
  | nil => rfl
  | cons x rest ih =>
    rw [List.forall_mem_cons] at total
    obtain ⟨y, here⟩ := Option.ne_none_iff_exists'.mp total.1
    rw [List.filterMap_cons_some here]
    cases i with
    | zero => exact here.symm
    | succ i => exact ih total.2 i

theorem filterMap_length {α β : Type} {f : α → Option β} {xs : List α} (total : ∀ x ∈ xs, f x ≠ none) :
    (xs.filterMap f).length = xs.length := by
  induction xs with
  | nil => rfl
  | cons x rest ih =>
    rw [List.forall_mem_cons] at total
    obtain ⟨y, here⟩ := Option.ne_none_iff_exists'.mp total.1
    rw [List.filterMap_cons_some here, List.length_cons, List.length_cons, ih total.2]

/-- A booking that passes its checks has every recipe and every compartment. -/
theorem bookRefusal_line (passed : bookRefusal c r k = none) (mem : l ∈ k.lines) :
    ∃ x room, c.recipe? l.recipe = some x ∧ r.compartment? k.unit1 k.unit2 l.addr = some room := by
  obtain ⟨-, -, -, -, -, -, lines, -⟩ := bookRefusal_none_iff.mp passed
  obtain ⟨room, x, a, here, recipe, -⟩ := lines l mem
  exact ⟨x, room, recipe, here⟩

theorem bookedLines_total (passed : bookRefusal c r k = none) (l : BookLine) (mem : l ∈ k.lines) :
    (c.recipe? l.recipe).map (fun x => newLine x (lineLow c r k l) l) ≠ none := by
  obtain ⟨x, -, recipe, -⟩ := bookRefusal_line passed mem
  simp [recipe]

/-- The need of an additive is what the booked lines' dose entries reserve. -/
theorem additiveNeed_booked (passed : bookRefusal c r k = none) (y : AdditiveId) : k.additiveNeed c y = ((bookedLines c r k).map (fun l =>
    ((l.doses.filter (fun d => decide (d.additive = y))).map (fun d => d.remaining)).sum)).sum := by
  refine (bookedLines_sum passed _ (lineNeed c y) (fun b x low recipe => ?_)).symm
  simp only [lineNeed, dosesOf, recipe, newLine, Option.map_some, Option.getD_some, List.filter_map, List.map_map, Function.comp_def,
    Dose.record]
  rfl

/-! ### The request -/

theorem exec_orderBook (taken : s.takes "ORDER.BOOK" fields) (checked : bookItems fields = .ok items) :
    (∀ why, bookRefusal s.cond s.rack (bookingOf items) = some why →
      exec (.orderBook fields) s = .next (s.answers "ORDER.BOOK" (.refused why))) ∧
    (bookRefusal s.cond s.rack (bookingOf items) = none → exec (.orderBook fields) s =
      .next (State.answers { s with rack := s.rack.book s.cond (bookingOf items) } "ORDER.BOOK"
        (.ok (bookAnswer s.cond s.rack (bookingOf items))))) := by
  have decided (link : Link) :
      (∀ why, bookRefusal s.cond s.rack (bookingOf items) = some why →
        orderBook (bookingOf items) { s with link := link } = ({ s with link := link }, .refused why)) ∧
      (bookRefusal s.cond s.rack (bookingOf items) = none → orderBook (bookingOf items) { s with link := link } =
        ({ s with rack := s.rack.book s.cond (bookingOf items), link := link }, .ok (bookAnswer s.cond s.rack (bookingOf items)))) := by
    unfold orderBook
    dsimp only
    exact ⟨fun why refused => by rw [refused], fun passed => by rw [passed]; rfl⟩
  refine ⟨fun why refused => takeRequest_taken (t := s) taken ?_ rfl, fun passed => ?_⟩
  · exact (congrFun (withItems_passed _ checked) _).trans ((decided _).1 why refused)
  · exact takeRequest_taken (t := { s with rack := s.rack.book s.cond (bookingOf items) }) taken
      ((congrFun (withItems_passed _ checked) _).trans ((decided _).2 passed)) rfl

/-- What an accepted booking makes of the tables. -/
theorem Rack.book_fields (c : Conditions) (k : Booking) (r : Rack) : r.book c k = { r with
    orders := r.orders ++
      [{ number := k.order, state := .booked, permit := k.permit, unit1 := k.unit1, unit2 := k.unit2, bay := k.bay
         lastBay := none, priority := k.priority, remark := k.remark.take 64, counted := false, note := none, day := none
         lines := bookedLines c r k }]
    accounts := r.accounts.map (fun x => { x with reserved := x.reserved +
      ((k.lines.filter (fun l => decide (l.account = x.number))).map (fun l => l.preset)).sum })
    additives := Vector.ofFn (fun x : Fin 8 => { r.additive x with reserved := (r.additive x).reserved + k.additiveNeed c x })
    units := r.units.map (fun u =>
      if u.number = k.unit1 ∨ k.unit2 = some u.number then { u with committed := some k.order } else u) } := by
  have named (u : Nat) : u ∈ k.units ↔ u = k.unit1 ∨ k.unit2 = some u := by simp [Booking.units]
  unfold Rack.book Booking.commitUnits
  simp only [named]
  rfl

/-- Settles O28: the booking by the form check of its frame, the tables by the effects of an accepted booking. -/
theorem bookingIsDecided : Obligations.BookingIsDecided := by
  unfold Obligations.BookingIsDecided
  intro s fields items k taken checked asked
  subst asked
  obtain ⟨least, most⟩ := lineRun_bounds checked
  have length := bookingOf_length (items := items)
  obtain ⟨refuses, books⟩ := exec_orderBook taken checked
  refine ⟨?_, length ▸ least, length ▸ most, bookNumber checked (by simp [bookNeeds]) (by decide),
    bookNumber checked (by simp [bookNeeds]) (by decide), bookNumber checked (by simp [bookNeeds]) (by decide), rfl, bookBay_number checked,
    bookNumber checked (by simp [bookNeeds]) (by decide), fun x here => ?_, fun none => ?_, fun i => ?_, fun i x here => ?_,
    fun passed => ?_, fun passed => ⟨?_, fun i x here => ?_, additiveNeed_booked passed⟩, refuses, fun duplicate => ?_, fun fresh full => ?_⟩
  · rw [length, bookingOf]
    simp [List.range'_eq_map_range, Nat.add_comm]
  · simp [bookingOf, textAt, here]
  · simp [bookingOf, textAt, none]
  · rw [length]
    exact lineRun_spec checked (by simp [lineFieldNames]) i
  · rw [bookingOf_line] at here
    split at here
    · rename_i inRun
      cases here
      exact ⟨bookLine_number checked (by simp [lineFieldNames]) inRun, bookLine_number checked (by simp [lineFieldNames]) inRun,
        bookLine_number checked (by simp [lineFieldNames]) inRun, bookLine_number checked (by simp [lineFieldNames]) inRun⟩
    · cases here
  · rw [books passed, Rack.book_fields]
    rfl
  · exact filterMap_length (bookedLines_total passed)
  · obtain ⟨recipe, room, known, found⟩ := bookRefusal_line passed (List.mem_of_getElem? here)
    refine ⟨recipe, room, known, found, fun low isLow => ?_⟩
    have lowOnly : lineLow s.cond s.rack (bookingOf items) x = low := by rw [isLow, lineLow, verdictOf_found known found]
    rw [bookedLines, filterMap_getElem? (bookedLines_total passed), here, Option.bind_some, known, Option.map_some, lowOnly]
    rfl
  · refine refuses _ (firstRefusal_failed _ (refuseIf_failed ?_))
    exact Option.isSome_iff_ne_none.mpr duplicate
  · refine refuses _ ((firstRefusal_passed _ (refuseIf_none.mpr (by rw [fresh]; rfl))).trans ?_)
    exact firstRefusal_failed _ (refuseIf_failed (decide_eq_true full))

end Sys2Proof.Machine
end

section
/-! PROOF. ARM.PUT, ARM.SERVICE, ARM.CLEAR and ARM.GET, accepted and refused (O35). -/

namespace Sys2Proof.Machine

variable {fields : List Text} {items : List Item} {c : Conditions} {r : Rack} {k : ArmConfig} {a b : ArmId} {s : State} {link : Link}

/-! ### Numbers and words of checked fields -/

section
variable {forms : List FieldForm} {twice : Bool} {own : List Item → Item → Bool} {needs : List Item → List (Text × Nat × Text)}

/-- A field that stands in the frame carries a value of its form. -/
theorem Formed.value_read (h : Formed forms twice own needs fields items) {name : String} {index : Nat} {form : ValueForm}
    (named : ∀ f ∈ forms, f.name = txt name → f.value = form) (has : hasItem items (txt name) index = true) :
    ∃ t v, itemValue items name index = some v ∧ form.read t = some v := by
  obtain ⟨i, mem, here, -, v, value, taken⟩ := h.value has
  obtain ⟨f, hf, from', -, t, v', value', read⟩ := h.item_read mem
  cases value.symm.trans value'
  exact ⟨t, v, taken, named f hf (from'.symm.trans here) ▸ read⟩

/-- A number that stands in the frame is in its range. -/
theorem Formed.nat_read (h : Formed forms twice own needs fields items) {name : String} {index lo hi : Nat}
    (named : ∀ f ∈ forms, f.name = txt name → f.value = .nat lo hi) (has : hasItem items (txt name) index = true) :
    natAt? items name index = some (natAt items name index) ∧ lo ≤ natAt items name index ∧ natAt items name index ≤ hi := by
  obtain ⟨t, v, taken, read⟩ := h.value_read named has
  obtain ⟨n, range, rfl⟩ := Option.map_eq_some_iff.mp read
  have here : natAt? items name index = some n := by rw [natAt?, taken]
  rw [natAt_of_natAt? here]
  exact ⟨here, (readRange_some range).2⟩

end

theorem numbered_val {n m : Nat} (least : 1 ≤ m) (most : m ≤ n + 1) : (numbered n m).val + 1 = m := by
  rw [numbered, Fin.val_ofNat, Nat.mod_eq_of_lt (by omega)]
  omega

/-! ### The configuration of a frame (R101) -/

theorem armNeeds_plain {name : String} (plain : name ∈ ["arm", "header", "lowstart", "taper", "allow", "noflow", "settle", "mode"]) :
    required name ∈ armNeeds items := List.mem_append_left _ (List.mem_map_of_mem plain)

theorem armNeeds_slot {x : Text × Nat × Text} (n : SlotId) (needed : x ∈ slotNeeds items (n.val + 1)) : x ∈ armNeeds items := by
  refine List.mem_append_right _ (List.mem_flatMap.mpr ⟨n.val + 1, ?_, needed⟩)
  have all : ∀ n : SlotId, n.val + 1 ∈ [1, 2, 3, 4] := by decide
  exact all n

theorem armNumber (checked : armPutItems fields = .ok items) {name : String} {lo hi : Nat}
    (plain : name ∈ ["arm", "header", "lowstart", "taper", "allow", "noflow", "settle", "mode"])
    (named : ∀ f ∈ armPutForms, f.name = txt name → f.value = .nat lo hi) :
    natAt? items name 0 = some (natAt items name 0) ∧ lo ≤ natAt items name 0 ∧ natAt items name 0 ≤ hi :=
  (formed_of_check checked).nat_read named ((formed_of_check checked).needs _ (armNeeds_plain plain))

theorem armConfigOf_slot (n : SlotId) : (armConfigOf items).slots[n] = slotOf items (n.val + 1) := by
  simp [armConfigOf, numberOf]

/-- The additive a slot's field carries, or NONE. -/
theorem slotAdd_read (checked : armPutItems fields = .ok items) (n : SlotId) :
    itemValue items "add" (n.val + 1) = some .clean ∨ ∃ m, natAt? items "add" (n.val + 1) = some m ∧ 1 ≤ m ∧ m ≤ 8 := by
  have formed := formed_of_check checked
  have has : hasItem items (txt "add") (n.val + 1) = true := formed.needs _ (armNeeds_slot n (List.mem_cons_self ..))
  obtain ⟨t, v, taken, read⟩ := formed.value_read (form := .slotAdditive) (by decide) has
  unfold ValueForm.read readNatOr at read
  dsimp only at read
  split at read
  · cases read
    exact .inl taken
  · obtain ⟨m, range, rfl⟩ := Option.map_eq_some_iff.mp read
    exact .inr ⟨m, by rw [natAt?, taken], (readRange_some range).2⟩

/-- A slot that carries an additive carries its four figures. -/
theorem slotFigure (checked : armPutItems fields = .ok items) {n : SlotId} {name : String}
    (add : itemValue items "add" (n.val + 1) ≠ some .clean) (isFigure : txt name ∈ slotFieldNames) :
    natAt? items name (n.val + 1) = some (natAt items name (n.val + 1)) := by
  have formed := formed_of_check checked
  have number : ∀ x ∈ slotFieldNames, ∀ f ∈ armPutForms, f.name = x → f.value.isNumber = true := by decide
  have has : hasItem items (txt name) (n.val + 1) = true := by
    refine formed.needs (requiredAt name (n.val + 1)) (armNeeds_slot n ?_)
    unfold slotNeeds
    rw [if_neg add]
    simp only [slotFieldNames, List.mem_cons, List.not_mem_nil, or_false] at isFigure
    rcases isFigure with h | h | h | h <;> simp [requiredAt, indexedKey, h]
  obtain ⟨m, here⟩ := Option.ne_none_iff_exists'.mp ((formed.natAt?_iff (number _ isFigure)).mpr has)
  rw [here, natAt_of_natAt? here]

theorem armMode_read (checked : armPutItems fields = .ok items) :
    wordAt items "mode" = txt "FIFO" ∧ (armConfigOf items).mode = .fifo ∨
      wordAt items "mode" = txt "SEQUENCE" ∧ (armConfigOf items).mode = .sequence := by
  have formed := formed_of_check checked
  obtain ⟨t, v, taken, read⟩ := formed.value_read (form := .word [txt "FIFO", txt "SEQUENCE"]) (name := "mode") (index := 0) (by decide)
    (formed.needs (required "mode") (armNeeds_plain (by decide)))
  unfold ValueForm.read at read
  dsimp only at read
  split at read
  · rename_i word
    cases read
    have carried : wordAt items "mode" = t := by rw [wordAt, taken]
    simp only [List.mem_cons, List.not_mem_nil, or_false] at word
    rcases word with rfl | rfl
    · exact .inl ⟨carried, by rw [armConfigOf, carried]; rfl⟩
    · exact .inr ⟨carried, by rw [armConfigOf, carried]; rfl⟩
  · cases read

/-- The configuration's own fields (R101). -/
theorem armConfigOf_spec (checked : armPutItems fields = .ok items) (n : SlotId) :
    ((armConfigOf items).slots[n] = none → itemValue items "add" (n.val + 1) = some .clean) ∧
    ∀ x, (armConfigOf items).slots[n] = some x →
      natAt? items "add" (n.val + 1) = some (x.additive.val + 1) ∧ natAt? items "stroke" (n.val + 1) = some x.stroke ∧
      natAt? items "fbmin" (n.val + 1) = some x.fbMin ∧ natAt? items "fbmax" (n.val + 1) = some x.fbMax ∧
      natAt? items "misses" (n.val + 1) = some x.missLimit := by
  rw [armConfigOf_slot]
  rcases slotAdd_read checked n with clean | ⟨m, add, least, most⟩
  · have none : slotOf items (n.val + 1) = none := by simp [slotOf, natAt?, clean]
    rw [none]
    exact ⟨fun _ => clean, fun x here => by cases here⟩
  · have named : itemValue items "add" (n.val + 1) ≠ some .clean := fun clean => by simp [natAt?, clean] at add
    have slot : slotOf items (n.val + 1) = some
        { additive := numbered 7 m, stroke := natAt items "stroke" (n.val + 1), fbMin := natAt items "fbmin" (n.val + 1)
          fbMax := natAt items "fbmax" (n.val + 1), missLimit := natAt items "misses" (n.val + 1) } := by simp [slotOf, add]
    rw [slot]
    refine ⟨fun h => (by cases h), fun x here => ?_⟩
    cases here
    exact ⟨by rw [numbered_val least most, add], slotFigure checked named (by decide),
      slotFigure checked named (by decide), slotFigure checked named (by decide),
      slotFigure checked named (by decide)⟩

/-! ### The checks of ARM.PUT (R101) -/

theorem slotTimesBad_none {n : SlotId} : slotTimesBad k n = none ↔ ∀ x, k.slots[n] = some x → x.fbMin < x.fbMax := by
  unfold slotTimesBad
  cases k.slots[n] with
  | none => simp
  | some x => simp

theorem slotTimesBad_some {n : SlotId} {x : SlotConfig} (slot : k.slots[n] = some x) (bad : x.fbMax ≤ x.fbMin) :
    slotTimesBad k n = some (indexedKey "fbmax" (n.val + 1)) := by
  unfold slotTimesBad
  rw [slot]
  exact if_pos bad

theorem ArmConfig.additiveAt_some {n : SlotId} {y : AdditiveId} :
    k.additiveAt n = some y ↔ ∃ x, k.slots[n] = some x ∧ x.additive = y := Option.map_eq_some_iff

theorem slotAdditiveBad_none {n : SlotId} : slotAdditiveBad k n = none ↔
    ∀ (m : SlotId) (x y : SlotConfig), m < n → k.slots[n] = some x → k.slots[m] = some y → x.additive ≠ y.additive := by
  have named : slotAdditiveBad k n = none ↔ ∀ y, k.additiveAt n = some y → ∀ m, m < n → k.additiveAt m ≠ some y := by
    unfold slotAdditiveBad
    cases k.additiveAt n with
    | none => simp
    | some y => simp [mem_allSlots]
  rw [named]
  constructor
  · intro apart m x y less slot slot' same
    exact apart x.additive (ArmConfig.additiveAt_some.mpr ⟨x, slot, rfl⟩) m less (ArmConfig.additiveAt_some.mpr ⟨y, slot', same.symm⟩)
  · intro apart z here m less here'
    obtain ⟨x, slot, additive⟩ := ArmConfig.additiveAt_some.mp here
    obtain ⟨y, slot', additive'⟩ := ArmConfig.additiveAt_some.mp here'
    exact apart m x y less slot slot' (additive.trans additive'.symm)

/-- The slots before one, in the order of the checks. -/
theorem allSlots_split (n : SlotId) : ∃ behind, allSlots = allSlots.filter (fun m => decide (m < n)) ++ n :: behind := by
  have splits : ∀ n : SlotId, allSlots = allSlots.filter (fun m => decide (m < n)) ++ n :: allSlots.filter (fun m => decide (n < m)) := by decide
  exact ⟨_, splits n⟩

/-- The lowest-numbered slot at fault is named. -/
theorem allSlots_first {f : SlotId → Option Text} {n : SlotId} {key : Text} (passed : ∀ m, m < n → f m = none) (here : f n = some key) :
    allSlots.findSome? f = some key := by
  obtain ⟨behind, split⟩ := allSlots_split n
  rw [split]
  exact findSome_first behind (fun m mem => passed m (of_decide_eq_true (List.mem_filter.mp mem).2)) here

theorem allSlots_pass {f : SlotId → Option Text} : allSlots.findSome? f = none ↔ ∀ n, f n = none := by
  rw [List.findSome?_eq_none_iff]
  exact ⟨fun h n => h n (mem_allSlots n), fun h n _ => h n⟩

theorem exec_armPut (taken : s.takes "ARM.PUT" fields) (checked : armPutItems fields = .ok items) :
    (∀ key, allSlots.findSome? (slotTimesBad (armConfigOf items)) = some key →
      s.refuses (.armPut fields) "ARM.PUT" .badField (.field key)) ∧
    (allSlots.findSome? (slotTimesBad (armConfigOf items)) = none →
      (∀ key, allSlots.findSome? (slotAdditiveBad (armConfigOf items)) = some key →
        s.refuses (.armPut fields) "ARM.PUT" .badField (.field key)) ∧
      (allSlots.findSome? (slotAdditiveBad (armConfigOf items)) = none →
        exec (.armPut fields) s = takeRequest (txt "ARM.PUT") fields (fun s =>
          if (s.rack.arm (armOf items)).state = .idle ∨ (s.rack.arm (armOf items)).state = .outOfService then
            okTables (fun r => r.configure (armOf items) (armConfigOf items)) (.action (s.rack.arm (armOf items)).config.isNone) s
          else refuseWith .wrongState s) s)) := by
  have request : exec (.armPut fields) s = takeRequest (txt "ARM.PUT") fields (armPut items) s := by
    have owner : answerArmPut fields = armPut items := withItems_passed _ checked
    exact congrArg (fun answer => takeRequest (txt "ARM.PUT") fields answer s) owner
  unfold State.refuses
  rw [request]
  refine ⟨fun key bad => takeRequest_refuses taken ?_, fun times => ⟨fun key bad => takeRequest_refuses taken ?_, fun additives => ?_⟩⟩
  · unfold armPut
    rw [bad]
    rfl
  · unfold armPut
    rw [times]
    dsimp only
    rw [bad]
    rfl
  · unfold armPut
    rw [times]
    dsimp only
    rw [additives]

/-! ### An arm taken into or out of service, or cleared (R122, R123) -/

/-- An arm that leaves one state of rest for another empties its reason and stops its repeat. -/
theorem Rack.setState_rest (new : ArmState) (other : (r.arm a).state ≠ new) (still : new.isRunning = false) :
    (r.setState c a new).arm a = { r.arm a with state := new, reason := none, repeatTimer := none } := by
  unfold Rack.setState
  rw [if_neg other, Rack.callArm_arm, Rack.modArm_arm, if_pos rfl]
  simp [repeatAfter, still]

theorem Rack.setState_others (new : ArmState) (ne : b ≠ a) : (r.setState c a new).arm b = r.arm b := by
  unfold Rack.setState
  split
  · rfl
  · rw [Rack.callArm_arm, Rack.modArm_arm, if_neg (Ne.symm ne)]

/-- An arm that comes into service is IDLE, or in ALARM at once by R22. -/
theorem Rack.enterIdle_service {new : ArmState} (out : (r.arm a).state = .outOfService)
    (enters : new = if 20 ≤ (r.channel a).unassigned then .alarm else .idle) : (r.enterIdle c a).arm a = { r.arm a with
      state := new, returnState := if new = .alarm then some .idle else (r.arm a).returnState, current := none, repeatTimer := none
      reason := none } := by
  have idle : ((r.modArm a (fun x => { x with current := none })).setState c a .idle).arm a =
      { r.arm a with state := .idle, current := none, reason := none, repeatTimer := none } := by
    rw [Rack.setState_rest, Rack.modArm_arm, if_pos rfl]
    · rw [Rack.modArm_arm, if_pos rfl, out]
      decide
    · rfl
  have channel : ((r.modArm a (fun x => { x with current := none })).setState c a .idle).channel a = r.channel a :=
    Rack.channel_eq (by simp) a
  subst enters
  unfold Rack.enterIdle
  dsimp only
  rw [channel]
  split
  · rw [Rack.setState_rest, Rack.modArm_arm, if_pos rfl, idle]
    · rfl
    · rw [Rack.modArm_arm, if_pos rfl, idle]
      exact ArmState.noConfusion
    · rfl
  · rw [idle]
    rfl

/-- An arm that is cleared: its count, and of an arm in ALARM the state it returns to (R123). -/
theorem Rack.clearArm_arm (new : ArmState) (states : (r.arm a).state = .idle ∧ new = .idle ∨ (r.arm a).state = .outOfService ∧ new = .outOfService ∨
    (r.arm a).state = .alarm ∧ (r.arm a).returnState = some .idle ∧ new = .idle ∨
    (r.arm a).state = .alarm ∧ (r.arm a).returnState = some .outOfService ∧ new = .outOfService) :
    ((r.clearArm c a).arm a).state = new ∧ ((r.arm a).state ≠ .alarm → (r.clearArm c a).arm a = r.arm a) ∧
    ((r.arm a).state = .alarm → (r.clearArm c a).arm a =
      { r.arm a with state := new, returnState := none, reason := none, repeatTimer := none }) := by
  have quiet (other : (r.arm a).state ≠ .alarm) : (r.clearArm c a).arm a = r.arm a := by
    unfold Rack.clearArm
    dsimp only
    rw [if_neg other]
    rfl
  have loud (alarm : (r.arm a).state = .alarm) (back : ((r.arm a).returnState.map ReturnState.toState).getD .outOfService = new)
      (still : new.isRunning = false) (ne : new ≠ .alarm) : (r.clearArm c a).arm a =
        { r.arm a with state := new, returnState := none, reason := none, repeatTimer := none } := by
    have marked : ((r.modChannel a (fun x => { x with unassigned := 0 })).modArm a (fun x => { x with returnState := none })).arm a =
        { r.arm a with returnState := none } := by
      rw [Rack.modArm_arm, if_pos rfl]
      rfl
    unfold Rack.clearArm
    dsimp only
    rw [if_pos alarm, back, Rack.setState_rest _ _ still, marked]
    rw [marked, alarm]
    exact ne.symm
  rcases states with ⟨state, rfl⟩ | ⟨state, rfl⟩ | ⟨state, back, rfl⟩ | ⟨state, back, rfl⟩
  · have other : (r.arm a).state ≠ .alarm := by rw [state]; decide
    exact ⟨by rw [quiet other, state], quiet, fun alarm => absurd alarm other⟩
  · have other : (r.arm a).state ≠ .alarm := by rw [state]; decide
    exact ⟨by rw [quiet other, state], quiet, fun alarm => absurd alarm other⟩
  · have cleared := loud state (by rw [back]; rfl) rfl (by decide)
    exact ⟨by rw [cleared], quiet, fun _ => cleared⟩
  · have cleared := loud state (by rw [back]; rfl) rfl (by decide)
    exact ⟨by rw [cleared], quiet, fun _ => cleared⟩

theorem Rack.clearArm_frame (c : Conditions) (a : ArmId) (r : Rack) : r.clearArm c a = { r with
    arms := (r.clearArm c a).arms, channels := (r.modChannel a (fun x => { x with unassigned := 0 })).channels
    panels := (r.clearArm c a).panels } := by
  unfold Rack.clearArm Rack.setState
  dsimp only
  split
  · split <;> rfl
  · rfl

theorem Rack.clearArm_other (ne : b ≠ a) : (r.clearArm c a).arm b = r.arm b := by
  unfold Rack.clearArm
  dsimp only
  split
  · rw [Rack.setState_others _ ne, Rack.modArm_arm, if_neg (Ne.symm ne)]
    rfl
  · rfl

/-! ### An arm as it is read (R24, R124, R155) -/

theorem valve_eq (x : ArmState) : x.valve = (if x = .high then .high
    else if x = .lowStart ∨ x = .waitGrant ∨ x = .lowRun then .low else .closed) := by cases x <;> rfl

theorem holdsBank_iff {x : LineState} : x.holdsBank = true ↔ x = .active ∨ x = .suspended := by cases x <;> simp [LineState.holdsBank]

theorem runView_none (other : ∀ l, r.currentLine a = some l → l.state ≠ .active ∧ l.state ≠ .suspended) : runView r a = none := by
  unfold runView
  split
  · rename_i k l config line
    obtain ⟨active, suspended⟩ := other l line
    exact if_neg (fun bank => (holdsBank_iff.mp bank).elim active suspended)
  · rfl

theorem runView_some {l : Line} (line : r.currentLine a = some l) (holds : l.state = .active ∨ l.state = .suspended)
    (config : (r.arm a).config = some k) : runView r a = some
      { startMark := (r.arm a).startMark.map (fun m => m / 100000)
        taperPoint := ((l.preset : Int) * 1000000 - (k.taper : Int) * 100000).tdiv 100000
        closePoint := ((l.preset : Int) * 1000000 - (((r.arm a).allowance.getD 0 : Nat) : Int) * 100000).tdiv 100000
        standard := l.standard / 100000, intent := (r.arm a).intent, pendingStop := (r.arm a).pendingStop
        restartPending := (r.arm a).restartPending, causes := (r.arm a).causes, holdsGrant := decide (a ∈ (r.header k.header).held)
        waiting := decide (∃ w ∈ (r.header k.header).waiting, w.arm = a) } := by
  have header : r.headerOf a = some k.header := by rw [Rack.headerOf, config]; rfl
  have held : r.holdsGrant a = decide (a ∈ (r.header k.header).held) := by
    unfold Rack.holdsGrant
    rw [header]
    exact (List.contains_eq_mem a _)
  have waits : r.isWaiting a = decide (∃ w ∈ (r.header k.header).waiting, w.arm = a) := by
    unfold Rack.isWaiting
    rw [header]
    simp [List.any_eq]
  unfold runView
  rw [config, line]
  dsimp only
  rw [if_pos (holdsBank_iff.mpr holds), held, waits]
  rfl

theorem armView_spec (c : Conditions) (r : Rack) (a : ArmId) (n : SlotId) : (armView c r a).injectors[n] = (r.injector a n).view :=
  Vector.getElem_map ..

/-! ### The requests -/

/-- The state an arm that bears a line or is READY is not in. -/
theorem ArmState.bears_or_ready {x : ArmState} (h : x.isLineBearing = true ∨ x = .ready) : x ≠ .idle ∧ x ≠ .outOfService ∧ x ≠ .alarm := by
  cases x <;> simp [ArmState.isLineBearing, ArmState.isRunning, ArmState.isFlow] at h ⊢

theorem serviceOut_refuses {x : State} (h : (x.rack.arm a).state.isLineBearing = true ∨ (x.rack.arm a).state = .ready) :
    serviceOut a x = refuseWith .wrongState x := by
  obtain ⟨idle, out, alarm⟩ := ArmState.bears_or_ready h
  unfold serviceOut
  cases state : (x.rack.arm a).state with
  | idle => exact absurd state idle
  | outOfService => exact absurd state out
  | alarm => exact absurd state alarm
  | _ => rfl

theorem exec_armService (checked : serviceItems fields = .ok items) :
    (wordAt items "dir" = txt "IN" → exec (.armService fields) s = takeRequest (txt "ARM.SERVICE") fields (serviceIn (armOf items)) s) ∧
    (wordAt items "dir" = txt "OUT" → exec (.armService fields) s = takeRequest (txt "ARM.SERVICE") fields (serviceOut (armOf items)) s) := by
  have owner : answerArmService fields = armService items := withItems_passed _ checked
  have request : exec (.armService fields) s = takeRequest (txt "ARM.SERVICE") fields (armService items) s :=
    congrArg (fun answer => takeRequest (txt "ARM.SERVICE") fields answer s) owner
  rw [request]
  unfold armService
  refine ⟨fun inward => by rw [if_pos inward], fun outward => ?_⟩
  rw [if_neg]
  rw [outward]
  decide

theorem exec_armClear (checked : armItems fields = .ok items) :
    exec (.armClear fields) s = takeRequest (txt "ARM.CLEAR") fields (armClear (armOf items)) s := by
  have owner : answerArmClear fields = armClear (armOf items) := withItems_passed _ checked
  exact congrArg (fun answer => takeRequest (txt "ARM.CLEAR") fields answer s) owner

/-- An arm that comes into service (R122). -/
theorem exec_serviceIn (taken : s.takes "ARM.SERVICE" fields) (checked : serviceItems fields = .ok items) (inward : wordAt items "dir" = txt "IN")
    (out : (s.rack.arm (armOf items)).state = .outOfService) (configured : (s.rack.arm (armOf items)).config ≠ none)
    (calibrated : (s.cond.cal.bank s.cond.cal.active).kFactor (armOf items) ≠ 0) : exec (.armService fields) s =
      .next (State.answers { s with rack := (s.rack.enterIdle s.cond (armOf items)).pump } "ARM.SERVICE"
        (.ok (.inService ((s.rack.enterIdle s.cond (armOf items)).arm (armOf items)).state))) := by
  rw [(exec_armService checked).1 inward]
  refine takeRequest_taken (t := { s with rack := (s.rack.enterIdle s.cond (armOf items)).pump }) taken ?_ rfl
  unfold serviceIn
  dsimp only
  rw [if_neg (not_not.mpr out), if_neg configured, if_neg calibrated]
  rfl

/-- An arm taken out of service from IDLE, from ALARM, or where it is out (R122). -/
theorem exec_serviceOut (taken : s.takes "ARM.SERVICE" fields) (checked : serviceItems fields = .ok items)
    (outward : wordAt items "dir" = txt "OUT") :
    ((s.rack.arm (armOf items)).state = .idle → exec (.armService fields) s = .next (State.answers
      { s with rack := (s.rack.setState s.cond (armOf items) .outOfService).pump } "ARM.SERVICE" (.ok (.changed true)))) ∧
    ((s.rack.arm (armOf items)).state = .alarm → exec (.armService fields) s = .next (State.answers
      { s with rack := s.rack.modArm (armOf items) (fun x => { x with returnState := some .outOfService }) } "ARM.SERVICE" (.ok (.changed true)))) ∧
    ((s.rack.arm (armOf items)).state = .outOfService →
      exec (.armService fields) s = .next (s.answers "ARM.SERVICE" (.ok (.changed false)))) := by
  rw [(exec_armService checked).2 outward]
  refine ⟨fun idle => ?_, fun alarm => ?_, fun out => ?_⟩
  · refine takeRequest_taken (t := { s with rack := (s.rack.setState s.cond (armOf items) .outOfService).pump }) taken ?_ rfl
    unfold serviceOut
    dsimp only
    rw [idle]
    rfl
  · refine takeRequest_taken
      (t := { s with rack := s.rack.modArm (armOf items) (fun x => { x with returnState := some .outOfService }) }) taken ?_ rfl
    unfold serviceOut
    dsimp only
    rw [alarm]
    rfl
  · refine takeRequest_taken (t := s) taken ?_ rfl
    unfold serviceOut
    dsimp only
    rw [out]
    rfl

/-- An arm that is cleared (R123). -/
theorem exec_clears (taken : s.takes "ARM.CLEAR" fields) (checked : armItems fields = .ok items)
    (may : (s.rack.arm (armOf items)).state = .alarm ∨ (s.rack.arm (armOf items)).state = .idle ∨
      (s.rack.arm (armOf items)).state = .outOfService) : exec (.armClear fields) s = .next (State.answers
        { s with rack := (s.rack.clearArm s.cond (armOf items)).pump } "ARM.CLEAR" (.ok (.cleared (s.rack.channel (armOf items)).unassigned
          ((s.rack.clearArm s.cond (armOf items)).arm (armOf items)).state))) := by
  rw [exec_armClear checked]
  refine takeRequest_taken (t := { s with rack := (s.rack.clearArm s.cond (armOf items)).pump }) taken ?_ rfl
  unfold armClear
  dsimp only
  rw [if_pos may]
  rfl

/-- The channels of an arm that is cleared. -/
theorem Rack.clearArm_channel (b : ArmId) : (r.clearArm c a).channel b = if a = b then { r.channel b with unassigned := 0 } else r.channel b := by
  have channels : (r.clearArm c a).channels = (r.modChannel a (fun x => { x with unassigned := 0 })).channels := by rw [Rack.clearArm_frame]
  rw [Rack.channel_eq channels, Rack.modChannel_channel]
  split
  · rename_i same
    rw [same]
  · rfl

/-- What a change of an arm alone leaves, once its SHOWs are sent. -/
theorem answers_frame {q : Rack} (name : String) (reply : Reply)
    (frame : q = { s.rack with arms := q.arms, channels := q.channels, panels := q.panels }) : State.answers { s with rack := q.pump } name reply =
      { (s.answers name reply) with rack := { s.rack with arms := q.pump.arms, channels := q.pump.channels, panels := q.pump.panels } } := by
  have pumped : q.pump = { s.rack with arms := q.pump.arms, channels := q.pump.channels, panels := q.pump.panels } := by
    apply Rack.eq_of_fields <;> simp <;> rw [frame]
  exact congrArg (fun x => State.answers { s with rack := x } name reply) pumped

/-- What ARM.SERVICE IN leaves. -/
theorem armService_enters {new : ArmState} (taken : s.takes "ARM.SERVICE" fields) (checked : serviceItems fields = .ok items) (named : a = armOf items)
    (inward : wordAt items "dir" = txt "IN") (out : (s.rack.arm a).state = .outOfService)
    (configured : (s.rack.arm a).config ≠ none)
    (calibrated : (s.cond.cal.bank s.cond.cal.active).kFactor a ≠ 0)
    (enters : new = if 20 ≤ (s.rack.channel a).unassigned then .alarm else .idle) :
    ∃ t, exec (.armService fields) s = .next t ∧
      t = { (s.answers "ARM.SERVICE" (.ok (.inService new))) with rack := { s.rack with arms := t.rack.arms, panels := t.rack.panels } } ∧
      t.rack.arm a = { s.rack.arm a with
        state := new, returnState := if new = .alarm then some .idle else (s.rack.arm a).returnState
        current := none, repeatTimer := none, reason := none } ∧
      ∀ b, b ≠ a → t.rack.arm b = s.rack.arm b := by
  have arm := Rack.enterIdle_service (c := s.cond) out enters
  have done := exec_serviceIn taken checked inward (named ▸ out) (named ▸ configured) (named ▸ calibrated)
  have state : ((s.rack.enterIdle s.cond a).arm a).state = new := by rw [arm]
  rw [← named, state] at done
  have frame : s.rack.enterIdle s.cond a = { s.rack with
      arms := (s.rack.enterIdle s.cond a).arms, channels := s.rack.channels
      panels := (s.rack.enterIdle s.cond a).panels } := by
    apply Rack.eq_of_fields <;> simp
  have left := answers_frame "ARM.SERVICE" (.ok (.inService new)) (frame.trans (by rw [Rack.enterIdle_channels]))
  rw [Rack.pump_channels, Rack.enterIdle_channels] at left
  refine ⟨_, done, left, ?_, fun b ne => ?_⟩ <;> rw [State.answers]
  · dsimp only
    exact (Rack.pump_arm (s.rack.enterIdle s.cond a) a).trans arm
  · dsimp only
    exact (Rack.pump_arm (s.rack.enterIdle s.cond a) b).trans (Rack.enterIdle_other s.cond s.rack a b ne)

/-- What ARM.SERVICE OUT leaves of an IDLE arm. -/
theorem armService_leaves (taken : s.takes "ARM.SERVICE" fields) (checked : serviceItems fields = .ok items) (named : a = armOf items)
    (outward : wordAt items "dir" = txt "OUT") (idle : (s.rack.arm a).state = .idle) :
    ∃ t, exec (.armService fields) s = .next t ∧
      t = { (s.answers "ARM.SERVICE" (.ok (.changed true))) with rack := { s.rack with arms := t.rack.arms, panels := t.rack.panels } } ∧
      t.rack.arm a = { s.rack.arm a with state := .outOfService, repeatTimer := none, reason := none } ∧
      ∀ b, b ≠ a → t.rack.arm b = s.rack.arm b := by
  have frame : s.rack.setState s.cond a .outOfService = { s.rack with
      arms := (s.rack.setState s.cond a .outOfService).arms, channels := s.rack.channels
      panels := (s.rack.setState s.cond a .outOfService).panels } := by
    apply Rack.eq_of_fields <;> simp
  have left := answers_frame "ARM.SERVICE" (.ok (.changed true)) (frame.trans (by rw [Rack.setState_channels]))
  rw [Rack.pump_channels, Rack.setState_channels] at left
  have done := (exec_serviceOut taken checked outward).1 (named ▸ idle)
  rw [← named] at done
  refine ⟨_, done, left, ?_, fun b ne => ?_⟩ <;> rw [State.answers]
  · dsimp only
    exact (Rack.pump_arm (s.rack.setState s.cond a .outOfService) a).trans (Rack.setState_rest .outOfService (by rw [idle]; decide) rfl)
  · dsimp only
    exact (Rack.pump_arm (s.rack.setState s.cond a .outOfService) b).trans (Rack.setState_others .outOfService ne)

/-- What ARM.CLEAR leaves. -/
theorem armClear_clears {new : ArmState} (taken : s.takes "ARM.CLEAR" fields) (checked : armItems fields = .ok items) (named : a = armOf items)
    (states : (s.rack.arm a).state = .idle ∧ new = .idle ∨ (s.rack.arm a).state = .outOfService ∧ new = .outOfService ∨
      (s.rack.arm a).state = .alarm ∧ (s.rack.arm a).returnState = some .idle ∧ new = .idle ∨
      (s.rack.arm a).state = .alarm ∧ (s.rack.arm a).returnState = some .outOfService ∧ new = .outOfService) :
    ∃ t, exec (.armClear fields) s = .next t ∧
      t = { (s.answers "ARM.CLEAR" (.ok (.cleared (s.rack.channel a).unassigned new))) with
        rack := { s.rack with arms := t.rack.arms, channels := t.rack.channels, panels := t.rack.panels } } ∧
      ((s.rack.arm a).state ≠ .alarm → t.rack.arm a = s.rack.arm a) ∧
      ((s.rack.arm a).state = .alarm →
        t.rack.arm a = { s.rack.arm a with state := new, returnState := none, reason := none, repeatTimer := none }) ∧
      t.rack.channel a = { s.rack.channel a with unassigned := 0 } ∧
      ∀ b, b ≠ a → t.rack.arm b = s.rack.arm b ∧ t.rack.channel b = s.rack.channel b := by
  obtain ⟨state, quiet, loud⟩ := Rack.clearArm_arm (c := s.cond) new states
  have may : (s.rack.arm a).state = .alarm ∨ (s.rack.arm a).state = .idle ∨
      (s.rack.arm a).state = .outOfService := by
    rcases states with ⟨h, -⟩ | ⟨h, -⟩ | ⟨h, -⟩ | ⟨h, -⟩ <;> simp [h]
  have done := exec_clears taken checked (named ▸ may)
  rw [← named, state] at done
  have frame : s.rack.clearArm s.cond a = { s.rack with
      arms := (s.rack.clearArm s.cond a).arms, channels := (s.rack.clearArm s.cond a).channels
      panels := (s.rack.clearArm s.cond a).panels } := by
    rw [Rack.clearArm_frame]
  refine ⟨_, done, answers_frame _ _ frame, fun other => ?_, fun alarm => ?_, ?_, fun b ne => ?_⟩ <;> rw [State.answers]
  · dsimp only
    exact (Rack.pump_arm (s.rack.clearArm s.cond a) a).trans (quiet other)
  · dsimp only
    exact (Rack.pump_arm (s.rack.clearArm s.cond a) a).trans (loud alarm)
  · dsimp only
    exact (Rack.pump_channel (s.rack.clearArm s.cond a) a).trans ((Rack.clearArm_channel a).trans (if_pos rfl))
  · dsimp only
    exact ⟨(Rack.pump_arm (s.rack.clearArm s.cond a) b).trans (Rack.clearArm_other ne),
      (Rack.pump_channel (s.rack.clearArm s.cond a) b).trans ((Rack.clearArm_channel b).trans (if_neg (Ne.symm ne)))⟩

/-- Settles O35: each request through the check of its fields to its own answer, and that answer's effects on the arm it names. -/
theorem armRequestsComplete : Obligations.ArmRequestsComplete := by
  unfold Obligations.ArmRequestsComplete
  refine ⟨fun s fields items k a taken checked given named times additives free => ?_, fun fields items k checked given => ?_,
    fun s fields items a new taken checked named inward out configured calibrated enters => ?_,
    fun s fields items a taken checked named outward => ⟨fun idle => ?_, fun alarm => ?_, fun out => ?_, fun busy => ?_⟩,
    fun s fields items a new taken checked named states => ?_,
    fun s fields items taken checked => takeRequest_taken taken (congrFun (withItems_passed _ checked) _) rfl,
    fun c r a x y v arm channel view => ?_, fun s fields items key => ⟨fun name i checked listed taken bad => ?_,
      fun k taken checked given => ⟨fun n x slot bad lower => ?_, fun times => ⟨fun n m x y less slot slot' same lower => ?_,
        fun apart idle out => ?_⟩⟩, fun taken checked inward => ⟨fun other => ?_, fun out none => ?_, fun out configured zero => ?_⟩,
      fun taken checked busy => ?_⟩⟩
  · subst given named
    have timed : allSlots.findSome? (slotTimesBad (armConfigOf items)) = none := allSlots_pass.mpr (fun n => slotTimesBad_none.mpr (times n))
    have apart : allSlots.findSome? (slotAdditiveBad (armConfigOf items)) = none :=
      allSlots_pass.mpr (fun n => slotAdditiveBad_none.mpr (fun m x y less slot slot' =>
        additives n m x y (ne_of_gt less) slot slot'))
    rw [((exec_armPut taken checked).2 timed).2 apart]
    exact takeRequest_taken (t := { s with rack := s.rack.configure (armOf items) (armConfigOf items) }) taken (if_pos free) rfl
  · subst given
    obtain ⟨arm, armLeast, armMost⟩ := armNumber checked (name := "arm") (lo := 1) (hi := 8) (by decide) (by decide)
    obtain ⟨header, headerLeast, headerMost⟩ := armNumber checked (name := "header") (lo := 1) (hi := 6) (by decide) (by decide)
    refine ⟨?_, ?_, (armNumber checked (lo := 500) (hi := 5000) (by decide) (by decide)).1,
      (armNumber checked (lo := 200) (hi := 5000) (by decide) (by decide)).1, (armNumber checked (lo := 0) (hi := 500) (by decide) (by decide)).1,
      (armNumber checked (lo := 5) (hi := 120) (by decide) (by decide)).1, (armNumber checked (lo := 1) (hi := 10) (by decide) (by decide)).1,
      ?_, fun n => armConfigOf_spec checked n⟩
    · rw [arm, armOf, numbered_val armLeast armMost]
    · rw [header, armConfigOf, numbered_val headerLeast headerMost]
    · rcases armMode_read checked with ⟨word, mode⟩ | ⟨word, mode⟩ <;> rw [word, mode]
  · exact armService_enters taken checked named inward out configured calibrated enters
  · exact armService_leaves taken checked named outward idle
  · subst named
    exact (exec_serviceOut taken checked outward).2.1 alarm
  · subst named
    exact (exec_serviceOut taken checked outward).2.2 out
  · subst named
    exact ((exec_armService checked).2 outward).trans (takeRequest_refuses taken (serviceOut_refuses busy))
  · exact armClear_clears taken checked named states
  · subst arm channel view
    refine ⟨rfl, valve_eq _, List.length_map .., fun i e here => (List.getElem?_map ..).trans (congrArg _ here),
      fun n => armView_spec c r a n, fun other => runView_none other, fun l k line holds config => runView_some line holds config⟩
  · simp only [List.mem_cons, Prod.mk.injEq, List.not_mem_nil, or_false] at listed
    rcases listed with ⟨rfl, rfl, rfl⟩ | ⟨rfl, rfl, rfl⟩ | ⟨rfl, rfl, rfl⟩ | ⟨rfl, rfl, rfl⟩ <;>
      exact takeRequest_refuses taken (congrFun (withItems_fault _ bad) _)
  · subst given
    exact (exec_armPut taken checked).1 _ (allSlots_first (fun m less => slotTimesBad_none.mpr (fun y here => lower m y less here))
      (slotTimesBad_some slot bad))
  · subst given
    have timed : allSlots.findSome? (slotTimesBad (armConfigOf items)) = none := allSlots_pass.mpr (fun n => slotTimesBad_none.mpr (times n))
    refine ((exec_armPut taken checked).2 timed).1 _ (allSlots_first (fun p before => slotAdditiveBad_none.mpr (fun q v w under here here' =>
      lower p q v w under before here here')) ?_)
    have fails : slotAdditiveBad (armConfigOf items) n ≠ none := fun none => slotAdditiveBad_none.mp none m x y less slot slot' same
    unfold slotAdditiveBad at fails ⊢
    split
    · rfl
    · rename_i passes
      rw [if_neg passes] at fails
      exact absurd rfl fails
  · subst given
    have timed : allSlots.findSome? (slotTimesBad (armConfigOf items)) = none := allSlots_pass.mpr (fun n => slotTimesBad_none.mpr (times n))
    have additives : allSlots.findSome? (slotAdditiveBad (armConfigOf items)) = none :=
      allSlots_pass.mpr (fun n => slotAdditiveBad_none.mpr (fun m x y less slot slot' => apart n m x y (ne_of_gt less) slot slot'))
    exact (((exec_armPut taken checked).2 timed).2 additives).trans
      (takeRequest_refuses taken (if_neg (fun may => may.elim idle out)))
  · exact ((exec_armService checked).1 inward).trans (takeRequest_refuses taken (if_pos other))
  · exact ((exec_armService checked).1 inward).trans (takeRequest_refuses taken ((if_neg (not_not.mpr out)).trans (if_pos none)))
  · exact ((exec_armService checked).1 inward).trans
      (takeRequest_refuses taken ((if_neg (not_not.mpr out)).trans ((if_neg configured).trans (if_pos zero))))
  · obtain ⟨idle, out, alarm⟩ := ArmState.bears_or_ready busy.symm
    refine (exec_armClear checked).trans (takeRequest_refuses taken (if_neg ?_))
    rintro (h | h | h)
    · exact alarm h
    · exact idle h
    · exact out h

end Sys2Proof.Machine
end

section
/-! PROOF. What the test of an order leaves of it (R95 to R98), and what a stop of one line leaves of the arms (R116, R117). Shared by the
stop of an order's lines (O31) and the rack restart (O52). -/

namespace Sys2Proof.Machine

variable {c : Conditions} {r r' s : Rack} {q q' : Order} {a b : ArmId} {e : QueueEntry} {k n : Nat} {l : Line}

/-! ### The test of an order (R95, R97, R98) -/

/-- The order is still open: neither COMPLETE nor VOID. -/
def Order.stands (q : Order) : Prop := q.state = .booked ∨ q.state = .admitted

/-- No line is left. -/
def Order.allFinal (q : Order) : Prop := ∀ l ∈ q.lines, l.state.isFinal = true

/-- What the test of an order makes of it. -/
structure OrderTested (c : Conditions) (r r' : Rack) (q q' : Order) : Prop where
  order : r'.order? q.number = some q'
  lines : q'.lines = q.lines
  named : q'.number = q.number ∧ q'.permit = q.permit ∧ q'.lastBay = q.lastBay
  active : (∃ l ∈ q.lines, l.state = .active) → q'.state = q.state ∧ ∀ p, r'.permit? p = r.permit? p
  completes : q.stands → q.allFinal → (q'.state = .complete ∨ q'.state = .void) ∧ q'.day = some c.day ∧
    (q.state = .admitted → q.lastBay ≠ none → (r'.permit? q.permit).bind (fun p => p.admittedBay) = none)
  left : ¬q.allFinal → q.stands → q'.stands ∧ ((∀ l ∈ q.lines, l.state ≠ .pending) → q'.state = q.state)
  closed : ¬q.stands → q' = q ∧ ∀ p, r'.permit? p = r.permit? p
  others : ∀ m, m ≠ q.number → r'.order? m = r.order? m
  suspended : ∀ p, (r'.permit? p).map (fun x => x.suspended) = (r.permit? p).map (fun x => x.suspended)

theorem Rack.releaseBay_suspended (d : BayId) (p m : Nat) :
    ((r.releaseBay d p).permit? m).map (fun x => x.suspended) = (r.permit? m).map (fun x => x.suspended) := by
  unfold Rack.releaseBay
  rw [Rack.modPermit_permit _ p m (fun q => { q with admittedBay := none }) (fun _ => rfl)]
  have before : ((r.modBay d (fun _ => { admitted := none, reason := none })).callBay d).permit? m = r.permit? m := rfl
  rw [before]
  split <;> simp [Function.comp_def]

theorem Rack.releaseBayOf_suspended (o : Order) (m : Nat) :
    ((r.releaseBayOf o).permit? m).map (fun x => x.suspended) = (r.permit? m).map (fun x => x.suspended) := by
  unfold Rack.releaseBayOf
  repeat' split
  · exact Rack.releaseBay_suspended ..
  · rfl
  · rfl

theorem Rack.completeOrder_permits (o : Order) : (r.completeOrder c o).permits = (r.releaseBayOf o).permits := by
  have released := (Rack.releaseBayOf_congr (s := r.uncommitUnits o) o (Rack.uncommitUnits_bays r o) (Rack.uncommitUnits_permits r o)).2
  rw [← released]
  unfold Rack.completeOrder
  dsimp only
  split <;> simp

theorem Rack.completeOrder_fields (found : r.order? q.number = some q) : ∃ f : Order → Order, (∀ x, (f x).number = x.number) ∧
    (f q).permit = q.permit ∧ (f q).lastBay = q.lastBay ∧ (r.completeOrder c q).order? q.number = some (f q) := by
  obtain ⟨orders, -⟩ := r.completing_tables q
  have order (f : Order → Order) (number : ∀ x, (f x).number = x.number) :
      (((r.uncommitUnits q).releaseBayOf q).modOrder q.number f).order? q.number = some (f q) := by
    rw [Rack.modOrder_order _ q.number q.number f number, if_pos rfl, Rack.order_eq orders, found, Option.map_some]
  unfold Rack.completeOrder
  dsimp only
  generalize freeNote _ _ _ = note
  split
  · exact ⟨fun x => { x with state := .complete, day := some c.day, note := some note }, fun _ => rfl, rfl, rfl, order _ (fun _ => rfl)⟩
  · exact ⟨fun x => { x with state := .void, day := some c.day }, fun _ => rfl, rfl, rfl, order _ (fun _ => rfl)⟩

theorem Rack.completeOrder_tested (found : r.order? q.number = some q) (stands : q.stands) (final : q.allFinal) :
    ∃ q', OrderTested c r (r.completeOrder c q) q q' := by
  obtain ⟨q', done⟩ := Rack.completeOrder_completed (c := c) found
  obtain ⟨f, number, permit, lastBay, order⟩ := Rack.completeOrder_fields (c := c) found
  cases done.order.symm.trans order
  have permits (p : Nat) := Rack.permit_of_permits (Rack.completeOrder_permits (c := c) (r := r) q) p
  refine ⟨f q, order, done.lines, ⟨number q, permit, lastBay⟩, fun ⟨l, mem, active⟩ => ?_, fun _ _ => ⟨?_, done.day, fun admitted last => ?_⟩,
    fun open' => absurd final open', fun closed => absurd stands closed, done.others, fun p => ?_⟩
  · have isFinal := final l mem
    rw [active] at isFinal
    cases isFinal
  · by_cases delivered : q.delivered = true
    · exact .inl (done.complete delivered).1
    · exact .inr (done.void (by simpa using delivered)).1
  · obtain ⟨d, last⟩ := Option.ne_none_iff_exists'.mp last
    rw [done.permit d admitted last]
    cases r.permit? q.permit <;> rfl
  · rw [permits, Rack.releaseBayOf_suspended]

/-- The test of an order found. -/
theorem Rack.testOrder_tested (found : r.order? q.number = some q) : ∃ q', OrderTested c r (r.testOrder c q.number) q q' := by
  have same (closed : q.stands → ¬q.allFinal) : OrderTested c r r q q :=
    ⟨found, rfl, ⟨rfl, rfl, rfl⟩, fun _ => ⟨rfl, fun _ => rfl⟩, fun stands final => absurd final (closed stands), fun _ stands => ⟨stands, fun _ => rfl⟩,
      fun _ => ⟨rfl, fun _ => rfl⟩, fun _ _ => rfl, fun _ => rfl⟩
  by_cases stands : q.stands
  · by_cases final : q.allFinal
    · rw [Rack.testOrder_completes found stands final]
      exact Rack.completeOrder_tested found stands final
    · unfold Rack.testOrder
      rw [found]
      dsimp only
      rw [if_pos (show q.state = .booked ∨ q.state = .admitted from stands), if_neg (fun all => final (List.all_eq_true.mp all))]
      split
      · rename_i back
        obtain ⟨admitted, pending, noActive⟩ := back
        have order (m : Nat) : (r.returnToBooked q).order? m = if q.number = m then (r.order? m).map (fun x => { x with state := .booked })
            else r.order? m := by
          unfold Rack.returnToBooked
          have before : (r.releaseBayOf q).order? m = r.order? m := Rack.order_eq (by simp) m
          rw [Rack.modOrder_order _ q.number m (fun x => { x with state := .booked }) (fun _ => rfl), before]
        refine ⟨{ q with state := .booked }, (order _).trans (by rw [if_pos rfl, found]; rfl), rfl, ⟨rfl, rfl, rfl⟩, fun ⟨l, mem, active⟩ => ?_,
          fun _ all => absurd all final, fun _ _ => ⟨.inl rfl, fun none => ?_⟩, fun closed => absurd stands closed,
          fun m ne => (order m).trans (if_neg (Ne.symm ne)), fun p => Rack.releaseBayOf_suspended q p⟩
        · exact absurd active (of_decide_eq_true (List.all_eq_true.mp noActive l mem))
        · obtain ⟨l, mem, isPending⟩ := List.any_eq_true.mp pending
          exact absurd (of_decide_eq_true isPending) (none l mem)
      · exact ⟨q, same (fun _ => final)⟩
  · refine ⟨q, ?_⟩
    have unchanged : r.testOrder c q.number = r := by
      unfold Rack.testOrder
      rw [found]
      exact if_neg stands
    rw [unchanged]
    exact same (fun h => absurd h stands)

/-! ### The arms around a line that is stopped -/

/-- What no stop of another line touches of an arm that bears one; WAIT_GRANT may become HIGH as a grant falls free. -/
structure Arm.Keeps (x y : Arm) : Prop where
  current : y.current = x.current
  intent : y.intent = x.intent
  pendingStop : y.pendingStop = x.pendingStop
  causes : y.causes = x.causes
  restartPending : y.restartPending = x.restartPending
  state : y.state = x.state ∨ x.state = .waitGrant ∧ y.state = .high

theorem Arm.Keeps.refl (x : Arm) : x.Keeps x := ⟨rfl, rfl, rfl, rfl, rfl, .inl rfl⟩

theorem Arm.Keeps.of_eq {x y : Arm} (h : y = x) : x.Keeps y := h ▸ .refl x

theorem Arm.Keeps.trans {x y z : Arm} (h : x.Keeps y) (g : y.Keeps z) : x.Keeps z where
  current := g.current.trans h.current
  intent := g.intent.trans h.intent
  pendingStop := g.pendingStop.trans h.pendingStop
  causes := g.causes.trans h.causes
  restartPending := g.restartPending.trans h.restartPending
  state := by
    rcases h.state with same | ⟨waits, high⟩
    · rw [← same]
      exact g.state
    · refine .inr ⟨waits, ?_⟩
      rcases g.state with same | ⟨waits', -⟩
      · exact same.trans high
      · rw [high] at waits'
        cases waits'

/-- The arms and queues around one line of an order: queues only lose entries, and an arm that serves another line keeps it. -/
structure ArmsStay (r r' : Rack) (k n : Nat) : Prop where
  queues : ∀ a, ∀ e ∈ (r'.arm a).queue, e ∈ (r.arm a).queue
  arms : ∀ a e, (r.arm a).current = some e → ¬(e.order = k ∧ e.line = n) → (r.arm a).Keeps (r'.arm a)
  channels : r'.channels = r.channels

theorem ArmsStay.of_arms (arms : r'.arms = r.arms) (channels : r'.channels = r.channels) : ArmsStay r r' k n where
  queues a e mem := by rwa [Rack.arm_eq arms] at mem
  arms a _ _ _ := .of_eq (Rack.arm_eq arms a)
  channels := channels

theorem ArmsStay.trans (h : ArmsStay r s k n) (g : ArmsStay s r' k n) : ArmsStay r r' k n where
  queues a e mem := h.queues a e (g.queues a e mem)
  arms a e current other := (h.arms a e current other).trans (g.arms a e ((h.arms a e current other).current.trans current) other)
  channels := g.channels.trans h.channels

/-- An entry that leaves a queue, and with it the current line of a READY arm. -/
theorem Rack.dropQueued_stays (a : ArmId) (k n : Nat) : ArmsStay r (r.dropQueued c a k n) k n ∧
    ∀ e ∈ ((r.dropQueued c a k n).arm a).queue, ¬(e.order = k ∧ e.line = n) := by
  have dropped : ((r.modArm a (fun x => x.dropEntry k n)).arm a) = (r.arm a).dropEntry k n := by rw [Rack.modArm_arm, if_pos rfl]
  have queue : ((r.dropQueued c a k n).arm a).queue = ((r.arm a).dropEntry k n).queue := by
    rcases r.dropQueued_cases (c := c) a k n with ⟨-, -, same⟩ | ⟨-, same⟩ <;> rw [same]
    · rw [Rack.takeHead_queue, dropped]
    · rw [dropped]
  have kept (e : QueueEntry) (mem : e ∈ ((r.dropQueued c a k n).arm a).queue) : e ∈ (r.arm a).queue ∧ ¬(e.order = k ∧ e.line = n) := by
    rw [queue] at mem
    obtain ⟨mem, other⟩ := List.mem_filter.mp mem
    refine ⟨mem, fun mine => ?_⟩
    simp [mine] at other
  refine ⟨⟨fun d e mem => ?_, fun d e current other => ?_, by simp⟩, fun e mem => (kept e mem).2⟩
  · by_cases here : d = a
    · subst here
      exact (kept e mem).1
    · rwa [r.dropQueued_other a d k n here] at mem
  · by_cases here : d = a
    · subst here
      rcases r.dropQueued_cases (c := c) d k n with ⟨-, ⟨f, current', mine⟩, -⟩ | ⟨-, same⟩
      · cases current.symm.trans current'
        exact absurd mine other
      · rw [same, dropped]
        exact ⟨rfl, rfl, rfl, rfl, rfl, .inl rfl⟩
    · exact .of_eq (r.dropQueued_other a d k n here)

/-- The current line of an arm ends there. -/
theorem Rack.endLine_stays (current : (r.arm a).current = some e) (final : LineState) (cause : Option StopCause) :
    ArmsStay r (r.endLine c a final cause) e.order e.line ∧
    ∀ f ∈ ((r.endLine c a final cause).arm a).queue, ¬(f.order = e.order ∧ f.line = e.line) := by
  obtain ⟨⟨-, -, -, -, -, -, queue, -, -, channels, arms⟩, -⟩ := Rack.endLine_freed (c := c) current final cause
  refine ⟨⟨fun d f mem => ?_, fun d f current' other => ?_, channels⟩, fun f mem => (queue f mem).2⟩
  · by_cases here : d = a
    · subst here
      exact (queue f mem).1
    · rwa [arms d here] at mem
  · by_cases here : d = a
    · subst here
      cases current.symm.trans current'
      exact absurd ⟨rfl, rfl⟩ other
    · exact .of_eq (arms d here)

/-- The arm of an ACTIVE line meets its stop; the arms of other lines may be granted what it gives up (R116, R128). -/
theorem Rack.stopArm_stays (current : (r.arm a).current = some e) (running : (r.arm a).state.isRunning = true) (cause : StopCause) :
    ArmsStay r (r.stopArm c a cause) e.order e.line ∧ (r.arm a).stopped ((r.stopArm c a cause).arm a) cause ∧
    ((r.stopArm c a cause).arm a).current = (r.arm a).current ∧ (r.stopArm c a cause).orders = r.orders ∧
    (r.stopArm c a cause).permits = r.permits := by
  by_cases flow : (r.arm a).state.isFlow = true
  · have flow' : ((r.modArm a (fun x => { x with pendingStop := some cause })).arm a).state.isFlow = true := by simpa using flow
    have open' : ((r.modArm a (fun x => { x with pendingStop := some cause })).arm a).state ≠ .closing := fun h => by
      rw [h] at flow'
      cases flow'
    have own : (r.stopArm c a cause).arm a = Arm.closed c { r.arm a with pendingStop := some cause } .stop := by
      rw [Rack.stopArm_flow flow, Rack.enterClosing_arm c _ a .stop open', Rack.modArm_arm, if_pos rfl]
    have other (d : ArmId) (ne : d ≠ a) : (r.stopArm c a cause).arm d = r.arm d ∨
        (r.arm d).state = .waitGrant ∧ (r.stopArm c a cause).arm d = { r.arm d with state := .high, reason := none } := by
      have left := Rack.enterClosing_other c (r.modArm a (fun x => { x with pendingStop := some cause })) a d .stop ne
      rwa [Rack.modArm_arm, if_neg (Ne.symm ne), ← Rack.stopArm_flow flow] at left
    refine ⟨⟨fun d f mem => ?_, fun d f current' ours => ?_, ?_⟩, ?_, ?_, ?_, ?_⟩
    · by_cases here : d = a
      · subst here
        rwa [own] at mem
      · rcases other d here with same | ⟨-, granted⟩
        · rwa [same] at mem
        · rwa [granted] at mem
    · have here : d ≠ a := fun same => by
        subst same
        cases current.symm.trans current'
        exact ours ⟨rfl, rfl⟩
      rcases other d here with same | ⟨waits, granted⟩
      · exact .of_eq same
      · rw [granted]
        exact ⟨rfl, rfl, rfl, rfl, rfl, .inr ⟨waits, rfl⟩⟩
    · rw [Rack.stopArm_flow flow]
      simp
    · rw [own]
      refine ⟨rfl, fun _ => ⟨rfl, rfl⟩, fun closing => ?_, fun closing => ?_⟩ <;>
      · rw [closing] at flow
        cases flow
    · rw [own]
      rfl
    · rw [Rack.stopArm_flow flow]
      simp
    · rw [Rack.stopArm_flow flow]
      simp
  · have closing : (r.arm a).state = .closing := by
      cases state : (r.arm a).state <;> simp_all [ArmState.isRunning, ArmState.isFlow]
    by_cases suspend : (r.arm a).intent = some .suspend
    · rw [Rack.stopArm_suspending closing suspend]
      have arm (d : ArmId) : ((r.modArm a (fun x => { x with
          intent := some .stop, pendingStop := some cause, causes := [], restartPending := false })).callArm a).arm d =
          if a = d then { r.arm a with intent := some .stop, pendingStop := some cause, causes := [], restartPending := false } else r.arm d := by
        rw [Rack.callArm_arm, Rack.modArm_arm]
      refine ⟨⟨fun d f mem => ?_, fun d f current' ours => ?_, rfl⟩, ?_, ?_, rfl, rfl⟩
      · rw [arm] at mem
        split at mem
        · rename_i same
          exact same ▸ mem
        · exact mem
      · have here : a ≠ d := fun same => by
          subst same
          cases current.symm.trans current'
          exact ours ⟨rfl, rfl⟩
        exact .of_eq ((arm d).trans (if_neg here))
      · rw [arm, if_pos rfl]
        exact ⟨closing, fun _ => ⟨rfl, rfl⟩, fun _ _ => ⟨rfl, rfl⟩, fun _ other => absurd suspend other⟩
      · rw [arm, if_pos rfl]
    · rw [Rack.stopArm_other (by simpa using flow) (fun h => suspend h.2) (by rw [closing]; decide)]
      refine ⟨.of_arms rfl rfl, ⟨closing, fun reached => ?_, fun _ is => absurd is suspend, fun _ _ => ⟨rfl, rfl⟩⟩, rfl, rfl, rfl⟩
      exact (reached.elim flow (fun h => suspend h.1)).elim

end Sys2Proof.Machine
end

section
/-! PROOF. The lines of an order that is cancelled, or whose permit is suspended (O31). -/

namespace Sys2Proof.Machine

variable {c : Conditions} {r0 r r1 r' : Rack} {o q q' : Order} {a : ArmId} {e : QueueEntry} {n : Nat} {l m : Line} {cause : StopCause}
  {pendingToo : Bool} {done : List Nat} {f : Line → Line}

/-! ### A line by its state -/

theorem lineStopped_final (final : l.state.isFinal = true) (same : r'.line? o.number l.number = some l) :
    r.lineStopped r' o cause pendingToo l := by
  refine ⟨fun _ => same, fun h => ?_, fun h => ?_, fun h => ?_, fun h => ?_⟩ <;>
  · rw [h] at final
    cases final

theorem lineStopped_pending (state : l.state = .pending)
    (is : if pendingToo = true then r'.lineEnded o.number l .cancelled cause else r'.line? o.number l.number = some l) :
    r.lineStopped r' o cause pendingToo l := by
  refine ⟨fun h => ?_, fun _ => is, fun h => ?_, fun h => ?_, fun h => ?_⟩ <;>
  · rw [state] at h
    cases h

theorem lineStopped_queued (state : l.state = .queued) (ended : r'.lineEnded o.number l .cancelled cause) (left : r'.lineLeft o.number l) :
    r.lineStopped r' o cause pendingToo l := by
  refine ⟨fun h => ?_, fun h => ?_, fun _ => ⟨ended, left⟩, fun h => ?_, fun h => ?_⟩ <;>
  · rw [state] at h
    cases h

theorem lineStopped_suspended (state : l.state = .suspended) (ended : r'.lineEnded o.number l .stopped cause) (left : r'.lineLeft o.number l) :
    r.lineStopped r' o cause pendingToo l := by
  refine ⟨fun h => ?_, fun h => ?_, fun h => ?_, fun _ => ⟨ended, left⟩, fun h => ?_⟩ <;>
  · rw [state] at h
    cases h

theorem lineStopped_active (state : l.state = .active) (same : r'.line? o.number l.number = some l)
    (arm : ∀ a, l.arm = some a → (r.arm a).stopped (r'.arm a) cause) : r.lineStopped r' o cause pendingToo l := by
  refine ⟨fun h => ?_, fun h => ?_, fun h => ?_, fun h => ?_, fun _ => ⟨same, arm⟩⟩ <;>
  · rw [state] at h
    cases h

/-- A line that is handed on has the figures of its end (R15, R17, R18, R153, R154). -/
theorem lineEnded_of_finish {final : LineState} {strokeOf : SlotId → Option Nat}
    (line : r.line? o.number l.number = some (l.finish final (some cause) strokeOf)) : r.lineEnded o.number l final cause := by
  refine ⟨_, _, line, rfl, rfl, fun cancelled => ?_⟩
  subst cancelled
  simp [Line.finish]

/-! ### What a stop of one line leaves of the others -/

/-- A stop of another line leaves an arm in its close. -/
theorem Arm.stopped_keeps {x y z : Arm} (stopped : x.stopped y cause) (keeps : y.Keeps z) : x.stopped z cause := by
  obtain ⟨closing, reached, turned, other⟩ := stopped
  have state : z.state = .closing := by
    rcases keeps.state with same | ⟨waits, -⟩
    · rw [same, closing]
    · rw [closing] at waits
      cases waits
  exact ⟨state, fun h => by rw [keeps.intent, keeps.pendingStop]; exact reached h,
    fun h i => by rw [keeps.causes, keeps.restartPending]; exact turned h i, fun h i => by rw [keeps.intent, keeps.pendingStop]; exact other h i⟩

theorem lineStopped_stays (stopped : r0.lineStopped r o cause pendingToo l) (stay : ArmsStay r r' o.number n)
    (same : r'.line? o.number l.number = r.line? o.number l.number)
    (serves : l.state = .active → ∀ a, l.arm = some a → ∃ e, (r.arm a).current = some e ∧ ¬(e.order = o.number ∧ e.line = n)) :
    r0.lineStopped r' o cause pendingToo l := by
  obtain ⟨final, pending, queued, suspended, active⟩ := stopped
  have ended {state : LineState} (h : r.lineEnded o.number l state cause) : r'.lineEnded o.number l state cause := by
    unfold Rack.lineEnded
    rw [same]
    exact h
  have left (h : r.lineLeft o.number l) : r'.lineLeft o.number l := fun a e arm mem => h a e arm (stay.queues a e mem)
  refine ⟨fun h => same.trans (final h), fun h => ?_, fun h => ⟨ended (queued h).1, left (queued h).2⟩,
    fun h => ⟨ended (suspended h).1, left (suspended h).2⟩, fun h => ⟨same.trans (active h).1, fun a arm => ?_⟩⟩
  · have before := pending h
    split
    · rename_i reached
      exact ended (by simpa [reached] using before)
    · rename_i passed
      exact same.trans (by simpa [passed] using before)
  · obtain ⟨e, current, other⟩ := serves h a arm
    exact Arm.stopped_keeps ((active h).2 a arm) (stay.arms a e current other)

/-- The lines of an order of which those of some numbers have met their stop. -/
structure LinesStopping (r0 r : Rack) (o : Order) (cause : StopCause) (pendingToo : Bool) (done : List Nat) : Prop where
  fates : ∀ l ∈ o.lines, ∃ x, r.line? o.number l.number = some x ∧ (x = l ∨ x.state.isFinal = true ∧ l.state ≠ .active)
  stopped : ∀ l ∈ o.lines, l.number ∈ done → r0.lineStopped r o cause pendingToo l
  currents : ∀ l ∈ o.lines, l.state = .active → ∀ a, l.arm = some a → (r.arm a).current = (r0.arm a).current
  rest : ∀ l ∈ o.lines, l.number ∉ done → r.line? o.number l.number = some l ∧
    (l.state = .active ∨ l.state = .suspended → ∀ a, l.arm = some a → (r0.arm a).Keeps (r.arm a))

/-- An ACTIVE or SUSPENDED line is the one its arm serves. -/
theorem Order.standsAtArms_serves (stands : o.standsAtArms r0) (mem : l ∈ o.lines) (bears : l.state = .active ∨ l.state = .suspended)
    (arm : l.arm = some a) : ∃ e, (r0.arm a).current = some e ∧ e.order = o.number ∧ e.line = l.number ∧
      (if l.state = .active then (r0.arm a).state.isRunning = true else (r0.arm a).state = .suspended) := by
  obtain ⟨d, e, arm', rest⟩ := (stands.2 l mem).2 bears
  cases arm.symm.trans arm'
  exact ⟨e, rest⟩

/-- The stop of one more line. -/
theorem LinesStopping.step (h : LinesStopping r0 r o cause pendingToo done) (stands : o.standsAtArms r0) (mem : l ∈ o.lines)
    (stay : ArmsStay r r' o.number l.number) (others : ∀ m, m ≠ l.number → r'.line? o.number m = r.line? o.number m)
    (stopped : r0.lineStopped r' o cause pendingToo l)
    (fate : ∃ x, r'.line? o.number l.number = some x ∧ (x = l ∨ x.state.isFinal = true ∧ l.state ≠ .active))
    (current : l.state = .active → ∀ a, l.arm = some a → (r'.arm a).current = (r.arm a).current) :
    LinesStopping r0 r' o cause pendingToo (l.number :: done) := by
  have only {m : Line} (hm : m ∈ o.lines) (same : m.number = l.number) : m = l := List.inj_on_of_nodup_map stands.1 hm mem same
  refine ⟨fun m hm => ?_, fun m hm isDone => ?_, fun m hm active a arm => ?_, fun m hm notDone => ?_⟩
  · by_cases here : m.number = l.number
    · cases only hm here
      exact fate
    · rw [others _ here]
      exact h.fates m hm
  · by_cases here : m.number = l.number
    · cases only hm here
      exact stopped
    · have before := h.stopped m hm ((List.mem_cons.mp isDone).resolve_left here)
      refine lineStopped_stays before stay (others _ here) (fun active a arm => ?_)
      obtain ⟨e, current, -, line, -⟩ := Order.standsAtArms_serves stands hm (.inl active) arm
      exact ⟨e, (h.currents m hm active a arm).trans current, fun ours => here (line.symm.trans ours.2)⟩
  · by_cases here : m.number = l.number
    · cases only hm here
      exact (current active a arm).trans (h.currents l hm active a arm)
    · obtain ⟨e, current, -, line, -⟩ := Order.standsAtArms_serves stands hm (.inl active) arm
      have kept := stay.arms a e ((h.currents m hm active a arm).trans current) (fun ours => here (line.symm.trans ours.2))
      exact kept.current.trans (h.currents m hm active a arm)
  · rw [List.mem_cons, not_or] at notDone
    obtain ⟨line, arms⟩ := h.rest m hm notDone.2
    refine ⟨(others _ notDone.1).trans line, fun bears a arm => ?_⟩
    obtain ⟨e, current, -, line, -⟩ := Order.standsAtArms_serves stands hm bears arm
    have keeps := arms bears a arm
    exact keeps.trans (stay.arms a e (keeps.current.trans current) (fun ours => notDone.1 (line.symm.trans ours.2)))

/-! ### The order between the stops of its lines -/

/-- The order whose lines are being stopped. -/
structure OrderStopping (c : Conditions) (r0 r : Rack) (o q : Order) : Prop where
  order : r.order? o.number = some q
  named : q.number = o.number ∧ q.permit = o.permit ∧ q.lastBay = o.lastBay
  numbers : q.lines.map (fun l => l.number) = o.lines.map (fun l => l.number)
  complete : q.allFinal → (q.state = .complete ∨ q.state = .void) ∧ q.day = some c.day ∧
    ((∀ l ∈ o.lines, l.state ≠ .pending) → o.state = .admitted → o.lastBay ≠ none →
      (r.permit? o.permit).bind (fun p => p.admittedBay) = none)
  left : ¬q.allFinal → q.stands ∧ ((∀ l ∈ o.lines, l.state ≠ .pending) → q.state = o.state)
  active : (∃ l ∈ o.lines, l.state = .active) → q.state = o.state ∧ ∀ p, r.permit? p = r0.permit? p

theorem OrderStopping.same (h : OrderStopping c r0 r o q) (orders : r'.orders = r.orders) (permits : r'.permits = r.permits) :
    OrderStopping c r0 r' o q where
  order := (Rack.order_eq orders _).trans h.order
  named := h.named
  numbers := h.numbers
  complete final := by
    rw [Rack.permit_of_permits permits]
    exact h.complete final
  left := h.left
  active some := ⟨(h.active some).1, fun p => (Rack.permit_of_permits permits p).trans ((h.active some).2 p)⟩

theorem Rack.line_of_found (found : r.order? n = some q) (m : Nat) : r.line? n m = q.line? m := by rw [Rack.line?, found, Option.bind_some]

/-- Every line the order holds now is one it held, unchanged or ended. -/
theorem OrderStopping.line_fate (found : r.order? o.number = some q) (numbers : q.lines.map (fun l => l.number) = o.lines.map (fun l => l.number))
    (apart : (o.lines.map (fun l => l.number)).Nodup) (lines : LinesStopping r0 r o cause pendingToo done) (mem : m ∈ q.lines) :
    r.line? o.number m.number = some m ∧ ∃ l ∈ o.lines, l.number = m.number ∧ (m = l ∨ m.state.isFinal = true ∧ l.state ≠ .active) := by
  have line : r.line? o.number m.number = some m := (Rack.line_of_found found _).trans (Order.line_of_mem (numbers ▸ apart) mem)
  have listed : m.number ∈ o.lines.map (fun l => l.number) := numbers ▸ List.mem_map_of_mem mem
  obtain ⟨l, hl, same⟩ := List.mem_map.mp listed
  obtain ⟨x, line', fate⟩ := lines.fates l hl
  rw [same, line] at line'
  cases line'
  exact ⟨line, l, hl, same, fate⟩

/-- A test of the order, on a rack where one of its lines may have changed. -/
theorem OrderStopping.tested (h : OrderStopping c r0 r o q) (apart : (o.lines.map (fun l => l.number)).Nodup)
    (lines : LinesStopping r0 r' o cause pendingToo done) (number : ∀ x, (f x).number = x.number)
    (permits : ∀ p, r1.permit? p = r.permit? p) (test : OrderTested c r1 r' (q.modLine n f) q') (open' : ¬q.allFinal) :
    OrderStopping c r0 r' o q' := by
  obtain ⟨named, permit, lastBay⟩ := h.named
  obtain ⟨named', permit', lastBay'⟩ := test.named
  obtain ⟨stands, state⟩ := h.left open'
  have order : r'.order? o.number = some q' := by rw [← named]; exact test.order
  have numbers : q'.lines.map (fun l => l.number) = o.lines.map (fun l => l.number) := by
    rw [test.lines, ← h.numbers, Order.modLine, List.map_map]
    refine List.map_congr_left (fun x _ => ?_)
    dsimp only [Function.comp_apply]
    split
    · exact number x
    · rfl
  have fate {m : Line} (mem : m ∈ q'.lines) := OrderStopping.line_fate order numbers apart lines mem
  refine ⟨order, ⟨named'.trans named, permit'.trans permit, lastBay'.trans lastBay⟩, numbers, fun final => ?_, fun notFinal => ?_, fun some => ?_⟩
  · have final' : (q.modLine n f).allFinal := fun m mem => final m (test.lines ▸ mem)
    obtain ⟨finished, day, released⟩ := test.completes stands final'
    refine ⟨finished, day, fun none admitted last => ?_⟩
    rw [← permit]
    exact released ((state none).trans admitted) (lastBay ▸ last)
  · have notFinal' : ¬(q.modLine n f).allFinal := fun final => notFinal (fun m mem => final m (test.lines ▸ mem))
    obtain ⟨stands', kept⟩ := test.left notFinal' stands
    refine ⟨stands', fun none => (kept (fun m mem => ?_)).trans (state none)⟩
    obtain ⟨-, l, hl, -, same | ⟨isFinal, -⟩⟩ := fate (test.lines ▸ mem)
    · exact same ▸ none l hl
    · intro pending
      rw [pending] at isFinal
      cases isFinal
  · obtain ⟨l, hl, active⟩ := some
    obtain ⟨x, line, same | ⟨-, notActive⟩⟩ := lines.fates l hl
    · rw [same, Rack.line_of_found order] at line
      obtain ⟨kept, permits'⟩ := test.active ⟨l, test.lines ▸ Order.line_mem line, active⟩
      obtain ⟨before, permits0⟩ := h.active ⟨l, hl, active⟩
      exact ⟨kept.trans before, fun p => (permits' p).trans ((permits p).trans (permits0 p))⟩
    · exact absurd active notActive

/-! ### The lines of an order, stopped one by one -/

/-- Everything a cancel or a permit suspension keeps between the stops of the order's lines. -/
structure Stopping (c : Conditions) (r0 r : Rack) (o : Order) (cause : StopCause) (pendingToo : Bool) (done : List Nat) : Prop where
  order : ∃ q, OrderStopping c r0 r o q
  lines : LinesStopping r0 r o cause pendingToo done
  others : ∀ m, m ≠ o.number → r.order? m = r0.order? m
  channels : r.channels = r0.channels
  suspended : ∀ p, (r.permit? p).map (fun x => x.suspended) = (r0.permit? p).map (fun x => x.suspended)

/-- A line that is left as it is, or whose arm alone meets the stop. -/
theorem Stopping.armOnly (h : Stopping c r0 r o cause pendingToo done) (stands : o.standsAtArms r0) (mem : l ∈ o.lines) (fresh : l.number ∉ done)
    (stay : ArmsStay r r' o.number l.number) (orders : r'.orders = r.orders) (permits : r'.permits = r.permits)
    (stopped : r'.line? o.number l.number = some l → r0.lineStopped r' o cause pendingToo l)
    (current : l.state = .active → ∀ a, l.arm = some a → (r'.arm a).current = (r.arm a).current) :
    Stopping c r0 r' o cause pendingToo (l.number :: done) := by
  obtain ⟨q, order⟩ := h.order
  have line : r'.line? o.number l.number = some l := (Rack.line_eq orders _ _).trans (h.lines.rest l mem fresh).1
  exact ⟨⟨q, order.same orders permits⟩, h.lines.step stands mem stay (fun m _ => Rack.line_eq orders _ _) (stopped line) ⟨l, line, .inl rfl⟩ current,
    fun m ne => (Rack.order_eq orders m).trans (h.others m ne), stay.channels.trans h.channels,
    fun p => (congrArg _ (Rack.permit_of_permits permits p)).trans (h.suspended p)⟩

/-- A line that ends, and the test of its order. -/
theorem Stopping.ended (h : Stopping c r0 r o cause pendingToo done) (stands : o.standsAtArms r0) (mem : l ∈ o.lines) (fresh : l.number ∉ done)
    (live : l.state.isFinal = false) (still : l.state ≠ .active) (stay : ArmsStay r (r1.testOrder c o.number) o.number l.number)
    (number : ∀ x, (f x).number = x.number) (final : (f l).state.isFinal = true)
    (orders : ∀ m, r1.order? m = if o.number = m then (r.order? m).map (fun x => x.modLine l.number f) else r.order? m)
    (permits : ∀ p, r1.permit? p = r.permit? p)
    (stopped : (r1.testOrder c o.number).line? o.number l.number = some (f l) → r0.lineStopped (r1.testOrder c o.number) o cause pendingToo l) :
    Stopping c r0 (r1.testOrder c o.number) o cause pendingToo (l.number :: done) := by
  obtain ⟨q, order⟩ := h.order
  obtain ⟨named, -⟩ := order.named
  have line := (h.lines.rest l mem fresh).1
  have found : r1.order? (q.modLine l.number f).number = some (q.modLine l.number f) := by
    change r1.order? q.number = _
    rw [named, orders, if_pos rfl, order.order, Option.map_some]
  obtain ⟨q', test⟩ := Rack.testOrder_tested (c := c) found
  have at_ : (q.modLine l.number f).number = o.number := named
  rw [at_] at test
  have order' : (r1.testOrder c o.number).order? o.number = some q' := by rw [← at_]; exact at_ ▸ test.order
  have lines (m : Nat) : (r1.testOrder c o.number).line? o.number m = if l.number = m then (r.line? o.number m).map f else r.line? o.number m := by
    rw [Rack.line_of_found order', Rack.line_of_found order.order, Order.line?, test.lines]
    exact Order.modLine_line q l.number m f number
  have ended : (r1.testOrder c o.number).line? o.number l.number = some (f l) := by rw [lines, if_pos rfl, line, Option.map_some]
  have stepped := h.lines.step stands mem stay (fun m ne => (lines m).trans (if_neg (Ne.symm ne))) (stopped ended)
    ⟨f l, ended, .inr ⟨final, still⟩⟩ (fun active => absurd active still)
  have open' : ¬q.allFinal := fun all => by
    rw [Rack.line_of_found order.order] at line
    have isFinal := all l (Order.line_mem line)
    rw [live] at isFinal
    cases isFinal
  refine ⟨⟨q', order.tested stands.1 stepped number permits test open'⟩, stepped, fun m ne => ?_, stay.channels.trans h.channels, fun p => ?_⟩
  · rw [test.others m (at_ ▸ ne), orders, if_neg (Ne.symm ne)]
    exact h.others m ne
  · rw [test.suspended, permits]
    exact h.suspended p

/-! ### The stop of a line by its state (R46, R93) -/

theorem Rack.stopLine_atArm (line : r.line? n l.number = some l) (bears : l.state = .active ∨ l.state = .suspended) (arm : l.arm = some a) :
    r.stopLine c n l.number cause pendingToo = r.stopArm c a cause := by
  unfold Rack.stopLine
  rw [line]
  dsimp only
  rcases bears with state | state <;> rw [state, arm]

theorem Rack.stopLine_queued (line : r.line? n l.number = some l) (state : l.state = .queued) (arm : l.arm = some a) :
    r.stopLine c n l.number cause pendingToo =
      ((r.endLineRecord n l.number .cancelled (some cause)).dropQueued c a n l.number).testOrder c n := by
  unfold Rack.stopLine
  rw [line]
  dsimp only
  rw [state, arm]

theorem Rack.stopLine_pending (line : r.line? n l.number = some l) (state : l.state = .pending) :
    r.stopLine c n l.number cause pendingToo =
      if pendingToo then (r.endLineRecord n l.number .cancelled (some cause)).testOrder c n else r := by
  unfold Rack.stopLine
  rw [line]
  dsimp only
  rw [state]

theorem Rack.stopLine_final (line : r.line? n l.number = some l) (final : l.state.isFinal = true) :
    r.stopLine c n l.number cause pendingToo = r := by
  unfold Rack.stopLine
  rw [line]
  dsimp only
  cases state : l.state with
  | full | stopped | cancelled | interrupted => rfl
  | pending | queued | active | suspended =>
    rw [state] at final
    cases final

/-- The order table once the record of a line has ended. -/
theorem Rack.endLineRecord_order (line : r.line? n l.number = some l) (final : LineState) (cause : Option StopCause) (m : Nat) :
    (r.endLineRecord n l.number final cause).order? m =
      if n = m then (r.order? m).map (fun x => x.modLine l.number (fun x => x.finish final cause (r.strokesFor l))) else r.order? m := by
  rw [Rack.order_eq (Rack.endLineRecord_orders line final cause)]
  exact Rack.modOrder_order r n m (fun x => x.modLine l.number (fun x => x.finish final cause (r.strokesFor l))) (fun _ => rfl)

/-- A line that ends with a final state and the stop's cause. -/
theorem Stopping.finished {final : LineState} (h : Stopping c r0 r o cause pendingToo done) (stands : o.standsAtArms r0) (mem : l ∈ o.lines)
    (fresh : l.number ∉ done) (live : l.state.isFinal = false) (still : l.state ≠ .active)
    (stay : ArmsStay r (r1.testOrder c o.number) o.number l.number) (isFinal : final.isFinal = true)
    (orders : ∀ m, r1.order? m = if o.number = m then
      (r.order? m).map (fun x => x.modLine l.number (fun x => x.finish final (some cause) (r.strokesFor l))) else r.order? m)
    (permits : ∀ p, r1.permit? p = r.permit? p)
    (stopped : (r1.testOrder c o.number).lineEnded o.number l final cause → r0.lineStopped (r1.testOrder c o.number) o cause pendingToo l) :
    Stopping c r0 (r1.testOrder c o.number) o cause pendingToo (l.number :: done) :=
  h.ended (f := fun x => x.finish final (some cause) (r.strokesFor l)) stands mem fresh live still stay (fun _ => rfl) isFinal orders permits
    (fun line => stopped (lineEnded_of_finish line))

section
variable (h : Stopping c r0 r o cause pendingToo done) (stands : o.standsAtArms r0) (mem : l ∈ o.lines) (fresh : l.number ∉ done)
include h stands mem fresh

theorem Stopping.pending (state : l.state = .pending) :
    Stopping c r0 (r.stopLine c o.number l.number cause pendingToo) o cause pendingToo (l.number :: done) := by
  have line := (h.lines.rest l mem fresh).1
  rw [Rack.stopLine_pending line state]
  split
  · rename_i reached
    refine h.finished stands mem fresh (by rw [state]; rfl) (by rw [state]; decide) (.of_arms (by simp) (by simp)) rfl
      (Rack.endLineRecord_order line .cancelled (some cause)) (fun p => Rack.permit_of_permits (by simp) p) (fun ended => ?_)
    exact lineStopped_pending state (by rw [if_pos reached]; exact ended)
  · rename_i passed
    exact h.armOnly stands mem fresh (.of_arms rfl rfl) rfl rfl (fun same => lineStopped_pending state (by rw [if_neg passed]; exact same))
      (fun _ _ _ => rfl)

theorem Stopping.queued (state : l.state = .queued) :
    Stopping c r0 (r.stopLine c o.number l.number cause pendingToo) o cause pendingToo (l.number :: done) := by
  have line := (h.lines.rest l mem fresh).1
  obtain ⟨a, arm⟩ := Option.ne_none_iff_exists'.mp ((stands.2 l mem).1 state)
  rw [Rack.stopLine_queued line state arm]
  obtain ⟨stays, left⟩ := (r.endLineRecord o.number l.number .cancelled (some cause)).dropQueued_stays (c := c) a o.number l.number
  have stay : ArmsStay r (((r.endLineRecord o.number l.number .cancelled (some cause)).dropQueued c a o.number l.number).testOrder c o.number)
      o.number l.number :=
    (ArmsStay.of_arms (by simp) (by simp)).trans (stays.trans (.of_arms (by simp) (by simp)))
  refine h.finished stands mem fresh (by rw [state]; rfl) (by rw [state]; decide) stay rfl (fun m => ?_)
    (fun p => Rack.permit_of_permits (by simp) p) (fun ended => lineStopped_queued state ended (fun d e given listed => ?_))
  · exact (Rack.order_eq (Rack.dropQueued_orders _ c a _ _) m).trans (Rack.endLineRecord_order line .cancelled (some cause) m)
  · cases arm.symm.trans given
    rw [Rack.arm_eq (Rack.testOrder_arms _ c _)] at listed
    exact left e listed

theorem Stopping.active (state : l.state = .active) :
    Stopping c r0 (r.stopLine c o.number l.number cause pendingToo) o cause pendingToo (l.number :: done) := by
  obtain ⟨line, keeps⟩ := h.lines.rest l mem fresh
  obtain ⟨a, e, arm, -⟩ := (stands.2 l mem).2 (.inl state)
  obtain ⟨e, current, order, number, running⟩ := Order.standsAtArms_serves stands mem (.inl state) arm
  rw [if_pos state] at running
  have kept := keeps (.inl state) a arm
  have running' : (r.arm a).state.isRunning = true := by
    rcases kept.state with same | ⟨-, high⟩
    · rw [same, running]
    · rw [high]
      rfl
  obtain ⟨stay, stopped, current', orders, permits⟩ := Rack.stopArm_stays (c := c) (kept.current.trans current) running' cause
  rw [order, number] at stay
  rw [Rack.stopLine_atArm line (.inl state) arm]
  refine h.armOnly stands mem fresh stay orders permits (fun same => lineStopped_active state same (fun d given => ?_)) (fun _ d given => ?_)
  · cases arm.symm.trans given
    obtain ⟨closing, reached, turned, other⟩ := stopped
    refine ⟨closing, fun was => reached ?_, fun was i => turned ?_ (by rw [kept.intent]; exact i), fun was i => ?_⟩
    · rcases was with flow | ⟨i, was⟩
      · rcases kept.state with same | ⟨-, high⟩
        · exact .inl (by rw [same]; exact flow)
        · exact .inl (by rw [high]; rfl)
      · exact .inr ⟨by rw [kept.intent]; exact i, kept.state.elim (fun same => same.trans was) (fun ⟨waits, _⟩ => by rw [was] at waits; cases waits)⟩
    · exact kept.state.elim (fun same => same.trans was) (fun ⟨waits, _⟩ => by rw [was] at waits; cases waits)
    · have closing' : (r.arm a).state = .closing :=
        kept.state.elim (fun same => same.trans was) (fun ⟨waits, _⟩ => by rw [was] at waits; cases waits)
      rw [← kept.intent, ← kept.pendingStop]
      exact other closing' (by rw [kept.intent]; exact i)
  · cases arm.symm.trans given
    exact current'

theorem Stopping.suspendedLine (state : l.state = .suspended) :
    Stopping c r0 (r.stopLine c o.number l.number cause pendingToo) o cause pendingToo (l.number :: done) := by
  obtain ⟨line, keeps⟩ := h.lines.rest l mem fresh
  obtain ⟨a, e, arm, -⟩ := (stands.2 l mem).2 (.inr state)
  obtain ⟨e, current0, order, number, rests⟩ := Order.standsAtArms_serves stands mem (.inr state) arm
  rw [if_neg (by rw [state]; decide)] at rests
  have kept := keeps (.inr state) a arm
  have rests' : (r.arm a).state = .suspended :=
    kept.state.elim (fun same => same.trans rests) (fun ⟨waits, _⟩ => by rw [rests] at waits; cases waits)
  have current : (r.arm a).current = some e := kept.current.trans current0
  obtain ⟨stay, left⟩ := Rack.endLine_stays (c := c) current .stopped (some cause)
  have line' : r.line? e.order e.line = some l := by rw [order, number]; exact line
  have changed := Rack.endCurrent_changes (c := c) current line' .stopped (some cause)
  rw [Rack.stopLine_atArm line (.inr state) arm, Rack.stopArm_suspended rests']
  rw [Rack.endLine_some current, order, number] at stay
  rw [Rack.endLine_some current, order] at left ⊢
  refine h.finished stands mem fresh (by rw [state]; rfl) (by rw [state]; decide) stay rfl (fun m => ?_) changed.permits
    (fun ended => lineStopped_suspended state ended (fun d f given listed => ?_))
  · rw [← number, ← order]
    exact changed.order m
  · cases arm.symm.trans given
    rw [← number]
    exact left f listed

theorem Stopping.stopLine : Stopping c r0 (r.stopLine c o.number l.number cause pendingToo) o cause pendingToo (l.number :: done) := by
  by_cases final : l.state.isFinal = true
  · rw [Rack.stopLine_final (h.lines.rest l mem fresh).1 final]
    exact h.armOnly stands mem fresh (.of_arms rfl rfl) rfl rfl (lineStopped_final final) (fun _ _ _ => rfl)
  · cases state : l.state with
    | pending => exact h.pending stands mem fresh state
    | queued => exact h.queued stands mem fresh state
    | active => exact h.active stands mem fresh state
    | suspended => exact h.suspendedLine stands mem fresh state
    | _ => exact absurd (by rw [state]; rfl) final

end

/-! ### All lines of an order -/

theorem Stopping.stopLines (stands : o.standsAtArms r0) (ls : List Line) (listed : ∀ l ∈ ls, l ∈ o.lines)
    (once : (ls.map (fun l => l.number)).Nodup) {r : Rack} {done : List Nat} (h : Stopping c r0 r o cause pendingToo done)
    (fresh : ∀ l ∈ ls, l.number ∉ done) :
    ∃ all, (∀ n, n ∈ all ↔ n ∈ done ∨ n ∈ ls.map (fun l => l.number)) ∧
      Stopping c r0 (stopLines c o.number cause pendingToo (ls.map (fun l => l.number)) r) o cause pendingToo all := by
  induction ls generalizing r done with
  | nil => exact ⟨done, fun n => by simp, h⟩
  | cons l rest ih =>
    rw [List.forall_mem_cons] at listed fresh
    obtain ⟨first, tail⟩ := List.nodup_cons.mp once
    have fresh' : ∀ m ∈ rest, m.number ∉ l.number :: done := fun m mem again => by
      rcases List.mem_cons.mp again with same | before
      · exact first (List.mem_map.mpr ⟨m, mem, same⟩)
      · exact fresh.2 m mem before
    obtain ⟨all, members, stopping⟩ := ih listed.2 tail (h.stopLine stands listed.1 fresh.1) fresh'
    refine ⟨all, fun n => ?_, stopping⟩
    rw [members, List.map_cons, List.mem_cons, List.mem_cons]
    tauto

/-- An open order before any of its lines is stopped. -/
theorem Stopping.start (found : r.order? o.number = some o) (stands : o.stands) (arms : o.standsAtArms r)
    (live : ∃ l ∈ o.lines, l.state.isFinal = false) : Stopping c r r o cause pendingToo [] where
  order := by
    refine ⟨o, found, ⟨rfl, rfl, rfl⟩, rfl, fun final => ?_, fun _ => ⟨stands, fun _ => rfl⟩, fun _ => ⟨rfl, fun _ => rfl⟩⟩
    obtain ⟨l, mem, open'⟩ := live
    rw [final l mem] at open'
    cases open'
  lines := by
    have line (l : Line) (mem : l ∈ o.lines) : r.line? o.number l.number = some l :=
      (Rack.line_of_found found _).trans (Order.line_of_mem arms.1 mem)
    exact ⟨fun l mem => ⟨l, line l mem, .inl rfl⟩, fun l _ none => absurd none List.not_mem_nil, fun _ _ _ _ _ => rfl,
      fun l mem _ => ⟨line l mem, fun _ a _ => .refl _⟩⟩
  others _ _ := rfl
  channels := rfl
  suspended _ := rfl

/-- A change that reaches neither the order's lines nor an arm. -/
theorem LinesStopping.same (h : LinesStopping r0 r o cause pendingToo done) (line : ∀ m, r'.line? o.number m = r.line? o.number m)
    (arm : ∀ d, r'.arm d = r.arm d) : LinesStopping r0 r' o cause pendingToo done := by
  refine ⟨fun l mem => ?_, fun l mem isDone => ?_, fun l mem active a given => ?_, fun l mem fresh => ?_⟩
  · rw [line]
    exact h.fates l mem
  · obtain ⟨final, pending, queued, suspended, active⟩ := h.stopped l mem isDone
    have ended {state : LineState} (is : r.lineEnded o.number l state cause) : r'.lineEnded o.number l state cause := by
      unfold Rack.lineEnded
      rw [line]
      exact is
    have left (is : r.lineLeft o.number l) : r'.lineLeft o.number l := fun a e given listed => is a e given (arm a ▸ listed)
    refine ⟨fun is => (line _).trans (final is), fun is => ?_, fun is => ⟨ended (queued is).1, left (queued is).2⟩,
      fun is => ⟨ended (suspended is).1, left (suspended is).2⟩, fun is => ⟨(line _).trans (active is).1, fun a given => ?_⟩⟩
    · have before := pending is
      split
      · rename_i reached
        rw [if_pos reached] at before
        exact ended before
      · rename_i passed
        rw [if_neg passed] at before
        exact (line _).trans before
    · rw [arm]
      exact (active is).2 a given
  · rw [arm]
    exact h.currents l mem active a given
  · obtain ⟨line', arms⟩ := h.rest l mem fresh
    exact ⟨(line _).trans line', fun bears a given => (arms bears a given).trans (.of_eq (arm a))⟩

/-- SHOWs sent leave an order's lines where the stops have left them. -/
theorem Stopping.same (h : Stopping c r0 r o cause pendingToo done) (orders : r'.orders = r.orders) (permits : r'.permits = r.permits)
    (arms : r'.arms = r.arms) (channels : r'.channels = r.channels) : Stopping c r0 r' o cause pendingToo done := by
  obtain ⟨q, order⟩ := h.order
  exact ⟨⟨q, order.same orders permits⟩, h.lines.same (fun m => Rack.line_eq orders _ m) (fun d => Rack.arm_eq arms d),
    fun m ne => (Rack.order_eq orders m).trans (h.others m ne), channels.trans h.channels,
    fun p => (congrArg _ (Rack.permit_of_permits permits p)).trans (h.suspended p)⟩

/-- The completion test that follows the cancel of a BOOKED order (R95). -/
theorem Stopping.testOrder (h : Stopping c r0 r o cause pendingToo done) (arms : o.standsAtArms r0) :
    Stopping c r0 (r.testOrder c o.number) o cause pendingToo done := by
  obtain ⟨q, order⟩ := h.order
  obtain ⟨named, -⟩ := order.named
  have found : r.order? q.number = some q := by rw [named]; exact order.order
  obtain ⟨q', test⟩ := Rack.testOrder_tested (c := c) found
  rw [named] at test
  by_cases final : q.allFinal
  · have closed : ¬q.stands := by
      rcases (order.complete final).1 with state | state <;> simp [Order.stands, state]
    have same : r.testOrder c o.number = r := by
      unfold Rack.testOrder
      rw [order.order]
      exact if_neg closed
    rw [same]
    exact h
  · have order' : (r.testOrder c o.number).order? o.number = some q' := by
      have tested := test.order
      rwa [named] at tested
    have plain : q.modLine 0 id = q := by simp [Order.modLine]
    have lines : LinesStopping r0 (r.testOrder c o.number) o cause pendingToo done := by
      have line (m : Nat) : (r.testOrder c o.number).line? o.number m = r.line? o.number m := by
        rw [Rack.line_of_found order', Rack.line_of_found order.order, Order.line?, Order.line?, test.lines]
      exact h.lines.same line (fun d => Rack.arm_eq (by simp) d)
    refine ⟨⟨q', order.tested (f := id) (n := 0) (r1 := r) arms.1 lines (fun _ => rfl) (fun _ => rfl) (by rw [plain]; exact test) final⟩, lines,
      fun m ne => ?_, ?_, fun p => (test.suspended p).trans (h.suspended p)⟩
    · rw [test.others m (named ▸ ne)]
      exact h.others m ne
    · rw [← h.channels]
      simp

/-- Where no line is ACTIVE, nor PENDING out of the stop's reach, none is left. -/
theorem Stopping.all_final (lines : LinesStopping r0 r o cause pendingToo done) (order : OrderStopping c r0 r o q) (arms : o.standsAtArms r0)
    (all : ∀ l ∈ o.lines, l.number ∈ done) (still : ∀ l ∈ o.lines, l.state ≠ .active ∧ (pendingToo = true ∨ l.state ≠ .pending)) :
    q.allFinal := by
  intro x mem
  obtain ⟨line, l, hl, number, -⟩ := OrderStopping.line_fate order.order order.numbers arms.1 lines mem
  obtain ⟨final, pending, queued, suspended, -⟩ := lines.stopped l hl (all l hl)
  have ended {state : LineState} (is : r.lineEnded o.number l state cause) (isFinal : state.isFinal = true) : x.state.isFinal = true := by
    obtain ⟨l', litres, line', -, shape, -⟩ := is
    rw [number, line] at line'
    rw [Option.some.inj line', shape]
    exact isFinal
  obtain ⟨notActive, reached⟩ := still l hl
  cases state : l.state with
  | pending =>
    have is := pending state
    rw [if_pos (reached.resolve_right (fun ne => ne state))] at is
    exact ended is rfl
  | queued => exact ended (queued state).1 rfl
  | active => exact absurd state notActive
  | suspended => exact ended (suspended state).1 rfl
  | full | stopped | cancelled | interrupted =>
    have same := final (by rw [state]; rfl)
    rw [number, line] at same
    rw [Option.some.inj same, state]
    rfl

/-- All lines of an open order have met the stop. -/
theorem Stopping.all (found : r0.order? o.number = some o) (stands : o.stands) (arms : o.standsAtArms r0) (live : ∃ l ∈ o.lines, l.state.isFinal = false)
    (c : Conditions) (cause : StopCause) (pendingToo : Bool) :
    ∃ done, (∀ l ∈ o.lines, l.number ∈ done) ∧
      Stopping c r0 (Machine.stopLines c o.number cause pendingToo (o.lines.map (fun l => l.number)) r0) o cause pendingToo done := by
  have start : Stopping c r0 r0 o cause pendingToo [] := Stopping.start found stands arms live
  obtain ⟨done, members, stopping⟩ := start.stopLines arms o.lines (fun _ h => h) arms.1 (fun _ _ => List.not_mem_nil)
  exact ⟨done, fun l mem => (members _).mpr (.inr (List.mem_map_of_mem mem)), stopping⟩

theorem Stopping.pump (h : Stopping c r0 r o cause pendingToo done) : Stopping c r0 r.pump o cause pendingToo done :=
  h.same (Rack.pump_orders r) (Rack.pump_permits r) (Rack.pump_arms r) (Rack.pump_channels r)

/-! ### ORDER.CANCEL (R92, R93) -/

/-- The rack after a cancel. -/
def Rack.cancelled (c : Conditions) (o : Order) (r : Rack) : Rack :=
  match o.state with
  | .booked => ((r.cancelOrder c o).testOrder c o.number).pump
  | _ => (r.cancelOrder c o).pump

theorem orderCancel_open (s : State) (stands : o.stands) :
    orderCancel o s = ({ s with rack := s.rack.cancelled s.cond o }, .ok (cancelCounts o)) := by
  rcases stands with state | state
  · simp only [orderCancel, Rack.cancelled, state, okRack, State.moveRack]
  · simp only [orderCancel, Rack.cancelled, state, okRack, State.moveRack]

theorem Stopping.cancelled (found : r.order? o.number = some o) (stands : o.stands) (arms : o.standsAtArms r)
    (live : ∃ l ∈ o.lines, l.state.isFinal = false) :
    ∃ done, (∀ l ∈ o.lines, l.number ∈ done) ∧ Stopping c r (r.cancelled c o) o .cancel true done := by
  obtain ⟨done, all, stopping⟩ := Stopping.all found stands arms live c .cancel true
  refine ⟨done, all, ?_⟩
  rcases stands with state | state
  · simp only [Rack.cancelled, state]
    exact (stopping.testOrder arms).pump
  · simp only [Rack.cancelled, state]
    exact stopping.pump

/-! ### PERMIT.SUSPEND of an admitted permit (R45, R46) -/

theorem Rack.suspendPermit_admitted {p : Permit} {b : BayId} {x : Admission} (bay : p.admittedBay = some b) (admitted : (r.bay b).admitted = some x)
    (found : r.order? x.order = some o) :
    r.suspendPermit c p = stopLines c o.number .permit false (o.lines.map (fun l => l.number))
      (r.modPermit p.number (fun y => { y with suspended := true })) := by
  have before : ((r.modPermit p.number (fun y => { y with suspended := true })).bay b).admitted = some x := admitted
  have order : (r.modPermit p.number (fun y => { y with suspended := true })).order? x.order = some o := found
  unfold Rack.suspendPermit
  dsimp only
  rw [bay]
  dsimp only
  unfold Rack.suspendAdmitted
  rw [before]
  dsimp only
  rw [order]

theorem permitSuspend_valid (s : State) {p : Permit} (valid : p.suspended = false) :
    permitSuspend p s = ({ s with rack := (s.rack.suspendPermit s.cond p).pump },
      .ok (.permitSuspended true ((s.rack.suspendPermit s.cond p).admittedBayOf p.number))) := by
  unfold permitSuspend
  rw [if_neg (by simp [valid])]
  rfl

/-- Settles O31: the lines meet the stop one by one, each leaving the others and their arms as they were, and the order is tested between. -/
theorem linesAreStopped : Obligations.LinesAreStopped := by
  refine ⟨fun s fields items o taken checked found stands arms live => ?_,
    fun s fields items p b x o taken checked found valid bay admitted order state arms live => ?_⟩
  · have number := Rack.order_number found
    obtain ⟨done, all, stopping⟩ := Stopping.cancelled (c := s.cond) (number.symm ▸ found) stands arms live
    obtain ⟨q, order⟩ := stopping.order
    refine ⟨State.answers { s with rack := s.rack.cancelled s.cond o } "ORDER.CANCEL" (.ok (cancelCounts o)), q,
      takeRequest_taken (t := { s with rack := s.rack.cancelled s.cond o }) taken
        ((onOrder_found orderCancel checked found).trans (orderCancel_open _ stands)) rfl, rfl, rfl, order.order,
      fun l mem => stopping.lines.stopped l mem (all l mem), fun none => ?_, fun some => (order.active some).1, stopping.others, stopping.channels⟩
    obtain ⟨finished, day, -⟩ := order.complete (Stopping.all_final stopping.lines order arms all (fun l mem => ⟨none l mem, .inl rfl⟩))
    exact ⟨finished, day⟩
  · have number := Rack.permit_number found
    have orderNumber := Rack.order_number order
    obtain ⟨done, all, stopping⟩ := Stopping.all (r0 := s.rack.modPermit p.number (fun y => { y with suspended := true }))
      (orderNumber.symm ▸ order) (.inr state) arms live s.cond .permit false
    rw [← Rack.suspendPermit_admitted bay admitted order] at stopping
    have stopping := stopping.pump
    obtain ⟨q, tested⟩ := stopping.order
    have permit : (s.rack.modPermit p.number (fun y => { y with suspended := true })).permit? p.number = some { p with suspended := true } := by
      rw [Rack.modPermit_permit _ p.number p.number (fun y => { y with suspended := true }) (fun _ => rfl), if_pos rfl,
        show s.rack.permit? p.number = some p from number ▸ found, Option.map_some]
    refine ⟨State.answers { s with rack := (s.rack.suspendPermit s.cond p).pump } "PERMIT.SUSPEND"
        (.ok (.permitSuspended true ((s.rack.suspendPermit s.cond p).admittedBayOf p.number))), q,
      takeRequest_taken (t := { s with rack := (s.rack.suspendPermit s.cond p).pump }) taken
        ((onPermit_found permitSuspend checked found).trans (permitSuspend_valid _ valid)) rfl, rfl, ?_, ?_, tested.order,
      fun l mem => stopping.lines.stopped l mem (all l mem), fun none => ?_, fun runs => ?_, stopping.others, stopping.channels⟩
    · show _ = s.link.toHunt.respond (txt "PERMIT.SUSPEND")
        (.ok (.permitSuspended true (((s.rack.suspendPermit s.cond p).pump.permit? p.number).bind (fun q => q.admittedBay))))
      rw [Rack.permit_of_permits (Rack.pump_permits _)]
      rfl
    · have suspended := stopping.suspended p.number
      rw [permit] at suspended
      exact suspended
    · obtain ⟨finished, -, released⟩ := tested.complete (Stopping.all_final stopping.lines tested arms all
        (fun l mem => ⟨(none l mem).1, .inr (none l mem).2⟩))
      refine ⟨finished, fun named last => ?_⟩
      rw [← named]
      exact released (fun l mem => (none l mem).2) state last
    · obtain ⟨kept, permits⟩ := tested.active runs
      refine ⟨kept.trans state, ?_⟩
      show ((s.rack.suspendPermit s.cond p).pump.permit? p.number).bind (fun q => q.admittedBay) = some b
      rw [permits, permit]
      exact bay

end Sys2Proof.Machine
end

section
/-! PROOF. A rack restart at the arms (O52): what it makes of each arm, its queue and the lines that stand there (R120, R132). -/

namespace Sys2Proof.Machine

variable {c : Conditions} {r r' : Rack} {a b : ArmId} {e : QueueEntry} {l : Line}

/-! ### The arm -/

/-- What a restart leaves of an arm (R120). -/
structure Arm.Restarted (x y : Arm) : Prop where
  config : y.config = x.config
  flow : x.state.isFlow = true → y.state = .closing ∧ y.intent = some .interrupt
  closing : x.state = .closing → y.state = .closing ∧ y.intent = x.intent ∧
    y.restartPending = (x.restartPending || decide (x.intent = some .suspend))
  ready : x.state = .ready → y.queue = [] ∧ (y.state = .idle ∨ y.state = .alarm)
  rests : x.state = .idle ∨ x.state = .alarm ∨ x.state = .outOfService → y = x

/-- What a restart touches of no rack. -/
structure RestartStays (r r' : Rack) : Prop where
  headers : r'.headers = r.headers
  channels : r'.channels = r.channels
  bays : r'.bays = r.bays

theorem RestartStays.refl (r : Rack) : RestartStays r r := ⟨rfl, rfl, rfl⟩

theorem RestartStays.trans {s t : Rack} (h : RestartStays r s) (g : RestartStays s t) : RestartStays r t :=
  ⟨g.headers.trans h.headers, g.channels.trans h.channels, g.bays.trans h.bays⟩

theorem Rack.modHeader_same {h : HeaderId} {f : Header → Header} (same : f (r.header h) = r.header h) : r.modHeader h f = r := by
  have set : r.headers.set h (r.header h) = r.headers := by simp [Rack.header]
  unfold Rack.modHeader
  rw [same, set]

/-- With every set and list empty the arbiter has nothing to do. -/
theorem Rack.afterLeaving_same (empty : r.headersEmpty) (a : ArmId) (old : ArmState) : r.afterLeaving c a old = r := by
  unfold Rack.afterLeaving
  split
  · unfold Rack.releaseGrant
    split
    · rename_i h _
      have same : { r.header h with held := (r.header h).held.filter (fun b => decide (b ≠ a)) } = r.header h := by
        rw [(empty h).1, List.filter_nil, ← (empty h).1]
      rw [Rack.modHeader_same same]
      unfold grantTest
      rw [(empty h).2]
      rfl
    · rfl
  · split
    · unfold Rack.withdraw
      split
      · rename_i h _
        refine Rack.modHeader_same ?_
        rw [(empty h).2, List.filter_nil, ← (empty h).2]
      · rfl
    · rfl

/-- The close of an arm while nothing is granted and nothing waits. -/
theorem Rack.enterClosing_empty_plain (empty : r.headersEmpty) (a : ArmId) (intent : Intent) :
    r.enterClosing c a intent = (r.setState c a .closing).modArm a (fun x =>
      { x with intent := some intent, noFlowTimer := none, settleTimer := some c.stamp, quiet := false }) :=
  Rack.afterLeaving_same (Rack.headersEmpty_of (by simp) empty) a _

theorem Rack.returnBehind_tables (a : ArmId) : RestartStays r (r.returnBehind a) := by
  have tables := returnLines_tables r ((r.arm a).queue.filter (r.arm a).isBehind)
  exact ⟨(congrArg Rack.headers tables :), (congrArg Rack.channels tables :), (congrArg Rack.bays tables :)⟩

theorem Rack.returnAll_tables (a : ArmId) : RestartStays r (r.returnAll c a) := by
  have tables := returnLines_tables r (r.arm a).queue
  unfold Rack.returnAll
  refine ⟨?_, ?_, ?_⟩
  · rw [Rack.enterIdle_headers, Rack.modArm_headers]
    exact (congrArg Rack.headers tables :)
  · rw [Rack.enterIdle_channels, Rack.modArm_channels]
    exact (congrArg Rack.channels tables :)
  · rw [Rack.enterIdle_bays, Rack.modArm_bays]
    exact (congrArg Rack.bays tables :)

/-- The interrupted close of an arm in flow. -/
theorem Rack.interrupt_arm (empty : r.headersEmpty) (a : ArmId) :
    RestartStays r ((r.returnBehind a).enterClosing c a .interrupt) ∧
    (((r.returnBehind a).enterClosing c a .interrupt).arm a).config = (r.arm a).config ∧
    (((r.returnBehind a).enterClosing c a .interrupt).arm a).state = .closing ∧
    (((r.returnBehind a).enterClosing c a .interrupt).arm a).intent = some .interrupt ∧
    (((r.returnBehind a).enterClosing c a .interrupt).arm a).queue = ((r.returnBehind a).arm a).queue ∧
    ((r.returnBehind a).enterClosing c a .interrupt).orders = (r.returnBehind a).orders := by
  have behind := r.returnBehind_tables a
  have config : ((r.returnBehind a).arm a).config = (r.arm a).config := by rw [Rack.returnBehind_arm, if_pos rfl]
  rw [Rack.enterClosing_empty_plain (Rack.headersEmpty_of behind.headers empty), Rack.modArm_arm, if_pos rfl]
  refine ⟨behind.trans ⟨by simp, by simp, by simp⟩, ?_, ?_, rfl, ?_, by simp⟩
  · exact (Rack.setState_config c _ a a _).trans config
  · exact Rack.setState_state c _ a _
  · exact Rack.setState_queue c _ a a _

/-- A restart at one arm. -/
theorem Rack.restartArm_restarted (empty : r.headersEmpty) (a : ArmId) :
    (r.arm a).Restarted ((r.restartArm c a).arm a) ∧ RestartStays r (r.restartArm c a) := by
  have still {x y : Arm} (rests : x.state = .idle ∨ x.state = .alarm ∨ x.state = .outOfService) (same : y = x) : x.Restarted y := by
    subst same
    refine ⟨rfl, fun h => ?_, fun h => ?_, fun h => ?_, fun _ => rfl⟩ <;>
    · rcases rests with is | is | is <;> rw [is] at h <;> cases h
  have closes (flow : (r.arm a).state.isFlow = true) :
      (r.arm a).Restarted (((r.returnBehind a).enterClosing c a .interrupt).arm a) ∧
        RestartStays r ((r.returnBehind a).enterClosing c a .interrupt) := by
    obtain ⟨stays, config, state, intent, -, -⟩ := r.interrupt_arm (c := c) empty a
    refine ⟨⟨config, fun _ => ⟨state, intent⟩, fun h => ?_, fun h => ?_, fun h => ?_⟩, stays⟩
    · rw [h] at flow
      cases flow
    · rw [h] at flow
      cases flow
    · rcases h with h | h | h <;> rw [h] at flow <;> cases flow
  unfold Rack.restartArm
  cases state : (r.arm a).state with
  | outOfService => exact ⟨still (.inr (.inr state)) rfl, .refl r⟩
  | idle => exact ⟨still (.inl state) rfl, .refl r⟩
  | alarm => exact ⟨still (.inr (.inl state)) rfl, .refl r⟩
  | ready =>
    refine ⟨⟨?_, fun h => ?_, fun h => ?_, fun _ => ⟨?_, ?_⟩, fun h => ?_⟩, r.returnAll_tables a⟩
    · unfold Rack.returnAll
      rw [Rack.enterIdle_config, Rack.modArm_arm, if_pos rfl, Rack.arm_eq (returnLines_arms r _)]
    · rw [state] at h
      cases h
    · rw [state] at h
      cases h
    · unfold Rack.returnAll
      rw [Rack.enterIdle_queue, Rack.modArm_arm, if_pos rfl]
    · unfold Rack.returnAll
      rw [Rack.enterIdle_state]
      split
      · exact .inr rfl
      · exact .inl rfl
    · rcases h with h | h | h <;> rw [state] at h <;> cases h
  | lowStart => exact closes (by rw [state]; rfl)
  | waitGrant => exact closes (by rw [state]; rfl)
  | high => exact closes (by rw [state]; rfl)
  | lowRun => exact closes (by rw [state]; rfl)
  | closing =>
    dsimp only
    rw [Rack.modArm_arm, if_pos rfl, Rack.returnBehind_arm, if_pos rfl]
    refine ⟨⟨rfl, fun h => ?_, fun _ => ⟨state, rfl, rfl⟩, fun h => ?_, fun h => ?_⟩, (r.returnBehind_tables a).trans ⟨rfl, rfl, rfl⟩⟩
    · rw [state] at h
      cases h
    · rw [state] at h
      cases h
    · rcases h with h | h | h <;> rw [state] at h <;> cases h
  | suspended =>
    refine ⟨⟨?_, fun h => ?_, fun h => ?_, fun h => ?_, fun h => ?_⟩, (r.returnBehind_tables a).trans ⟨by simp, by simp, by simp⟩⟩
    · dsimp only
      rw [Rack.endCurrent_config, Rack.returnBehind_arm, if_pos rfl]
    · rw [state] at h
      cases h
    · rw [state] at h
      cases h
    · rw [state] at h
      cases h
    · rcases h with h | h | h <;> rw [state] at h <;> cases h

/-! ### The lines that stand there -/

/-- What a restart leaves of a line (R98, R120). -/
structure Line.Restarted (l l' : Line) : Prop where
  queued : l.state = .queued → l' = l.backToPending
  suspended : l.state = .suspended → l'.state = .interrupted ∧ l'.stopCause = some .restart ∧
    l'.standardLitres = some ((l.standard + 500000) / 1000000)
  other : l.state ≠ .queued → l.state ≠ .suspended → l' = l

/-- What a restart leaves of an entry's queue. -/
structure Arm.EntryRestarted (y : Arm) (e : QueueEntry) (l : Line) : Prop where
  queued : l.state = .queued → e ∉ y.queue
  suspended : l.state = .suspended → y.queue = [] ∧ (y.state = .idle ∨ y.state = .alarm)
  active : l.state = .active → y.queue = [e]

/-- What a restart of one arm makes of the order table: the lines that stand there change, and no other. -/
structure EntriesRestarted (r r' : Rack) (a : ArmId) : Prop where
  here : ∀ e ∈ (r.arm a).queue, ∀ l, r.line? e.order e.line = some l →
    ∃ l', r'.line? e.order e.line = some l' ∧ l.Restarted l' ∧ (r'.arm a).EntryRestarted e l
  away : ∀ n m, (∀ e ∈ (r.arm a).queue, ¬(e.order = n ∧ e.line = m)) → r'.line? n m = r.line? n m

theorem Line.restarted_queued (state : l.state = .queued) : l.Restarted l.backToPending := by
  refine ⟨fun _ => rfl, fun h => ?_, fun h => absurd state h⟩
  rw [state] at h
  cases h

theorem Line.restarted_active (state : l.state = .active) : l.Restarted l := by
  refine ⟨fun h => ?_, fun h => ?_, fun _ _ => rfl⟩ <;>
  · rw [state] at h
    cases h

theorem Arm.entryRestarted_queued {y : Arm} (state : l.state = .queued) (gone : e ∉ y.queue) : y.EntryRestarted e l := by
  refine ⟨fun _ => gone, fun h => ?_, fun h => ?_⟩ <;>
  · rw [state] at h
    cases h

theorem Arm.entryRestarted_active {y : Arm} (state : l.state = .active) (alone : y.queue = [e]) : y.EntryRestarted e l := by
  refine ⟨fun h => ?_, fun h => ?_, fun _ => alone⟩ <;>
  · rw [state] at h
    cases h

theorem Line.backToPending_twice (l : Line) : l.backToPending.backToPending = l.backToPending := by
  simp [Line.backToPending, List.map_map, Function.comp_def]

theorem returnLines_line (es : List QueueEntry) (r : Rack) (n m : Nat) : (returnLines es r).line? n m =
    if ∃ e ∈ es, e.order = n ∧ e.line = m then (r.line? n m).map Line.backToPending else r.line? n m := by
  induction es generalizing r with
  | nil => simp [returnLines]
  | cons e rest ih =>
    unfold returnLines
    rw [ih, Rack.modLine_line r e.order e.line n m Line.backToPending (fun _ => rfl)]
    by_cases first : e.order = n ∧ e.line = m
    · have twice : Line.backToPending ∘ Line.backToPending = Line.backToPending := funext Line.backToPending_twice
      simp [first, twice]
    · simp [first]

/-- The line of a queue's entry is assigned to the arm, in the state its entry has. -/
theorem QueuesAgree.line_at (agree : QueuesAgree r) (mem : e ∈ (r.arm a).queue) (line : r.line? e.order e.line = some l) :
    l.arm = some a ∧ l.state = if (r.arm a).current = some e then (r.arm a).state.kind.lineState else .queued := by
  have entry := (agree.1.holds a).entries e mem
  rw [Rack.standing_some line, Option.some.injEq, Arm.lineStateAt_eq] at entry
  exact ⟨congrArg Prod.fst entry, congrArg Prod.snd entry⟩

/-- One line stands in one queue. -/
theorem QueuesAgree.one_arm (agree : QueuesAgree r) {f : QueueEntry} (mem : e ∈ (r.arm a).queue) (mem' : f ∈ (r.arm b).queue)
    (order : e.order = f.order) (line : e.line = f.line) : a = b := by
  have here := (agree.1.holds a).entries e mem
  have there := (agree.1.holds b).entries f mem'
  rw [order, line, there] at here
  exact (Option.some.inj (congrArg Prod.fst (Option.some.inj here))).symm

/-- An entry behind the current one has returned, and the current one stays alone. -/
theorem Rack.returnBehind_line (agree : QueuesAgree r) (mem : e ∈ (r.arm a).queue) (line : r.line? e.order e.line = some l) :
    (r.returnBehind a).line? e.order e.line = some (if (r.arm a).current = some e then l else l.backToPending) := by
  have lines : (r.returnBehind a).line? e.order e.line = (returnLines ((r.arm a).queue.filter (r.arm a).isBehind) r).line? e.order e.line :=
    Rack.line_eq rfl _ _
  rw [lines, returnLines_line, line]
  by_cases current : (r.arm a).current = some e
  · rw [if_pos current, if_neg]
    rintro ⟨f, behind, order, number⟩
    obtain ⟨mem', behind⟩ := List.mem_filter.mp behind
    rw [(agree.1.holds a).entry_unique mem' mem order number] at behind
    exact Arm.isBehind_iff.mp behind current
  · rw [if_neg current, if_pos ⟨e, List.mem_filter.mpr ⟨mem, Arm.isBehind_iff.mpr current⟩, rfl, rfl⟩, Option.map_some]

theorem Rack.returnBehind_away {n m : Nat} (away : ∀ e ∈ (r.arm a).queue, ¬(e.order = n ∧ e.line = m)) :
    (r.returnBehind a).line? n m = r.line? n m := by
  have lines : (r.returnBehind a).line? n m = (returnLines ((r.arm a).queue.filter (r.arm a).isBehind) r).line? n m := Rack.line_eq rfl _ _
  rw [lines, returnLines_line, if_neg]
  rintro ⟨e, behind, is⟩
  exact away e (List.mem_filter.mp behind).1 is

theorem Rack.returnBehind_alone (agree : QueuesAgree r) (current : (r.arm a).current = some e) : ((r.returnBehind a).arm a).queue = [e] := by
  have own := agree.1.holds a
  have nodup : (r.arm a).queue.Nodup := .of_map _ own.nodup
  have only : (r.arm a).queue.filter (fun f => !((r.arm a).isBehind f)) = (r.arm a).queue.filter (fun f => decide (f = e)) := by
    refine List.filter_congr (fun f _ => ?_)
    simp only [Arm.isBehind, current]
    by_cases same : f = e <;> simp [same]
  rw [Rack.returnBehind_arm, if_pos rfl]
  dsimp only
  rw [only, List.filter_eq, List.count_eq_one_of_mem nodup (own.current e current)]
  rfl

/-- An arm that runs its line keeps it alone. -/
theorem EntriesRestarted.running (agree : QueuesAgree r) (kind : (r.arm a).state.kind = .running)
    (orders : r'.orders = (r.returnBehind a).orders) (queue : (r'.arm a).queue = ((r.returnBehind a).arm a).queue) :
    EntriesRestarted r r' a where
  here e mem l line := by
    obtain ⟨-, state⟩ := agree.line_at mem line
    have after := (Rack.line_eq orders _ _).trans (Rack.returnBehind_line agree mem line)
    by_cases current : (r.arm a).current = some e
    · rw [if_pos current, kind] at state
      rw [if_pos current] at after
      exact ⟨l, after, Line.restarted_active state, Arm.entryRestarted_active state (queue.trans (Rack.returnBehind_alone agree current))⟩
    · rw [if_neg current] at state after
      refine ⟨_, after, Line.restarted_queued state, Arm.entryRestarted_queued state (fun listed => ?_)⟩
      rw [queue, Rack.returnBehind_arm, if_pos rfl] at listed
      have kept := (List.mem_filter.mp listed).2
      rw [Arm.isBehind_iff.mpr current] at kept
      cases kept
  away n m away := (Rack.line_eq orders n m).trans (Rack.returnBehind_away away)

theorem EntriesRestarted.ready (agree : QueuesAgree r) (state : (r.arm a).state = .ready) : EntriesRestarted r (r.returnAll c a) a := by
  have orders : (r.returnAll c a).orders = (returnLines (r.arm a).queue r).orders := by simp [Rack.returnAll]
  refine ⟨fun e mem l line => ?_, fun n m away => ?_⟩
  · obtain ⟨-, is⟩ := agree.line_at mem line
    have queued : l.state = .queued := by
      rw [is, state]
      exact ite_self _
    refine ⟨l.backToPending, ?_, Line.restarted_queued queued, Arm.entryRestarted_queued queued (fun listed => ?_)⟩
    · rw [Rack.line_eq orders, returnLines_line, if_pos ⟨e, mem, rfl, rfl⟩, line, Option.map_some]
    · unfold Rack.returnAll at listed
      rw [Rack.enterIdle_queue, Rack.modArm_arm, if_pos rfl] at listed
      cases listed
  · rw [Rack.line_eq orders, returnLines_line, if_neg]
    rintro ⟨e, mem, is⟩
    exact away e mem is

theorem Rack.endCurrent_line (current : (r.arm a).current = some e) (line : r.line? e.order e.line = some l) (final : LineState)
    (cause : Option StopCause) (n m : Nat) : (r.endCurrent c a final cause).line? n m =
      if e.order = n ∧ e.line = m then (r.line? n m).map (fun x => x.finish final cause (r.strokesFor l)) else r.line? n m := by
  have orders : (r.endCurrent c a final cause).orders = (r.modLine e.order e.line (fun x => x.finish final cause (r.strokesFor l))).orders := by
    rw [Rack.endCurrent_some r current, ← Rack.endLineRecord_orders line]
    simp [Rack.giveUp]
  rw [Rack.line_eq orders, Rack.modLine_line r e.order e.line n m (fun x => x.finish final cause (r.strokesFor l)) (fun _ => rfl)]

/-- An arm whose current line ends with nothing behind it goes to rest. -/
theorem Rack.endCurrent_rests (agree : QueuesAgree r) (current : (r.arm a).current = some e) (alone : (r.arm a).queue = [e]) {final : LineState}
    (isFinal : final.isFinal = true) (cause : Option StopCause) : ((r.endCurrent c a final cause).arm a).queue = [] ∧
      (((r.endCurrent c a final cause).arm a).state = .idle ∨ ((r.endCurrent c a final cause).arm a).state = .alarm) := by
  have after : QueuesAgree (r.endCurrent c a final cause) := agree.endCurrent isFinal
  have queue : ((r.endCurrent c a final cause).arm a).queue = [] := by
    rw [Rack.endCurrent_some r current, Rack.takeHead_queue, Rack.giveUp_arm, if_pos rfl, Rack.endLineRecord_arm]
    simp [Arm.givenUp, Arm.dropEntry, alone]
  refine ⟨queue, ?_⟩
  have free : ((r.endCurrent c a final cause).arm a).state.isFree := by
    rw [Rack.endCurrent_some r current]
    exact Rack.takeHead_state _ _ a
  refine free.resolve_left (fun ready => ?_)
  have serves : ((r.endCurrent c a final cause).arm a).current ≠ none := (after.2 a).bears.mpr (by rw [ready]; exact ArmKind.noConfusion)
  obtain ⟨f, current'⟩ := Option.ne_none_iff_exists'.mp serves
  have listed := (after.1.holds a).current f current'
  rw [queue] at listed
  cases listed

theorem EntriesRestarted.suspended (agree : QueuesAgree r) (state : (r.arm a).state = .suspended) :
    EntriesRestarted r ((r.returnBehind a).endCurrent c a .interrupted (some .restart)) a := by
  have bears : (r.arm a).current ≠ none := (agree.2 a).bears.mpr (by rw [state]; exact ArmKind.noConfusion)
  obtain ⟨f, current⟩ := Option.ne_none_iff_exists'.mp bears
  have mem := (agree.1.holds a).current f current
  have current' : ((r.returnBehind a).arm a).current = some f := by
    rw [Rack.returnBehind_arm, if_pos rfl]
    exact current
  obtain ⟨k, line, -⟩ := Option.map_eq_some_iff.mp ((agree.1.holds a).entries f mem)
  have line' := Rack.returnBehind_line agree mem line
  rw [if_pos current] at line'
  have lines := Rack.endCurrent_line (c := c) current' line' .interrupted (some .restart)
  obtain ⟨queue, rests⟩ := Rack.endCurrent_rests (c := c) agree.returnBehind current' (Rack.returnBehind_alone agree current)
    (final := .interrupted) rfl (some .restart)
  refine ⟨fun e listed l there => ?_, fun n m away => ?_⟩
  · obtain ⟨-, is⟩ := agree.line_at listed there
    have before := Rack.returnBehind_line agree listed there
    by_cases same : f = e
    · subst same
      cases line.symm.trans there
      rw [if_pos current, state] at is
      refine ⟨_, (lines _ _).trans (by rw [if_pos ⟨rfl, rfl⟩, line', Option.map_some]), ⟨fun h => ?_, fun _ => ⟨rfl, rfl, rfl⟩, fun _ h => absurd is h⟩,
        ⟨fun h => ?_, fun _ => ⟨queue, rests⟩, fun h => ?_⟩⟩ <;>
      · rw [is] at h
        cases h
    · have behind : (r.arm a).current ≠ some e := fun h => same (Option.some.inj (current.symm.trans h))
      rw [if_neg behind] at is before
      refine ⟨_, (lines _ _).trans ?_, Line.restarted_queued is, Arm.entryRestarted_queued is (by rw [queue]; exact List.not_mem_nil)⟩
      rw [if_neg (fun h => same ((agree.1.holds a).entry_unique mem listed h.1 h.2)), before]
  · rw [lines, if_neg (away f mem), Rack.returnBehind_away away]

/-- A restart at one arm and the lines that stand there. -/
theorem Rack.restartArm_entries (agree : QueuesAgree r) (empty : r.headersEmpty) (a : ArmId) : EntriesRestarted r (r.restartArm c a) a := by
  have still (rests : (r.arm a).state.kind = .resting) : EntriesRestarted r r a := by
    refine ⟨fun e mem => ?_, fun _ _ _ => rfl⟩
    rw [(agree.2 a).rests rests] at mem
    cases mem
  have closes (kind : (r.arm a).state.kind = .running) : EntriesRestarted r ((r.returnBehind a).enterClosing c a .interrupt) a := by
    obtain ⟨-, -, -, -, queue, orders⟩ := r.interrupt_arm (c := c) empty a
    exact .running agree kind orders queue
  unfold Rack.restartArm
  cases state : (r.arm a).state with
  | outOfService | idle | alarm => exact still (by rw [state]; rfl)
  | ready => exact .ready agree state
  | lowStart | waitGrant | high | lowRun => exact closes (by rw [state]; rfl)
  | closing => exact .running agree (by rw [state]; rfl) rfl (by dsimp only; rw [Rack.modArm_arm, if_pos rfl])
  | suspended => exact .suspended agree state

/-! ### All arms -/

theorem Rack.restartArm_agree (agree : QueuesAgree r) (a : ArmId) : QueuesAgree (r.restartArm c a) := by
  rw [← QueuesAgree.iff] at agree ⊢
  exact (r.restartArm_atoms a).keep (P := Rack.queuesMatch) queuesMatch_atom agree

theorem restartArms_restarted (arms : List ArmId) (once : arms.Nodup) {r : Rack} (empty : r.headersEmpty) :
    (∀ a ∈ arms, (r.arm a).Restarted ((restartArms c arms r).arm a)) ∧ RestartStays r (restartArms c arms r) := by
  induction arms generalizing r with
  | nil => exact ⟨fun a none => absurd none List.not_mem_nil, .refl r⟩
  | cons d rest ih =>
    obtain ⟨fresh, once⟩ := List.nodup_cons.mp once
    obtain ⟨empty', others, -⟩ := Rack.restartArm_empty (c := c) d empty
    obtain ⟨first, stays⟩ := r.restartArm_restarted (c := c) empty d
    obtain ⟨later, stays'⟩ := ih once empty'
    refine ⟨List.forall_mem_cons.mpr ⟨?_, fun a mem => ?_⟩, stays.trans stays'⟩
    · obtain ⟨-, kept, -⟩ := restartArms_empty (c := c) rest empty'
      show (r.arm d).Restarted ((restartArms c rest (r.restartArm c d)).arm d)
      rw [kept d fresh]
      exact first
    · rw [← others a (fun same => fresh (same ▸ mem))]
      exact later a mem

/-- A restart of several arms and the lines that stand there. -/
theorem restartArms_entries (arms : List ArmId) (once : arms.Nodup) {r : Rack} (empty : r.headersEmpty) (agree : QueuesAgree r) :
    (∀ a ∈ arms, ∀ e ∈ (r.arm a).queue, ∀ l, r.line? e.order e.line = some l → ∃ l', (restartArms c arms r).line? e.order e.line = some l' ∧
      l.Restarted l' ∧ ((restartArms c arms r).arm a).EntryRestarted e l) ∧
    ∀ n m, (∀ a ∈ arms, ∀ e ∈ (r.arm a).queue, ¬(e.order = n ∧ e.line = m)) → (restartArms c arms r).line? n m = r.line? n m := by
  induction arms generalizing r with
  | nil => exact ⟨fun a none => absurd none List.not_mem_nil, fun _ _ _ => rfl⟩
  | cons d rest ih =>
    obtain ⟨fresh, once⟩ := List.nodup_cons.mp once
    obtain ⟨empty', others, -⟩ := Rack.restartArm_empty (c := c) d empty
    have queue {a : ArmId} (mem : a ∈ rest) : (r.restartArm c d).arm a = r.arm a := others a (fun same => fresh (same ▸ mem))
    have first := r.restartArm_entries (c := c) agree empty d
    obtain ⟨later, away⟩ := ih once empty' (r.restartArm_agree agree d)
    refine ⟨List.forall_mem_cons.mpr ⟨fun e mem l line => ?_, fun a mem e listed l line => ?_⟩, fun n m none => ?_⟩
    · obtain ⟨l', line', restarted, entry⟩ := first.here e mem l line
      obtain ⟨-, kept, -⟩ := restartArms_empty (c := c) rest empty'
      refine ⟨l', (away _ _ (fun b mem' f listed is => ?_)).trans line', restarted, ?_⟩
      · rw [queue mem'] at listed
        exact fresh (agree.one_arm mem listed is.1.symm is.2.symm ▸ mem')
      · show ((restartArms c rest (r.restartArm c d)).arm d).EntryRestarted e l
        rw [kept d fresh]
        exact entry
    · refine later a mem e (by rw [queue mem]; exact listed) l ((first.away _ _ (fun f there is => ?_)).trans line)
      exact fresh (agree.one_arm there listed is.1 is.2 ▸ mem)
    · rw [List.forall_mem_cons] at none
      refine (away n m (fun a mem e listed => ?_)).trans (first.away n m none.1)
      rw [queue mem] at listed
      exact none.2 a mem e listed

end Sys2Proof.Machine
end

section
/-! PROOF. A rack restart at the bays (R95 to R98), and O52: every arm is acted on first, then every order admitted at a bay is tested. -/

namespace Sys2Proof.Machine

variable {c : Conditions} {r r' : Rack} {a : ArmId} {b : BayId} {x : Admission} {q : Order}

/-! ### The test of one order, and the bays -/

theorem Rack.completeOrder_bays (o : Order) : (r.completeOrder c o).bays = (r.releaseBayOf o).bays := by
  rw [← (Rack.releaseBayOf_congr (s := r.uncommitUnits o) o (Rack.uncommitUnits_bays r o) (Rack.uncommitUnits_permits r o)).1]
  unfold Rack.completeOrder
  dsimp only
  split <;> simp

/-- An ADMITTED order with a PENDING line and no ACTIVE one returns to BOOKED (R98). -/
theorem Rack.testOrder_returns (found : r.order? q.number = some q) (admitted : q.state = .admitted) (pending : ∃ l ∈ q.lines, l.state = .pending)
    (still : ∀ l ∈ q.lines, l.state ≠ .active) : r.testOrder c q.number = r.returnToBooked q := by
  obtain ⟨l, mem, state⟩ := pending
  have notFinal : ¬(q.lines.all (fun l => l.state.isFinal)) = true := fun final => by
    have isFinal := List.all_eq_true.mp final l mem
    rw [state] at isFinal
    cases isFinal
  unfold Rack.testOrder
  rw [found]
  dsimp only
  rw [if_pos (.inr admitted), if_neg notFinal, if_pos]
  exact ⟨admitted, List.any_eq_true.mpr ⟨l, mem, decide_eq_true state⟩, List.all_eq_true.mpr (fun k hk => decide_eq_true (still k hk))⟩

/-- The test of an order with an ACTIVE line changes nothing. -/
theorem Rack.testOrder_active (found : r.order? q.number = some q) (active : ∃ l ∈ q.lines, l.state = .active) : r.testOrder c q.number = r := by
  obtain ⟨l, mem, state⟩ := active
  have notFinal : ¬(q.lines.all (fun l => l.state.isFinal)) = true := fun final => by
    have isFinal := List.all_eq_true.mp final l mem
    rw [state] at isFinal
    cases isFinal
  unfold Rack.testOrder
  rw [found]
  dsimp only
  by_cases stands : q.state = .booked ∨ q.state = .admitted
  · rw [if_pos stands, if_neg notFinal, if_neg]
    rintro ⟨-, -, none⟩
    exact absurd state (of_decide_eq_true (List.all_eq_true.mp none l mem))
  · exact if_neg stands

/-- The test of an order reaches no bay but the one the order is admitted at. -/
theorem Rack.testOrder_bays (found : r.order? q.number = some q) :
    (r.testOrder c q.number).bays = r.bays ∨ (r.testOrder c q.number).bays = (r.releaseBayOf q).bays := by
  unfold Rack.testOrder
  rw [found]
  dsimp only
  split
  · split
    · exact .inr (Rack.completeOrder_bays q)
    · split
      · exact .inr rfl
      · exact .inl rfl
  · exact .inl rfl

theorem Rack.releaseBay_other {d : BayId} (ne : d ≠ b) (p : Nat) : (r.releaseBay d p).bay b = r.bay b := by
  unfold Rack.releaseBay
  rw [Rack.modPermit_bay_of, Rack.callBay_bay_of, Rack.modBay_bay, if_neg ne]

theorem Rack.testOrder_bay_other (found : r.order? q.number = some q) (elsewhere : q.lastBay ≠ some b) :
    (r.testOrder c q.number).bay b = r.bay b := by
  have bay {s : Rack} (bays : s.bays = r.bays) : s.bay b = r.bay b := by unfold Rack.bay; rw [bays]
  rcases Rack.testOrder_bays (c := c) found with same | released
  · exact bay same
  · have reads : (r.testOrder c q.number).bay b = (r.releaseBayOf q).bay b := by unfold Rack.bay; rw [released]
    rw [reads]
    unfold Rack.releaseBayOf
    split
    · split
      · rename_i d last
        exact Rack.releaseBay_other (fun same => elsewhere (last.trans (congrArg some same))) _
      · rfl
    · rfl

/-! ### A bay that waits for its test, and one that is free after it -/

/-- Queues and bays in agreement with the order table. -/
def Rack.inAgreement (r : Rack) : Prop := r.queuesMatch ∧ r.baysMatch

theorem Atom.inAgreement (h : Atom c r r') (agree : r.inAgreement) : r'.inAgreement := by
  obtain ⟨queues, bays⟩ := h.queuesAndBays (bays := True) ⟨agree.1, fun _ => agree.2⟩
  exact ⟨queues, bays trivial⟩

/-- The order at an ADMITTED bay. -/
theorem Rack.inAgreement.order (agree : r.inAgreement) (admitted : (r.bay b).admitted = some x) :
    ∃ q, r.order? x.order = some q ∧ q.state = .admitted ∧ q.lastBay = some b := by
  obtain ⟨found, -⟩ := agree.2.1 b x admitted
  obtain ⟨q, order, is⟩ := Option.map_eq_some_iff.mp found
  exact ⟨q, order, congrArg Prod.fst is, congrArg (fun y => y.2.2) is⟩

/-- The order admitted at a bay has not met its test. -/
structure BayWaits (r : Rack) (b : BayId) (x : Admission) (q : Order) : Prop where
  agree : r.inAgreement
  bay : (r.bay b).admitted = some x
  order : r.order? x.order = some q

/-- The order has left the bay. -/
structure BayEnded (c : Conditions) (r : Rack) (b : BayId) (x : Admission) (q : Order) : Prop where
  agree : r.inAgreement
  bay : (r.bay b).admitted = none
  order : ∃ o, r.order? x.order = some o ∧ o.state ≠ .admitted ∧ (q.allFinal → (o.state = .complete ∨ o.state = .void) ∧ o.day = some c.day) ∧
    ((∃ l ∈ q.lines, l.state = .pending) → o.state = .booked)

/-- The test at an arm of another bay. -/
theorem Rack.testOrderAt_other (agree : r.inAgreement) (ne : bayOf a ≠ b) : (r.testOrderAt c a).bay b = r.bay b ∧
    ∀ n o, r.order? n = some o → o.state ≠ .admitted ∨ o.lastBay = some b → (r.testOrderAt c a).order? n = some o := by
  unfold Rack.testOrderAt
  cases admitted : (r.bay (bayOf a)).admitted with
  | none => exact ⟨rfl, fun n o found _ => found⟩
  | some y =>
    obtain ⟨k, order, state, last⟩ := agree.order admitted
    have number := Rack.order_number order
    have found : r.order? k.number = some k := number.symm ▸ order
    obtain ⟨k', test⟩ := Rack.testOrder_tested (c := c) found
    dsimp only
    rw [← number]
    refine ⟨Rack.testOrder_bay_other found (fun same => ne (Option.some.inj (last.symm.trans same))), fun n o there aside => ?_⟩
    refine (test.others n (fun same => ?_)).trans there
    subst same
    cases found.symm.trans there
    rcases aside with left | here
    · exact left state
    · exact ne (Option.some.inj (last.symm.trans here))

theorem Rack.testOrderAt_agree (agree : r.inAgreement) (a : ArmId) : (r.testOrderAt c a).inAgreement := by
  unfold Rack.testOrderAt
  split
  · exact Atom.inAgreement (.testOrder _ _) agree
  · exact agree

theorem Rack.testOrderAt_here (here : bayOf a = b) (admitted : (r.bay b).admitted = some x) : r.testOrderAt c a = r.testOrder c x.order := by
  subst here
  unfold Rack.testOrderAt
  rw [admitted]

/-- An order with an ACTIVE line keeps its bay. -/
theorem BayWaits.stays (h : BayWaits r b x q) (active : ∃ l ∈ q.lines, l.state = .active) (a : ArmId) :
    BayWaits (r.testOrderAt c a) b x q ∧ (r.testOrderAt c a).bay b = r.bay b := by
  have number := Rack.order_number h.order
  by_cases here : bayOf a = b
  · have same : r.testOrderAt c a = r := by
      rw [Rack.testOrderAt_here here h.bay, ← number]
      exact Rack.testOrder_active (number.symm ▸ h.order) active
    rw [same]
    exact ⟨h, rfl⟩
  · obtain ⟨k, order, -, last⟩ := h.agree.order h.bay
    cases h.order.symm.trans order
    obtain ⟨bay, kept⟩ := Rack.testOrderAt_other (c := c) h.agree here
    exact ⟨⟨Rack.testOrderAt_agree h.agree a, bay ▸ h.bay, kept _ _ order (.inr last)⟩, bay⟩

/-- An order whose lines are all final, or that holds a PENDING line and no ACTIVE one, leaves its bay at the test there (R95, R97, R98). -/
theorem BayWaits.ends (h : BayWaits r b x q) (ready : q.allFinal ∨ (∃ l ∈ q.lines, l.state = .pending) ∧ ∀ l ∈ q.lines, l.state ≠ .active)
    (here : bayOf a = b) : BayEnded c (r.testOrderAt c a) b x q := by
  have agree := Rack.testOrderAt_agree (c := c) h.agree a
  obtain ⟨k, order, state, last⟩ := h.agree.order h.bay
  cases h.order.symm.trans order
  have number := Rack.order_number order
  have found : r.order? q.number = some q := number.symm ▸ order
  rw [Rack.testOrderAt_here here h.bay, ← number] at agree ⊢
  by_cases final : q.allFinal
  · rw [Rack.testOrder_completes found (.inr state) final] at agree ⊢
    obtain ⟨o, done⟩ := Rack.completeOrder_completed (c := c) found
    have ended : o.state = .complete ∨ o.state = .void := by
      by_cases delivered : q.delivered = true
      · exact .inl (done.complete delivered).1
      · exact .inr (done.void (by simpa using delivered)).1
    refine ⟨agree, by rw [done.bay b state last], o, number ▸ done.order, fun is => ?_, fun _ => ⟨ended, done.day⟩, fun ⟨l, mem, pending⟩ => ?_⟩
    · rcases ended with ended | ended <;> rw [is] at ended <;> cases ended
    · have isFinal := final l mem
      rw [pending] at isFinal
      cases isFinal
  · obtain ⟨pending, still⟩ := ready.resolve_left final
    rw [Rack.testOrder_returns found state pending still, Rack.returnToBooked, Rack.releaseBayOf_admitted state last] at agree ⊢
    refine ⟨agree, ?_, { q with state := .booked }, ?_, by simp, fun all => absurd all final, fun _ => rfl⟩
    · have bay : ((r.releaseBay b q.permit).modOrder q.number (fun x => { x with state := .booked })).bay b = (r.releaseBay b q.permit).bay b := rfl
      rw [bay, Rack.releaseBay_bay]
    · rw [← number, Rack.modOrder_order _ q.number q.number (fun x => { x with state := .booked }) (fun _ => rfl), if_pos rfl]
      have before : (r.releaseBay b q.permit).order? q.number = r.order? q.number := Rack.order_eq (by simp [Rack.releaseBay]) _
      rw [before, found, Option.map_some]

/-- No later test reaches an order that has left its bay, nor the free bay. -/
theorem BayEnded.stays (h : BayEnded c r b x q) (a : ArmId) : BayEnded c (r.testOrderAt c a) b x q := by
  by_cases here : bayOf a = b
  · have same : r.testOrderAt c a = r := by
      unfold Rack.testOrderAt
      rw [here, h.bay]
    rw [same]
    exact h
  · obtain ⟨o, found, left, outcome⟩ := h.order
    obtain ⟨bay, kept⟩ := Rack.testOrderAt_other (c := c) h.agree here
    exact ⟨Rack.testOrderAt_agree h.agree a, by rw [bay]; exact h.bay, o, kept _ _ found (.inl left), left, outcome⟩

/-! ### The tests of all arms -/

theorem testOrdersAt_stays (arms : List ArmId) {r : Rack} (h : BayWaits r b x q) (active : ∃ l ∈ q.lines, l.state = .active) :
    (testOrdersAt c arms r).order? x.order = some q ∧ (testOrdersAt c arms r).bay b = r.bay b := by
  induction arms generalizing r with
  | nil => exact ⟨h.order, rfl⟩
  | cons a rest ih =>
    obtain ⟨waits, bay⟩ := h.stays (c := c) active a
    obtain ⟨order, bay'⟩ := ih waits
    exact ⟨order, bay'.trans bay⟩

theorem testOrdersAt_ended (arms : List ArmId) {r : Rack} (h : BayEnded c r b x q) : BayEnded c (testOrdersAt c arms r) b x q := by
  induction arms generalizing r with
  | nil => exact h
  | cons a rest ih => exact ih (h.stays a)

theorem testOrdersAt_ends (arms : List ArmId) {r : Rack} (h : BayWaits r b x q)
    (ready : q.allFinal ∨ (∃ l ∈ q.lines, l.state = .pending) ∧ ∀ l ∈ q.lines, l.state ≠ .active) (reached : ∃ a ∈ arms, bayOf a = b) :
    BayEnded c (testOrdersAt c arms r) b x q := by
  induction arms generalizing r with
  | nil =>
    obtain ⟨a, none, -⟩ := reached
    exact absurd none List.not_mem_nil
  | cons a rest ih =>
    by_cases here : bayOf a = b
    · exact testOrdersAt_ended rest (h.ends ready here)
    · obtain ⟨k, order, -, last⟩ := h.agree.order h.bay
      cases h.order.symm.trans order
      obtain ⟨bay, kept⟩ := Rack.testOrderAt_other (c := c) h.agree here
      refine ih ⟨Rack.testOrderAt_agree h.agree a, bay ▸ h.bay, kept _ _ order (.inr last)⟩ ?_
      obtain ⟨d, mem, is⟩ := reached
      exact ⟨d, (List.mem_cons.mp mem).resolve_left (fun same => here (same ▸ is)), is⟩

theorem Rack.testOrderAt_lines (a : ArmId) (n : Nat) :
    ((r.testOrderAt c a).order? n).map (fun o => o.lines) = (r.order? n).map (fun o => o.lines) := by
  unfold Rack.testOrderAt
  split
  · rename_i y _
    rcases r.testOrder_cases (c := c) y.order with same | ⟨o, f, ended⟩
    · rw [same]
    · rw [ended.order]
      split
      · rw [Option.map_map]
        exact congrArg (fun g => (r.order? n).map g) (funext ended.lines)
      · rfl
  · rfl

theorem testOrdersAt_lines (arms : List ArmId) (r : Rack) (n : Nat) :
    ((testOrdersAt c arms r).order? n).map (fun o => o.lines) = (r.order? n).map (fun o => o.lines) := by
  induction arms generalizing r with
  | nil => rfl
  | cons a rest ih => exact (ih _).trans (r.testOrderAt_lines a n)

theorem testOrdersAt_line (arms : List ArmId) (r : Rack) (n m : Nat) : (testOrdersAt c arms r).line? n m = r.line? n m := by
  have lines := testOrdersAt_lines (c := c) arms r n
  have reads (s : Rack) : s.line? n m = ((s.order? n).map (fun o => o.lines)).bind (fun ls => ls.find? (fun l => decide (l.number = m))) := by
    unfold Rack.line?
    cases s.order? n <;> rfl
  rw [reads, reads, lines]

/-! ### The restart -/

/-- What a restart leaves of a rack before any SHOW is sent. -/
structure RackRestarted (c : Conditions) (r r' : Rack) : Prop where
  flow : ∀ a, (r'.arm a).state.isFlow = false
  arms : ∀ a, (r.arm a).Restarted (r'.arm a)
  headers : ∀ h, r'.header h = { r.header h with held := [], waiting := [] }
  channels : r'.channels = r.channels
  entries : r.queuesMatch → ∀ a, ∀ e ∈ (r.arm a).queue, ∀ l, r.line? e.order e.line = some l →
    ∃ l', r'.line? e.order e.line = some l' ∧ l.Restarted l' ∧ (r'.arm a).EntryRestarted e l
  others : r.queuesMatch → ∀ n m, (∀ a, ∀ e ∈ (r.arm a).queue, ¬(e.order = n ∧ e.line = m)) → r'.line? n m = r.line? n m
  bays : r.queuesMatch → r.baysMatch → ∀ b x o, (r.bay b).admitted = some x → r'.order? x.order = some o →
    (o.allFinal → (o.state = .complete ∨ o.state = .void) ∧ o.day = some c.day ∧ (r'.bay b).admitted = none) ∧
    ((∃ l ∈ o.lines, l.state = .pending) → (∀ l ∈ o.lines, l.state ≠ .active) → o.state = .booked ∧ (r'.bay b).admitted = none) ∧
    ((∃ l ∈ o.lines, l.state = .active) → o.state = .admitted ∧ r'.bay b = r.bay b)

/-- Every bay has an arm. -/
theorem exists_arm_of_bay : ∀ b : BayId, ∃ a ∈ allArms, bayOf a = b := by decide

/-- The orders admitted at the bays after the tests of all arms. -/
theorem testOrdersAt_bays {arms : List ArmId} (all : arms.Perm allArms) (agree : r.inAgreement) {o : Order} (admitted : (r.bay b).admitted = some x)
    (order : (testOrdersAt c arms r).order? x.order = some o) :
    (o.allFinal → (o.state = .complete ∨ o.state = .void) ∧ o.day = some c.day ∧ ((testOrdersAt c arms r).bay b).admitted = none) ∧
    ((∃ l ∈ o.lines, l.state = .pending) → (∀ l ∈ o.lines, l.state ≠ .active) →
      o.state = .booked ∧ ((testOrdersAt c arms r).bay b).admitted = none) ∧
    ((∃ l ∈ o.lines, l.state = .active) → o.state = .admitted ∧ (testOrdersAt c arms r).bay b = r.bay b) := by
  obtain ⟨q, found, state, -⟩ := agree.order admitted
  have waits : BayWaits r b x q := ⟨agree, admitted, found⟩
  have lines : o.lines = q.lines := by
    have same := testOrdersAt_lines (c := c) arms r x.order
    rw [order, found] at same
    exact Option.some.inj same
  have reached : ∃ a ∈ arms, bayOf a = b := by
    obtain ⟨a, mem, is⟩ := exists_arm_of_bay b
    exact ⟨a, all.mem_iff.mpr mem, is⟩
  have ends (ready : q.allFinal ∨ (∃ l ∈ q.lines, l.state = .pending) ∧ ∀ l ∈ q.lines, l.state ≠ .active) :
      ((testOrdersAt c arms r).bay b).admitted = none ∧ (q.allFinal → (o.state = .complete ∨ o.state = .void) ∧ o.day = some c.day) ∧
        ((∃ l ∈ q.lines, l.state = .pending) → o.state = .booked) := by
    obtain ⟨-, bay, k, order', -, outcome⟩ := testOrdersAt_ends (c := c) arms waits ready reached
    cases order.symm.trans order'
    exact ⟨bay, outcome⟩
  unfold Order.allFinal at ends ⊢
  rw [lines]
  refine ⟨fun final => ?_, fun pending still => ?_, fun active => ?_⟩
  · obtain ⟨bay, completes, -⟩ := ends (.inl final)
    exact ⟨(completes final).1, (completes final).2, bay⟩
  · obtain ⟨bay, -, returns⟩ := ends (.inr ⟨pending, still⟩)
    exact ⟨returns pending, bay⟩
  · obtain ⟨order', bay⟩ := testOrdersAt_stays (c := c) arms waits active
    cases order.symm.trans order'
    exact ⟨state, bay⟩

theorem Rack.emptyHeaders_header (h : HeaderId) : r.emptyHeaders.header h = { r.header h with held := [], waiting := [] } := by
  simp [Rack.emptyHeaders, Rack.header]

/-- A restart whose arms are taken in any order. -/
theorem Rack.restart_restarted (arms : List ArmId) (all : arms.Perm allArms) : RackRestarted c r (r.restart c arms) := by
  have once : arms.Nodup := all.nodup_iff.mpr (by decide)
  have every (a : ArmId) : a ∈ arms := all.mem_iff.mpr (mem_allArms a)
  obtain ⟨restarted, stays⟩ := restartArms_restarted (c := c) arms once r.emptyHeaders_empty
  obtain ⟨arms', headers', -, channels'⟩ := testOrdersAt_arms (c := c) arms (restartArms c arms r.emptyHeaders)
  have arm (a : ArmId) : (r.restart c arms).arm a = (restartArms c arms r.emptyHeaders).arm a := Rack.arm_eq arms' a
  have line (n m : Nat) : (r.restart c arms).line? n m = (restartArms c arms r.emptyHeaders).line? n m := testOrdersAt_line arms _ n m
  have entries (queues : r.queuesMatch) := restartArms_entries (c := c) arms once r.emptyHeaders_empty (QueuesAgree.iff.mp (show r.emptyHeaders.queuesMatch from queues))
  refine ⟨(r.restart_empty arms all).2, fun a => ?_, fun h => ?_, channels'.trans stays.channels, fun queues a e mem l there => ?_,
    fun queues n m away => ?_, fun queues bays b x o admitted order => ?_⟩
  · rw [arm]
    exact restarted a (every a)
  · exact (Rack.header_eq (headers'.trans stays.headers) h).trans (Rack.emptyHeaders_header h)
  · rw [line, arm]
    exact (entries queues).1 a (every a) e mem l there
  · rw [line]
    exact (entries queues).2 n m (fun a _ => away a)
  · have before : r.emptyHeaders.inAgreement := ⟨queues, bays⟩
    have agree : (restartArms c arms r.emptyHeaders).inAgreement := (restartArms_atoms arms _).keep Atom.inAgreement before
    have bay : (restartArms c arms r.emptyHeaders).bay b = r.bay b := by
      unfold Rack.bay
      rw [stays.bays]
      rfl
    rw [← bay] at admitted ⊢
    exact testOrdersAt_bays all agree admitted order

theorem RackRestarted.pump (h : RackRestarted c r r') : RackRestarted c r r'.pump := by
  have arm (a : ArmId) : r'.pump.arm a = r'.arm a := Rack.pump_arm r' a
  have line (n m : Nat) : r'.pump.line? n m = r'.line? n m := Rack.pump_line r' n m
  refine ⟨fun a => ?_, fun a => ?_, fun g => ?_, (Rack.pump_channels r').trans h.channels, fun queues a e mem l there => ?_,
    fun queues n m away => ?_, fun queues bays b x o admitted order => ?_⟩
  · rw [arm]
    exact h.flow a
  · rw [arm]
    exact h.arms a
  · exact (Rack.header_eq (Rack.pump_headers r') g).trans (h.headers g)
  · rw [line, arm]
    exact h.entries queues a e mem l there
  · rw [line]
    exact h.others queues n m away
  · have bay : r'.pump.bay b = r'.bay b := by
      unfold Rack.bay
      rw [Rack.pump_bays]
    rw [bay]
    rw [Rack.pump_order] at order
    exact h.bays queues bays b x o admitted order

/-- A line that is neither QUEUED nor SUSPENDED is as it was, wherever it stands. -/
theorem RackRestarted.line_same (h : RackRestarted c r r') (queues : r.queuesMatch) {n m : Nat} {l : Line} (line : r.line? n m = some l)
    (notQueued : l.state ≠ .queued) (notSuspended : l.state ≠ .suspended) : r'.line? n m = some l := by
  by_cases stands : ∃ a, ∃ e ∈ (r.arm a).queue, e.order = n ∧ e.line = m
  · obtain ⟨a, e, mem, rfl, rfl⟩ := stands
    obtain ⟨l', line', restarted, -⟩ := h.entries queues a e mem l line
    rw [line', restarted.other notQueued notSuspended]
  · exact (h.others queues n m (fun a e mem is => stands ⟨a, e, mem, is⟩)).trans line

theorem restartedRack_link (s : State) (link : Link) : restartedRack { s with link := link } = restartedRack s := rfl

/-- RACK.RESTART accepted. -/
theorem exec_rackRestart (s : State) (taken : s.takes "RACK.RESTART" []) : exec (.rackRestart []) s = .next
    (State.answers { s with choice := s.choice + 1, rack := (restartedRack s).pump } "RACK.RESTART"
      (.ok (.restarted (s.rack.countArms .suspended) s.rack.queuedLines ((restartedRack s).pump.countArms .closing)))) := by
  have count : (restartedRack s).pump.countArms .closing = (restartedRack s).countArms .closing := by
    unfold Rack.countArms
    simp only [Rack.pump_arm]
  have answer : answerRackRestart [] { s with link := s.link.toHunt } =
      ({ s with choice := s.choice + 1, rack := (restartedRack s).pump, link := s.link.toHunt },
        .ok (.restarted (s.rack.countArms .suspended) s.rack.queuedLines ((restartedRack s).countArms .closing))) := by
    unfold answerRackRestart
    rw [noFields_nil]
    unfold rackRestart
    rw [restartedRack_link]
  rw [count]
  generalize (restartedRack s).pump = r', (restartedRack s).countArms .closing = n at answer ⊢
  exact takeRequest_taken (t := { s with choice := s.choice + 1, rack := r' }) taken answer rfl

/-- Settles O52: the arms one after the other, then the orders at their bays; each line stands in one queue, each order at one bay. -/
theorem restartEndsLoading : Obligations.RestartEndsLoading := by
  intro s taken
  have done := exec_rackRestart s taken
  have restarted : RackRestarted s.cond s.rack (restartedRack s).pump := (Rack.restart_restarted _ (inFreeOrder_perm s.choice allArms)).pump
  generalize (restartedRack s).pump = r' at done restarted
  refine ⟨_, r'.countArms .closing, done, rfl, rfl, rfl, fun a => ?_, restarted.headers, restarted.channels,
    fun queues => ⟨fun a e l mem there => ?_, fun n m l there => restarted.line_same queues there⟩, restarted.bays⟩
  · obtain ⟨config, flow, closing, ready, rests⟩ := restarted.arms a
    exact ⟨restarted.flow a, config, flow, closing, ready, rests⟩
  · obtain ⟨l', line, ⟨queued, suspended, -⟩, entry⟩ := restarted.entries queues a e mem l there
    refine ⟨fun is => ⟨entry.queued is, ?_⟩, fun is => ⟨(entry.suspended is).1, (entry.suspended is).2, l', line, suspended is⟩, entry.active⟩
    rw [queued is] at line
    exact line

end Sys2Proof.Machine
end
